-- ==== Sys2Proof/Word.lean ====
section
/-! DEFINITION. The word types of the module (R6, R9): bytes, 32-bit registers and 64-bit values. -/

namespace Sys2Proof

/-- One byte of a store or of the wire. -/
abbrev Byte := BitVec 8

/-- One 32-bit control-space register (R9). -/
abbrev Word := BitVec 32

/-- One 64-bit value. -/
abbrev DWord := BitVec 64

end Sys2Proof
end

