-- ==== Sys2Proof/Syntax.lean ====
section
/-! DEFINITION. The commands of the block: one constructor of `Instr` for each row of spec/opcode_table.json,
in the table's order, with the operands the spec's rules give it, and the types of those operands. -/

namespace Sys2Proof

/-- The agents of R370: 1 WA, 2 WB, 3 MGMT, 4 DBG. Firmware's accesses are those of MGMT (R388). -/
inductive Agent where
  | wa | wb | mgmt | dbg
  deriving DecidableEq, Repr

/-- The engines of a sheet, in the order of the register index e: 0 MX, 1 VX, 2 MV, 3 ST (R131, R166). -/
inductive Engine where
  | mx | vx | mv | st
  deriving DecidableEq, Repr

/-- A sheet's device-wide index, die x 160 + row x 16 + column (00_scope, Replicated blocks). -/
abbrev Sheet := Fin 320

/-- A fabric port P00 to P30 (R229). -/
abbrev Port := Fin 31

/-- A Wiora port: 0 WA, 1 WB (R344). -/
abbrev WPort := Fin 2

/-- The halves of TIME_COUNT an access reads (R169). -/
inductive TimePart where
  | low | high | both
  deriving DecidableEq, Repr

/-- How many ticks a sheet's copy of the time counter lags behind it: 3 to 5 (R173). -/
inductive Lag where
  | three | four | five
  deriving DecidableEq, Repr

/-- The error-correction outcome of the reads of one command: a physical fact, so an operand. `unit` is the index
of the protected unit of the access that the error lies in, counted from 0 at its first unit (R128, R313, R314). -/
inductive Ecc where
  | clean
  | corrected (unit : Nat)
  | uncorrectable (unit : Nat)
  deriving DecidableEq, Repr

/-- The flag, counter and comparator registers of a sheet (R166). -/
inductive SyncReg where
  | flags
  | ct (n : Fin 16)
  | cmpCtl (m : Fin 8)
  | cmpVal (m : Fin 8)
  deriving DecidableEq, Repr

/-- An access to device memory or to a sheet window: a read of `len` bytes, or a write of bytes (R305). -/
inductive MemOp where
  | read (len : Nat)
  | write (bytes : List Byte)
  deriving DecidableEq, Repr

/-- What the sensors give a governor period: the replica steps completed by the four slack chains of each of the 320
sheets, in sheet order, four a sheet (R175); the temperatures of sensors 0 to 21 and 30 to 32, signed, in degrees
(R445); and the means over the last 1 ms of the input's power in mW, its voltage in 10 mV and its current in 10 mA
(R446, R455). -/
structure PeriodSample where
  chains : Vector (BitVec 15) 1280
  temps : Vector (BitVec 8) 22
  inlet : BitVec 8
  outlet : BitVec 8
  board : BitVec 8
  power : BitVec 32
  volts : BitVec 16
  amps : BitVec 16
  deriving DecidableEq, Repr

/-- The two governor registers an agent writes (R193). -/
inductive GovReg where
  | ctl | tgt
  deriving DecidableEq, Repr

/-- The registers that place the token queue (R221, R228). -/
inductive BundleReg where
  | ctl | area | aux
  deriving DecidableEq, Repr

/-- The slice registers of R285 that R274 guards. -/
inductive SliceReg where
  | slice | origin | tree | child
  deriving DecidableEq, Repr

/-- The reference domains A and B (R287). -/
inductive Dom where
  | a | b
  deriving DecidableEq, Repr

/-- A flit on the wire: the 32-byte header and the 256-byte payload (R233). -/
structure RawFlit where
  hdr : BitVec 256
  payload : List Byte
  deriving DecidableEq, Repr

/-- The decoder's outcome for the codewords that carry a flit (R231). -/
inductive Fec where
  | clean
  | corrected (symbols : Nat)
  | uncorrectable
  deriving DecidableEq, Repr

/-- A Wiora flit: the 6-byte link header and the 236-byte payload region (R346). -/
structure WFlit where
  hdr : BitVec 48
  payload : List Byte
  deriving DecidableEq, Repr

/-- Whether a Wiora flit passes its FEC and its CRC, both of PCI Express 6.0 (R344, R351). -/
inductive WFec where
  | ok | bad
  deriving DecidableEq, Repr

/-- The outcome of a training state of a Wiora port (R352). -/
inductive WTrain where
  /-- DETECT found a receiver -/
  | detected
  /-- EQUALIZE ended with lanes 0-7 and lanes 8-15 good or not -/
  | equalized (low high : Bool)
  /-- ALIGN: 64 consecutive flits passed -/
  | locked
  /-- INIT: four INIT flits each way; the peer's identity, width, rate, fresh bit, freed counts (of the headers of each
  class, and of data slots) and expected seq. R352 gives the identity no width: 32 bits are the model's choice. -/
  | initialised (identity : Word) (width : BitVec 2) (half fresh : Bool) (freed : Vector (BitVec 12) 4)
      (freedSlots : BitVec 12) (expect : BitVec 10)
  deriving DecidableEq, Repr

/-- The open eye of a crossing (R171): its first open tap, the number of open taps, and the margin measured. -/
structure Eye where
  first : Fin 8
  taps : Fin 9
  margin : BitVec 3
  deriving DecidableEq, Repr

/-- An MRDIMM as its SPD describes it (R309): capacity in GiB, and rated speed: 0 8,800, 1 8,000, 2 6,400 MT/s, 3 a
DIMM that is not supported. -/
structure Spd where
  cap : BitVec 9
  rate : Fin 4
  deriving DecidableEq, Repr

/-- What the step of the boot sequence in progress finds (R171, R310, R381). -/
inductive BootResult where
  | done
  /-- ALIGN: the eye of each crossing XC0 to XC14 -/
  | eyes (eye : Vector Eye 15)
  /-- MEMORY, step 1 of R310: for each stack the fastest rate it trains at, coded as MEM_CFG.hbm_rate, 3 for none -/
  | hbm (best : Vector (Fin 4) 8)
  /-- step 2: the MRDIMM found on each channel -/
  | spd (found : Vector (Option Spd) 8)
  /-- step 3: whether the MRDIMM on each channel trains -/
  | ddr (trained : Vector Bool 8)
  deriving DecidableEq, Repr

/-- One sample of the cartouche's meter (R421): the input in mV and mA, and the sensor's temperature. -/
structure CartSample where
  mv : BitVec 32
  ma : BitVec 32
  temp : BitVec 8
  deriving DecidableEq, Repr

/-- The last field of a management command, with the PEC byte that ends the command (R368). Without PEC the byte is not
looked at. -/
structure Coded (α : Type) where
  val : α
  pec : Byte
  deriving DecidableEq, Repr

/-- The command byte and the offset of an image write (R369, R385): 0x10, and every byte that no rule names. -/
structure ImageAt where
  command : Byte
  offset : BitVec 32
  deriving DecidableEq, Repr

/-- The commands of the block. -/
inductive Instr where
  | registerWrite (agent : Agent) (addr : BitVec 26) (size : Nat) (value : DWord)
  | registerReadClear (agent : Agent) (addr : BitVec 26) (size : Nat)
  | timeCountRead (agent : Agent) (part : TimePart)
  | legendWindowWrite (agent : Agent) (sheet : Sheet) (k : Fin 512) (value : Word)
  | legendRestore (agent : Agent) (sheet : Sheet) (clearBad : Bool)
  | stepBoundary (sheet : Sheet) (lag : Lag)
  | wordFetch (sheet : Sheet) (engine : Engine) (ecc : Ecc)
  | qTailWrite (agent : Agent) (sheet : Sheet) (engine : Engine) (value : Word)
  | qRingWrite (agent : Agent) (sheet : Sheet) (engine : Engine) (value : Word)
  | sheetSyncWrite (agent : Agent) (sheet : Sheet) (reg : SyncReg) (value : DWord)
  | sheetRun (agent : Agent) (sheet : Sheet) (run : Bool)
  | mxMatrix (sheet : Sheet) (ecc : Ecc)
  | tileLoad (sheet : Sheet) (ecc : Ecc)
  | vxConvert (sheet : Sheet) (ecc : Ecc)
  | contourCfgWrite (agent : Agent) (sheet : Sheet) (bank : Fin 4) (value : Word)
  | contourClear (agent : Agent) (sheet : Sheet) (banks : BitVec 4)
  | satClear (agent : Agent) (sheet : Sheet) (counters : BitVec 4)
  | vxOutlierAdd (sheet : Sheet) (ecc : Ecc)
  | vxGuardReport (sheet : Sheet)
  | vxGuardDecide (sheet : Sheet) (ecc : Ecc)
  | vxContourDrain (sheet : Sheet) (ecc : Ecc)
  | vxMarkRead (sheet : Sheet) (ecc : Ecc)
  | vxLoad (sheet : Sheet) (ecc : Ecc)
  | vxStore (sheet : Sheet) (ecc : Ecc)
  | vxFma (sheet : Sheet) (ecc : Ecc)
  | vxAdd (sheet : Sheet) (ecc : Ecc)
  | vxMul (sheet : Sheet) (ecc : Ecc)
  | vxMin (sheet : Sheet) (ecc : Ecc)
  | vxMax (sheet : Sheet) (ecc : Ecc)
  | vxCmpLt (sheet : Sheet) (ecc : Ecc)
  | vxCmpLe (sheet : Sheet) (ecc : Ecc)
  | vxCmpEq (sheet : Sheet) (ecc : Ecc)
  | vxNarrowBf16 (sheet : Sheet) (ecc : Ecc)
  | vxWidenBf16 (sheet : Sheet) (ecc : Ecc)
  | vxExp2 (sheet : Sheet) (ecc : Ecc)
  | vxLog2 (sheet : Sheet) (ecc : Ecc)
  | vxRcp (sheet : Sheet) (ecc : Ecc)
  | vxRsqrt (sheet : Sheet) (ecc : Ecc)
  | vxTanh (sheet : Sheet) (ecc : Ecc)
  | vxErf (sheet : Sheet) (ecc : Ecc)
  | mvCopy (sheet : Sheet) (ecc : Ecc)
  | mvReduce (sheet : Sheet) (ecc : Ecc)
  | mvLegendLoad (sheet : Sheet) (ecc : Ecc)
  | stLoad (sheet : Sheet) (ecc : Ecc)
  | stStore (sheet : Sheet) (ecc : Ecc)
  | stControlLoad (sheet : Sheet) (ecc : Ecc)
  | stOverlayLoad (sheet : Sheet) (ecc : Ecc)
  | ovlSelect (agent : Agent) (value : Word)
  | ovlCommit (agent : Agent)
  | sheetWindowAccess (who : Option Agent) (sheet : Sheet) (off : BitVec 22) (req : MemOp) (ecc : Ecc)
  | sheetScrubRead (sheet : Sheet) (ecc : Ecc)
  | sheetClearDone (sheet : Sheet)
  | frameBoundary (temps : Vector (BitVec 8) 16)
  | crossingLowMargin (crossing : Fin 15) (margin : BitVec 3)
  | planWrite (agent : Agent) (value : Word)
  | governorPeriod (sample : PeriodSample)
  | govCfgWrite (agent : Agent) (bank : Fin 16) (reg : GovReg) (value : Word)
  | holdSymbol (port : Port)
  | slipDecision
  | slipSymbol (port : Port)
  | dxEntryRead (engine : Fin 16) (ecc : Ecc)
  | dispatchEnable (agent : Agent) (value : Word)
  | markFrame (engine : Fin 16)
  | markJump (engine : Fin 16)
  | markEnd (engine : Fin 16)
  | entryArm (engine : Fin 16)
  | departureDue (engine : Fin 16) (tag : BitVec 24) (ecc : Ecc)
  | overflowSend (tag : BitVec 24)
  | lateDeparture (port : Fin 32)
  | sFlitReceive (port : Port)
  | doneSymbol (port : Port)
  | pathSelect (agent : Agent) (value : Word)
  | pathCommit (agent : Agent)
  | pathBulkLoad (agent : Agent)
  | pathLoadDone (fail : Option (BitVec 16)) (companion : List Byte)
  | bundleAreaWrite (agent : Agent) (reg : BundleReg) (value : Word)
  | bundleQueueClose
  | xPacketReceive (port : Port) (ecc : Ecc)
  | xRequestTimeout (xseq : BitVec 16)
  | tokenExpire (source : BitVec 17) (token : BitVec 15)
  | flitTransmit (port : Port)
  | linkFlitReceive (port : Port) (flit : RawFlit) (fec : Fec)
  | nakRepeat (port : Port)
  | replayTimeout (port : Port)
  | linkDetectTimeout (port : Port)
  | linkSignalDetected (port : Port) (lanes : BitVec 8)
  | linkEqualizeDone (port : Port) (good : BitVec 8)
  | linkEqualizeTimeout (port : Port)
  | linkAlignDone (port : Port)
  | linkAlignTimeout (port : Port)
  | initRecordReceive (port : Port) (flit : RawFlit)
  | linkInitTimeout (port : Port)
  | laneLoss (port : Port) (lane : Fin 8)
  | serLimitExceeded (port : Port) (lane : Fin 8) (count : BitVec 32)
  | graceExpire (port : Port)
  | linkEnable (agent : Agent) (port : Port) (on : Bool)
  | linkRetrainCmd (agent : Agent) (port : Port)
  | linkWidthMax (agent : Agent) (port : Port) (on : Bool)
  | linkHalfRate (agent : Agent) (port : Port) (on : Bool)
  | linkCfgWrite (agent : Agent) (port : Port) (value : Word)
  | surveyStart (agent : Agent)
  | surveySend
  | surveySymbol (port : Port)
  | surveyTimeout
  | circuitMeasure (agent : Agent)
  | measureTimeout (port : Port)
  | sliceRegWrite (agent : Agent) (reg : SliceReg) (value : Word)
  | permitCommit (agent : Agent) (port : Port) (k : Fin 1024) (value : Word)
  | fenceRequest (agent : Agent) (on : Bool)
  | fenceSymbol (port : Port)
  | lcoordWrite (agent : Agent) (value : Word)
  | refclkEdge (dom : Dom)
  | refclkLoss (dom : Dom)
  | domainAcqDone (dom : Dom)
  | ppsEdge (dom : Dom) (frac : BitVec 8)
  | ppsTimeout (dom : Dom)
  | todMessage (dom : Dom) (bytes : List Byte)
  | domainSwitchRequest (agent : Agent)
  | domainRevert
  | holdoverLimit
  | servoStep
  | slewNow (agent : Agent)
  | beaconSend (port : Port)
  | beaconSymbol (port : Port)
  | tsClear (agent : Agent) (port : Port)
  | agentMemoryAccess (who : Option Agent) (addr : BitVec 48) (req : MemOp) (ecc : Ecc)
  | refreshWindow (dev : Fin 16)
  | memoryScrubRead (dev : Fin 17) (ecc : Ecc)
  | depotPartWrite (agent : Agent) (value : Word)
  | stageTailWrite (agent : Agent) (value : Word)
  | stageCopyStart (ecc : Ecc)
  | stageCopyDone (ecc : Ecc)
  | loadTailWrite (agent : Agent) (value : Word)
  | loadRingWrite (agent : Agent) (value : DWord)
  | loadDescriptorBegin (ecc : Ecc)
  | loadResponse (slot : Fin 64) (offset : BitVec 32) (ecc : Ecc)
  | loadAttemptTimeout (slot : Fin 64)
  | wioraFlitReceive (wport : WPort) (flit : WFlit) (fec : WFec)
  | wioraReplayTimeout (wport : WPort)
  | wioraStateTimeout (wport : WPort)
  | wioraTrainDone (wport : WPort) (result : WTrain)
  | wioraGraceExpire (wport : WPort)
  | wioraEnable (agent : Agent) (wport : WPort) (on : Bool)
  | wioraRetrainCmd (agent : Agent) (wport : WPort)
  | wioraWidthMax (agent : Agent) (wport : WPort) (on : Bool)
  | wioraHalfRate (agent : Agent) (wport : WPort) (on : Bool)
  | wioraCfgWrite (agent : Agent) (wport : WPort) (value : Word)
  | dwinWrite (agent : Agent) (wport : WPort) (k : Fin 8) (value : Word)
  | evrWrite (agent : Agent) (wport : WPort) (value : DWord)
  | rdncReceive (wport : WPort) (ecc : Ecc)
  | rdpReceive (wport : WPort) (ecc : Ecc)
  | wrncReceive (wport : WPort)
  | wrpReceive (wport : WPort)
  | rdsRdeFromCompanion (wport : WPort)
  | snpinvReceive (wport : WPort)
  | snpdataReceive (wport : WPort)
  | rddataReceive (wport : WPort)
  | cmpReceive (wport : WPort)
  | batchOpen (ecc : Ecc)
  | intGapExpire (wport : WPort)
  | bqCfgWrite (agent : Agent) (value : Word)
  | entdaa (addr : BitVec 7)
  | setdasa (addr : BitVec 7)
  | rstdaa
  | getpid
  | getbcr
  | getdcr
  | getstatus
  | enec
  | disec
  | rstact (definingByte : BitVec 8)
  | mgmtCtrlRead32 (addr : Coded (BitVec 32))
  | mgmtCtrlWrite32 (addr : BitVec 32) (data : Coded Word)
  | mgmtCtrlRead64 (addr : Coded (BitVec 32))
  | mgmtCtrlWrite64 (addr : BitVec 32) (data : Coded DWord)
  | mgmtMemRead (addr : Coded (BitVec 48)) (ecc : Ecc)
  | mgmtMemWrite (addr : BitVec 48) (data : Coded DWord)
  | mgmtImageWrite (offset : ImageAt) (data : Coded (List Byte))
  | ownClaim (agent : Agent)
  | ownRenew (agent : Agent)
  | ownRelease (agent : Agent)
  | ownOffer (agent : Agent) (target : BitVec 3)
  | ownAccept (agent : Agent)
  | ownWithdraw (agent : Agent)
  | leaseExpire
  | ownCfgWrite (agent : Agent) (value : Word)
  | powerUp
  | moduleReset (agent : Agent)
  | warmReset (agent : Agent)
  | computeReset (agent : Agent)
  | resetPin
  | bootGo (agent : Agent) (src : BitVec 2)
  | bootStepAdvance (result : BootResult)
  | bootStepTimeout
  | bootResume (agent : Agent)
  | domainPgTimeout
  | domOffWrite (agent : Agent) (value : Word)
  | rollbackCommit (agent : Agent) (value : BitVec 7)
  | fuseBlowDone (blown : Bool)
  | dbgLockBlow (agent : Agent) (confirm : BitVec 8)
  | attestStart (agent : Agent) (badA : Bool) (badB : Bool)
  | attestDone
  | extest
  | samplePreload
  | idcode
  | clamp
  | highz
  | ijtag
  | bypass
  | faultPacketReceive (port : Port)
  | mergeWindowExpire (entry : Fin 64)
  | twinEnable (agent : Agent) (on : Bool)
  | traceRingWrite (agent : Agent) (value : DWord)
  | cartOpen (agent : Agent) (slice : BitVec 16)
  | cartClose (agent : Agent)
  | cartCollect (agent : Agent) (n : BitVec 8)
  | cartSample (sample : CartSample)
  | cartSignDone
  | cartSupplyLoss
  | cartSupplyReturn (bad : Bool)
  | tamperSwitch
  | cartReverify
  | cartReadTimeout (agent : Agent) (wide : Bool)
  | inputUndervoltage
  | inputOvervoltage
  | inputRecover
  | overcurrentTrip
  | mateOpen
  | mateClose
  | powerCapWrite (agent : Agent) (value : Word)
  | syncCtlWrite (agent : Agent) (value : Word)
  | wioraLaneLoss (wport : WPort) (lane : Fin 16)
  | domainPowerGood
  | testLogicReset
  | resetNRelease
  deriving DecidableEq, Repr

end Sys2Proof
end

