-- ==== Sys2Proof/Machine/Bits.lean ====
section
/-! DEFINITION. Bit fields, byte order (R6) and saturation (R262) over natural numbers. -/

namespace Sys2Proof.Machine

/-- Bits [lo + w - 1 : lo] of `n` (00_scope, Bits and bytes). -/
def bits (n lo w : Nat) : Nat := (n >>> lo) % 2 ^ w

/-- Bit `i` of `n`. -/
def bit (n i : Nat) : Bool := n.testBit i

/-- `n` with bits [lo + w - 1 : lo] replaced by the low `w` bits of `v`. -/
def putBits (n lo w v : Nat) : Nat :=
  n % 2 ^ lo + (v % 2 ^ w) * 2 ^ lo + (n >>> (lo + w)) * 2 ^ (lo + w)

/-- The low `w` bits of `v`, placed at bit `lo`. -/
def atBit (v w lo : Nat) : Nat := (v % 2 ^ w) <<< lo

/-- One bit as a number. -/
def b2n (b : Bool) : Nat := if b then 1 else 0

/-- A count of width `w` that stays at its all-ones value (R262). -/
def satAdd (w n k : Nat) : Nat := min (n + k) (2 ^ w - 1)

/-- The little-endian value of a byte list: byte 0 holds bits [7:0] (R6). -/
def leNat : List Byte → Nat
  | [] => 0
  | b :: bs => b.toNat + 256 * leNat bs

/-- The `k` bytes of `n`, byte 0 first (R6). -/
def leBytes : Nat → Nat → List Byte
  | 0, _ => []
  | k + 1, n => BitVec.ofNat 8 n :: leBytes k (n / 256)

/-- Bytes `[o, o + k)` of a byte list, as a little-endian number. -/
def leField (bs : List Byte) (o k : Nat) : Nat := leNat ((bs.drop o).take k)

/-- A byte list cut or filled with zero bytes to length `k`. -/
def padTo (k : Nat) (bs : List Byte) : List Byte :=
  (bs ++ List.replicate (k - bs.length) 0).take k

/-- The signed value of the low `w` bits of `n`, two's complement. -/
def sInt (w n : Nat) : Int :=
  let m := n % 2 ^ w
  if m < 2 ^ (w - 1) then (m : Int) else (m : Int) - (2 ^ w : Nat)

/-- The low `w` bits of a signed value, as an unsigned number. -/
def uNat (w : Nat) (i : Int) : Nat := (i % ((2 ^ w : Nat) : Int)).toNat

/-- Unsigned difference modulo `2 ^ w`. -/
def subMod (w a b : Nat) : Nat := (a + (2 ^ w - b % 2 ^ w)) % 2 ^ w

/-- Division rounded up. -/
def ceilDiv (a b : Nat) : Nat := (a + b - 1) / b

/-- `n mod size` where a size of 0 stands for `full` (ring sizes of the spec). -/
def ringSize (size full : Nat) : Nat := if size = 0 then full else size

/-- The chunks of length `k` of a list, `n` of them, in order. -/
def chunks {α : Type} (k : Nat) : Nat → List α → List (List α)
  | 0, _ => []
  | n + 1, l => l.take k :: chunks k n (l.drop k)

/-- `f` applied in order to 0, 1, .., n - 1. -/
def iter {σ : Type} (n : Nat) (f : Nat → σ → σ) (s : σ) : σ :=
  (List.range n).foldl (fun t i => f i t) s

/-- A list with element `i` replaced, the same list when it has no such element. -/
def putAt {α : Type} (l : List α) (i : Nat) (a : α) : List α := l.set i a

end Sys2Proof.Machine
end

