-- ==== Sys2Proof/Machine/RegMap.lean ====
section
/-! DEFINITION. The control space map (chapter 19 of spec/ and the register tables of chapters 02 to 18):
the byte address of every register, every field of it, its access types (R7) and its value at reset. -/

namespace Sys2Proof.Machine

/-- A register field: the byte address of the 32-bit register that holds its lowest bit, the bit and the width. -/
structure Fld where
  addr : Nat
  lo : Nat
  width : Nat
  deriving DecidableEq, Repr

/-- The base of the registers of the sheet with device-wide index `s` (00_scope, Replicated blocks; R457). -/
def sheetBase (s : Nat) : Nat :=
  if s < 160 then 0x1000000 + 0x10000 * s else 0x2000000 + 0x10000 * (s - 160)

/-- `SHEET_LEGEND_k`, chapter 02. -/
def SHEET_LEGEND (s k : Nat) : Nat := sheetBase s + 0x8000 + 4 * k
def SHEET_LEGEND_entry_even (s k : Nat) : Fld := ⟨SHEET_LEGEND s k, 0, 16⟩
def SHEET_LEGEND_entry_odd (s k : Nat) : Fld := ⟨SHEET_LEGEND s k, 16, 16⟩
/-- `SHEET_LEGEND_CTL`, chapter 02. -/
def SHEET_LEGEND_CTL (s : Nat) : Nat := sheetBase s + 0x8800
def SHEET_LEGEND_CTL_restore (s : Nat) : Fld := ⟨SHEET_LEGEND_CTL s, 0, 1⟩
def SHEET_LEGEND_CTL_bad_slot (s : Nat) : Fld := ⟨SHEET_LEGEND_CTL s, 8, 6⟩
def SHEET_LEGEND_CTL_bad_entry (s : Nat) : Fld := ⟨SHEET_LEGEND_CTL s, 16, 4⟩
def SHEET_LEGEND_CTL_bad (s : Nat) : Fld := ⟨SHEET_LEGEND_CTL s, 31, 1⟩
/-- `SHEET_INVALID_CNT`, chapter 02. -/
def SHEET_INVALID_CNT (s : Nat) : Nat := sheetBase s + 0x8804
def SHEET_INVALID_CNT_count (s : Nat) : Fld := ⟨SHEET_INVALID_CNT s, 0, 32⟩
/-- `SHEET_ACC_FLAGS`, chapter 03. -/
def SHEET_ACC_FLAGS (s : Nat) : Nat := sheetBase s + 0x8810
def SHEET_ACC_FLAGS_over (s : Nat) : Fld := ⟨SHEET_ACC_FLAGS s, 0, 1⟩
def SHEET_ACC_FLAGS_under (s : Nat) : Fld := ⟨SHEET_ACC_FLAGS s, 1, 1⟩
def SHEET_ACC_FLAGS_invalid (s : Nat) : Fld := ⟨SHEET_ACC_FLAGS s, 2, 1⟩
def SHEET_ACC_FLAGS_datum_err (s : Nat) : Fld := ⟨SHEET_ACC_FLAGS s, 3, 1⟩
/-- `SHEET_UNDER_CNT`, chapter 03. -/
def SHEET_UNDER_CNT (s : Nat) : Nat := sheetBase s + 0x8814
def SHEET_UNDER_CNT_count (s : Nat) : Fld := ⟨SHEET_UNDER_CNT s, 0, 32⟩
/-- `SHEET_CONV_STAT`, chapter 03. -/
def SHEET_CONV_STAT (s : Nat) : Nat := sheetBase s + 0x8818
def SHEET_CONV_STAT_clamp (s : Nat) : Fld := ⟨SHEET_CONV_STAT s, 0, 1⟩
def SHEET_CONV_STAT_nan_out (s : Nat) : Fld := ⟨SHEET_CONV_STAT s, 1, 1⟩
def SHEET_CONV_STAT_scale_bad (s : Nat) : Fld := ⟨SHEET_CONV_STAT s, 2, 1⟩
/-- `SHEET_SR_SEED`, chapter 03. -/
def SHEET_SR_SEED (s : Nat) : Nat := sheetBase s + 0x881c
def SHEET_SR_SEED_seed (s : Nat) : Fld := ⟨SHEET_SR_SEED s, 0, 32⟩
/-- `SHEET_ESC_CNT`, chapter 03. -/
def SHEET_ESC_CNT (s : Nat) : Nat := sheetBase s + 0x8820
def SHEET_ESC_CNT_escaped (s : Nat) : Fld := ⟨SHEET_ESC_CNT s, 0, 16⟩
def SHEET_ESC_CNT_deferred (s : Nat) : Fld := ⟨SHEET_ESC_CNT s, 16, 16⟩
/-- `SHEET_SAFE_CTL`, chapter 04. -/
def SHEET_SAFE_CTL (s : Nat) : Nat := sheetBase s + 0x8830
def SHEET_SAFE_CTL_calib (s : Nat) : Fld := ⟨SHEET_SAFE_CTL s, 0, 1⟩
def SHEET_SAFE_CTL_contour_clear (s : Nat) : Fld := ⟨SHEET_SAFE_CTL s, 8, 4⟩
def SHEET_SAFE_CTL_sat_clear (s : Nat) : Fld := ⟨SHEET_SAFE_CTL s, 12, 4⟩
/-- `SHEET_CONTOUR_STAT`, chapter 04. -/
def SHEET_CONTOUR_STAT (s : Nat) : Nat := sheetBase s + 0x8834
def SHEET_CONTOUR_STAT_bin_over (s : Nat) : Fld := ⟨SHEET_CONTOUR_STAT s, 0, 4⟩
def SHEET_CONTOUR_STAT_sat_over (s : Nat) : Fld := ⟨SHEET_CONTOUR_STAT s, 4, 4⟩
/-- `SHEET_CALIB_DROP`, chapter 04. -/
def SHEET_CALIB_DROP (s : Nat) : Nat := sheetBase s + 0x8838
def SHEET_CALIB_DROP_count (s : Nat) : Fld := ⟨SHEET_CALIB_DROP s, 0, 32⟩
/-- `SHEET_GUARD_CNT`, chapter 04. -/
def SHEET_GUARD_CNT (s : Nat) : Nat := sheetBase s + 0x883c
def SHEET_GUARD_CNT_taken (s : Nat) : Fld := ⟨SHEET_GUARD_CNT s, 0, 16⟩
def SHEET_GUARD_CNT_would (s : Nat) : Fld := ⟨SHEET_GUARD_CNT s, 16, 16⟩
/-- `SHEET_OUTLIER_CNT`, chapter 04. -/
def SHEET_OUTLIER_CNT (s : Nat) : Nat := sheetBase s + 0x8840
def SHEET_OUTLIER_CNT_taken (s : Nat) : Fld := ⟨SHEET_OUTLIER_CNT s, 0, 16⟩
def SHEET_OUTLIER_CNT_excess (s : Nat) : Fld := ⟨SHEET_OUTLIER_CNT s, 16, 16⟩
/-- `SHEET_SAT_n`, chapter 04. -/
def SHEET_SAT (s n : Nat) : Nat := sheetBase s + 0x8850 + 4 * n
def SHEET_SAT_count (s n : Nat) : Fld := ⟨SHEET_SAT s n, 0, 32⟩
/-- `SHEET_CONTOUR_CFG_b`, chapter 04. -/
def SHEET_CONTOUR_CFG (s b : Nat) : Nat := sheetBase s + 0x8860 + 4 * b
def SHEET_CONTOUR_CFG_base (s b : Nat) : Fld := ⟨SHEET_CONTOUR_CFG s b, 0, 10⟩
/-- `SHEET_CONTOUR_b_i`, chapter 04. -/
def SHEET_CONTOUR_BIN (s b i : Nat) : Nat := sheetBase s + 0x9000 + 256 * b + 4 * i
def SHEET_CONTOUR_BIN_count (s b i : Nat) : Fld := ⟨SHEET_CONTOUR_BIN s b i, 0, 24⟩
/-- `FAB_OVL_SEL`, chapter 04. -/
def FAB_OVL_SEL : Nat := 0x60e000
def FAB_OVL_SEL_entry : Fld := ⟨FAB_OVL_SEL, 0, 10⟩
/-- `FAB_OVL_CTL`, chapter 04. -/
def FAB_OVL_CTL : Nat := 0x60e004
def FAB_OVL_CTL_commit : Fld := ⟨FAB_OVL_CTL, 0, 1⟩
/-- `FAB_OVL_STAT`, chapter 04. -/
def FAB_OVL_STAT : Nat := 0x60e008
def FAB_OVL_STAT_refused : Fld := ⟨FAB_OVL_STAT, 0, 1⟩
def FAB_OVL_STAT_valid_count : Fld := ⟨FAB_OVL_STAT, 16, 16⟩
/-- `FAB_OVL_DATA_k`, chapter 04. -/
def FAB_OVL_DATA (k : Nat) : Nat := 0x60e020 + 4 * k
def FAB_OVL_DATA_word (k : Nat) : Fld := ⟨FAB_OVL_DATA k, 0, 32⟩
/-- `SHEET_ID`, chapter 05. -/
def SHEET_ID (s : Nat) : Nat := sheetBase s + 0x0
def SHEET_ID_index (s : Nat) : Fld := ⟨SHEET_ID s, 0, 8⟩
def SHEET_ID_die (s : Nat) : Fld := ⟨SHEET_ID s, 8, 1⟩
def SHEET_ID_bank (s : Nat) : Fld := ⟨SHEET_ID s, 9, 3⟩
def SHEET_ID_row (s : Nat) : Fld := ⟨SHEET_ID s, 16, 4⟩
def SHEET_ID_column (s : Nat) : Fld := ⟨SHEET_ID s, 20, 4⟩
/-- `SHEET_CTL`, chapter 05. -/
def SHEET_CTL (s : Nat) : Nat := sheetBase s + 0x4
def SHEET_CTL_run (s : Nat) : Fld := ⟨SHEET_CTL s, 0, 1⟩
/-- `SHEET_STATUS`, chapter 05. -/
def SHEET_STATUS (s : Nat) : Nat := sheetBase s + 0x8
def SHEET_STATUS_idle (s : Nat) : Fld := ⟨SHEET_STATUS s, 0, 1⟩
def SHEET_STATUS_stopped (s : Nat) : Fld := ⟨SHEET_STATUS s, 1, 1⟩
def SHEET_STATUS_halted (s : Nat) : Fld := ⟨SHEET_STATUS s, 2, 4⟩
def SHEET_STATUS_clearing (s : Nat) : Fld := ⟨SHEET_STATUS s, 6, 1⟩
/-- `SHEET_MX_STEPS`, chapter 05. -/
def SHEET_MX_STEPS (s : Nat) : Nat := sheetBase s + 0x10
def SHEET_MX_STEPS_count (s : Nat) : Fld := ⟨SHEET_MX_STEPS s, 0, 64⟩
/-- `SHEET_VX_STAT`, chapter 05. -/
def SHEET_VX_STAT (s : Nat) : Nat := sheetBase s + 0x20
def SHEET_VX_STAT_nan_made (s : Nat) : Fld := ⟨SHEET_VX_STAT s, 0, 1⟩
def SHEET_VX_STAT_overflow (s : Nat) : Fld := ⟨SHEET_VX_STAT s, 1, 1⟩
/-- `SHEET_SB_STALL`, chapter 05. -/
def SHEET_SB_STALL (s : Nat) : Nat := sheetBase s + 0x24
def SHEET_SB_STALL_count (s : Nat) : Fld := ⟨SHEET_SB_STALL s, 0, 32⟩
/-- `SHEET_MESH_STAT`, chapter 05. -/
def SHEET_MESH_STAT (s : Nat) : Nat := sheetBase s + 0x28
def SHEET_MESH_STAT_sent (s : Nat) : Fld := ⟨SHEET_MESH_STAT s, 0, 16⟩
def SHEET_MESH_STAT_bad (s : Nat) : Fld := ⟨SHEET_MESH_STAT s, 16, 16⟩
/-- `SHEET_ECC_CE_CNT`, chapter 05. -/
def SHEET_ECC_CE_CNT (s : Nat) : Nat := sheetBase s + 0x30
def SHEET_ECC_CE_CNT_count (s : Nat) : Fld := ⟨SHEET_ECC_CE_CNT s, 0, 32⟩
/-- `SHEET_ECC_UE`, chapter 05. -/
def SHEET_ECC_UE (s : Nat) : Nat := sheetBase s + 0x34
def SHEET_ECC_UE_store (s : Nat) : Fld := ⟨SHEET_ECC_UE s, 0, 3⟩
def SHEET_ECC_UE_ue (s : Nat) : Fld := ⟨SHEET_ECC_UE s, 31, 1⟩
/-- `SHEET_ECC_ADDR`, chapter 05. -/
def SHEET_ECC_ADDR (s : Nat) : Nat := sheetBase s + 0x38
def SHEET_ECC_ADDR_offset (s : Nat) : Fld := ⟨SHEET_ECC_ADDR s, 0, 22⟩
/-- `SHEET_SCRUB`, chapter 05. -/
def SHEET_SCRUB (s : Nat) : Nat := sheetBase s + 0x3c
def SHEET_SCRUB_enable (s : Nat) : Fld := ⟨SHEET_SCRUB s, 0, 1⟩
def SHEET_SCRUB_passes (s : Nat) : Fld := ⟨SHEET_SCRUB s, 8, 24⟩
/-- `SHEET_Q_RING_e`, chapter 06. -/
def SHEET_Q_RING (s e : Nat) : Nat := sheetBase s + 0x100 + 32 * e
def SHEET_Q_RING_base (s e : Nat) : Fld := ⟨SHEET_Q_RING s e, 0, 11⟩
def SHEET_Q_RING_size (s e : Nat) : Fld := ⟨SHEET_Q_RING s e, 12, 12⟩
/-- `SHEET_Q_TAIL_e`, chapter 06. -/
def SHEET_Q_TAIL (s e : Nat) : Nat := sheetBase s + 0x104 + 32 * e
def SHEET_Q_TAIL_tail (s e : Nat) : Fld := ⟨SHEET_Q_TAIL s e, 0, 32⟩
/-- `SHEET_Q_HEAD_e`, chapter 06. -/
def SHEET_Q_HEAD (s e : Nat) : Nat := sheetBase s + 0x108 + 32 * e
def SHEET_Q_HEAD_head (s e : Nat) : Fld := ⟨SHEET_Q_HEAD s e, 0, 32⟩
/-- `SHEET_Q_DONE_e`, chapter 06. -/
def SHEET_Q_DONE (s e : Nat) : Nat := sheetBase s + 0x10c + 32 * e
def SHEET_Q_DONE_done (s e : Nat) : Fld := ⟨SHEET_Q_DONE s e, 0, 32⟩
/-- `SHEET_Q_STAT_e`, chapter 06. -/
def SHEET_Q_STAT (s e : Nat) : Nat := sheetBase s + 0x110 + 32 * e
def SHEET_Q_STAT_fill (s e : Nat) : Fld := ⟨SHEET_Q_STAT s e, 0, 7⟩
def SHEET_Q_STAT_depth (s e : Nat) : Fld := ⟨SHEET_Q_STAT s e, 8, 7⟩
def SHEET_Q_STAT_state (s e : Nat) : Fld := ⟨SHEET_Q_STAT s e, 16, 2⟩
/-- `SHEET_Q_TAG_e`, chapter 06. -/
def SHEET_Q_TAG (s e : Nat) : Nat := sheetBase s + 0x114 + 32 * e
def SHEET_Q_TAG_tag (s e : Nat) : Fld := ⟨SHEET_Q_TAG s e, 0, 24⟩
/-- `SHEET_FLAGS`, chapter 06. -/
def SHEET_FLAGS (s : Nat) : Nat := sheetBase s + 0x200
def SHEET_FLAGS_f (s : Nat) : Fld := ⟨SHEET_FLAGS s, 0, 64⟩
/-- `SHEET_CT_n`, chapter 06. -/
def SHEET_CT (s n : Nat) : Nat := sheetBase s + 0x240 + 4 * n
def SHEET_CT_count (s n : Nat) : Fld := ⟨SHEET_CT s n, 0, 32⟩
/-- `SHEET_CMP_CTL_m`, chapter 06. -/
def SHEET_CMP_CTL (s m : Nat) : Nat := sheetBase s + 0x280 + 4 * m
def SHEET_CMP_CTL_enable (s m : Nat) : Fld := ⟨SHEET_CMP_CTL s m, 0, 1⟩
def SHEET_CMP_CTL_source (s m : Nat) : Fld := ⟨SHEET_CMP_CTL s m, 1, 1⟩
def SHEET_CMP_CTL_ctr (s m : Nat) : Fld := ⟨SHEET_CMP_CTL s m, 2, 4⟩
/-- `SHEET_CMP_VAL_m`, chapter 06. -/
def SHEET_CMP_VAL (s m : Nat) : Nat := sheetBase s + 0x2c0 + 8 * m
def SHEET_CMP_VAL_value (s m : Nat) : Fld := ⟨SHEET_CMP_VAL s m, 0, 64⟩
/-- `SHEET_WAIT_CFG`, chapter 06. -/
def SHEET_WAIT_CFG (s : Nat) : Nat := sheetBase s + 0x300
def SHEET_WAIT_CFG_starve_frames (s : Nat) : Fld := ⟨SHEET_WAIT_CFG s, 0, 8⟩
/-- `SHEET_WAIT_STAT`, chapter 06. -/
def SHEET_WAIT_STAT (s : Nat) : Nat := sheetBase s + 0x304
def SHEET_WAIT_STAT_circ (s : Nat) : Fld := ⟨SHEET_WAIT_STAT s, 0, 1⟩
def SHEET_WAIT_STAT_starve (s : Nat) : Fld := ⟨SHEET_WAIT_STAT s, 1, 1⟩
/-- `TIME_COUNT`, chapter 07. -/
def TIME_COUNT : Nat := 0x300000
def TIME_COUNT_ticks : Fld := ⟨TIME_COUNT, 0, 64⟩
/-- `TIME_FRAC`, chapter 07. -/
def TIME_FRAC : Nat := 0x300008
def TIME_FRAC_frac : Fld := ⟨TIME_FRAC, 0, 8⟩
/-- `TIME_SCHED_CTL`, chapter 07. -/
def TIME_SCHED_CTL : Nat := 0x300010
def TIME_SCHED_CTL_plan : Fld := ⟨TIME_SCHED_CTL, 0, 16⟩
/-- `TIME_JOB_START`, chapter 07. -/
def TIME_JOB_START : Nat := 0x300018
def TIME_JOB_START_frame : Fld := ⟨TIME_JOB_START, 0, 48⟩
/-- `TIME_SCHED_FRAME`, chapter 07. -/
def TIME_SCHED_FRAME : Nat := 0x300020
def TIME_SCHED_FRAME_frame : Fld := ⟨TIME_SCHED_FRAME, 0, 48⟩
/-- `TIME_SLIP_CFG`, chapter 07. -/
def TIME_SLIP_CFG : Nat := 0x300028
def TIME_SLIP_CFG_max_consec : Fld := ⟨TIME_SLIP_CFG, 0, 8⟩
/-- `TIME_SLIP_STAT`, chapter 07. -/
def TIME_SLIP_STAT : Nat := 0x30002c
def TIME_SLIP_STAT_slips : Fld := ⟨TIME_SLIP_STAT, 0, 16⟩
def TIME_SLIP_STAT_consec : Fld := ⟨TIME_SLIP_STAT, 16, 8⟩
def TIME_SLIP_STAT_hold_pending : Fld := ⟨TIME_SLIP_STAT, 24, 1⟩
def TIME_SLIP_STAT_late_slip : Fld := ⟨TIME_SLIP_STAT, 25, 1⟩
/-- `TIME_HOLD_CNT`, chapter 07. -/
def TIME_HOLD_CNT : Nat := 0x300030
def TIME_HOLD_CNT_count : Fld := ⟨TIME_HOLD_CNT, 0, 32⟩
/-- `TIME_LATE_CNT`, chapter 07. -/
def TIME_LATE_CNT : Nat := 0x300034
def TIME_LATE_CNT_count : Fld := ⟨TIME_LATE_CNT, 0, 32⟩
/-- `TIME_XING_c`, chapter 07. -/
def TIME_XING (c : Nat) : Nat := 0x300040 + 4 * c
def TIME_XING_tap (c : Nat) : Fld := ⟨TIME_XING c, 0, 3⟩
def TIME_XING_margin (c : Nat) : Fld := ⟨TIME_XING c, 3, 3⟩
def TIME_XING_aligned (c : Nat) : Fld := ⟨TIME_XING c, 6, 1⟩
def TIME_XING_low_margin (c : Nat) : Fld := ⟨TIME_XING c, 7, 1⟩
/-- `TIME_WP_CTL`, chapter 07. -/
def TIME_WP_CTL : Nat := 0x300080
def TIME_WP_CTL_enable : Fld := ⟨TIME_WP_CTL, 0, 1⟩
def TIME_WP_CTL_interval : Fld := ⟨TIME_WP_CTL, 8, 8⟩
/-- `TIME_WP_CNT`, chapter 07. -/
def TIME_WP_CNT : Nat := 0x300084
def TIME_WP_CNT_ctr : Fld := ⟨TIME_WP_CNT, 0, 12⟩
def TIME_WP_CNT_count : Fld := ⟨TIME_WP_CNT, 16, 16⟩
/-- `TIME_WP_HELD`, chapter 07. -/
def TIME_WP_HELD : Nat := 0x300088
def TIME_WP_HELD_waypoint : Fld := ⟨TIME_WP_HELD, 0, 32⟩
/-- `SHEET_SLACK`, chapter 07. -/
def SHEET_SLACK (s : Nat) : Nat := sheetBase s + 0x400
def SHEET_SLACK_slack (s : Nat) : Fld := ⟨SHEET_SLACK s, 0, 16⟩
def SHEET_SLACK_chain (s : Nat) : Fld := ⟨SHEET_SLACK s, 16, 2⟩
def SHEET_SLACK_neg (s : Nat) : Fld := ⟨SHEET_SLACK s, 31, 1⟩
/-- `SHEET_SLACK_NEG_CNT`, chapter 07. -/
def SHEET_SLACK_NEG_CNT (s : Nat) : Nat := sheetBase s + 0x404
def SHEET_SLACK_NEG_CNT_count (s : Nat) : Fld := ⟨SHEET_SLACK_NEG_CNT s, 0, 32⟩
/-- `SHEET_SLACK_C_c`, chapter 07. -/
def SHEET_SLACK_C (s c : Nat) : Nat := sheetBase s + 0x410 + 4 * c
def SHEET_SLACK_C_count (s c : Nat) : Fld := ⟨SHEET_SLACK_C s c, 0, 16⟩
/-- `PWR_GOV_CTL_n`, chapter 07. -/
def PWR_GOV_CTL (n : Nat) : Nat := 0x201000 + 32 * n
def PWR_GOV_CTL_vmin (n : Nat) : Fld := ⟨PWR_GOV_CTL n, 0, 6⟩
def PWR_GOV_CTL_vmax (n : Nat) : Fld := ⟨PWR_GOV_CTL n, 8, 6⟩
def PWR_GOV_CTL_vstart (n : Nat) : Fld := ⟨PWR_GOV_CTL n, 16, 6⟩
def PWR_GOV_CTL_fixed (n : Nat) : Fld := ⟨PWR_GOV_CTL n, 24, 1⟩
/-- `PWR_GOV_TGT_n`, chapter 07. -/
def PWR_GOV_TGT (n : Nat) : Nat := 0x201004 + 32 * n
def PWR_GOV_TGT_target (n : Nat) : Fld := ⟨PWR_GOV_TGT n, 0, 16⟩
def PWR_GOV_TGT_hyst (n : Nat) : Fld := ⟨PWR_GOV_TGT n, 16, 16⟩
/-- `PWR_GOV_STAT_n`, chapter 07. -/
def PWR_GOV_STAT (n : Nat) : Nat := 0x201008 + 32 * n
def PWR_GOV_STAT_code (n : Nat) : Fld := ⟨PWR_GOV_STAT n, 0, 6⟩
def PWR_GOV_STAT_at_ceiling (n : Nat) : Fld := ⟨PWR_GOV_STAT n, 6, 1⟩
def PWR_GOV_STAT_at_floor (n : Nat) : Fld := ⟨PWR_GOV_STAT n, 7, 1⟩
def PWR_GOV_STAT_throttle (n : Nat) : Fld := ⟨PWR_GOV_STAT n, 8, 1⟩
def PWR_GOV_STAT_slack (n : Nat) : Fld := ⟨PWR_GOV_STAT n, 16, 16⟩
/-- `PWR_GOV_NEG_CNT_n`, chapter 07. -/
def PWR_GOV_NEG_CNT (n : Nat) : Nat := 0x20100c + 32 * n
def PWR_GOV_NEG_CNT_count (n : Nat) : Fld := ⟨PWR_GOV_NEG_CNT n, 0, 32⟩
/-- `FAB_DISPATCH_CTL`, chapter 08. -/
def FAB_DISPATCH_CTL : Nat := 0x600000
def FAB_DISPATCH_CTL_enable : Fld := ⟨FAB_DISPATCH_CTL, 0, 16⟩
/-- `FAB_DISPATCH_STAT`, chapter 08. -/
def FAB_DISPATCH_STAT : Nat := 0x600004
def FAB_DISPATCH_STAT_late : Fld := ⟨FAB_DISPATCH_STAT, 0, 16⟩
def FAB_DISPATCH_STAT_guard_value : Fld := ⟨FAB_DISPATCH_STAT, 16, 1⟩
def FAB_DISPATCH_STAT_guard_valid : Fld := ⟨FAB_DISPATCH_STAT, 17, 1⟩
/-- `FAB_INFLIGHT`, chapter 08. -/
def FAB_INFLIGHT : Nat := 0x600008
def FAB_INFLIGHT_count : Fld := ⟨FAB_INFLIGHT, 0, 16⟩
def FAB_INFLIGHT_peak : Fld := ⟨FAB_INFLIGHT, 16, 16⟩
/-- `FAB_SRC_WIN`, chapter 08. -/
def FAB_SRC_WIN : Nat := 0x600010
def FAB_SRC_WIN_base : Fld := ⟨FAB_SRC_WIN, 31, 17⟩
/-- `FAB_DISCARD_CNT`, chapter 08. -/
def FAB_DISCARD_CNT : Nat := 0x600018
def FAB_DISCARD_CNT_noentry : Fld := ⟨FAB_DISCARD_CNT, 0, 16⟩
def FAB_DISCARD_CNT_overrun : Fld := ⟨FAB_DISCARD_CNT, 16, 16⟩
/-- `FAB_RED_STAT`, chapter 08. -/
def FAB_RED_STAT : Nat := 0x60001c
def FAB_RED_STAT_joins : Fld := ⟨FAB_RED_STAT, 0, 16⟩
def FAB_RED_STAT_overflow : Fld := ⟨FAB_RED_STAT, 16, 16⟩
/-- `FAB_DX_BASE_e`, chapter 08. -/
def FAB_DX_BASE (e : Nat) : Nat := 0x600100 + 16 * e
def FAB_DX_BASE_index (e : Nat) : Fld := ⟨FAB_DX_BASE e, 0, 25⟩
/-- `FAB_DX_POS_e`, chapter 08. -/
def FAB_DX_POS (e : Nat) : Nat := 0x600104 + 16 * e
def FAB_DX_POS_index (e : Nat) : Fld := ⟨FAB_DX_POS e, 0, 25⟩
/-- `FAB_DX_STAT_e`, chapter 08. -/
def FAB_DX_STAT (e : Nat) : Nat := 0x600108 + 16 * e
def FAB_DX_STAT_fill (e : Nat) : Fld := ⟨FAB_DX_STAT e, 0, 9⟩
def FAB_DX_STAT_depth (e : Nat) : Fld := ⟨FAB_DX_STAT e, 16, 9⟩
def FAB_DX_STAT_done (e : Nat) : Fld := ⟨FAB_DX_STAT e, 25, 1⟩
def FAB_DX_STAT_err (e : Nat) : Fld := ⟨FAB_DX_STAT e, 26, 1⟩
/-- `FAB_PATH_SEL`, chapter 08. -/
def FAB_PATH_SEL : Nat := 0x600200
def FAB_PATH_SEL_index : Fld := ⟨FAB_PATH_SEL, 0, 16⟩
/-- `FAB_PATH_CTL`, chapter 08. -/
def FAB_PATH_CTL : Nat := 0x600204
def FAB_PATH_CTL_commit : Fld := ⟨FAB_PATH_CTL, 0, 1⟩
def FAB_PATH_CTL_load : Fld := ⟨FAB_PATH_CTL, 1, 1⟩
/-- `FAB_PATH_STAT`, chapter 08. -/
def FAB_PATH_STAT : Nat := 0x600208
def FAB_PATH_STAT_refused : Fld := ⟨FAB_PATH_STAT, 0, 1⟩
def FAB_PATH_STAT_loading : Fld := ⟨FAB_PATH_STAT, 1, 1⟩
/-- `FAB_PATH_LOAD`, chapter 08. -/
def FAB_PATH_LOAD : Nat := 0x600210
def FAB_PATH_LOAD_addr : Fld := ⟨FAB_PATH_LOAD, 6, 42⟩
/-- `FAB_PATH_DATA_k`, chapter 08. -/
def FAB_PATH_DATA (k : Nat) : Nat := 0x600220 + 4 * k
def FAB_PATH_DATA_word (k : Nat) : Fld := ⟨FAB_PATH_DATA k, 0, 32⟩
/-- `FAB_AC_n`, chapter 08. -/
def FAB_AC (n : Nat) : Nat := 0x604000 + 4 * n
def FAB_AC_count (n : Nat) : Fld := ⟨FAB_AC n, 0, 32⟩
/-- `FAB_BUNDLE_CTL`, chapter 08. -/
def FAB_BUNDLE_CTL : Nat := 0x608000
def FAB_BUNDLE_CTL_balance : Fld := ⟨FAB_BUNDLE_CTL, 0, 1⟩
def FAB_BUNDLE_CTL_drop : Fld := ⟨FAB_BUNDLE_CTL, 1, 1⟩
def FAB_BUNDLE_CTL_lanes : Fld := ⟨FAB_BUNDLE_CTL, 8, 8⟩
def FAB_BUNDLE_CTL_rec : Fld := ⟨FAB_BUNDLE_CTL, 16, 4⟩
/-- `FAB_BUNDLE_AREA`, chapter 08. -/
def FAB_BUNDLE_AREA : Nat := 0x608004
def FAB_BUNDLE_AREA_qbase : Fld := ⟨FAB_BUNDLE_AREA, 0, 16⟩
def FAB_BUNDLE_AREA_lane_units : Fld := ⟨FAB_BUNDLE_AREA, 16, 16⟩
/-- `FAB_BUNDLE_AUX`, chapter 08. -/
def FAB_BUNDLE_AUX : Nat := 0x608008
def FAB_BUNDLE_AUX_defer_units : Fld := ⟨FAB_BUNDLE_AUX, 0, 16⟩
/-- `FAB_BUNDLE_STAT`, chapter 08. -/
def FAB_BUNDLE_STAT : Nat := 0x60800c
def FAB_BUNDLE_STAT_deferred : Fld := ⟨FAB_BUNDLE_STAT, 0, 16⟩
def FAB_BUNDLE_STAT_dropped : Fld := ⟨FAB_BUNDLE_STAT, 16, 16⟩
/-- `FAB_BUNDLE_MAPST`, chapter 08. -/
def FAB_BUNDLE_MAPST : Nat := 0x608010
def FAB_BUNDLE_MAPST_refused : Fld := ⟨FAB_BUNDLE_MAPST, 0, 1⟩
def FAB_BUNDLE_MAPST_committed : Fld := ⟨FAB_BUNDLE_MAPST, 1, 1⟩
/-- `FAB_EXPERT_e`, chapter 08. -/
def FAB_EXPERT (e : Nat) : Nat := 0x609000 + 4 * e
def FAB_EXPERT_bundle (e : Nat) : Fld := ⟨FAB_EXPERT e, 0, 10⟩
def FAB_EXPERT_cap (e : Nat) : Fld := ⟨FAB_EXPERT e, 16, 8⟩
/-- `FAB_X_CFG`, chapter 08. -/
def FAB_X_CFG : Nat := 0x60c000
def FAB_X_CFG_mark : Fld := ⟨FAB_X_CFG, 0, 8⟩
/-- `FAB_X_STAT`, chapter 08. -/
def FAB_X_STAT : Nat := 0x60c004
def FAB_X_STAT_marked : Fld := ⟨FAB_X_STAT, 0, 16⟩
def FAB_X_STAT_seq : Fld := ⟨FAB_X_STAT, 16, 16⟩
/-- `LINK_CTL`, chapter 09. -/
def LINK_CTL (p : Nat) : Nat := 0x400000 + 0x10000 * p + 0x0
def LINK_CTL_enable (p : Nat) : Fld := ⟨LINK_CTL p, 0, 1⟩
def LINK_CTL_retrain (p : Nat) : Fld := ⟨LINK_CTL p, 1, 1⟩
def LINK_CTL_width_max (p : Nat) : Fld := ⟨LINK_CTL p, 2, 1⟩
def LINK_CTL_half_rate (p : Nat) : Fld := ⟨LINK_CTL p, 3, 1⟩
/-- `LINK_CFG`, chapter 09. -/
def LINK_CFG (p : Nat) : Nat := 0x400000 + 0x10000 * p + 0x4
def LINK_CFG_grace (p : Nat) : Fld := ⟨LINK_CFG p, 0, 14⟩
def LINK_CFG_wtol (p : Nat) : Fld := ⟨LINK_CFG p, 14, 1⟩
def LINK_CFG_ser_limit (p : Nat) : Fld := ⟨LINK_CFG p, 16, 8⟩
/-- `LINK_STAT`, chapter 09. -/
def LINK_STAT (p : Nat) : Nat := 0x400000 + 0x10000 * p + 0x8
def LINK_STAT_state (p : Nat) : Fld := ⟨LINK_STAT p, 0, 3⟩
def LINK_STAT_retraining (p : Nat) : Fld := ⟨LINK_STAT p, 3, 1⟩
def LINK_STAT_lanes (p : Nat) : Fld := ⟨LINK_STAT p, 4, 8⟩
def LINK_STAT_half (p : Nat) : Fld := ⟨LINK_STAT p, 12, 1⟩
def LINK_STAT_degraded (p : Nat) : Fld := ⟨LINK_STAT p, 13, 1⟩
def LINK_STAT_grace (p : Nat) : Fld := ⟨LINK_STAT p, 14, 1⟩
def LINK_STAT_flushed (p : Nat) : Fld := ⟨LINK_STAT p, 15, 1⟩
def LINK_STAT_attempts (p : Nat) : Fld := ⟨LINK_STAT p, 16, 16⟩
/-- `LINK_LAT`, chapter 09. -/
def LINK_LAT (p : Nat) : Nat := 0x400000 + 0x10000 * p + 0xc
def LINK_LAT_ticks (p : Nat) : Fld := ⟨LINK_LAT p, 0, 12⟩
/-- `LINK_PEER_ID`, chapter 09. -/
def LINK_PEER_ID (p : Nat) : Nat := 0x400000 + 0x10000 * p + 0x10
def LINK_PEER_ID_identity (p : Nat) : Fld := ⟨LINK_PEER_ID p, 0, 64⟩
/-- `LINK_PEER`, chapter 09. -/
def LINK_PEER (p : Nat) : Nat := 0x400000 + 0x10000 * p + 0x18
def LINK_PEER_port (p : Nat) : Fld := ⟨LINK_PEER p, 0, 5⟩
/-- `LINK_SEQ`, chapter 09. -/
def LINK_SEQ (p : Nat) : Nat := 0x400000 + 0x10000 * p + 0x20
def LINK_SEQ_next (p : Nat) : Fld := ⟨LINK_SEQ p, 0, 12⟩
def LINK_SEQ_acked (p : Nat) : Fld := ⟨LINK_SEQ p, 12, 12⟩
/-- `LINK_CRED_A`, chapter 09. -/
def LINK_CRED_A (p : Nat) : Nat := 0x400000 + 0x10000 * p + 0x24
def LINK_CRED_A_s (p : Nat) : Fld := ⟨LINK_CRED_A p, 0, 10⟩
def LINK_CRED_A_x (p : Nat) : Fld := ⟨LINK_CRED_A p, 10, 10⟩
def LINK_CRED_A_c (p : Nat) : Fld := ⟨LINK_CRED_A p, 20, 10⟩
/-- `LINK_CRED_B`, chapter 09. -/
def LINK_CRED_B (p : Nat) : Nat := 0x400000 + 0x10000 * p + 0x28
def LINK_CRED_B_shared (p : Nat) : Fld := ⟨LINK_CRED_B p, 0, 10⟩
def LINK_CRED_B_pool (p : Nat) : Fld := ⟨LINK_CRED_B p, 16, 11⟩
/-- `LINK_FEC_CE`, chapter 09. -/
def LINK_FEC_CE (p : Nat) : Nat := 0x400000 + 0x10000 * p + 0x40
def LINK_FEC_CE_symbols (p : Nat) : Fld := ⟨LINK_FEC_CE p, 0, 64⟩
/-- `LINK_FEC_UE`, chapter 09. -/
def LINK_FEC_UE (p : Nat) : Nat := 0x400000 + 0x10000 * p + 0x48
def LINK_FEC_UE_count (p : Nat) : Fld := ⟨LINK_FEC_UE p, 0, 32⟩
/-- `LINK_CRC_ERR`, chapter 09. -/
def LINK_CRC_ERR (p : Nat) : Nat := 0x400000 + 0x10000 * p + 0x4c
def LINK_CRC_ERR_count (p : Nat) : Fld := ⟨LINK_CRC_ERR p, 0, 32⟩
/-- `LINK_NAK`, chapter 09. -/
def LINK_NAK (p : Nat) : Nat := 0x400000 + 0x10000 * p + 0x50
def LINK_NAK_sent (p : Nat) : Fld := ⟨LINK_NAK p, 0, 16⟩
def LINK_NAK_taken (p : Nat) : Fld := ⟨LINK_NAK p, 16, 16⟩
/-- `LINK_REPLAY`, chapter 09. -/
def LINK_REPLAY (p : Nat) : Nat := 0x400000 + 0x10000 * p + 0x54
def LINK_REPLAY_replays (p : Nat) : Fld := ⟨LINK_REPLAY p, 0, 16⟩
def LINK_REPLAY_flits (p : Nat) : Fld := ⟨LINK_REPLAY p, 16, 16⟩
/-- `LINK_RETRAIN`, chapter 09. -/
def LINK_RETRAIN (p : Nat) : Nat := 0x400000 + 0x10000 * p + 0x58
def LINK_RETRAIN_retrains (p : Nat) : Fld := ⟨LINK_RETRAIN p, 0, 16⟩
def LINK_RETRAIN_flushes (p : Nat) : Fld := ⟨LINK_RETRAIN p, 16, 16⟩
/-- `LINK_LOST`, chapter 09. -/
def LINK_LOST (p : Nat) : Nat := 0x400000 + 0x10000 * p + 0x5c
def LINK_LOST_transfers (p : Nat) : Fld := ⟨LINK_LOST p, 0, 16⟩
def LINK_LOST_x_flushed (p : Nat) : Fld := ⟨LINK_LOST p, 16, 16⟩
/-- `LINK_PROTO`, chapter 09. -/
def LINK_PROTO (p : Nat) : Nat := 0x400000 + 0x10000 * p + 0x60
def LINK_PROTO_ack_window (p : Nat) : Fld := ⟨LINK_PROTO p, 0, 1⟩
def LINK_PROTO_credit (p : Nat) : Fld := ⟨LINK_PROTO p, 1, 1⟩
def LINK_PROTO_overrun (p : Nat) : Fld := ⟨LINK_PROTO p, 2, 1⟩
def LINK_PROTO_replay_limit (p : Nat) : Fld := ⟨LINK_PROTO p, 3, 1⟩
def LINK_PROTO_bad_symbol (p : Nat) : Fld := ⟨LINK_PROTO p, 4, 1⟩
/-- `LINK_LATE`, chapter 09. -/
def LINK_LATE (p : Nat) : Nat := 0x400000 + 0x10000 * p + 0x64
def LINK_LATE_count (p : Nat) : Fld := ⟨LINK_LATE p, 0, 32⟩
/-- `LINK_LANE_l`, chapter 09. -/
def LINK_LANE (p l : Nat) : Nat := 0x400000 + 0x10000 * p + 0x80 + 4 * l
def LINK_LANE_ce_ms (p l : Nat) : Fld := ⟨LINK_LANE p l, 0, 16⟩
def LINK_LANE_lock (p l : Nat) : Fld := ⟨LINK_LANE p l, 16, 1⟩
def LINK_LANE_failed (p l : Nat) : Fld := ⟨LINK_LANE p l, 17, 1⟩
/-- `TOPO_CFG`, chapter 10. -/
def TOPO_CFG : Nat := 0x800000
def TOPO_CFG_group : Fld := ⟨TOPO_CFG, 0, 10⟩
def TOPO_CFG_gcount : Fld := ⟨TOPO_CFG, 10, 10⟩
def TOPO_CFG_timeout : Fld := ⟨TOPO_CFG, 20, 8⟩
/-- `TOPO_CTL`, chapter 10. -/
def TOPO_CTL : Nat := 0x800004
def TOPO_CTL_survey : Fld := ⟨TOPO_CTL, 0, 1⟩
def TOPO_CTL_measure : Fld := ⟨TOPO_CTL, 1, 1⟩
/-- `TOPO_STAT`, chapter 10. -/
def TOPO_STAT : Nat := 0x800008
def TOPO_STAT_survey : Fld := ⟨TOPO_STAT, 0, 2⟩
def TOPO_STAT_cvalid : Fld := ⟨TOPO_STAT, 2, 1⟩
def TOPO_STAT_measure_busy : Fld := ⟨TOPO_STAT, 3, 1⟩
def TOPO_STAT_transit_live : Fld := ⟨TOPO_STAT, 4, 1⟩
/-- `TOPO_COORD`, chapter 10. -/
def TOPO_COORD : Nat := 0x80000c
def TOPO_COORD_coord : Fld := ⟨TOPO_COORD, 0, 17⟩
/-- `TOPO_LCOORD`, chapter 10. -/
def TOPO_LCOORD : Nat := 0x800010
def TOPO_LCOORD_coord : Fld := ⟨TOPO_LCOORD, 0, 17⟩
def TOPO_LCOORD_pending : Fld := ⟨TOPO_LCOORD, 31, 1⟩
/-- `TOPO_PORT_q`, chapter 10. -/
def TOPO_PORT (q : Nat) : Nat := 0x800100 + 4 * q
def TOPO_PORT_heard (q : Nat) : Fld := ⟨TOPO_PORT q, 0, 1⟩
def TOPO_PORT_ok (q : Nat) : Fld := ⟨TOPO_PORT q, 1, 1⟩
def TOPO_PORT_miswired (q : Nat) : Fld := ⟨TOPO_PORT q, 2, 1⟩
def TOPO_PORT_missing (q : Nat) : Fld := ⟨TOPO_PORT q, 3, 1⟩
def TOPO_PORT_measured (q : Nat) : Fld := ⟨TOPO_PORT q, 4, 1⟩
def TOPO_PORT_peer_port (q : Nat) : Fld := ⟨TOPO_PORT q, 5, 5⟩
def TOPO_PORT_peer (q : Nat) : Fld := ⟨TOPO_PORT q, 10, 17⟩
/-- `TOPO_GPEER_j`, chapter 10. -/
def TOPO_GPEER (j : Nat) : Nat := 0x800200 + 4 * j
def TOPO_GPEER_coord (j : Nat) : Fld := ⟨TOPO_GPEER j, 0, 17⟩
def TOPO_GPEER_port (j : Nat) : Fld := ⟨TOPO_GPEER j, 17, 5⟩
def TOPO_GPEER_valid (j : Nat) : Fld := ⟨TOPO_GPEER j, 31, 1⟩
/-- `TOPO_SLICE`, chapter 10. -/
def TOPO_SLICE : Nat := 0x800300
def TOPO_SLICE_id : Fld := ⟨TOPO_SLICE, 0, 16⟩
def TOPO_SLICE_state : Fld := ⟨TOPO_SLICE, 16, 2⟩
def TOPO_SLICE_branch : Fld := ⟨TOPO_SLICE, 18, 1⟩
def TOPO_SLICE_branch_seen : Fld := ⟨TOPO_SLICE, 19, 1⟩
/-- `TOPO_ORIGIN`, chapter 10. -/
def TOPO_ORIGIN : Nat := 0x800304
def TOPO_ORIGIN_coord : Fld := ⟨TOPO_ORIGIN, 0, 17⟩
def TOPO_ORIGIN_self : Fld := ⟨TOPO_ORIGIN, 31, 1⟩
/-- `TOPO_TREE`, chapter 10. -/
def TOPO_TREE : Nat := 0x800308
def TOPO_TREE_parent : Fld := ⟨TOPO_TREE, 0, 5⟩
/-- `TOPO_TREE_CHILD`, chapter 10. -/
def TOPO_TREE_CHILD : Nat := 0x80030c
def TOPO_TREE_CHILD_children : Fld := ⟨TOPO_TREE_CHILD, 0, 31⟩
/-- `TOPO_FENCE`, chapter 10. -/
def TOPO_FENCE : Nat := 0x800400
def TOPO_FENCE_req : Fld := ⟨TOPO_FENCE, 0, 1⟩
def TOPO_FENCE_fenced : Fld := ⟨TOPO_FENCE, 1, 1⟩
def TOPO_FENCE_refused : Fld := ⟨TOPO_FENCE, 2, 1⟩
/-- `TOPO_FENCE_CNT`, chapter 10. -/
def TOPO_FENCE_CNT : Nat := 0x800404
def TOPO_FENCE_CNT_count : Fld := ⟨TOPO_FENCE_CNT, 0, 32⟩
/-- `LINK_PERMIT_CTL`, chapter 10. -/
def LINK_PERMIT_CTL (p : Nat) : Nat := 0x400000 + 0x10000 * p + 0x1000
def LINK_PERMIT_CTL_enable (p : Nat) : Fld := ⟨LINK_PERMIT_CTL p, 0, 1⟩
def LINK_PERMIT_CTL_refused (p : Nat) : Fld := ⟨LINK_PERMIT_CTL p, 1, 1⟩
/-- `LINK_PERMIT_CNT`, chapter 10. -/
def LINK_PERMIT_CNT (p : Nat) : Nat := 0x400000 + 0x10000 * p + 0x1004
def LINK_PERMIT_CNT_in (p : Nat) : Fld := ⟨LINK_PERMIT_CNT p, 0, 16⟩
def LINK_PERMIT_CNT_out (p : Nat) : Fld := ⟨LINK_PERMIT_CNT p, 16, 16⟩
/-- `LINK_PERMIT_k`, chapter 10. -/
def LINK_PERMIT (p k : Nat) : Nat := 0x400000 + 0x10000 * p + 0x1100 + 16 * k
def LINK_PERMIT_entry (p k : Nat) : Fld := ⟨LINK_PERMIT p k, 0, 128⟩
/-- `TIME_DOM_CTL`, chapter 11. -/
def TIME_DOM_CTL : Nat := 0x300100
def TIME_DOM_CTL_pref : Fld := ⟨TIME_DOM_CTL, 0, 1⟩
def TIME_DOM_CTL_revert : Fld := ⟨TIME_DOM_CTL, 1, 1⟩
def TIME_DOM_CTL_switch : Fld := ⟨TIME_DOM_CTL, 2, 1⟩
def TIME_DOM_CTL_slew_now : Fld := ⟨TIME_DOM_CTL, 3, 1⟩
/-- `TIME_DOM_CFG`, chapter 11. -/
def TIME_DOM_CFG : Nat := 0x300104
def TIME_DOM_CFG_max_offset : Fld := ⟨TIME_DOM_CFG, 0, 8⟩
def TIME_DOM_CFG_holdover : Fld := ⟨TIME_DOM_CFG, 8, 16⟩
/-- `TIME_DOM_STAT`, chapter 11. -/
def TIME_DOM_STAT : Nat := 0x300108
def TIME_DOM_STAT_sel : Fld := ⟨TIME_DOM_STAT, 0, 1⟩
def TIME_DOM_STAT_state_a : Fld := ⟨TIME_DOM_STAT, 1, 2⟩
def TIME_DOM_STAT_state_b : Fld := ⟨TIME_DOM_STAT, 3, 2⟩
def TIME_DOM_STAT_holdover : Fld := ⟨TIME_DOM_STAT, 5, 1⟩
def TIME_DOM_STAT_slewing : Fld := ⟨TIME_DOM_STAT, 6, 1⟩
def TIME_DOM_STAT_set : Fld := ⟨TIME_DOM_STAT, 7, 1⟩
def TIME_DOM_STAT_held : Fld := ⟨TIME_DOM_STAT, 8, 1⟩
def TIME_DOM_STAT_switches : Fld := ⟨TIME_DOM_STAT, 16, 16⟩
/-- `TIME_DOM_PHASE_d`, chapter 11. -/
def TIME_DOM_PHASE (d : Nat) : Nat := 0x300110 + 4 * d
def TIME_DOM_PHASE_phase (d : Nat) : Fld := ⟨TIME_DOM_PHASE d, 0, 32⟩
/-- `TIME_PPS_DELAY_d`, chapter 11. -/
def TIME_PPS_DELAY (d : Nat) : Nat := 0x300118 + 4 * d
def TIME_PPS_DELAY_delay (d : Nat) : Fld := ⟨TIME_PPS_DELAY d, 0, 20⟩
/-- `TIME_TOD_d`, chapter 11. -/
def TIME_TOD (d : Nat) : Nat := 0x300120 + 8 * d
def TIME_TOD_seconds (d : Nat) : Fld := ⟨TIME_TOD d, 0, 48⟩
def TIME_TOD_flags (d : Nat) : Fld := ⟨TIME_TOD d + 4, 16, 8⟩
/-- `TIME_TOD_ERR`, chapter 11. -/
def TIME_TOD_ERR : Nat := 0x300130
def TIME_TOD_ERR_crc_a : Fld := ⟨TIME_TOD_ERR, 0, 8⟩
def TIME_TOD_ERR_seq_a : Fld := ⟨TIME_TOD_ERR, 8, 8⟩
def TIME_TOD_ERR_crc_b : Fld := ⟨TIME_TOD_ERR, 16, 8⟩
def TIME_TOD_ERR_seq_b : Fld := ⟨TIME_TOD_ERR, 24, 8⟩
/-- `TIME_BCN_CFG`, chapter 11. -/
def TIME_BCN_CFG : Nat := 0x300140
def TIME_BCN_CFG_interval : Fld := ⟨TIME_BCN_CFG, 0, 16⟩
/-- `LINK_TS_CTL`, chapter 11. -/
def LINK_TS_CTL (p : Nat) : Nat := 0x400000 + 0x10000 * p + 0x100
def LINK_TS_CTL_bcn_en (p : Nat) : Fld := ⟨LINK_TS_CTL p, 0, 1⟩
def LINK_TS_CTL_clear (p : Nat) : Fld := ⟨LINK_TS_CTL p, 1, 1⟩
/-- `LINK_TS_TX_ASYM`, chapter 11. -/
def LINK_TS_TX_ASYM (p : Nat) : Nat := 0x400000 + 0x10000 * p + 0x104
def LINK_TS_TX_ASYM_delay (p : Nat) : Fld := ⟨LINK_TS_TX_ASYM p, 0, 20⟩
/-- `LINK_TS_RX_ASYM`, chapter 11. -/
def LINK_TS_RX_ASYM (p : Nat) : Nat := 0x400000 + 0x10000 * p + 0x108
def LINK_TS_RX_ASYM_delay (p : Nat) : Fld := ⟨LINK_TS_RX_ASYM p, 0, 20⟩
/-- `LINK_TS_OFFSET`, chapter 11. -/
def LINK_TS_OFFSET (p : Nat) : Nat := 0x400000 + 0x10000 * p + 0x110
def LINK_TS_OFFSET_value (p : Nat) : Fld := ⟨LINK_TS_OFFSET p, 0, 32⟩
/-- `LINK_TS_DELAY`, chapter 11. -/
def LINK_TS_DELAY (p : Nat) : Nat := 0x400000 + 0x10000 * p + 0x114
def LINK_TS_DELAY_value (p : Nat) : Fld := ⟨LINK_TS_DELAY p, 0, 32⟩
/-- `LINK_TS_OFF_MIN`, chapter 11. -/
def LINK_TS_OFF_MIN (p : Nat) : Nat := 0x400000 + 0x10000 * p + 0x118
def LINK_TS_OFF_MIN_value (p : Nat) : Fld := ⟨LINK_TS_OFF_MIN p, 0, 32⟩
/-- `LINK_TS_OFF_MAX`, chapter 11. -/
def LINK_TS_OFF_MAX (p : Nat) : Nat := 0x400000 + 0x10000 * p + 0x11c
def LINK_TS_OFF_MAX_value (p : Nat) : Fld := ⟨LINK_TS_OFF_MAX p, 0, 32⟩
/-- `LINK_TS_STAT`, chapter 11. -/
def LINK_TS_STAT (p : Nat) : Nat := 0x400000 + 0x10000 * p + 0x120
def LINK_TS_STAT_valid (p : Nat) : Fld := ⟨LINK_TS_STAT p, 0, 1⟩
def LINK_TS_STAT_probing (p : Nat) : Fld := ⟨LINK_TS_STAT p, 1, 1⟩
def LINK_TS_STAT_probe_fail (p : Nat) : Fld := ⟨LINK_TS_STAT p, 8, 8⟩
def LINK_TS_STAT_samples (p : Nat) : Fld := ⟨LINK_TS_STAT p, 16, 16⟩
/-- `MEM_CFG`, chapter 12. -/
def MEM_CFG : Nat := 0x3000000
def MEM_CFG_hbm_rate : Fld := ⟨MEM_CFG, 0, 2⟩
def MEM_CFG_fallback : Fld := ⟨MEM_CFG, 2, 1⟩
def MEM_CFG_ddr_rate : Fld := ⟨MEM_CFG, 4, 2⟩
def MEM_CFG_hot_on : Fld := ⟨MEM_CFG, 8, 8⟩
def MEM_CFG_hot_off : Fld := ⟨MEM_CFG, 16, 8⟩
/-- `MEM_STAT`, chapter 12. -/
def MEM_STAT : Nat := 0x3000004
def MEM_STAT_hbm_ok : Fld := ⟨MEM_STAT, 0, 8⟩
def MEM_STAT_ddr_ok : Fld := ⟨MEM_STAT, 8, 8⟩
def MEM_STAT_tier : Fld := ⟨MEM_STAT, 16, 2⟩
def MEM_STAT_hbm_got : Fld := ⟨MEM_STAT, 18, 2⟩
def MEM_STAT_cap : Fld := ⟨MEM_STAT, 20, 9⟩
def MEM_STAT_cleared : Fld := ⟨MEM_STAT, 29, 1⟩
/-- `MEM_DEPOT_PART`, chapter 12. -/
def MEM_DEPOT_PART : Nat := 0x3000010
def MEM_DEPOT_PART_sched_base : Fld := ⟨MEM_DEPOT_PART, 0, 8⟩
def MEM_DEPOT_PART_stage_base : Fld := ⟨MEM_DEPOT_PART, 8, 8⟩
def MEM_DEPOT_PART_stage_size : Fld := ⟨MEM_DEPOT_PART, 16, 9⟩
/-- `MEM_DEPOT_STAT`, chapter 12. -/
def MEM_DEPOT_STAT : Nat := 0x3000014
def MEM_DEPOT_STAT_refused : Fld := ⟨MEM_DEPOT_STAT, 0, 1⟩
/-- `MEM_STAGE_RING`, chapter 12. -/
def MEM_STAGE_RING : Nat := 0x3000020
def MEM_STAGE_RING_base : Fld := ⟨MEM_STAGE_RING, 5, 43⟩
def MEM_STAGE_RING_size : Fld := ⟨MEM_STAGE_RING + 4, 16, 16⟩
/-- `MEM_STAGE_TAIL`, chapter 12. -/
def MEM_STAGE_TAIL : Nat := 0x3000028
def MEM_STAGE_TAIL_tail : Fld := ⟨MEM_STAGE_TAIL, 0, 32⟩
/-- `MEM_STAGE_HEAD`, chapter 12. -/
def MEM_STAGE_HEAD : Nat := 0x300002c
def MEM_STAGE_HEAD_head : Fld := ⟨MEM_STAGE_HEAD, 0, 32⟩
/-- `MEM_STAGE_STAT`, chapter 12. -/
def MEM_STAGE_STAT : Nat := 0x3000030
def MEM_STAGE_STAT_busy : Fld := ⟨MEM_STAGE_STAT, 0, 1⟩
def MEM_STAGE_STAT_waiting : Fld := ⟨MEM_STAGE_STAT, 1, 1⟩
def MEM_STAGE_STAT_err : Fld := ⟨MEM_STAGE_STAT, 2, 1⟩
def MEM_STAGE_STAT_tag : Fld := ⟨MEM_STAGE_STAT, 8, 24⟩
/-- `MEM_PF`, chapter 12. -/
def MEM_PF : Nat := 0x3000034
def MEM_PF_depth : Fld := ⟨MEM_PF, 0, 4⟩
/-- `MEM_SCRUB`, chapter 12. -/
def MEM_SCRUB : Nat := 0x3000038
def MEM_SCRUB_enable : Fld := ⟨MEM_SCRUB, 0, 1⟩
def MEM_SCRUB_interval : Fld := ⟨MEM_SCRUB, 16, 16⟩
/-- `MEM_ECC_LAST`, chapter 12. -/
def MEM_ECC_LAST : Nat := 0x3000040
def MEM_ECC_LAST_addr : Fld := ⟨MEM_ECC_LAST, 0, 48⟩
def MEM_ECC_LAST_dev : Fld := ⟨MEM_ECC_LAST + 4, 16, 5⟩
def MEM_ECC_LAST_poison : Fld := ⟨MEM_ECC_LAST + 4, 21, 1⟩
def MEM_ECC_LAST_valid : Fld := ⟨MEM_ECC_LAST + 4, 31, 1⟩
/-- `MEM_DEV_d`, chapter 12. -/
def MEM_DEV (d : Nat) : Nat := 0x3000100 + 4 * d
def MEM_DEV_ce (d : Nat) : Fld := ⟨MEM_DEV d, 0, 16⟩
def MEM_DEV_ue (d : Nat) : Fld := ⟨MEM_DEV d, 16, 8⟩
def MEM_DEV_hot (d : Nat) : Fld := ⟨MEM_DEV d, 24, 1⟩
/-- `MEM_LOAD_RING`, chapter 13. -/
def MEM_LOAD_RING : Nat := 0x3000200
def MEM_LOAD_RING_base : Fld := ⟨MEM_LOAD_RING, 6, 42⟩
def MEM_LOAD_RING_size : Fld := ⟨MEM_LOAD_RING + 4, 16, 16⟩
/-- `MEM_LOAD_TAIL`, chapter 13. -/
def MEM_LOAD_TAIL : Nat := 0x3000208
def MEM_LOAD_TAIL_tail : Fld := ⟨MEM_LOAD_TAIL, 0, 32⟩
/-- `MEM_LOAD_HEAD`, chapter 13. -/
def MEM_LOAD_HEAD : Nat := 0x300020c
def MEM_LOAD_HEAD_head : Fld := ⟨MEM_LOAD_HEAD, 0, 32⟩
/-- `MEM_LOAD_DONE`, chapter 13. -/
def MEM_LOAD_DONE : Nat := 0x3000210
def MEM_LOAD_DONE_done : Fld := ⟨MEM_LOAD_DONE, 0, 32⟩
/-- `MEM_LOAD_CFG`, chapter 13. -/
def MEM_LOAD_CFG : Nat := 0x3000214
def MEM_LOAD_CFG_timeout : Fld := ⟨MEM_LOAD_CFG, 0, 16⟩
/-- `MEM_LOAD_STAT`, chapter 13. -/
def MEM_LOAD_STAT : Nat := 0x3000218
def MEM_LOAD_STAT_active : Fld := ⟨MEM_LOAD_STAT, 0, 7⟩
def MEM_LOAD_STAT_retries : Fld := ⟨MEM_LOAD_STAT, 8, 8⟩
def MEM_LOAD_STAT_failed : Fld := ⟨MEM_LOAD_STAT, 16, 8⟩
def MEM_LOAD_STAT_fault : Fld := ⟨MEM_LOAD_STAT, 24, 1⟩
/-- `MEM_LOAD_LAST`, chapter 13. -/
def MEM_LOAD_LAST : Nat := 0x3000220
def MEM_LOAD_LAST_tag : Fld := ⟨MEM_LOAD_LAST, 0, 24⟩
def MEM_LOAD_LAST_outcome : Fld := ⟨MEM_LOAD_LAST, 24, 2⟩
def MEM_LOAD_LAST_attempts : Fld := ⟨MEM_LOAD_LAST, 26, 2⟩
def MEM_LOAD_LAST_verified : Fld := ⟨MEM_LOAD_LAST + 4, 0, 32⟩
/-- `GEN_OWN_STAT`, chapter 14. -/
def GEN_OWN_STAT : Nat := 0x100
def GEN_OWN_STAT_owner : Fld := ⟨GEN_OWN_STAT, 0, 3⟩
def GEN_OWN_STAT_offer : Fld := ⟨GEN_OWN_STAT, 3, 3⟩
def GEN_OWN_STAT_left : Fld := ⟨GEN_OWN_STAT, 8, 6⟩
def GEN_OWN_STAT_epoch : Fld := ⟨GEN_OWN_STAT, 16, 16⟩
/-- `GEN_OWN_CFG`, chapter 14. -/
def GEN_OWN_CFG : Nat := 0x104
def GEN_OWN_CFG_lease : Fld := ⟨GEN_OWN_CFG, 0, 6⟩
/-- `GEN_OWN_CMD`, chapter 14. -/
def GEN_OWN_CMD : Nat := 0x108
def GEN_OWN_CMD_op : Fld := ⟨GEN_OWN_CMD, 0, 3⟩
def GEN_OWN_CMD_target : Fld := ⟨GEN_OWN_CMD, 4, 3⟩
/-- `GEN_OWN_REFUSED`, chapter 14. -/
def GEN_OWN_REFUSED : Nat := 0x10c
def GEN_OWN_REFUSED_count : Fld := ⟨GEN_OWN_REFUSED, 0, 32⟩
/-- `WLINK_CTL`, chapter 14. -/
def WLINK_CTL (p : Nat) : Nat := 0x3400000 + 0x10000 * p + 0x0
def WLINK_CTL_enable (p : Nat) : Fld := ⟨WLINK_CTL p, 0, 1⟩
def WLINK_CTL_retrain (p : Nat) : Fld := ⟨WLINK_CTL p, 1, 1⟩
def WLINK_CTL_width_max (p : Nat) : Fld := ⟨WLINK_CTL p, 2, 1⟩
def WLINK_CTL_half_rate (p : Nat) : Fld := ⟨WLINK_CTL p, 3, 1⟩
/-- `WLINK_CFG`, chapter 14. -/
def WLINK_CFG (p : Nat) : Nat := 0x3400000 + 0x10000 * p + 0x4
def WLINK_CFG_grace (p : Nat) : Fld := ⟨WLINK_CFG p, 0, 14⟩
/-- `WLINK_STAT`, chapter 14. -/
def WLINK_STAT (p : Nat) : Nat := 0x3400000 + 0x10000 * p + 0x8
def WLINK_STAT_state (p : Nat) : Fld := ⟨WLINK_STAT p, 0, 3⟩
def WLINK_STAT_width (p : Nat) : Fld := ⟨WLINK_STAT p, 3, 2⟩
def WLINK_STAT_half (p : Nat) : Fld := ⟨WLINK_STAT p, 5, 1⟩
def WLINK_STAT_degraded (p : Nat) : Fld := ⟨WLINK_STAT p, 6, 1⟩
def WLINK_STAT_grace (p : Nat) : Fld := ⟨WLINK_STAT p, 7, 1⟩
def WLINK_STAT_flushed (p : Nat) : Fld := ⟨WLINK_STAT p, 8, 1⟩
/-- `WLINK_ERR`, chapter 14. -/
def WLINK_ERR (p : Nat) : Nat := 0x3400000 + 0x10000 * p + 0xc
def WLINK_ERR_crc (p : Nat) : Fld := ⟨WLINK_ERR p, 0, 16⟩
def WLINK_ERR_replays (p : Nat) : Fld := ⟨WLINK_ERR p, 16, 8⟩
def WLINK_ERR_retrains (p : Nat) : Fld := ⟨WLINK_ERR p, 24, 8⟩
/-- `WLINK_CBASE`, chapter 14. -/
def WLINK_CBASE (p : Nat) : Nat := 0x3400000 + 0x10000 * p + 0x10
def WLINK_CBASE_base (p : Nat) : Fld := ⟨WLINK_CBASE p, 6, 46⟩
/-- `WLINK_PACE`, chapter 14. -/
def WLINK_PACE (p : Nat) : Nat := 0x3400000 + 0x10000 * p + 0x18
def WLINK_PACE_enable (p : Nat) : Fld := ⟨WLINK_PACE p, 0, 1⟩
def WLINK_PACE_addr (p : Nat) : Fld := ⟨WLINK_PACE p, 6, 42⟩
/-- `WLINK_EVR`, chapter 14. -/
def WLINK_EVR (p : Nat) : Nat := 0x3400000 + 0x10000 * p + 0x20
def WLINK_EVR_enable (p : Nat) : Fld := ⟨WLINK_EVR p, 0, 1⟩
def WLINK_EVR_base (p : Nat) : Fld := ⟨WLINK_EVR p, 6, 42⟩
def WLINK_EVR_size (p : Nat) : Fld := ⟨WLINK_EVR p + 4, 16, 16⟩
/-- `WLINK_EVR_STAT`, chapter 14. -/
def WLINK_EVR_STAT (p : Nat) : Nat := 0x3400000 + 0x10000 * p + 0x28
def WLINK_EVR_STAT_prod (p : Nat) : Fld := ⟨WLINK_EVR_STAT p, 0, 16⟩
def WLINK_EVR_STAT_held (p : Nat) : Fld := ⟨WLINK_EVR_STAT p, 16, 8⟩
def WLINK_EVR_STAT_dropped (p : Nat) : Fld := ⟨WLINK_EVR_STAT p, 31, 1⟩
/-- `WLINK_INT`, chapter 14. -/
def WLINK_INT (p : Nat) : Nat := 0x3400000 + 0x10000 * p + 0x30
def WLINK_INT_addr (p : Nat) : Fld := ⟨WLINK_INT p, 2, 46⟩
/-- `WLINK_INT_CFG`, chapter 14. -/
def WLINK_INT_CFG (p : Nat) : Nat := 0x3400000 + 0x10000 * p + 0x38
def WLINK_INT_CFG_value (p : Nat) : Fld := ⟨WLINK_INT_CFG p, 0, 16⟩
def WLINK_INT_CFG_gap (p : Nat) : Fld := ⟨WLINK_INT_CFG p, 16, 15⟩
def WLINK_INT_CFG_enable (p : Nat) : Fld := ⟨WLINK_INT_CFG p, 31, 1⟩
/-- `WLINK_DWIN_k`, chapter 14. -/
def WLINK_DWIN (p k : Nat) : Nat := 0x3400000 + 0x10000 * p + 0x100 + 16 * k
def WLINK_DWIN_valid (p k : Nat) : Fld := ⟨WLINK_DWIN p k, 0, 1⟩
def WLINK_DWIN_size (p k : Nat) : Fld := ⟨WLINK_DWIN p k, 16, 16⟩
def WLINK_DWIN_base (p k : Nat) : Fld := ⟨WLINK_DWIN p k + 4, 0, 16⟩
def WLINK_DWIN_dev (p k : Nat) : Fld := ⟨WLINK_DWIN p k + 8, 0, 48⟩
/-- `WLINK_BQ_CFG`, chapter 14. -/
def WLINK_BQ_CFG : Nat := 0x3420000
def WLINK_BQ_CFG_pub_ac : Fld := ⟨WLINK_BQ_CFG, 0, 12⟩
def WLINK_BQ_CFG_evport : Fld := ⟨WLINK_BQ_CFG, 12, 1⟩
def WLINK_BQ_CFG_open_ac : Fld := ⟨WLINK_BQ_CFG, 16, 12⟩
def WLINK_BQ_CFG_enable : Fld := ⟨WLINK_BQ_CFG, 31, 1⟩
/-- `WLINK_BQ_STAT`, chapter 14. -/
def WLINK_BQ_STAT : Nat := 0x3420004
def WLINK_BQ_STAT_open : Fld := ⟨WLINK_BQ_STAT, 0, 1⟩
def WLINK_BQ_STAT_stopped : Fld := ⟨WLINK_BQ_STAT, 1, 1⟩
def WLINK_BQ_STAT_end_wait : Fld := ⟨WLINK_BQ_STAT, 2, 1⟩
def WLINK_BQ_STAT_next : Fld := ⟨WLINK_BQ_STAT, 3, 29⟩
/-- `WLINK_BQ_HDR`, chapter 14. -/
def WLINK_BQ_HDR : Nat := 0x3420008
def WLINK_BQ_HDR_base : Fld := ⟨WLINK_BQ_HDR, 7, 41⟩
def WLINK_BQ_HDR_size : Fld := ⟨WLINK_BQ_HDR + 4, 16, 16⟩
/-- `WLINK_MGMT`, chapter 14. -/
def WLINK_MGMT : Nat := 0x3420100
def WLINK_MGMT_static : Fld := ⟨WLINK_MGMT, 0, 7⟩
def WLINK_MGMT_i3c : Fld := ⟨WLINK_MGMT, 7, 1⟩
def WLINK_MGMT_dynamic : Fld := ⟨WLINK_MGMT, 8, 7⟩
def WLINK_MGMT_pec : Fld := ⟨WLINK_MGMT, 15, 1⟩
def WLINK_MGMT_ibi : Fld := ⟨WLINK_MGMT, 16, 1⟩
/-- `GEN_PART`, chapter 15. -/
def GEN_PART : Nat := 0x0
def GEN_PART_part : Fld := ⟨GEN_PART, 0, 16⟩
def GEN_PART_code : Fld := ⟨GEN_PART, 16, 1⟩
def GEN_PART_rev : Fld := ⟨GEN_PART, 24, 8⟩
/-- `GEN_UID`, chapter 15. -/
def GEN_UID : Nat := 0x8
def GEN_UID_identity : Fld := ⟨GEN_UID, 0, 64⟩
/-- `GEN_IDCODE`, chapter 15. -/
def GEN_IDCODE : Nat := 0x10
def GEN_IDCODE_idcode : Fld := ⟨GEN_IDCODE, 0, 32⟩
/-- `BOOT_CTL`, chapter 15. -/
def BOOT_CTL : Nat := 0x100000
def BOOT_CTL_go : Fld := ⟨BOOT_CTL, 0, 1⟩
def BOOT_CTL_src : Fld := ⟨BOOT_CTL, 1, 2⟩
def BOOT_CTL_resume : Fld := ⟨BOOT_CTL, 3, 1⟩
def BOOT_CTL_hold : Fld := ⟨BOOT_CTL, 4, 6⟩
/-- `BOOT_STAT`, chapter 15. -/
def BOOT_STAT : Nat := 0x100004
def BOOT_STAT_step : Fld := ⟨BOOT_STAT, 0, 4⟩
def BOOT_STAT_held : Fld := ⟨BOOT_STAT, 4, 1⟩
def BOOT_STAT_failed : Fld := ⟨BOOT_STAT, 5, 1⟩
def BOOT_STAT_error : Fld := ⟨BOOT_STAT, 8, 4⟩
/-- `BOOT_IMG_ADDR`, chapter 15. -/
def BOOT_IMG_ADDR : Nat := 0x100008
def BOOT_IMG_ADDR_addr : Fld := ⟨BOOT_IMG_ADDR, 6, 42⟩
/-- `BOOT_IMG_INFO`, chapter 15. -/
def BOOT_IMG_INFO : Nat := 0x100010
def BOOT_IMG_INFO_sv : Fld := ⟨BOOT_IMG_INFO, 0, 7⟩
def BOOT_IMG_INFO_core1 : Fld := ⟨BOOT_IMG_INFO, 7, 1⟩
def BOOT_IMG_INFO_size : Fld := ⟨BOOT_IMG_INFO, 8, 15⟩
def BOOT_IMG_INFO_valid : Fld := ⟨BOOT_IMG_INFO, 31, 1⟩
/-- `BOOT_IMG_DIGEST_k`, chapter 15. -/
def BOOT_IMG_DIGEST (k : Nat) : Nat := 0x100020 + 4 * k
def BOOT_IMG_DIGEST_digest (k : Nat) : Fld := ⟨BOOT_IMG_DIGEST k, 0, 32⟩
/-- `BOOT_ROLL`, chapter 15. -/
def BOOT_ROLL : Nat := 0x100040
def BOOT_ROLL_count : Fld := ⟨BOOT_ROLL, 0, 7⟩
def BOOT_ROLL_value : Fld := ⟨BOOT_ROLL, 8, 7⟩
def BOOT_ROLL_commit : Fld := ⟨BOOT_ROLL, 15, 1⟩
def BOOT_ROLL_busy : Fld := ⟨BOOT_ROLL, 16, 1⟩
/-- `BOOT_RESET`, chapter 15. -/
def BOOT_RESET : Nat := 0x100044
def BOOT_RESET_compute : Fld := ⟨BOOT_RESET, 0, 1⟩
def BOOT_RESET_warm : Fld := ⟨BOOT_RESET, 1, 1⟩
def BOOT_RESET_module : Fld := ⟨BOOT_RESET, 2, 1⟩
/-- `BOOT_FUSE`, chapter 15. -/
def BOOT_FUSE : Nat := 0x100048
def BOOT_FUSE_dbg_lock : Fld := ⟨BOOT_FUSE, 0, 1⟩
def BOOT_FUSE_confirm : Fld := ⟨BOOT_FUSE, 8, 8⟩
def BOOT_FUSE_blow_dbg : Fld := ⟨BOOT_FUSE, 16, 1⟩
/-- `BOOT_ATT_CTL`, chapter 15. -/
def BOOT_ATT_CTL : Nat := 0x100050
def BOOT_ATT_CTL_start : Fld := ⟨BOOT_ATT_CTL, 0, 1⟩
/-- `BOOT_ATT_STAT`, chapter 15. -/
def BOOT_ATT_STAT : Nat := 0x100054
def BOOT_ATT_STAT_state : Fld := ⟨BOOT_ATT_STAT, 0, 2⟩
def BOOT_ATT_STAT_exhausted : Fld := ⟨BOOT_ATT_STAT, 2, 1⟩
def BOOT_ATT_STAT_store_bad : Fld := ⟨BOOT_ATT_STAT, 3, 1⟩
def BOOT_ATT_STAT_next : Fld := ⟨BOOT_ATT_STAT, 8, 21⟩
/-- `BOOT_ATT_NONCE_k`, chapter 15. -/
def BOOT_ATT_NONCE (k : Nat) : Nat := 0x100060 + 4 * k
def BOOT_ATT_NONCE_nonce (k : Nat) : Fld := ⟨BOOT_ATT_NONCE k, 0, 32⟩
/-- `BOOT_ATT_OUT_k`, chapter 15. -/
def BOOT_ATT_OUT (k : Nat) : Nat := 0x101000 + 4 * k
def BOOT_ATT_OUT_data (k : Nat) : Fld := ⟨BOOT_ATT_OUT k, 0, 32⟩
/-- `BOOT_CERT_k`, chapter 15. -/
def BOOT_CERT (k : Nat) : Nat := 0x102000 + 4 * k
def BOOT_CERT_data (k : Nat) : Fld := ⟨BOOT_CERT k, 0, 32⟩
/-- `FAULT_CFG`, chapter 16. -/
def FAULT_CFG : Nat := 0x3600000
def FAULT_CFG_up_path : Fld := ⟨FAULT_CFG, 0, 16⟩
def FAULT_CFG_ev_mask : Fld := ⟨FAULT_CFG, 16, 10⟩
def FAULT_CFG_evport : Fld := ⟨FAULT_CFG, 26, 1⟩
def FAULT_CFG_log_window : Fld := ⟨FAULT_CFG, 27, 4⟩
/-- `FAULT_STAT`, chapter 16. -/
def FAULT_STAT : Nat := 0x3600004
def FAULT_STAT_lost : Fld := ⟨FAULT_STAT, 0, 16⟩
def FAULT_STAT_unsent : Fld := ⟨FAULT_STAT, 16, 8⟩
def FAULT_STAT_pending : Fld := ⟨FAULT_STAT, 24, 1⟩
def FAULT_STAT_stopped : Fld := ⟨FAULT_STAT, 25, 1⟩
/-- `FAULT_LOG_PROD`, chapter 16. -/
def FAULT_LOG_PROD : Nat := 0x3600008
def FAULT_LOG_PROD_prod : Fld := ⟨FAULT_LOG_PROD, 0, 32⟩
/-- `FAULT_LOG_CONS`, chapter 16. -/
def FAULT_LOG_CONS : Nat := 0x360000c
def FAULT_LOG_CONS_cons : Fld := ⟨FAULT_LOG_CONS, 0, 32⟩
/-- `FAULT_STOP`, chapter 16. -/
def FAULT_STOP : Nat := 0x3600010
def FAULT_STOP_code : Fld := ⟨FAULT_STOP, 0, 16⟩
def FAULT_STOP_subject : Fld := ⟨FAULT_STOP, 16, 17⟩
def FAULT_STOP_slice : Fld := ⟨FAULT_STOP + 4, 16, 16⟩
/-- `FAULT_TWIN_CTL`, chapter 16. -/
def FAULT_TWIN_CTL : Nat := 0x3600020
def FAULT_TWIN_CTL_enable : Fld := ⟨FAULT_TWIN_CTL, 0, 1⟩
/-- `FAULT_TWIN_STAT`, chapter 16. -/
def FAULT_TWIN_STAT : Nat := 0x3600024
def FAULT_TWIN_STAT_active : Fld := ⟨FAULT_TWIN_STAT, 0, 1⟩
def FAULT_TWIN_STAT_diverged : Fld := ⟨FAULT_TWIN_STAT, 1, 1⟩
def FAULT_TWIN_STAT_pending : Fld := ⟨FAULT_TWIN_STAT, 2, 5⟩
def FAULT_TWIN_STAT_frame : Fld := ⟨FAULT_TWIN_STAT, 8, 24⟩
/-- `FAULT_TWIN_DIG_0`, chapter 16. -/
def FAULT_TWIN_DIG_0 : Nat := 0x3600028
def FAULT_TWIN_DIG_0_digest : Fld := ⟨FAULT_TWIN_DIG_0, 0, 64⟩
/-- `FAULT_TWIN_DIG_1`, chapter 16. -/
def FAULT_TWIN_DIG_1 : Nat := 0x3600030
def FAULT_TWIN_DIG_1_digest : Fld := ⟨FAULT_TWIN_DIG_1, 0, 64⟩
/-- `FAULT_TRACE_CTL`, chapter 16. -/
def FAULT_TRACE_CTL : Nat := 0x3600040
def FAULT_TRACE_CTL_enable : Fld := ⟨FAULT_TRACE_CTL, 0, 1⟩
def FAULT_TRACE_CTL_mask : Fld := ⟨FAULT_TRACE_CTL, 1, 6⟩
/-- `FAULT_TRACE_RING`, chapter 16. -/
def FAULT_TRACE_RING : Nat := 0x3600048
def FAULT_TRACE_RING_base : Fld := ⟨FAULT_TRACE_RING, 4, 44⟩
def FAULT_TRACE_RING_size : Fld := ⟨FAULT_TRACE_RING + 4, 16, 16⟩
/-- `FAULT_TRACE_PROD`, chapter 16. -/
def FAULT_TRACE_PROD : Nat := 0x3600050
def FAULT_TRACE_PROD_prod : Fld := ⟨FAULT_TRACE_PROD, 0, 32⟩
/-- `FAULT_LOG_k`, chapter 16. -/
def FAULT_LOG (k : Nat) : Nat := 0x3608000 + 4 * k
def FAULT_LOG_data (k : Nat) : Fld := ⟨FAULT_LOG k, 0, 32⟩
/-- `CART_ID`, chapter 17. -/
def CART_ID : Nat := 0x3800000
def CART_ID_identity : Fld := ⟨CART_ID, 0, 64⟩
/-- `CART_STAT`, chapter 17. -/
def CART_STAT : Nat := 0x3800008
def CART_STAT_open : Fld := ⟨CART_STAT, 0, 1⟩
def CART_STAT_verified : Fld := ⟨CART_STAT, 1, 1⟩
def CART_STAT_s_code : Fld := ⟨CART_STAT, 2, 1⟩
def CART_STAT_exhausted : Fld := ⟨CART_STAT, 3, 1⟩
def CART_STAT_store_bad : Fld := ⟨CART_STAT, 4, 1⟩
def CART_STAT_moved : Fld := ⟨CART_STAT, 5, 1⟩
def CART_STAT_pending : Fld := ⟨CART_STAT, 6, 1⟩
def CART_STAT_out_of_range : Fld := ⟨CART_STAT, 7, 1⟩
def CART_STAT_last_result : Fld := ⟨CART_STAT, 8, 4⟩
def CART_STAT_temp : Fld := ⟨CART_STAT, 12, 8⟩
/-- `CART_CMD`, chapter 17. -/
def CART_CMD : Nat := 0x380000c
def CART_CMD_op : Fld := ⟨CART_CMD, 0, 2⟩
def CART_CMD_n : Fld := ⟨CART_CMD, 4, 8⟩
def CART_CMD_slice : Fld := ⟨CART_CMD, 16, 16⟩
/-- `CART_TOTAL`, chapter 17. -/
def CART_TOTAL : Nat := 0x3800010
def CART_TOTAL_mj : Fld := ⟨CART_TOTAL, 0, 64⟩
/-- `CART_POWER`, chapter 17. -/
def CART_POWER : Nat := 0x3800018
def CART_POWER_mw : Fld := ⟨CART_POWER, 0, 32⟩
/-- `CART_VI`, chapter 17. -/
def CART_VI : Nat := 0x380001c
def CART_VI_mv : Fld := ⟨CART_VI, 0, 16⟩
def CART_VI_ca : Fld := ⟨CART_VI, 16, 16⟩
/-- `CART_TENURE`, chapter 17. -/
def CART_TENURE : Nat := 0x3800020
def CART_TENURE_slice : Fld := ⟨CART_TENURE, 0, 16⟩
/-- `CART_REC`, chapter 17. -/
def CART_REC : Nat := 0x3800024
def CART_REC_count : Fld := ⟨CART_REC, 0, 32⟩
/-- `CART_COLL`, chapter 17. -/
def CART_COLL : Nat := 0x3800028
def CART_COLL_count : Fld := ⟨CART_COLL, 0, 32⟩
/-- `CART_SIG`, chapter 17. -/
def CART_SIG : Nat := 0x380002c
def CART_SIG_next : Fld := ⟨CART_SIG, 0, 21⟩
/-- `CART_TAMPER`, chapter 17. -/
def CART_TAMPER : Nat := 0x3800030
def CART_TAMPER_count : Fld := ⟨CART_TAMPER, 0, 16⟩
def CART_TAMPER_losses : Fld := ⟨CART_TAMPER, 16, 16⟩
/-- `CART_LOGN`, chapter 17. -/
def CART_LOGN : Nat := 0x3800034
def CART_LOGN_count : Fld := ⟨CART_LOGN, 0, 32⟩
/-- `CART_CERT_k`, chapter 17. -/
def CART_CERT (k : Nat) : Nat := 0x3801000 + 4 * k
def CART_CERT_data (k : Nat) : Fld := ⟨CART_CERT k, 0, 32⟩
/-- `CART_LOG_k`, chapter 17. -/
def CART_LOG (k : Nat) : Nat := 0x3810000 + 4 * k
def CART_LOG_data (k : Nat) : Fld := ⟨CART_LOG k, 0, 32⟩
/-- `CART_SLOT_k`, chapter 17. -/
def CART_SLOT (k : Nat) : Nat := 0x3880000 + 4 * k
def CART_SLOT_data (k : Nat) : Fld := ⟨CART_SLOT k, 0, 32⟩
/-- `PWR_IN_STAT`, chapter 18. -/
def PWR_IN_STAT : Nat := 0x200000
def PWR_IN_STAT_volts : Fld := ⟨PWR_IN_STAT, 0, 16⟩
def PWR_IN_STAT_amps : Fld := ⟨PWR_IN_STAT, 16, 16⟩
/-- `PWR_IN_CFG`, chapter 18. -/
def PWR_IN_CFG : Nat := 0x200004
def PWR_IN_CFG_cap : Fld := ⟨PWR_IN_CFG, 0, 11⟩
/-- `PWR_STAT`, chapter 18. -/
def PWR_STAT : Nat := 0x200008
def PWR_STAT_standby : Fld := ⟨PWR_STAT, 0, 1⟩
def PWR_STAT_main : Fld := ⟨PWR_STAT, 1, 1⟩
def PWR_STAT_undervolt : Fld := ⟨PWR_STAT, 2, 1⟩
def PWR_STAT_overvolt : Fld := ⟨PWR_STAT, 3, 1⟩
def PWR_STAT_overcurrent : Fld := ⟨PWR_STAT, 4, 1⟩
def PWR_STAT_fd_critical : Fld := ⟨PWR_STAT, 5, 1⟩
/-- `PWR_DOM_STAT`, chapter 18. -/
def PWR_DOM_STAT : Nat := 0x200010
def PWR_DOM_STAT_on : Fld := ⟨PWR_DOM_STAT, 0, 26⟩
/-- `PWR_DOM_OFF`, chapter 18. -/
def PWR_DOM_OFF : Nat := 0x200014
def PWR_DOM_OFF_global : Fld := ⟨PWR_DOM_OFF, 18, 1⟩
def PWR_DOM_OFF_ddr : Fld := ⟨PWR_DOM_OFF, 21, 1⟩
/-- `PWR_DOM_FAIL`, chapter 18. -/
def PWR_DOM_FAIL : Nat := 0x200018
def PWR_DOM_FAIL_fail : Fld := ⟨PWR_DOM_FAIL, 0, 26⟩
/-- `PWR_THERM_CFG`, chapter 18. -/
def PWR_THERM_CFG : Nat := 0x200020
def PWR_THERM_CFG_die_on : Fld := ⟨PWR_THERM_CFG, 0, 8⟩
def PWR_THERM_CFG_die_off : Fld := ⟨PWR_THERM_CFG, 8, 8⟩
def PWR_THERM_CFG_hbm_on : Fld := ⟨PWR_THERM_CFG, 16, 8⟩
def PWR_THERM_CFG_hbm_off : Fld := ⟨PWR_THERM_CFG, 24, 8⟩
/-- `PWR_THERM_STAT`, chapter 18. -/
def PWR_THERM_STAT : Nat := 0x200024
def PWR_THERM_STAT_throttle : Fld := ⟨PWR_THERM_STAT, 0, 16⟩
def PWR_THERM_STAT_capped : Fld := ⟨PWR_THERM_STAT, 16, 1⟩
def PWR_THERM_STAT_cd0_down : Fld := ⟨PWR_THERM_STAT, 17, 1⟩
def PWR_THERM_STAT_cd1_down : Fld := ⟨PWR_THERM_STAT, 18, 1⟩
/-- `PWR_SYNC_CTL`, chapter 18. -/
def PWR_SYNC_CTL : Nat := 0x200028
def PWR_SYNC_CTL_frame_en : Fld := ⟨PWR_SYNC_CTL, 0, 1⟩
def PWR_SYNC_CTL_twin_en : Fld := ⟨PWR_SYNC_CTL, 1, 1⟩
def PWR_SYNC_CTL_refused : Fld := ⟨PWR_SYNC_CTL, 2, 1⟩
/-- `PWR_TEMP_k`, chapter 18. -/
def PWR_TEMP (k : Nat) : Nat := 0x200100 + 4 * k
def PWR_TEMP_temp (k : Nat) : Fld := ⟨PWR_TEMP k, 0, 8⟩
def PWR_TEMP_valid (k : Nat) : Fld := ⟨PWR_TEMP k, 8, 1⟩
/-- `DBG_STAT`, chapter 19. -/
def DBG_STAT : Nat := 0x3c00000
def DBG_STAT_lock : Fld := ⟨DBG_STAT, 0, 1⟩
def DBG_STAT_ijtag : Fld := ⟨DBG_STAT, 1, 1⟩
def DBG_STAT_extest : Fld := ⟨DBG_STAT, 2, 1⟩

/-- The access masks of one 32-bit register (R7) and its value at reset. Bits in no mask are RO or reserved. -/
structure WordDesc where
  rw : Nat
  w1c : Nat
  wo : Nat
  rc : Nat
  reset : Nat
  deriving DecidableEq, Repr

/-- One row of a block's index: `count` copies, `stride` bytes apart, of a register of the words `words`. -/
structure RegRow where
  off : Nat
  count : Nat
  stride : Nat
  words : List WordDesc
  deriving DecidableEq, Repr

/-- The index of block GEN (chapter 19). -/
def rowsGEN : List RegRow := [
  ⟨0x100, 1, 0, [⟨0x0, 0x0, 0x0, 0x0, 0x0⟩]⟩,
  ⟨0x104, 1, 0, [⟨0x3f, 0x0, 0x0, 0x0, 0x5⟩]⟩,
  ⟨0x108, 1, 0, [⟨0x0, 0x0, 0x77, 0x0, 0x0⟩]⟩,
  ⟨0x10c, 1, 0, [⟨0x0, 0x0, 0x0, 0xffffffff, 0x0⟩]⟩,
  ⟨0x0, 1, 0, [⟨0x0, 0x0, 0x0, 0x0, 0xb0000b50⟩]⟩,
  ⟨0x8, 1, 0, [⟨0x0, 0x0, 0x0, 0x0, 0x0⟩, ⟨0x0, 0x0, 0x0, 0x0, 0x0⟩]⟩,
  ⟨0x10, 1, 0, [⟨0x0, 0x0, 0x0, 0x0, 0x10b5094b⟩]⟩]

/-- The index of block BOOT (chapter 19). -/
def rowsBOOT : List RegRow := [
  ⟨0x100000, 1, 0, [⟨0x3f6, 0x0, 0x9, 0x0, 0x200⟩]⟩,
  ⟨0x100004, 1, 0, [⟨0x0, 0x0, 0x0, 0x0, 0x1⟩]⟩,
  ⟨0x100008, 1, 0, [⟨0xffffffc0, 0x0, 0x0, 0x0, 0x0⟩, ⟨0xffff, 0x0, 0x0, 0x0, 0x0⟩]⟩,
  ⟨0x100010, 1, 0, [⟨0x0, 0x0, 0x0, 0x0, 0x0⟩]⟩,
  ⟨0x100020, 8, 4, [⟨0x0, 0x0, 0x0, 0x0, 0x0⟩]⟩,
  ⟨0x100040, 1, 0, [⟨0x7f00, 0x0, 0x8000, 0x0, 0x0⟩]⟩,
  ⟨0x100044, 1, 0, [⟨0x0, 0x0, 0x7, 0x0, 0x0⟩]⟩,
  ⟨0x100048, 1, 0, [⟨0x0, 0x0, 0x1ff00, 0x0, 0x0⟩]⟩,
  ⟨0x100050, 1, 0, [⟨0x0, 0x0, 0x1, 0x0, 0x0⟩]⟩,
  ⟨0x100054, 1, 0, [⟨0x0, 0x0, 0x0, 0x0, 0x0⟩]⟩,
  ⟨0x100060, 8, 4, [⟨0xffffffff, 0x0, 0x0, 0x0, 0x0⟩]⟩,
  ⟨0x101000, 1024, 4, [⟨0x0, 0x0, 0x0, 0x0, 0x0⟩]⟩,
  ⟨0x102000, 2048, 4, [⟨0x0, 0x0, 0x0, 0x0, 0x0⟩]⟩]

/-- The index of block PWR (chapter 19). -/
def rowsPWR : List RegRow := [
  ⟨0x201000, 16, 32, [⟨0x13f3f3f, 0x0, 0x0, 0x0, 0x383c00⟩]⟩,
  ⟨0x201004, 16, 32, [⟨0xffffffff, 0x0, 0x0, 0x0, 0x800100⟩]⟩,
  ⟨0x201008, 16, 32, [⟨0x0, 0x0, 0x0, 0x0, 0x38⟩]⟩,
  ⟨0x20100c, 16, 32, [⟨0x0, 0x0, 0x0, 0xffffffff, 0x0⟩]⟩,
  ⟨0x200000, 1, 0, [⟨0x0, 0x0, 0x0, 0x0, 0x0⟩]⟩,
  ⟨0x200004, 1, 0, [⟨0x7ff, 0x0, 0x0, 0x0, 0x6a4⟩]⟩,
  ⟨0x200008, 1, 0, [⟨0x0, 0x3c, 0x0, 0x0, 0x1⟩]⟩,
  ⟨0x200010, 1, 0, [⟨0x0, 0x0, 0x0, 0x0, 0x3c00000⟩]⟩,
  ⟨0x200014, 1, 0, [⟨0x240000, 0x0, 0x0, 0x0, 0x0⟩]⟩,
  ⟨0x200018, 1, 0, [⟨0x0, 0x3ffffff, 0x0, 0x0, 0x0⟩]⟩,
  ⟨0x200020, 1, 0, [⟨0xffffffff, 0x0, 0x0, 0x0, 0x5a5f5f64⟩]⟩,
  ⟨0x200024, 1, 0, [⟨0x0, 0x0, 0x0, 0x0, 0x0⟩]⟩,
  ⟨0x200028, 1, 0, [⟨0x3, 0x4, 0x0, 0x0, 0x0⟩]⟩,
  ⟨0x200100, 33, 4, [⟨0x0, 0x0, 0x0, 0x0, 0x0⟩]⟩]

/-- The index of block TIME (chapter 19). -/
def rowsTIME : List RegRow := [
  ⟨0x300000, 1, 0, [⟨0x0, 0x0, 0x0, 0x0, 0x0⟩, ⟨0x0, 0x0, 0x0, 0x0, 0x0⟩]⟩,
  ⟨0x300008, 1, 0, [⟨0x0, 0x0, 0x0, 0x0, 0x0⟩]⟩,
  ⟨0x300010, 1, 0, [⟨0xffff, 0x0, 0x0, 0x0, 0x0⟩]⟩,
  ⟨0x300018, 1, 0, [⟨0xffffffff, 0x0, 0x0, 0x0, 0x0⟩, ⟨0xffff, 0x0, 0x0, 0x0, 0x0⟩]⟩,
  ⟨0x300020, 1, 0, [⟨0x0, 0x0, 0x0, 0x0, 0x0⟩, ⟨0x0, 0x0, 0x0, 0x0, 0x0⟩]⟩,
  ⟨0x300028, 1, 0, [⟨0xff, 0x0, 0x0, 0x0, 0x8⟩]⟩,
  ⟨0x30002c, 1, 0, [⟨0x0, 0x2000000, 0x0, 0x0, 0x0⟩]⟩,
  ⟨0x300030, 1, 0, [⟨0x0, 0x0, 0x0, 0xffffffff, 0x0⟩]⟩,
  ⟨0x300034, 1, 0, [⟨0x0, 0x0, 0x0, 0xffffffff, 0x0⟩]⟩,
  ⟨0x300040, 15, 4, [⟨0x0, 0x80, 0x0, 0x0, 0x0⟩]⟩,
  ⟨0x300080, 1, 0, [⟨0xff01, 0x0, 0x0, 0x0, 0x0⟩]⟩,
  ⟨0x300084, 1, 0, [⟨0xffff0fff, 0x0, 0x0, 0x0, 0x0⟩]⟩,
  ⟨0x300088, 1, 0, [⟨0x0, 0x0, 0x0, 0x0, 0x0⟩]⟩,
  ⟨0x300100, 1, 0, [⟨0x3, 0x0, 0xc, 0x0, 0x0⟩]⟩,
  ⟨0x300104, 1, 0, [⟨0xffffff, 0x0, 0x0, 0x0, 0x6404⟩]⟩,
  ⟨0x300108, 1, 0, [⟨0x0, 0x0, 0x0, 0x0, 0x0⟩]⟩,
  ⟨0x300110, 2, 4, [⟨0x0, 0x0, 0x0, 0x0, 0x0⟩]⟩,
  ⟨0x300118, 2, 4, [⟨0xfffff, 0x0, 0x0, 0x0, 0x0⟩]⟩,
  ⟨0x300120, 2, 8, [⟨0x0, 0x0, 0x0, 0x0, 0x0⟩, ⟨0x0, 0x0, 0x0, 0x0, 0x0⟩]⟩,
  ⟨0x300130, 1, 0, [⟨0x0, 0x0, 0x0, 0xffffffff, 0x0⟩]⟩,
  ⟨0x300140, 1, 0, [⟨0xffff, 0x0, 0x0, 0x0, 0x3200⟩]⟩]

/-- The index of block LINK (chapter 19). -/
def rowsLINK : List RegRow := [
  ⟨0x0, 1, 0, [⟨0xd, 0x0, 0x2, 0x0, 0x1⟩]⟩,
  ⟨0x4, 1, 0, [⟨0xff7fff, 0x0, 0x0, 0x0, 0x400064⟩]⟩,
  ⟨0x8, 1, 0, [⟨0x0, 0x8000, 0x0, 0x0, 0x0⟩]⟩,
  ⟨0xc, 1, 0, [⟨0x0, 0x0, 0x0, 0x0, 0x0⟩]⟩,
  ⟨0x10, 1, 0, [⟨0x0, 0x0, 0x0, 0x0, 0x0⟩, ⟨0x0, 0x0, 0x0, 0x0, 0x0⟩]⟩,
  ⟨0x18, 1, 0, [⟨0x0, 0x0, 0x0, 0x0, 0x0⟩]⟩,
  ⟨0x20, 1, 0, [⟨0x0, 0x0, 0x0, 0x0, 0xfff000⟩]⟩,
  ⟨0x24, 1, 0, [⟨0x0, 0x0, 0x0, 0x0, 0x2018200⟩]⟩,
  ⟨0x28, 1, 0, [⟨0x0, 0x0, 0x0, 0x0, 0x380⟩]⟩,
  ⟨0x40, 1, 0, [⟨0x0, 0x0, 0x0, 0xffffffff, 0x0⟩, ⟨0x0, 0x0, 0x0, 0xffffffff, 0x0⟩]⟩,
  ⟨0x48, 1, 0, [⟨0x0, 0x0, 0x0, 0xffffffff, 0x0⟩]⟩,
  ⟨0x4c, 1, 0, [⟨0x0, 0x0, 0x0, 0xffffffff, 0x0⟩]⟩,
  ⟨0x50, 1, 0, [⟨0x0, 0x0, 0x0, 0xffffffff, 0x0⟩]⟩,
  ⟨0x54, 1, 0, [⟨0x0, 0x0, 0x0, 0xffffffff, 0x0⟩]⟩,
  ⟨0x58, 1, 0, [⟨0x0, 0x0, 0x0, 0xffffffff, 0x0⟩]⟩,
  ⟨0x5c, 1, 0, [⟨0x0, 0x0, 0x0, 0xffffffff, 0x0⟩]⟩,
  ⟨0x60, 1, 0, [⟨0x0, 0x1f, 0x0, 0x0, 0x0⟩]⟩,
  ⟨0x64, 1, 0, [⟨0x0, 0x0, 0x0, 0xffffffff, 0x0⟩]⟩,
  ⟨0x80, 8, 4, [⟨0x0, 0x20000, 0x0, 0x0, 0x0⟩]⟩,
  ⟨0x1000, 1, 0, [⟨0x1, 0x2, 0x0, 0x0, 0x1⟩]⟩,
  ⟨0x1004, 1, 0, [⟨0x0, 0x0, 0x0, 0xffffffff, 0x0⟩]⟩,
  ⟨0x1100, 1024, 16, [⟨0xffffffff, 0x0, 0x0, 0x0, 0x0⟩, ⟨0xffffffff, 0x0, 0x0, 0x0, 0x0⟩, ⟨0xffffffff, 0x0, 0x0, 0x0, 0x0⟩, ⟨0xffffffff, 0x0, 0x0, 0x0, 0x0⟩]⟩,
  ⟨0x100, 1, 0, [⟨0x1, 0x0, 0x2, 0x0, 0x0⟩]⟩,
  ⟨0x104, 1, 0, [⟨0xfffff, 0x0, 0x0, 0x0, 0x0⟩]⟩,
  ⟨0x108, 1, 0, [⟨0xfffff, 0x0, 0x0, 0x0, 0x0⟩]⟩,
  ⟨0x110, 1, 0, [⟨0x0, 0x0, 0x0, 0x0, 0x0⟩]⟩,
  ⟨0x114, 1, 0, [⟨0x0, 0x0, 0x0, 0x0, 0x0⟩]⟩,
  ⟨0x118, 1, 0, [⟨0x0, 0x0, 0x0, 0x0, 0x0⟩]⟩,
  ⟨0x11c, 1, 0, [⟨0x0, 0x0, 0x0, 0x0, 0x0⟩]⟩,
  ⟨0x120, 1, 0, [⟨0x0, 0x0, 0x0, 0x0, 0x0⟩]⟩]

/-- The index of block FAB (chapter 19). -/
def rowsFAB : List RegRow := [
  ⟨0x60e000, 1, 0, [⟨0x3ff, 0x0, 0x0, 0x0, 0x0⟩]⟩,
  ⟨0x60e004, 1, 0, [⟨0x0, 0x0, 0x1, 0x0, 0x0⟩]⟩,
  ⟨0x60e008, 1, 0, [⟨0x0, 0x1, 0x0, 0x0, 0x0⟩]⟩,
  ⟨0x60e020, 8, 4, [⟨0xffffffff, 0x0, 0x0, 0x0, 0x0⟩]⟩,
  ⟨0x600000, 1, 0, [⟨0xffff, 0x0, 0x0, 0x0, 0x0⟩]⟩,
  ⟨0x600004, 1, 0, [⟨0x0, 0x0, 0x0, 0x0, 0x0⟩]⟩,
  ⟨0x600008, 1, 0, [⟨0x0, 0x0, 0x0, 0xffff0000, 0x0⟩]⟩,
  ⟨0x600010, 1, 0, [⟨0x80000000, 0x0, 0x0, 0x0, 0x0⟩, ⟨0xffff, 0x0, 0x0, 0x0, 0x0⟩]⟩,
  ⟨0x600018, 1, 0, [⟨0x0, 0x0, 0x0, 0xffffffff, 0x0⟩]⟩,
  ⟨0x60001c, 1, 0, [⟨0x0, 0x0, 0x0, 0xffffffff, 0x0⟩]⟩,
  ⟨0x600100, 16, 16, [⟨0x1ffffff, 0x0, 0x0, 0x0, 0x0⟩]⟩,
  ⟨0x600104, 16, 16, [⟨0x0, 0x0, 0x0, 0x0, 0x0⟩]⟩,
  ⟨0x600108, 16, 16, [⟨0x0, 0x4000000, 0x0, 0x0, 0x1000000⟩]⟩,
  ⟨0x600200, 1, 0, [⟨0xffff, 0x0, 0x0, 0x0, 0x0⟩]⟩,
  ⟨0x600204, 1, 0, [⟨0x0, 0x0, 0x3, 0x0, 0x0⟩]⟩,
  ⟨0x600208, 1, 0, [⟨0x0, 0x1, 0x0, 0x0, 0x0⟩]⟩,
  ⟨0x600210, 1, 0, [⟨0xffffffc0, 0x0, 0x0, 0x0, 0x0⟩, ⟨0xffff, 0x0, 0x0, 0x0, 0x0⟩]⟩,
  ⟨0x600220, 8, 4, [⟨0xffffffff, 0x0, 0x0, 0x0, 0x0⟩]⟩,
  ⟨0x604000, 4096, 4, [⟨0xffffffff, 0x0, 0x0, 0x0, 0x0⟩]⟩,
  ⟨0x608000, 1, 0, [⟨0xfff03, 0x0, 0x0, 0x0, 0x0⟩]⟩,
  ⟨0x608004, 1, 0, [⟨0xffffffff, 0x0, 0x0, 0x0, 0x0⟩]⟩,
  ⟨0x608008, 1, 0, [⟨0xffff, 0x0, 0x0, 0x0, 0x0⟩]⟩,
  ⟨0x60800c, 1, 0, [⟨0x0, 0x0, 0x0, 0xffffffff, 0x0⟩]⟩,
  ⟨0x608010, 1, 0, [⟨0x0, 0x3, 0x0, 0x0, 0x0⟩]⟩,
  ⟨0x609000, 1024, 4, [⟨0xff03ff, 0x0, 0x0, 0x0, 0x0⟩]⟩,
  ⟨0x60c000, 1, 0, [⟨0xff, 0x0, 0x0, 0x0, 0x40⟩]⟩,
  ⟨0x60c004, 1, 0, [⟨0x0, 0x0, 0x0, 0xffffffff, 0x0⟩]⟩]

/-- The index of block TOPO (chapter 19). -/
def rowsTOPO : List RegRow := [
  ⟨0x800000, 1, 0, [⟨0xfffffff, 0x0, 0x0, 0x0, 0x6400000⟩]⟩,
  ⟨0x800004, 1, 0, [⟨0x0, 0x0, 0x3, 0x0, 0x0⟩]⟩,
  ⟨0x800008, 1, 0, [⟨0x0, 0x0, 0x0, 0x0, 0x0⟩]⟩,
  ⟨0x80000c, 1, 0, [⟨0x0, 0x0, 0x0, 0x0, 0x0⟩]⟩,
  ⟨0x800010, 1, 0, [⟨0x1ffff, 0x0, 0x0, 0x0, 0x0⟩]⟩,
  ⟨0x800100, 31, 4, [⟨0x0, 0x0, 0x0, 0x0, 0x0⟩]⟩,
  ⟨0x800200, 16, 4, [⟨0x803fffff, 0x0, 0x0, 0x0, 0x0⟩]⟩,
  ⟨0x800300, 1, 0, [⟨0x7ffff, 0x0, 0x0, 0x0, 0x0⟩]⟩,
  ⟨0x800304, 1, 0, [⟨0x8001ffff, 0x0, 0x0, 0x0, 0x0⟩]⟩,
  ⟨0x800308, 1, 0, [⟨0x1f, 0x0, 0x0, 0x0, 0x1f⟩]⟩,
  ⟨0x80030c, 1, 0, [⟨0x7fffffff, 0x0, 0x0, 0x0, 0x0⟩]⟩,
  ⟨0x800400, 1, 0, [⟨0x1, 0x4, 0x0, 0x0, 0x0⟩]⟩,
  ⟨0x800404, 1, 0, [⟨0x0, 0x0, 0x0, 0xffffffff, 0x0⟩]⟩]

/-- The index of block SHEET (chapter 19). -/
def rowsSHEET : List RegRow := [
  ⟨0x8000, 512, 4, [⟨0xffffffff, 0x0, 0x0, 0x0, 0x0⟩]⟩,
  ⟨0x8800, 1, 0, [⟨0x0, 0x80000000, 0x1, 0x0, 0x0⟩]⟩,
  ⟨0x8804, 1, 0, [⟨0x0, 0x0, 0x0, 0xffffffff, 0x0⟩]⟩,
  ⟨0x8810, 1, 0, [⟨0x0, 0xf, 0x0, 0x0, 0x0⟩]⟩,
  ⟨0x8814, 1, 0, [⟨0x0, 0x0, 0x0, 0xffffffff, 0x0⟩]⟩,
  ⟨0x8818, 1, 0, [⟨0x0, 0x7, 0x0, 0x0, 0x0⟩]⟩,
  ⟨0x881c, 1, 0, [⟨0xffffffff, 0x0, 0x0, 0x0, 0x0⟩]⟩,
  ⟨0x8820, 1, 0, [⟨0x0, 0x0, 0x0, 0xffffffff, 0x0⟩]⟩,
  ⟨0x8830, 1, 0, [⟨0x1, 0x0, 0xff00, 0x0, 0x0⟩]⟩,
  ⟨0x8834, 1, 0, [⟨0x0, 0xff, 0x0, 0x0, 0x0⟩]⟩,
  ⟨0x8838, 1, 0, [⟨0x0, 0x0, 0x0, 0xffffffff, 0x0⟩]⟩,
  ⟨0x883c, 1, 0, [⟨0x0, 0x0, 0x0, 0xffffffff, 0x0⟩]⟩,
  ⟨0x8840, 1, 0, [⟨0x0, 0x0, 0x0, 0xffffffff, 0x0⟩]⟩,
  ⟨0x8850, 4, 4, [⟨0x0, 0x0, 0x0, 0xffffffff, 0x0⟩]⟩,
  ⟨0x8860, 4, 4, [⟨0x3ff, 0x0, 0x0, 0x0, 0x0⟩]⟩,
  ⟨0x9000, 64, 4, [⟨0x0, 0x0, 0x0, 0x0, 0x0⟩]⟩,
  ⟨0x9100, 64, 4, [⟨0x0, 0x0, 0x0, 0x0, 0x0⟩]⟩,
  ⟨0x9200, 64, 4, [⟨0x0, 0x0, 0x0, 0x0, 0x0⟩]⟩,
  ⟨0x9300, 64, 4, [⟨0x0, 0x0, 0x0, 0x0, 0x0⟩]⟩,
  ⟨0x0, 1, 0, [⟨0x0, 0x0, 0x0, 0x0, 0x0⟩]⟩,
  ⟨0x4, 1, 0, [⟨0x1, 0x0, 0x0, 0x0, 0x0⟩]⟩,
  ⟨0x8, 1, 0, [⟨0x0, 0x0, 0x0, 0x0, 0x43⟩]⟩,
  ⟨0x10, 1, 0, [⟨0x0, 0x0, 0x0, 0x0, 0x0⟩, ⟨0x0, 0x0, 0x0, 0x0, 0x0⟩]⟩,
  ⟨0x20, 1, 0, [⟨0x0, 0x3, 0x0, 0x0, 0x0⟩]⟩,
  ⟨0x24, 1, 0, [⟨0x0, 0x0, 0x0, 0xffffffff, 0x0⟩]⟩,
  ⟨0x28, 1, 0, [⟨0x0, 0x0, 0x0, 0xffffffff, 0x0⟩]⟩,
  ⟨0x30, 1, 0, [⟨0x0, 0x0, 0x0, 0xffffffff, 0x0⟩]⟩,
  ⟨0x34, 1, 0, [⟨0x0, 0x80000000, 0x0, 0x0, 0x0⟩]⟩,
  ⟨0x38, 1, 0, [⟨0x0, 0x0, 0x0, 0x0, 0x0⟩]⟩,
  ⟨0x3c, 1, 0, [⟨0x1, 0x0, 0x0, 0x0, 0x1⟩]⟩,
  ⟨0x100, 4, 32, [⟨0xfff7ff, 0x0, 0x0, 0x0, 0x200000⟩]⟩,
  ⟨0x104, 4, 32, [⟨0xffffffff, 0x0, 0x0, 0x0, 0x0⟩]⟩,
  ⟨0x108, 4, 32, [⟨0x0, 0x0, 0x0, 0x0, 0x0⟩]⟩,
  ⟨0x10c, 4, 32, [⟨0x0, 0x0, 0x0, 0x0, 0x0⟩]⟩,
  ⟨0x110, 4, 32, [⟨0x0, 0x0, 0x0, 0x0, 0x4000⟩]⟩,
  ⟨0x114, 4, 32, [⟨0x0, 0x0, 0x0, 0x0, 0x0⟩]⟩,
  ⟨0x200, 1, 0, [⟨0xffffffff, 0x0, 0x0, 0x0, 0x0⟩, ⟨0xffffffff, 0x0, 0x0, 0x0, 0x0⟩]⟩,
  ⟨0x240, 16, 4, [⟨0xffffffff, 0x0, 0x0, 0x0, 0x0⟩]⟩,
  ⟨0x280, 8, 4, [⟨0x3f, 0x0, 0x0, 0x0, 0x0⟩]⟩,
  ⟨0x2c0, 8, 8, [⟨0xffffffff, 0x0, 0x0, 0x0, 0x0⟩, ⟨0xffffffff, 0x0, 0x0, 0x0, 0x0⟩]⟩,
  ⟨0x300, 1, 0, [⟨0xff, 0x0, 0x0, 0x0, 0x4⟩]⟩,
  ⟨0x304, 1, 0, [⟨0x0, 0x3, 0x0, 0x0, 0x0⟩]⟩,
  ⟨0x400, 1, 0, [⟨0x0, 0x80000000, 0x0, 0x0, 0x0⟩]⟩,
  ⟨0x404, 1, 0, [⟨0x0, 0x0, 0x0, 0xffffffff, 0x0⟩]⟩,
  ⟨0x410, 4, 4, [⟨0x0, 0x0, 0x0, 0x0, 0x0⟩]⟩]

/-- The index of block MEM (chapter 19). -/
def rowsMEM : List RegRow := [
  ⟨0x3000000, 1, 0, [⟨0xffff37, 0x0, 0x0, 0x0, 0x505504⟩]⟩,
  ⟨0x3000004, 1, 0, [⟨0x0, 0x0, 0x0, 0x0, 0x0⟩]⟩,
  ⟨0x3000010, 1, 0, [⟨0x1ffffff, 0x0, 0x0, 0x0, 0xff00ff⟩]⟩,
  ⟨0x3000014, 1, 0, [⟨0x0, 0x1, 0x0, 0x0, 0x0⟩]⟩,
  ⟨0x3000020, 1, 0, [⟨0xffffffe0, 0x0, 0x0, 0x0, 0x0⟩, ⟨0xffffffff, 0x0, 0x0, 0x0, 0x0⟩]⟩,
  ⟨0x3000028, 1, 0, [⟨0xffffffff, 0x0, 0x0, 0x0, 0x0⟩]⟩,
  ⟨0x300002c, 1, 0, [⟨0x0, 0x0, 0x0, 0x0, 0x0⟩]⟩,
  ⟨0x3000030, 1, 0, [⟨0x0, 0x4, 0x0, 0x0, 0x0⟩]⟩,
  ⟨0x3000034, 1, 0, [⟨0xf, 0x0, 0x0, 0x0, 0x4⟩]⟩,
  ⟨0x3000038, 1, 0, [⟨0xffff0001, 0x0, 0x0, 0x0, 0x4000001⟩]⟩,
  ⟨0x3000040, 1, 0, [⟨0x0, 0x0, 0x0, 0x0, 0x0⟩, ⟨0x0, 0x80000000, 0x0, 0x0, 0x0⟩]⟩,
  ⟨0x3000100, 17, 4, [⟨0x0, 0x0, 0x0, 0xffffff, 0x0⟩]⟩,
  ⟨0x3000200, 1, 0, [⟨0xffffffc0, 0x0, 0x0, 0x0, 0x0⟩, ⟨0xffffffff, 0x0, 0x0, 0x0, 0x0⟩]⟩,
  ⟨0x3000208, 1, 0, [⟨0xffffffff, 0x0, 0x0, 0x0, 0x0⟩]⟩,
  ⟨0x300020c, 1, 0, [⟨0x0, 0x0, 0x0, 0x0, 0x0⟩]⟩,
  ⟨0x3000210, 1, 0, [⟨0x0, 0x0, 0x0, 0x0, 0x0⟩]⟩,
  ⟨0x3000214, 1, 0, [⟨0xffff, 0x0, 0x0, 0x0, 0x7d0⟩]⟩,
  ⟨0x3000218, 1, 0, [⟨0x0, 0x1000000, 0x0, 0xffff00, 0x0⟩]⟩,
  ⟨0x3000220, 1, 0, [⟨0x0, 0x0, 0x0, 0x0, 0x0⟩, ⟨0x0, 0x0, 0x0, 0x0, 0x0⟩]⟩]

/-- The index of block WLINK (chapter 19). -/
def rowsWLINK : List RegRow := [
  ⟨0x3420000, 1, 0, [⟨0x8fff1fff, 0x0, 0x0, 0x0, 0x0⟩]⟩,
  ⟨0x3420004, 1, 0, [⟨0x0, 0x0, 0x0, 0x0, 0x0⟩]⟩,
  ⟨0x3420008, 1, 0, [⟨0xffffff80, 0x0, 0x0, 0x0, 0x0⟩, ⟨0xffffffff, 0x0, 0x0, 0x0, 0x0⟩]⟩,
  ⟨0x3420100, 1, 0, [⟨0x18000, 0x0, 0x0, 0x0, 0x0⟩]⟩]

/-- The index of block FAULT (chapter 19). -/
def rowsFAULT : List RegRow := [
  ⟨0x3600000, 1, 0, [⟨0x7fffffff, 0x0, 0x0, 0x0, 0x0⟩]⟩,
  ⟨0x3600004, 1, 0, [⟨0x0, 0x2000000, 0x0, 0xffffff, 0x0⟩]⟩,
  ⟨0x3600008, 1, 0, [⟨0x0, 0x0, 0x0, 0x0, 0x0⟩]⟩,
  ⟨0x360000c, 1, 0, [⟨0xffffffff, 0x0, 0x0, 0x0, 0x0⟩]⟩,
  ⟨0x3600010, 1, 0, [⟨0x0, 0x0, 0x0, 0x0, 0x0⟩, ⟨0x0, 0x0, 0x0, 0x0, 0x0⟩]⟩,
  ⟨0x3600020, 1, 0, [⟨0x1, 0x0, 0x0, 0x0, 0x0⟩]⟩,
  ⟨0x3600024, 1, 0, [⟨0x0, 0x2, 0x0, 0x0, 0x0⟩]⟩,
  ⟨0x3600028, 1, 0, [⟨0x0, 0x0, 0x0, 0x0, 0x0⟩, ⟨0x0, 0x0, 0x0, 0x0, 0x0⟩]⟩,
  ⟨0x3600030, 1, 0, [⟨0x0, 0x0, 0x0, 0x0, 0x0⟩, ⟨0x0, 0x0, 0x0, 0x0, 0x0⟩]⟩,
  ⟨0x3600040, 1, 0, [⟨0x7f, 0x0, 0x0, 0x0, 0x0⟩]⟩,
  ⟨0x3600048, 1, 0, [⟨0xfffffff0, 0x0, 0x0, 0x0, 0x0⟩, ⟨0xffffffff, 0x0, 0x0, 0x0, 0x0⟩]⟩,
  ⟨0x3600050, 1, 0, [⟨0x0, 0x0, 0x0, 0x0, 0x0⟩]⟩,
  ⟨0x3608000, 8192, 4, [⟨0x0, 0x0, 0x0, 0x0, 0x0⟩]⟩]

/-- The index of block CART (chapter 19). -/
def rowsCART : List RegRow := [
  ⟨0x3800000, 1, 0, [⟨0x0, 0x0, 0x0, 0x0, 0x0⟩, ⟨0x0, 0x0, 0x0, 0x0, 0x0⟩]⟩,
  ⟨0x3800008, 1, 0, [⟨0x0, 0x0, 0x0, 0x0, 0x0⟩]⟩,
  ⟨0x380000c, 1, 0, [⟨0x0, 0x0, 0xffff0ff3, 0x0, 0x0⟩]⟩,
  ⟨0x3800010, 1, 0, [⟨0x0, 0x0, 0x0, 0x0, 0x0⟩, ⟨0x0, 0x0, 0x0, 0x0, 0x0⟩]⟩,
  ⟨0x3800018, 1, 0, [⟨0x0, 0x0, 0x0, 0x0, 0x0⟩]⟩,
  ⟨0x380001c, 1, 0, [⟨0x0, 0x0, 0x0, 0x0, 0x0⟩]⟩,
  ⟨0x3800020, 1, 0, [⟨0x0, 0x0, 0x0, 0x0, 0x0⟩]⟩,
  ⟨0x3800024, 1, 0, [⟨0x0, 0x0, 0x0, 0x0, 0x0⟩]⟩,
  ⟨0x3800028, 1, 0, [⟨0x0, 0x0, 0x0, 0x0, 0x0⟩]⟩,
  ⟨0x380002c, 1, 0, [⟨0x0, 0x0, 0x0, 0x0, 0x0⟩]⟩,
  ⟨0x3800030, 1, 0, [⟨0x0, 0x0, 0x0, 0x0, 0x0⟩]⟩,
  ⟨0x3800034, 1, 0, [⟨0x0, 0x0, 0x0, 0x0, 0x0⟩]⟩,
  ⟨0x3801000, 2048, 4, [⟨0x0, 0x0, 0x0, 0x0, 0x0⟩]⟩,
  ⟨0x3810000, 4096, 4, [⟨0x0, 0x0, 0x0, 0x0, 0x0⟩]⟩,
  ⟨0x3880000, 122880, 4, [⟨0x0, 0x0, 0x0, 0x0, 0x0⟩]⟩]

/-- The index of block DBG (chapter 19). -/
def rowsDBG : List RegRow := [
  ⟨0x3c00000, 1, 0, [⟨0x0, 0x0, 0x0, 0x0, 0x0⟩]⟩]

/-- The index of block WPORT (chapter 19). -/
def rowsWPORT : List RegRow := [
  ⟨0x0, 1, 0, [⟨0xd, 0x0, 0x2, 0x0, 0x1⟩]⟩,
  ⟨0x4, 1, 0, [⟨0x3fff, 0x0, 0x0, 0x0, 0x64⟩]⟩,
  ⟨0x8, 1, 0, [⟨0x0, 0x100, 0x0, 0x0, 0x0⟩]⟩,
  ⟨0xc, 1, 0, [⟨0x0, 0x0, 0x0, 0xffffffff, 0x0⟩]⟩,
  ⟨0x10, 1, 0, [⟨0xffffffc0, 0x0, 0x0, 0x0, 0x0⟩, ⟨0xfffff, 0x0, 0x0, 0x0, 0x0⟩]⟩,
  ⟨0x18, 1, 0, [⟨0xffffffc1, 0x0, 0x0, 0x0, 0x0⟩, ⟨0xffff, 0x0, 0x0, 0x0, 0x0⟩]⟩,
  ⟨0x20, 1, 0, [⟨0xffffffc1, 0x0, 0x0, 0x0, 0x0⟩, ⟨0xffffffff, 0x0, 0x0, 0x0, 0x0⟩]⟩,
  ⟨0x28, 1, 0, [⟨0x0, 0x80000000, 0x0, 0x0, 0x0⟩]⟩,
  ⟨0x30, 1, 0, [⟨0xfffffffc, 0x0, 0x0, 0x0, 0x0⟩, ⟨0xffff, 0x0, 0x0, 0x0, 0x0⟩]⟩,
  ⟨0x38, 1, 0, [⟨0xffffffff, 0x0, 0x0, 0x0, 0x5000000⟩]⟩,
  ⟨0x100, 8, 16, [⟨0xffff0001, 0x0, 0x0, 0x0, 0x0⟩, ⟨0xffff, 0x0, 0x0, 0x0, 0x0⟩, ⟨0xffffffff, 0x0, 0x0, 0x0, 0x0⟩, ⟨0xffff, 0x0, 0x0, 0x0, 0x0⟩]⟩]

/-- The LINK index also holds the reserved range of the permit region, which reads as 0 (R286). -/
def permitReserved : WordDesc := ⟨0, 0, 0, 0, 0⟩

/-- Where a 32-bit register stands: its masks, which word of its register it is and how many words that has. -/
structure RegLoc where
  desc : WordDesc
  idx : Nat
  words : Nat
  deriving DecidableEq, Repr

/-- The word of row `r` at block offset `o`, if the row covers it. -/
def rowWord (r : RegRow) (o : Nat) : Option RegLoc :=
  if o < r.off then none
  else
    let d := o - r.off
    let i := if r.stride = 0 then 0 else d / r.stride
    let e := if r.stride = 0 then d else d % r.stride
    if i < r.count then
      match r.words[e / 4]? with
      | some w => some ⟨w, e / 4, r.words.length⟩
      | none => none
    else none

/-- The block of a control-space address (R456): the index of the block and the offset to look up in it. -/
def blockRows (a : Nat) : List RegRow × Nat :=
  if a < 0x100000 then (rowsGEN, a)
  else if a < 0x200000 then (rowsBOOT, a)
  else if a < 0x300000 then (rowsPWR, a)
  else if a < 0x400000 then (rowsTIME, a)
  else if a < 0x5F0000 then (rowsLINK, a % 0x10000)
  else if a < 0x600000 then ([], 0)
  else if a < 0x800000 then (rowsFAB, a)
  else if a < 0x1000000 then (rowsTOPO, a)
  else if a < 0x1A00000 then (rowsSHEET, a % 0x10000)
  else if a < 0x2000000 then ([], 0)
  else if a < 0x2A00000 then (rowsSHEET, a % 0x10000)
  else if a < 0x3000000 then ([], 0)
  else if a < 0x3400000 then (rowsMEM, a)
  else if a < 0x3420000 then (rowsWPORT, a % 0x10000)
  else if a < 0x3430000 then (rowsWLINK, a)
  else if a < 0x3600000 then ([], 0)
  else if a < 0x3800000 then (rowsFAULT, a)
  else if a < 0x3C00000 then (rowsCART, a)
  else (rowsDBG, a)

/-- The register word at 4-byte-aligned address `a`, or none where the address is unmapped (R10, R456). -/
def regLoc (a : Nat) : Option RegLoc :=
  let (rows, o) := blockRows a
  if 0x400000 ≤ a ∧ a < 0x5F0000 ∧ 0x5100 ≤ o then some ⟨permitReserved, 0, 1⟩
  else rows.findSome? (rowWord · o)

/-- Flat legend entries 0 to 111 of the legend store at reset: slots 0 to 6 (R40). -/
def legendPreload : List Nat :=
  [0x0000, 0x4000, 0x4400, 0x4500, 0x4800, 0x4900, 0x4910, 0x4F00,
   0xCC00, 0xCD00, 0xCB10, 0xCB00, 0xC800, 0xC700, 0xC400, 0xC000] ++
  [0x0000, 0x7C00, 0x4000, 0x41F0, 0x4400, 0x4500, 0x4800, 0x4910,
   0x0000, 0xFC00, 0xC000, 0xC3F0, 0xC400, 0xC700, 0xC800, 0xCB10] ++
  [0xC000, 0xFFE0, 0xFFB0, 0xFBD0, 0xFBB0, 0xF7C0, 0xF3B0, 0x0000,
   0x71A0, 0x75B0, 0x7BA0, 0x79C0, 0x7FC0, 0x7DC0, 0x7DE0, 0x4000] ++
  [0xCD00, 0xCB10, 0xCB00, 0xC800, 0xC700, 0xC400, 0xC000, 0x0000,
   0x4000, 0x4400, 0x4500, 0x4800, 0x4900, 0x4910, 0x4F00, 0x4C00] ++
  [0x0000, 0x4000, 0xC400, 0xC000, 0, 0, 0, 0, 0, 0, 0, 0, 0, 0, 0, 0] ++
  [0x0000, 0x4000, 0x0000, 0xC000, 0, 0, 0, 0, 0, 0, 0, 0, 0, 0, 0, 0] ++
  [0x4000, 0xC000, 0x4000, 0xC000, 0, 0, 0, 0, 0, 0, 0, 0, 0, 0, 0, 0]

/-- The legend entry at a flat index at reset: R40's tables, and 0x0000 in slots 7 to 63. -/
def legendReset (flat : Nat) : Nat := legendPreload.getD flat 0

/-- Whether an address lies in one of the two SHEET blocks (R456). -/
def inSheetBlock (a : Nat) : Bool :=
  (0x1000000 ≤ a && a < 0x1A00000) || (0x2000000 ≤ a && a < 0x2A00000)

/-- The device-wide index of the sheet that owns an address of a SHEET block (R457). -/
def sheetOf (a : Nat) : Nat :=
  if a < 0x2000000 then (a - 0x1000000) / 0x10000 else 160 + (a - 0x2000000) / 0x10000

/-- The value of the 32-bit register at `a` after reset (the register tables of every chapter; R40 for the
legends, R166 for the rings, R303 for LINK_TS_CTL). An address that holds no register reads 0. -/
def regReset (a : Nat) : Word :=
  let o := a % 0x10000
  if inSheetBlock a && (0x8000 ≤ o && o < 0x8800) then
    let k := (o - 0x8000) / 4
    BitVec.ofNat 32 (legendReset (2 * k) + 0x10000 * legendReset (2 * k + 1))
  else if inSheetBlock a && (o == 0x100 || o == 0x120 || o == 0x140 || o == 0x160) then
    BitVec.ofNat 32 (0x200000 + 0x200 * ((o - 0x100) / 0x20))
  else if 0x400000 + 0x10000 * 15 ≤ a && a < 0x5F0000 && o == 0x100 then 1
  else match regLoc a with
    | some l => BitVec.ofNat 32 l.desc.reset
    | none => 0

end Sys2Proof.Machine
end

