-- ==== Sys2Proof/Machine/SMap.lean ====
section
/-! DEFINITION. Sparse maps: a list of keys and values with the keys strictly rising and no value equal to what an
unlisted key reads as. Equal maps are equal lists. -/

namespace Sys2Proof.Machine

/-- A sparse map from natural numbers. -/
abbrev SMap (β : Type) := List (Nat × β)

/-- The value at key `k`, `d k` where it is not listed. -/
def smGet {β : Type} (d : Nat → β) : SMap β → Nat → β
  | [], k => d k
  | (k', v) :: m, k => if k' = k then v else smGet d m k

/-- The map with key `k` set to `v`; writing the value an unlisted key reads as removes the entry. -/
def smSet {β : Type} [DecidableEq β] (d : Nat → β) : SMap β → Nat → β → SMap β
  | [], k, v => if v = d k then [] else [(k, v)]
  | (k', v') :: m, k, v =>
    if k < k' then (if v = d k then (k', v') :: m else (k, v) :: (k', v') :: m)
    else if k' = k then (if v = d k then m else (k, v) :: m)
    else (k', v') :: smSet d m k v

/-- Every key of the map is above `k`. -/
def smAbove {β : Type} (k : Nat) (m : SMap β) : Bool := m.all (fun e => decide (k < e.1))

/-- The canonical form: keys strictly rising, no value equal to its default. -/
def smWf {β : Type} [DecidableEq β] (d : Nat → β) : SMap β → Bool
  | [] => true
  | (k, v) :: m => decide (v ≠ d k) && smAbove k m && smWf d m

/-- The map without the entries of keys in `[lo, hi)`: they read as their defaults. -/
def smClear {β : Type} (lo hi : Nat) (m : SMap β) : SMap β :=
  m.filter (fun e => decide (e.1 < lo ∨ hi ≤ e.1))

/-- The values at `k`, `k + 1`, .. for `n` keys. -/
def smRead {β : Type} (d : Nat → β) (m : SMap β) (k : Nat) : Nat → List β
  | 0 => []
  | n + 1 => smGet d m k :: smRead d m (k + 1) n

/-- The map with `vs` written at `k`, `k + 1`, .. -/
def smWrite {β : Type} [DecidableEq β] (d : Nat → β) (m : SMap β) (k : Nat) : List β → SMap β
  | [] => m
  | v :: vs => smWrite d (smSet d m k v) (k + 1) vs

/-- The default of a byte memory: an unlisted byte reads 0. -/
def zeroByte (_ : Nat) : Byte := 0

end Sys2Proof.Machine
end

