-- ==== Sys2Proof/Machine/State.lean ====
section
/-! DEFINITION. The state of the module: plain data. The control space is the home of every register field that no
structured part of the state holds; the parts below hold what the spec gives the module beside its registers. -/

namespace Sys2Proof.Machine

/-- Why the block stops. No command of the table makes the block stop: what goes wrong in the module is a fault
record (R399), which is state. -/
inductive Fault where
  /-- A queue that holds a command no sender can form; raised by nothing (safe). -/
  | none
  deriving DecidableEq, Repr

/-- Why a command has no meaning. -/
inductive Refusal where
  /-- The command has no meaning; raised by a refused arm of `exec` alone (safe). -/
  | notModelled (mnemonic : String)
  deriving DecidableEq, Repr

/-! ### Control-space access (R7 to R10, R459) -/

/-- The answer to the last read: its status and its bytes (R369: 0 ok, 1 not owner, 2 refused, 3 poison). -/
structure Resp where
  status : Nat := 0
  data : List Byte := []
  deriving DecidableEq, Repr

/-- The halves of 64-bit accesses that wait for their other half, and the per-agent frame limits. -/
structure LatchSt where
  /-- (agent, address of the lower word, value): lower halves written and not yet taken (R459) -/
  low : List (Nat × Nat × Word) := []
  /-- (agent, address of the upper word, value): upper halves latched by a read (R169, R459) -/
  high : List (Nat × Nat × Word) := []
  /-- the frame of each agent's last 0x7001 record (R373), by agent number -/
  own7001 : List (Nat × Nat) := []
  /-- the frame of each agent's last 0x7002 record (R460), by agent number -/
  bank7002 : List (Nat × Nat) := []
  deriving DecidableEq, Repr

/-! ### Time (chapter 07) -/

structure TimeSt where
  /-- TIME_COUNT.ticks (R168) -/
  tick : Nat := 0
  /-- ticks since power-up, never set back: the model's own clock for every timer -/
  elapsed : Nat := 0
  /-- the last frame whose boundary was acted on (R187) -/
  boundary : Nat := 0
  /-- SLIPs applied since the job's start frame, unsaturated (R183), and for each SLIP applied or received the first
  schedule frame that runs a frame later for it (R200) -/
  slips : Nat := 0
  slipAt : List Nat := []
  /-- counted slip frames in the current run, unsaturated (R186) -/
  consec : Nat := 0
  /-- the present frame is a slip frame; and a load-only one (R184, R408) -/
  slipFrame : Bool := false
  loadOnly : Bool := false
  /-- SLIP or STOP named for a coming boundary: frame, stop, load-only, code, subject (R407) -/
  orders : List (Nat × Bool × Bool × Nat × Nat) := []
  /-- a stop to apply at the next boundary: code and subject (R411) -/
  stopNext : Option (Nat × Nat) := none
  /-- ports on which 0x3020 and HOLD were raised in this frame (R181) -/
  holdLinks : List Nat := []
  /-- what the module sent to its parent in this frame: a HOLD with load 0, with load 1 (R406) -/
  sentHold : Bool := false
  sentLoadHold : Bool := false
  holdFrame : Nat := 0
  /-- the origin: HOLDs received since the last decision, with load 0 and with load 1 (R408) -/
  gotHold : Bool := false
  gotLoadHold : Bool := false
  /-- the origin: first stop record logged since the last decision: code, subject (R408) -/
  stopRec : Option (Nat × Nat) := none
  /-- frame of each bank's last 0x3030 (R176) -/
  neg3030 : SMap Nat := []
  /-- the last governor period whose end was acted on (R167, R176) -/
  period : Nat := 0
  /-- crossings whose 0x3011 is recorded (R172) -/
  xing : List Nat := []
  deriving DecidableEq, Repr

/-! ### Sheets (chapters 02 to 06) -/

/-- One accumulator entry: the integer A, its datum and its marks (R55, R59, R109). -/
structure AccEntry where
  val : BitVec 192 := 0
  datum : BitVec 10 := 0
  ovf : Bool := false
  under : Bool := false
  inv : Bool := false
  deriving DecidableEq, Repr

/-- How far the head word of a queue has come (R138, R140, R159, R160). -/
inductive Phase where
  /-- fetched; its decode checks are not yet made -/
  | fetched
  /-- checked; its waits are not yet satisfied -/
  | waiting
  /-- satisfied; in twin mode it waits for its twin (R414) -/
  | reported
  /-- satisfied and begun -/
  | running
  /-- its predicate failed: it retires at the next boundary -/
  | skipped
  /-- every iteration is done: it retires when the conditions of R140 hold -/
  | done
  deriving DecidableEq, Repr

/-- A word in a queue. -/
structure QWord where
  num : Nat
  /-- the word's 512 bits -/
  raw : Nat
  phase : Phase := .fetched
  /-- iterations completed -/
  iter : Nat := 0
  /-- side arrays read at iteration 0 (R149), or an overlay descriptor (R157) -/
  latch : List Byte := []
  /-- bytes moved of the iteration in progress, for accesses through a companion window -/
  part : List Byte := []
  /-- whole frames waited on an arrival counter, and whether 0x2021 was raised (R165) -/
  starve : Nat := 0
  starved : Bool := false
  /-- SHEET_SB_STALL counted for this word (R107) -/
  stalled : Bool := false
  /-- the twin frame registered at its joint begin (R414) -/
  twin : Option Nat := none
  /-- blocks escaped so far by a reduce move (R205), and a datum mismatch found at its first iteration (R123) -/
  esc : Nat := 0
  bad : Bool := false
  deriving DecidableEq, Repr

/-- A weight tile in the latches of the array (R105). -/
structure Tile where
  half : Nat
  tile : Nat
  wfmt : Nat
  data : List Byte
  /-- 2 KiB steps loaded -/
  loaded : Nat
  deriving DecidableEq, Repr

structure SheetSt where
  /-- the byte stores by window offset: activation, stream buffer, control, vector registers (R125) -/
  mem : SMap Byte := []
  /-- the accumulator bank (R108) -/
  acc : SMap AccEntry := []
  /-- the four queues, head first (R161) -/
  mx : List QWord := []
  vx : List QWord := []
  mv : List QWord := []
  st : List QWord := []
  /-- the weight latches (R105) -/
  active : Option Tile := none
  shadow : Option Tile := none
  /-- control-space writes that wait for step 3 of the next boundary: address and value (R137) -/
  pendW : List (Nat × Word) := []
  /-- mesh increments that wait for step 2: counter, tag of the move and its source sheet (R122, R137) -/
  pendInc : List (Nat × Nat × Nat) := []
  /-- the sheet's sample of the time counter (R173) -/
  time : Nat := 0
  /-- a step completed or a word retired in this frame, and 0x2020 raised for this stall (R164) -/
  moved : Bool := false
  circ : Bool := false
  /-- next unit of the scrub, and the elapsed time of the last one read (R129) -/
  scrub : Nat := 0
  scrubAt : Option Nat := none
  /-- the arrival counter updates that the sheet has received, by counter (R137) -/
  acSeen : SMap Nat := []
  /-- the mesh buffers: the last bytes sent and received over the mesh, 4 KiB each (R15, R121) -/
  egress : List Byte := []
  ingress : List Byte := []
  deriving DecidableEq, Repr

/-! ### Fabric (chapter 08) -/

structure DxSt where
  /-- queued entries, oldest first: index and 128 bits (R195) -/
  queue : List (Nat × Nat) := []
  /-- the schedule frame of the entries to come; the passes left of a LOOP, and whether one is under way (R199) -/
  frame : Nat := 0
  lc : Nat := 0
  active : Bool := false
  /-- an END was read into the queue, or the engine has stopped at it (R199) -/
  sawEnd : Bool := false
  stopped : Bool := false
  /-- due tick of the last entry acted on (R200) -/
  lastDue : Option Nat := none
  /-- entries armed ahead of their own commands, with others of one tick, and that tick (R200) -/
  ahead : Nat := 0
  aheadAt : Nat := 0
  deriving DecidableEq, Repr

/-- What of a flow has arrived at a transit entry: its flits by index (R207, R211, R216). -/
structure FlowSt where
  first : Option RawFlit := none
  flits : SMap (List Byte) := []
  /-- arrival tick of the first flit -/
  at0 : Nat := 0
  /-- number of main flits and of escape flits, once the last main flit is in -/
  mains : Option Nat := none
  escapes : Nat := 0
  taken : Nat := 0
  /-- the blocks of a reduce flow that are added at this destination (R217) -/
  added : List Nat := []
  deriving DecidableEq, Repr

/-- A departure or bundle entry armed to leave (R200, R206). -/
structure ArmedDep where
  tag : Nat
  entry : Nat
  dx : Nat
  idx : Nat
  due : Nat
  frame : Nat
  late : Bool := false
  /-- held for an overflow frame (R210) -/
  overflow : Bool := false
  /-- late from a contested flit on; 0x4004 recorded for it (R208) -/
  contested : Bool := false
  lost : Bool := false
  /-- 0x3020 bookkeeping: its flits are queued -/
  sent : Bool := false
  /-- on a tree path, once sent: the tick at which its last flit enters the crossbar (R205, R213) -/
  leftAt : Option Nat := none
  deriving DecidableEq, Repr

/-- A transit entry armed in the crossbar plan (R211 to R216). -/
structure ArmedTr where
  tag : Nat
  entry : Nat
  dx : Nat
  due : Nat
  frame : Nat
  slice : Nat := 0
  a : FlowSt := {}
  b : FlowSt := {}
  /-- the reduce unit claimed (R216) -/
  ru : Option Nat := none
  /-- the flow failed a check: the rest of its flits are discarded (R211, R214, R219) -/
  bad : Bool := false
  /-- the transfer is not delivered here: fenced (R280) or failed R219 -/
  noLocal : Bool := false
  localDone : Bool := false
  /-- out-ports that have still to return DONE (R220) -/
  waitDone : List Nat := []
  /-- result flits of a join queued so far (R216) -/
  outFlits : Nat := 0
  /-- copies of the last flit are queued -/
  allOut : Bool := false
  lost : Bool := false
  /-- DONE with lost set has gone back already, for a flush of an out-port (R256) -/
  told : Bool := false
  /-- a result flit missed its planned slot: every later one is late (R216) -/
  lateOut : Bool := false
  /-- every flit is delivered, but writes through a companion window are not acknowledged yet (R142) -/
  waitW : Bool := false
  /-- the number of the entry among those armed -/
  num : Nat := 0
  deriving DecidableEq, Repr

/-- A transfer in flight from this module (R220). -/
structure Flight where
  tag : Nat
  /-- its own departure enters this module's crossbar (a tree path, or operand B of a join) -/
  own : Bool
  deriving DecidableEq, Repr

/-- A transfer whose last main flit was discarded and whose announced escape flits are still to come (R220): the port
and the tag of it, its slice, its main flits and the escape flits left. -/
structure Orphan where
  port : Nat
  tag : Nat
  slice : Nat
  mains : Nat
  left : Nat
  deriving DecidableEq, Repr

/-- An entry of the overlay index table: eight words (R96). -/
structure OvlEntry where
  w : List Word := []
  /-- busy count of R99 -/
  busy : Nat := 0
  deriving DecidableEq, Repr

structure FabSt where
  dx : SMap DxSt := []
  /-- the path store: 256-bit entries (R202) -/
  path : SMap Nat := []
  /-- the staging store by byte, its fill bits and escape tallies by unit (R204, R205) -/
  staging : SMap Byte := []
  fill : SMap Bool := []
  tally : SMap Nat := []
  /-- armed departures, armed transit entries, and transfers in flight (R203, R204, R220) -/
  deps : List ArmedDep := []
  trans : List ArmedTr := []
  flights : List Flight := []
  /-- the boundary frame at which the guard latch clears (R209) -/
  guardClear : Option Nat := none
  /-- the bulk load in progress: address of the image (R463) -/
  pathLoad : Option Nat := none
  /-- flits of this module's own departures that entered its crossbar and wait for their entry, with the tick of
  each (R211, R213) -/
  own : List (Nat × RawFlit) := []
  /-- entries armed so far -/
  nextTr : Nat := 0
  /-- the slots each bundle owns, as its last armed entry gave them (R198, R224) -/
  bqSlots : SMap Nat := []
  /-- the token queue: closed, and the records selected, each with its expert (R222) -/
  bqClosed : Bool := false
  bqSel : List (Nat × List Byte) := []
  bqDefer : List (Nat × List Byte) := []
  bqCount : SMap Nat := []
  /-- FAB_EXPERT_e writes that wait for the next boundary (R228) -/
  expertPend : SMap Nat := []
  /-- joins abandoned: tags whose late flits are counted and nothing more (R216) -/
  abandoned : List (Nat × Nat) := []
  /-- discarded transfers that still owe a DONE with lost set (R220) -/
  orphans : List Orphan := []
  /-- flits forwarded for other slices (R426) -/
  others : Nat := 0
  /-- the overlay index table (R96) -/
  ovl : SMap OvlEntry := []
  /-- what completions have added to each arrival counter so far; a sheet receives it at step 2 of its next boundary
  (R137) -/
  acTotal : SMap Nat := []
  deriving DecidableEq, Repr

/-! ### Fabric ports (chapter 09) -/

/-- A flit held in a receive pool (R241, R243). -/
structure PoolFlit where
  id : Nat
  flit : RawFlit
  shared : Bool
  /-- tick of its arrival, the short timestamp of its presentation (R296), and whether it still waits for its entry
  (R211) -/
  at0 : Nat
  stamp : Nat := 0
  waiting : Bool := true
  /-- copies of it queued on out-ports and not yet sent -/
  copies : Nat := 0
  deriving DecidableEq, Repr

/-- A flit queued for an out-port: its class is in its header. -/
structure OutFlit where
  flit : RawFlit
  /-- the tick of its planned slot (S only) -/
  slot : Nat := 0
  late : Bool := false
  /-- the first tick at which it may leave as a late flit, and its place among the late ones: the departure's tick and
  table entry, or the planned tick at this hop (R180, R212) -/
  ready : Nat := 0
  claim : Nat := 0
  /-- where it came from: in-port (31 this module) and pool id -/
  inPort : Nat := 31
  poolId : Nat := 0
  /-- the last flit of a departure of this module (R205) -/
  final : Bool := false
  /-- who has the slot first: 0 a transit output, e + 1 a departure of engine e (R208) -/
  rank : Nat := 0
  deriving DecidableEq, Repr

/-- The six cumulative counts of R242, in header order: S dedicated, S shared, X, C likewise. -/
structure Six where
  sd : Nat := 0
  sh : Nat := 0
  xd : Nat := 0
  xh : Nat := 0
  cd : Nat := 0
  ch : Nat := 0
  deriving DecidableEq, Repr

structure PortSt where
  /-- elapsed time at entry to the present training state, and failed INITs in a row (R249) -/
  since : Nat := 0
  tries : Nat := 0
  good : Nat := 0
  sentInit : Nat := 0
  /-- the port has reached ACTIVE since power-up; its side has fresh set (R250, R401) -/
  everActive : Bool := false
  fresh : Bool := true
  /-- the retrain in progress may return to full width; the port last ran below it (R253) -/
  widen : Bool := false
  narrow : Bool := false
  /-- lanes found good at the last equalisation -/
  goodLanes : Nat := 0
  /-- the grace deadline (R255) -/
  graceAt : Option Nat := none
  /-- the sequence number expected (R246), and the running counts of each pool and reserve: flits sent, the peer's freed
  counts last seen, the freed counts to send (R242) -/
  expect : Nat := 0
  sent : Six := {}
  seen : Six := {}
  freed : Six := {}
  /-- held flits, oldest first (R245), and the index of the next one a replay sends (R247) -/
  replay : List RawFlit := []
  replayAt : Option Nat := none
  /-- the number of the first flit of the last replay (R247) -/
  replayFrom : Nat := 0
  /-- bits of the flit stream received since codewords were found, and the last codeword that could not be corrected
  (R231) -/
  rxBits : Nat := 0
  badCw : Option Nat := none
  /-- when the ack last advanced, and replays since (R248) -/
  ackAt : Nat := 0
  stalls : Nat := 0
  /-- a NAK to send; when the last one was sent (R247); PAUSE flits still to send (R252) -/
  nakDue : Bool := false
  nakAt : Option Nat := none
  pause : Nat := 0
  /-- the receive pool and the number of its next flit (R241); the flits and symbols that wait to be sent (R238) -/
  pool : List PoolFlit := []
  nextId : Nat := 0
  txS : List OutFlit := []
  txC : List (List Byte) := []
  txX : List OutFlit := []
  /-- C symbols received and not yet acted on, with the pool id of their flit -/
  symIn : List (Nat × List Byte) := []
  /-- the last flit put on the line -/
  wire : Option RawFlit := none
  /-- the slot in which the last S flit left (R238), and slices whose S flits left in `sliceFrame` (R277) -/
  lastSlot : Option Nat := none
  sliceFrame : Nat := 0
  slices : List Nat := []
  /-- frames of the last 0x4110 and 0x4111 (R276) -/
  in4110 : Option Nat := none
  out4111 : Option Nat := none
  /-- bytes 0 to 31 of the last good INIT record: records must agree (R249) -/
  initRec : List Byte := []
  /-- circuit measurement (R271, R300): in progress, since when, samples taken -/
  measuring : Bool := false
  measAt : Nat := 0
  /-- the retrain that a measurement begins with is not over; SURVEY symbols that came before it ended -/
  measWait : Bool := false
  measSkip : Nat := 0
  /-- survey of this one port in progress (R266); the peer's cvalid (R267) -/
  survey : Bool := false
  peerCv : Bool := false
  /-- 0x4101 is recorded for this port in the present survey (R269) -/
  told4101 : Bool := false
  /-- beacons and INIT timestamps (R298): the next number, the last one sent and the last one heard, each with its
  timestamp -/
  bcnNo : Nat := 0
  bcnTx : Option (Nat × Nat) := none
  bcnRx : Option (Nat × Nat) := none
  /-- the accepted samples kept, newest first: theta and delta in fraction units (R299) -/
  samples : List (Int × Int) := []
  /-- apparent delay of the last accepted sample -/
  apparent : Option Int := none
  /-- probe samples taken in a measurement, and beacon-free slots without one (R300) -/
  probes : Nat := 0
  probeMiss : Nat := 0
  /-- the slot in which the last regular beacon was sent or captured, and the last probe sent; the tick from which the
  present sample's slots count, and the slots since that were not beacon-free (R300) -/
  bcnSlot : Option Nat := none
  probeSlot : Option Nat := none
  probeFrom : Nat := 0
  /-- a probe was void and goes out again in the next beacon-free slot -/
  probeAgain : Bool := false
  probeBusy : Nat := 0
  /-- elapsed time of the last regular beacon (R299) -/
  bcnAt : Option Nat := none
  /-- frame of the last 0x3069 (R299) -/
  at3069 : Option Nat := none
  deriving DecidableEq, Repr

/-! ### Residual traffic (R225 to R227, R257 to R259) -/

/-- A packet of the X class (R236). -/
structure XPacket where
  op : Nat := 0
  status : Nat := 0
  len : Nat := 0
  addr : Nat := 0
  data : List Byte := []
  xseq : Nat := 0
  token : Option Nat := none
  path : Nat := 0
  deriving DecidableEq, Repr

/-- Who waits for the answer of an X request. -/
inductive XWho where
  /-- a read of the loader: its lane, the descriptor's number, the offset and the attempt -/
  | loader (slot num off attempt : Nat)
  /-- a fault packet and the number of records in it (R404) -/
  | fault (records : Nat)
  /-- the empty message that advances a lost number (R258) -/
  | filler
  /-- a response of this module -/
  | response
  deriving DecidableEq, Repr

/-- A packet sent and not yet done with (R226, R258). -/
structure XOut where
  dest : Nat
  port : Nat
  pkt : XPacket
  who : XWho
  sentAt : Nat
  reissued : Bool := false
  acked : Bool := false
  deriving DecidableEq, Repr

/-- A (source, token) pair a responder holds, with the response it sent (R259). -/
structure XTok where
  src : Nat
  token : Nat
  reply : XPacket
  port : Nat
  at0 : Nat
  ackedAt : Option Nat := none
  deriving DecidableEq, Repr

/-- The source's window towards one destination (R227). -/
structure XWin where
  next : Nat := 0
  window : Nat := 16
  /-- flits sent and not acknowledged, flits acknowledged in the present window, halved in it -/
  inflight : Nat := 0
  acked : Nat := 0
  halved : Bool := false
  /-- last xack taken -/
  last : Nat := 0xFFFF
  deriving DecidableEq, Repr

/-- The destination's side of one pair: the expected number, and whether a mark is to be echoed (R226, R227). -/
structure XIn where
  expect : Nat := 0
  echo : Bool := false
  deriving DecidableEq, Repr

structure XSt where
  /-- the logical coordinate of the module that a route leads to, by the physical one, where a response told it and
  the two differ (R226, R282) -/
  logical : SMap Nat := []
  /-- by peer: the windows of the pairs sent to, and the pairs received from (R226, R227) -/
  win : SMap XWin := []
  src : SMap XIn := []
  /-- requests outstanding, completion tokens held, and the number of the next token (R257, R258) -/
  out : List XOut := []
  toks : List XTok := []
  nextToken : Nat := 0
  /-- packets waiting for a window or for the end of a path load: destination, port and packet -/
  wait : List XOut := []
  /-- messages other than fault packets that were delivered here -/
  inbox : List XPacket := []
  deriving DecidableEq, Repr

/-! ### Faults (chapter 16) -/

/-- A fault record (R399). -/
structure FaultRec where
  code : Nat
  unit : Nat := 0
  tag : Nat := 0
  flags : Nat := 0
  tick : Nat := 0
  frame : Nat := 0
  aux : Nat := 0
  subject : Nat := 0
  epoch : Nat := 0
  count : Nat := 1
  slice : Nat := 0
  deriving DecidableEq, Repr

/-- A log entry: its index and the tick at which it was opened (R403). -/
structure LogEntry where
  idx : Nat
  at0 : Nat
  entry : FaultRec
  deriving DecidableEq, Repr

/-- A pending entry for merging (R405). -/
structure MergeEntry where
  slot : Nat
  entry : FaultRec
  at0 : Nat
  extra : Nat := 0
  deriving DecidableEq, Repr

/-- A pending twin frame: its number, the two digests and the words not yet retired on each die (R415). -/
structure TwinFrame where
  frame : Nat
  d0 : Nat := 0
  d1 : Nat := 0
  open0 : Nat := 0
  open1 : Nat := 0
  /-- it was compared and its digests differ (R416) -/
  differs : Bool := false
  deriving DecidableEq, Repr

structure FaultSt where
  log : List LogEntry := []
  merge : List MergeEntry := []
  twin : List TwinFrame := []
  deriving DecidableEq, Repr

/-! ### Wiora Link, batches and ownership (chapter 14) -/

/-- Who waits for the answer of a request through a companion window. -/
inductive WWho where
  | word (sheet eng : Nat)
  /-- the source of a departure: engine and entry -/
  | source (dx idx : Nat)
  /-- a fabric delivery of a tag -/
  | deliver (tag : Nat)
  /-- a read of the loader: its lane, the descriptor's number, the offset and the attempt -/
  | loader (slot num off attempt : Nat)
  /-- the boot ROM reading an image (R385) -/
  | boot
  | batch
  | pace
  /-- a line of an event ring taken in E, or given up; a line written back; the ring is that of port `ring`, and the
  request goes out on the port the line's address lies behind (R354, R365) -/
  | evLine (ring : Nat)
  | evWrite (ring : Nat)
  | int
  /-- the stager's and the loader's descriptor rings -/
  | stageRing
  | loadRing
  /-- an agent's or an X request's access of number `k` (R305) -/
  | away (k : Nat)
  deriving DecidableEq, Repr

/-- A Wiora message: the 88 header bits of R347 and its data slots. -/
structure WMsg where
  cls : Nat
  op : Nat
  txid : Nat := 0
  len : Nat := 0
  line : Nat := 0
  status : Nat := 0
  word : Nat := 0
  size : Nat := 0
  lineHi : Nat := 0
  data : List Byte := []
  /-- received before a flush of the port: performed, and neither answered nor credited (R353) -/
  old : Bool := false
  deriving DecidableEq, Repr

/-- A request of the module that is outstanding (R347), and its answer once it has come. -/
structure WReq where
  /-- its transaction identity; 1,024 or more while it has none: held, or answered -/
  txid : Nat
  who : WWho
  op : Nat
  addr : Nat
  len : Nat
  /-- bytes of a partial access: 0 four, 1 eight -/
  size : Nat := 0
  /-- a snoop of the same line came while it was outstanding (R359) -/
  snooped : Bool := false
  answer : Option (Nat × List Byte) := none
  /-- its message, while 1,024 others are outstanding and it is held (R347) -/
  held : Option WMsg := none
  deriving DecidableEq, Repr

/-- An event entry that waits in the buffer (R365, R366). -/
structure EvEntry where
  kind : Nat
  body : List Byte
  deriving DecidableEq, Repr

/-- The cumulative credit counts of one direction (R350): headers of REQ, SNP, RSP, DAT and data slots. -/
structure WCred where
  h : List Nat := [0, 0, 0, 0]
  d : Nat := 0
  deriving DecidableEq, Repr

/-- Who is owed the answer of an access that went out through a companion window: a plain access, the management
bus, an X request of source `src` that came on port `port`, or a companion's request on Wiora port `port`. -/
inductive AwayTo where
  | plain
  | mgmt
  | x (src port : Nat) (pkt : XPacket)
  | wiora (port : Nat) (msg : WMsg)
  deriving DecidableEq, Repr

structure WPortSt where
  /-- elapsed time at entry to the present training state, failed INITs in a row, and whether a retrain is in progress
  (R352) -/
  since : Nat := 0
  tries : Nat := 0
  retrain : Bool := false
  /-- the side has fresh set (R353); the grace deadline (R352) -/
  fresh : Bool := true
  graceAt : Option Nat := none
  /-- sequence numbers: the next to send, the last acknowledged, the one expected; held flits; when the ack last
  advanced, and replays since; a NAK to send (R351) -/
  next : Nat := 0
  acked : Nat := 1023
  expect : Nat := 0
  replay : List WFlit := []
  ackAt : Nat := 0
  stalls : Nat := 0
  nakDue : Bool := false
  /-- the credit counts: sent, the peer's freed counts last seen, freed here and to be sent; the class whose count the
  next flit carries (R350) -/
  sent : WCred := {}
  seen : WCred := {}
  freed : WCred := {}
  cc : Nat := 0
  /-- messages received, oldest first, each with the data slots it is still short of (R349) -/
  rx : List (Nat × WMsg) := []
  /-- messages waiting to be sent, and the flits put on the line by the last action that put any, in order -/
  tx : List WMsg := []
  wire : List WFlit := []
  reqs : List WReq := []
  nextTx : Nat := 0
  /-- requests held so far (R347) -/
  nHeld : Nat := 0
  /-- empty flits owed to the peer: an acknowledgement, or a freed count of each class (R350, R351) -/
  owe : Nat := 0
  /-- the identity the peer gave in INIT (R352) -/
  peerId : Nat := 0
  /-- the pace line held in S: its companion byte address; published and consumed counts last taken (R358, R360) -/
  paceS : Option Nat := none
  p : Nat := 0
  c : Nat := 0
  /-- event-ring lines held in E, each with the port it lies behind (R358), the producer count and the buffer (R366); a
  line is filled and written back in one step, so none stays dirty -/
  evE : List (Nat × Nat) := []
  /-- a line of the ring was refused for its address (R354), on the port given: the fault is still to be recorded -/
  evBad : Option Nat := none
  prod : Nat := 0
  evBuf : List EvEntry := []
  dropped : Nat := 0
  told7031 : Bool := false
  intDue : Bool := false
  intAt : Option Nat := none
  deriving DecidableEq, Repr

structure WioraSt where
  port : SMap WPortSt := []
  /-- the open batch: its slot map, its cookie and its resolve list (R361 to R363) -/
  slots : List Nat := []
  cookie : Nat := 0
  resolve : List Nat := []
  /-- full batch number k (WLINK_BQ_STAT.next holds its low bits) -/
  next : Nat := 0
  /-- the open batch was released and waits for room in the event buffer (R363) -/
  ending : Bool := false
  /-- the header of batch `next` is being read (R362) -/
  reading : Bool := false
  /-- accesses of others under way through a companion window, by number -/
  aways : List (Nat × AwayTo) := []
  nextAway : Nat := 0
  deriving DecidableEq, Repr

structure OwnSt where
  /-- the elapsed time at which the lease ends (R371) -/
  leaseAt : Nat := 0
  /-- the mandatory byte of the last in-band interrupt put on the management bus (R368) -/
  ibi : Option Byte := none
  deriving DecidableEq, Repr

/-! ### Memory, staging and loading (chapters 12 and 13) -/

/-- A load descriptor in progress (R328, R333). -/
structure LoadSlot where
  num : Nat
  desc : List Byte
  attempt : Nat := 1
  since : Nat := 0
  /-- offset of the next read to send, reads in flight, and the data received by offset -/
  next : Nat := 0
  flight : List Nat := []
  got : SMap (List Byte) := []
  deriving DecidableEq, Repr

/-- A response to a loader read that has come in: its data, or none. -/
structure LoadAnswer where
  slot : Nat
  num : Nat
  off : Nat
  attempt : Nat
  data : Option (List Byte)
  deriving DecidableEq, Repr

structure LoadSt where
  /-- descriptors in progress by digest lane -/
  slots : SMap (Option LoadSlot) := []
  inbox : List LoadAnswer := []
  /-- the stage copy in progress: the descriptor (R320) -/
  stage : Option (List Byte) := none
  /-- next scrub unit of each device, and the elapsed time of its last one (R315) -/
  scrub : SMap Nat := []
  scrubAt : SMap (Option Nat) := []
  /-- devices in a refresh window until the elapsed time given (R311) -/
  refresh : SMap Nat := []
  /-- the MRDIMMs found installed, a bit each (R309, R312) -/
  dimms : Nat := 0
  deriving DecidableEq, Repr

/-! ### Groups and slices (chapter 10) -/

structure TopoSt where
  /-- a logical coordinate and a fence that wait for the next boundary (R279, R282) -/
  lcoord : Option Nat := none
  /-- TOPO_LCOORD was written since reset -/
  lwritten : Bool := false
  fence : Option Bool := none
  /-- elapsed time at which the survey began, and that of the last SURVEY symbols sent (R266, R270) -/
  surveyAt : Nat := 0
  sentAt : Option Nat := none
  deriving DecidableEq, Repr

/-! ### Reference domains (chapter 11) -/

structure DomSt where
  /-- elapsed time at entry to the present state (R290) -/
  since : Nat := 0
  /-- consecutive seconds with a valid message and a PPS edge -/
  good : Nat := 0
  /-- the last PPS edge by the model's clock, in fraction units; a valid message since it -/
  pps : Option Nat := none
  heard : Bool := false
  /-- seq and seconds of the last valid message, and invalid ones since (R289) -/
  msg : Option (Nat × Nat) := none
  bad : Nat := 0
  /-- elapsed time of the last 0x3065 -/
  err : Option Nat := none
  deriving DecidableEq, Repr

structure NetSt where
  a : DomSt := {}
  b : DomSt := {}
  /-- a domain has been selected since reset (R291) -/
  chosen : Bool := false
  /-- phase still to slew, in fraction units (R295) -/
  target : Int := 0
  /-- elapsed time at which holdover began (R293) -/
  holdAt : Nat := 0
  deriving DecidableEq, Repr

/-! ### Boot, identity and debug (chapter 15) -/

/-- The debug test access port (R395). -/
structure JtagSt where
  /-- the instruction register -/
  ir : Nat := 0x02
  /-- which instruction drives the pins: 0 none, 1 EXTEST, 2 CLAMP, 3 HIGHZ -/
  drive : Nat := 0
  /-- the boundary register as SAMPLE/PRELOAD captured the pins, in the order of `pinOrder` -/
  pins : List Bool := []
  /-- what SAMPLE/PRELOAD preloaded, a bit each in that order: EXTEST and CLAMP drive the output pins with it -/
  latch : Nat := 0
  deriving DecidableEq, Repr

/-- A copy of the index high-water mark in the boot-state store: N, its write count, and its CRC-32 (R393). At
manufacture N and the count are 0. -/
structure AttCopy where
  next : Nat := 0
  writes : Nat := 0
  crc : Nat := 0x6522DF69
  deriving DecidableEq, Repr

structure BootSt where
  /-- elapsed time at entry to the present step -/
  since : Nat := 0
  /-- the STANDBY step failed: the module stays silent (R381) -/
  silent : Bool := false
  /-- the image buffer (R385) -/
  img : SMap Byte := []
  /-- go was taken while RESET_N is held low (R452) -/
  goWait : Bool := false
  /-- VERIFY reads its image over Wiora, from port `src` - 1; the header has been read (R385) -/
  xfer : Option Nat := none
  xferHdr : Bool := false
  /-- the body copied to the management cores, and the entry points of the cores that run (R388) -/
  core : List Byte := []
  entries : List Nat := []
  /-- whether each of those cores started in machine mode -/
  machine : List Bool := []
  /-- MEMORY: the step of R310 in progress, and the rate that step 1 tries, coded as MEM_CFG.hbm_rate -/
  memPhase : Nat := 0
  memRate : Nat := 0
  /-- blown rollback fuses, a bit each (R389) -/
  rb : Nat := 0
  /-- the commit in progress: its target, and the pulses given to the fuse it stands at -/
  commit : Option Nat := none
  pulses : Nat := 0
  /-- elapsed time at which the present pulse began -/
  fuseAt : Nat := 0
  /-- a reset that waits for the fuse being programmed: 2 module, 1 warm, 0 compute (R380) -/
  waitReset : Option Nat := none
  /-- DBG_LOCK, and the elapsed time at which its programming is complete (R391) -/
  dbgLock : Bool := false
  dbgUntil : Nat := 0
  /-- elapsed time and kind of the last reset: 3 power-up, 2 module, 1 warm, 0 compute (R380) -/
  lastReset : Option (Nat × Nat) := none
  /-- the two copies of the index high-water mark (R393) -/
  copyA : AttCopy := {}
  copyB : AttCopy := {}
  /-- the report being signed and its index; when signing began (R392) -/
  signing : Option (List Byte × Nat) := none
  signAt : Nat := 0
  /-- report and signature (BOOT_ATT_OUT) -/
  out : List Byte := []
  jtag : JtagSt := {}
  deriving DecidableEq, Repr

/-! ### Cartouche (chapter 17) -/

/-- A record in its slot (R426, R427). -/
structure CartRec where
  num : Nat
  body : List Byte
  sig : List Byte := []
  /-- 1 awaiting signature, 2 signed, 3 final unsigned -/
  st : Nat := 1
  collected : Bool := false
  deriving DecidableEq, Repr

/-- The counts at one end of an interval (R426). -/
structure CartMark where
  tick : Nat := 0
  total : Nat := 0
  samples : Nat := 0
  cmd : Nat := 0xFFFFFFFF
  /-- flits forwarded for other slices so far, and the tamper count -/
  flits : Nat := 0
  tamper : Nat := 0
  deriving DecidableEq, Repr

structure CartSt where
  /-- the supply is present (R429) -/
  on : Bool := true
  /-- energy metered, in 1/64,000,000 mJ (R421) -/
  acc : Nat := 0
  samples : Nat := 0
  /-- the samples of the last 64 ms, newest first: mV and mA -/
  last : List (Nat × Nat) := []
  temp : Nat := 0
  /-- the open tenure's slice; 0 in a gap -/
  slice : Nat := 0
  start : CartMark := {}
  /-- samples outside the rated conditions in the interval (R422), and a supply loss within it -/
  outSamples : Nat := 0
  lossIn : Bool := false
  /-- the records that are in their slots, oldest first -/
  recs : List CartRec := []
  written : Nat := 0
  collected : Nat := 0
  /-- uncollected records overwritten (R427) -/
  ovf : Nat := 0
  sigNext : Nat := 0
  tamper : Nat := 0
  losses : Nat := 0
  /-- the command log, newest last, and the commands logged (R424) -/
  log : List (List Byte) := []
  logged : Nat := 0
  verified : Bool := false
  moved : Bool := false
  storeBad : Bool := false
  /-- the present sample is out of range; the last command's result -/
  outNow : Bool := false
  result : Nat := 0
  /-- commands that wait for the next sample boundary: agent, CART_CMD word, and whether R373 refused it (R423) -/
  pend : List (Nat × Nat × Bool) := []
  /-- faults to record once FD is running: code and auxiliary word (R429) -/
  owed : List (Nat × Nat) := []
  /-- the means over the last 64 ms: mW, mV and units of 10 mA (R437) -/
  power : Nat := 0
  mv : Nat := 0
  ca : Nat := 0
  /-- the module identity saved at pairing (R432) -/
  pair : Option (BitVec 64) := none
  deriving DecidableEq, Repr

/-! ### Power (chapter 18) -/

structure PwrSt where
  /-- the input is outside its limits; MATE_N is closed; both switches are open (R438, R440) -/
  inputBad : Bool := false
  mate : Bool := true
  opened : Bool := false
  /-- the main switch opened by itself and stays open until a module reset (R439, R448) -/
  tripped : Bool := false
  /-- domains still to be enabled, the one being enabled first, and the elapsed time of its enable (R442) -/
  bring : List Nat := []
  bringAt : Nat := 0
  /-- consecutive samples below the throttle-off value, by bank and by stack, and of the power at or below the cap
  (R446); two are enough -/
  coolBank : SMap Nat := []
  coolStack : SMap Nat := []
  coolPower : Nat := 0
  /-- the sensors that took a die's banks down: die and sensor (R447) -/
  down : List (Nat × Nat) := []
  /-- elapsed time of the last 0x9030 -/
  warm : Option Nat := none
  /-- the tick at which SYNC last went high, or will (R449) -/
  syncAt : Option Nat := none
  /-- RESET_N is held low (R452) -/
  resetLow : Bool := false
  deriving DecidableEq, Repr

/-- The state of the module. -/
structure State where
  /-- the 32-bit registers that differ from their reset value, by control-space byte address -/
  csr : SMap Word := []
  latch : LatchSt := {}
  resp : Resp := {}
  time : TimeSt := {}
  /-- device memory by byte address: HBM4, depot and DDR5 (R304); an unlisted byte reads 0 -/
  mem : SMap Byte := []
  /-- poisoned protected units by device address (R314) -/
  poison : SMap Bool := []
  sheets : SMap SheetSt := []
  fab : FabSt := {}
  ports : SMap PortSt := []
  x : XSt := {}
  fault : FaultSt := {}
  wiora : WioraSt := {}
  own : OwnSt := {}
  load : LoadSt := {}
  topo : TopoSt := {}
  net : NetSt := {}
  boot : BootSt := {}
  cart : CartSt := {}
  pwr : PwrSt := {}
  /-- the model's own: how many free values were drawn so far -/
  free : Nat := 0
  /-- the commands that wait, first in first out -/
  pending : List Instr := []
  deriving DecidableEq, Repr

/-- The module right after power-up reset: every register at its reset value, nothing listed. -/
def State.reset : State := {}

end Sys2Proof.Machine
end

