-- ==== Sys2Proof/Machine/Exact.lean ====
section
/-! DEFINITION. Exact arithmetic: the element formats and legends (chapter 02), rounding to the datum, accumulation,
packed blocks and conversion out (chapter 03), the contour bins and the outlier split (chapter 04). -/

namespace Sys2Proof.Machine

/-! ### Decoded values (R25, R26) -/

/-- A decoded operand: (-1)^neg x m x 2^k, or a NaN, or an infinity. -/
structure Num where
  neg : Bool := false
  m : Nat := 0
  k : Int := 0
  nan : Bool := false
  inf : Bool := false
  deriving DecidableEq, Repr

/-- A NaN or an infinity. -/
def Num.bad (n : Num) : Bool := n.nan || n.inf

/-- A float code of `e` exponent bits, `w` significand bits and bias `b`; specials are for the caller to test. -/
def decFloat (e w b c : Nat) : Num :=
  let x := bits c w e
  let m := c % 2 ^ w
  { neg := bit c (e + w)
    m := if x = 0 then m else 2 ^ w + m
    k := (if x = 0 then 1 else (x : Int)) - b - w }

/-- A binary float whose all-ones exponent holds the infinities and the NaNs. -/
def decIeee (e w b c : Nat) : Num :=
  let n := decFloat e w b c
  if bits c w e = 2 ^ e - 1 then { n with nan := decide (c % 2 ^ w ≠ 0), inf := decide (c % 2 ^ w = 0) } else n

/-- A two's complement integer code of `w` bits. -/
def decInt (w c : Nat) : Num :=
  let v := sInt w c
  { neg := decide (v < 0), m := v.natAbs }

def decE2M1 (c : Nat) : Num := decFloat 2 1 1 c
def decE4M3 (c : Nat) : Num := { decFloat 4 3 7 c with nan := decide (c % 128 = 127) }
def decE5M2 (c : Nat) : Num := decIeee 5 2 15 c
def decBf16 (c : Nat) : Num := decIeee 8 7 127 c
def decFp32 (c : Nat) : Num := decIeee 8 23 127 c
def decUe8m0 (c : Nat) : Num := { m := 1, k := (c : Int) - 127, nan := decide (c = 0xFF) }

/-- An element by its activation or target code (R148). -/
def decElem (fmt c : Nat) : Num :=
  if fmt = 0 then decInt 4 c else if fmt = 1 then decE2M1 c else if fmt = 2 then decInt 8 c
  else if fmt = 3 then decE4M3 c else if fmt = 4 then decE5M2 c else if fmt = 5 then decBf16 c else decFp32 c

/-- Bits of an element of an activation or target format. -/
def elemBits (fmt : Nat) : Nat := if fmt ≤ 1 then 4 else if fmt ≤ 4 then 8 else if fmt = 5 then 16 else 32

/-- Element `i` of `w` bits of a packed array (R27). -/
def elemAt (w : Nat) (bs : List Byte) (i : Nat) : Nat :=
  if w < 8 then bits (leField bs (i * w / 8) 1) (i * w % 8) w else leField bs (i * (w / 8)) (w / 8)

/-- Elements of `w` bits packed into bytes (R27). -/
def packElems (w : Nat) (cs : List Nat) : List Byte :=
  leBytes (ceilDiv (cs.length * w) 8) (cs.foldr (fun c acc => c % 2 ^ w + acc * 2 ^ w) 0)

/-- The value times 2^j. -/
def Num.scale (n : Num) (j : Int) : Num := { n with k := n.k + j }

/-- The product of two decoded values; bad where either is. -/
def Num.mul (a b : Num) : Num :=
  { neg := a.neg != b.neg, m := a.m * b.m, k := a.k + b.k, nan := a.bad || b.bad }

/-- The signed integer of a decoded value. -/
def Num.int (n : Num) : Int := if n.neg then -(n.m : Int) else n.m

/-- The block scale a code holds (R33): mode 0 unscaled, 1 MX, 2 fine. -/
def blockScale (mode c : Nat) : Num :=
  if mode = 0 then { m := 1 } else if mode = 1 then decUe8m0 c else decE4M3 c

/-- Block length of a scale mode (R33). -/
def blockLen (mode : Nat) : Nat := if mode = 2 then 16 else 32

/-- The factor 2^-6 of an INT8 operand under an MX scale (R34). -/
def mxFactor (int8 : Bool) (mode : Nat) : Int := if int8 && mode == 1 then -6 else 0

/-! ### Legends (R38, R39) and INT8 weights (R50) -/

/-- Whether a legend entry is invalid (R39). -/
def legendBad (e : Nat) : Bool := bits e 14 2 == 2 || bits e 8 2 == 2 || bits e 0 4 != 0

/-- A term's sign. -/
def signOf (c : Nat) : Int := if c = 1 then 1 else if c = 3 then -1 else 0

/-- A weight as terms: signs and exponents. -/
abbrev Terms := List (Int × Int)

/-- The two terms of a legend entry (R38). -/
def legendTerms (e : Nat) : Terms :=
  [(signOf (bits e 14 2), sInt 4 (bits e 10 4)), (signOf (bits e 8 2), sInt 4 (bits e 4 4))]

/-- The non-adjacent form of `w` from digit `i` on, `n` digits at most (R50). -/
def nafTerms : Nat → Nat → Int → Terms
  | 0, _, _ => []
  | n + 1, i, w =>
    if w % 2 = 0 then nafTerms n (i + 1) (w / 2)
    else
      let d : Int := if w % 4 = 1 then 1 else -1
      (d, (i : Int)) :: nafTerms n (i + 1) ((w - d) / 2)

/-- The value of a term list times 2^8: every term's exponent is -8 or more. -/
def termSum (ts : Terms) : Int := ts.foldl (fun acc t => acc + t.1 * 2 ^ (t.2 + 8).toNat) 0

/-! ### Products, the datum and the accumulator (R53 to R61) -/

/-- A product p x 2^k (R53): of an activation, a weight times 2^8 and a combined scale. -/
def formProduct (act : Num) (w : Int) (c : Num) : Int × Int :=
  (act.int * w * c.int, act.k + c.k - 8)

/-- What a product adds to its entry, and the marks and counts it makes (R58). -/
structure Contribution where
  q : Int := 0
  under : Bool := false
  ovf : Bool := false
  /-- nonzero and rounded to zero -/
  toZero : Bool := false
  inv : Bool := false
  deriving DecidableEq, Repr

/-- The greatest magnitude a rounded product keeps (R58). -/
def clampMax : Nat := 2 ^ 150 - 1

/-- Rounding n x 2^-sh to nearest, ties to even; and whether anything was lost. -/
def rneShift (n sh : Nat) : Nat × Bool :=
  let q := n >>> sh
  let rem := n % 2 ^ sh
  let half := 2 ^ sh / 2
  (if sh ≠ 0 ∧ (rem > half ∨ (rem = half ∧ q % 2 = 1)) then q + 1 else q, decide (rem ≠ 0))

/-- round_to_datum of R58. -/
def roundToDatum (p : Int) (k d : Int) : Contribution :=
  let m := p.natAbs
  let (q, lost) := if d ≤ k then (m <<< (k - d).toNat, false) else rneShift m (d - k).toNat
  let c := min q clampMax
  { q := if p < 0 then -(c : Int) else c, under := lost, ovf := decide (clampMax < q),
    toZero := decide (m ≠ 0 ∧ q = 0) }

/-- The contribution of one product: an invalid one adds zero (R31). -/
def contribute (act : Num) (w : Int) (c : Num) (wbad : Bool) (d : Int) : Contribution :=
  if act.bad || c.bad || wbad then { inv := true }
  else
    let (p, k) := formProduct act w c
    roundToDatum p k d

/-- An entry's integer A. -/
def AccEntry.a (e : AccEntry) : Int := e.val.toInt

/-- An entry's datum as a signed exponent (R55). -/
def AccEntry.d (e : AccEntry) : Int := e.datum.toInt

/-- A sum that saturates at 192 bits, and whether it did (R61). -/
def sat192 (v : Int) : Int × Bool :=
  if v > 2 ^ 191 - 1 then (2 ^ 191 - 1, true) else if v < -(2 ^ 191) then (-(2 ^ 191), true) else (v, false)

/-- An entry with an integer added and marks ORed in (R60, R61, R66). -/
def AccEntry.add (e : AccEntry) (v : Int) (ovf under inv : Bool) : AccEntry :=
  let (r, sat) := sat192 (e.a + v)
  { e with val := BitVec.ofInt 192 r, ovf := e.ovf || ovf || sat, under := e.under || under, inv := e.inv || inv }

/-- A cleared entry of datum `d` (R57). -/
def AccEntry.clear (d : BitVec 10) : AccEntry := { datum := d }

/-- The total of a column's contributions: the adder tree drops no bit (R60). -/
def Contribution.sum (cs : List Contribution) : Contribution :=
  cs.foldl (fun a c => { q := a.q + c.q, under := a.under || c.under, ovf := a.ovf || c.ovf,
                         inv := a.inv || c.inv }) {}

/-! ### Packed blocks (R63 to R66) -/

/-- The least w with -2^(w-1) ≤ a ≤ 2^(w-1) - 1. -/
def signedWidth (a : Int) : Nat :=
  let m := if a < 0 then (-a - 1).toNat else a.toNat
  if m = 0 then 1 else Nat.log2 m + 2

/-- The header of a packed block (R64). -/
def blockHeader (w : Nat) (esc ovf under inv deferred : Bool) : Nat :=
  w % 256 + 256 * b2n esc + 512 * b2n ovf + 1024 * b2n under + 2048 * b2n inv + 4096 * b2n deferred

/-- 32 fields of `w` bits as one number. -/
def fieldBits (w : Nat) (vs : List Int) : Nat :=
  vs.foldr (fun v acc => uNat w v + acc * 2 ^ w) 0

/-- Bytes of an in-place block of width `w`. -/
def blockLenOf (w : Nat) : Nat := 4 * (w + 1)

/-- A packed block: its in-place form, its escaped form where it has one, and whether it is deferred. -/
structure Packed where
  main : List Byte
  esc : Option (List Byte) := none
  deferred : Bool := false
  deriving DecidableEq, Repr

/-- pack_block of R65; `reserve`: none means no limit; `force`: the block escapes whatever its entries need (R215). -/
def packBlock (es : List AccEntry) (w : Nat) (reserve : Option Nat) (force : Bool) : Packed :=
  let ovf := es.any (·.ovf)
  let under := es.any (·.under)
  let inv := es.any (·.inv)
  let need := (es.map (fun e => signedWidth e.a)).foldl max 1
  if need ≤ w && !inv && !force then
    { main := leBytes (blockLenOf w) (blockHeader w false ovf under false false
        + fieldBits w (es.map (·.a)) * 2 ^ 16) }
  else
    let defer := decide (reserve = some 0)
    let head := leBytes (blockLenOf w) (blockHeader w true ovf under false defer)
    if defer then { main := head, deferred := true }
    else
      let mask := es.foldr (fun e acc => b2n e.inv + 2 * acc) 0
      { main := head
        esc := some (leBytes 776 (blockHeader 192 true ovf under inv false + mask * 2 ^ 32
          + fieldBits 192 (es.map (·.a)) * 2 ^ 64)) }

/-- What a consumer takes from a block (R66). -/
structure Unpacked where
  vals : List Int := []
  ovf : Bool := false
  under : Bool := false
  mask : Nat := 0
  /-- the header is malformed -/
  bad : Bool := false
  /-- an in-place block that announces an escape: its value comes in the escaped block -/
  announces : Bool := false
  deriving DecidableEq, Repr

/-- Decode a block: `escaped` says which form its place calls for. The reserved bits of an escaped block count with
its header's (R63, R66). -/
def unpackBlock (bs : List Byte) (escaped : Bool) : Unpacked :=
  let n := leNat bs
  let w := bits n 0 8
  let ovf := bit n 9
  let under := bit n 10
  if w = 0 ∨ 192 < w ∨ bits n 13 3 ≠ 0 ∨ bit n 12 = true ∨ (escaped = true ∧ (w ≠ 192 ∨ bit n 8 = false ∨ bits n 16 16 ≠ 0))
      ∨ (escaped = false ∧ bit n 11 = true) then { bad := true }
  else if escaped then
    { vals := (List.range 32).map (fun i => sInt 192 (bits n (64 + 192 * i) 192)), ovf := ovf, under := under,
      mask := bits n 32 32 }
  else if bit n 8 then { vals := List.replicate 32 0, ovf := ovf, under := under, announces := true }
  else { vals := (List.range 32).map (fun i => sInt w (bits n (16 + w * i) w)), ovf := ovf, under := under }

/-- Entry `i` of a block of receiving entries after a decoded block is added (R66). -/
def Unpacked.addTo (u : Unpacked) (i : Nat) (e : AccEntry) : AccEntry :=
  if u.bad then { e with inv := true } else e.add (u.vals.getD i 0) u.ovf u.under (bit u.mask i)

/-! ### Conversion out (R67 to R70) -/

/-- Rounding modes (R152). -/
def modeRne : Nat := 0
def modeRtz : Nat := 1
def modeSr : Nat := 2

/-- A target's parameters (R67): exponent bits and significand bits of a float, bias, greatest code, marked code. -/
structure Target where
  isInt : Bool := false
  width : Nat
  /-- significand bits p -/
  p : Nat := 0
  bias : Int := 0
  /-- the code of the largest magnitude written, without sign -/
  maxCode : Nat
  marked : Nat
  /-- floor(log2) of the largest magnitude, for R73 -/
  emax : Int := 0
  deriving DecidableEq, Repr

def targetOf (fmt : Nat) : Target :=
  if fmt = 0 then { isInt := true, width := 4, maxCode := 7, marked := 0 }
  else if fmt = 1 then { width := 4, p := 2, bias := 1, maxCode := 7, marked := 0, emax := 2 }
  else if fmt = 2 then { isInt := true, width := 8, maxCode := 127, marked := 0 }
  else if fmt = 3 then { width := 8, p := 4, bias := 7, maxCode := 0x7E, marked := 0x7F, emax := 8 }
  else if fmt = 4 then { width := 8, p := 3, bias := 15, maxCode := 0x7B, marked := 0x7E, emax := 15 }
  else if fmt = 5 then { width := 16, p := 8, bias := 127, maxCode := 0x7F7F, marked := 0x7FC0 }
  else { width := 32, p := 24, bias := 127, maxCode := 0x7F7FFFFF, marked := 0x7FC00000 }

/-- floor(log2 n) for n ≥ 1. -/
def ilog2 (n : Nat) : Int := (Nat.log2 n : Int)

/-- The rounded multiple of 2^qx of a magnitude n x 2^e (R70). -/
def roundMag (n : Nat) (e qx : Int) (mode r : Nat) : Nat :=
  if qx ≤ e then n <<< (e - qx).toNat
  else
    let sh := (qx - e).toNat
    if mode = modeRne then (rneShift n sh).1
    else
      let q := n >>> sh
      let f := ((n % 2 ^ sh) <<< 32) >>> sh
      if mode = modeSr ∧ 2 ^ 32 ≤ f + r then q + 1 else q

/-- A converted element: its code, and whether it saturated. -/
structure Conv where
  code : Nat
  sat : Bool := false
  deriving DecidableEq, Repr

/-- The code of a float magnitude n x 2^qx, n ≤ 2^p, without sign. -/
def floatCode (t : Target) (n : Nat) (qx : Int) : Nat :=
  let (n, qx) := if n = 2 ^ t.p then (2 ^ (t.p - 1), qx + 1) else (n, qx)
  if n < 2 ^ (t.p - 1) then n
  else (qx + (t.p - 1 : Nat) + t.bias).toNat * 2 ^ (t.p - 1) + (n - 2 ^ (t.p - 1))

/-- convert of R70 for the exact value v x 2^e; `q` is the quantum exponent of an integer target. -/
def convertTo (t : Target) (v : Int) (e : Int) (mode r : Nat) (q : Int) : Conv :=
  if v = 0 then { code := 0 }
  else
    let n := v.natAbs
    let neg := decide (v < 0)
    if t.isInt then
      let m := roundMag n e q mode r
      let lim := t.maxCode + b2n neg
      let c := min m lim
      { code := uNat t.width (if neg then -(c : Int) else c), sat := decide (lim < m) }
    else
      let qx := max (ilog2 n + e) (1 - t.bias) - (t.p - 1 : Nat)
      let c := floatCode t (roundMag n e qx mode r) qx
      { code := min c t.maxCode + b2n neg * 2 ^ (t.width - 1), sat := decide (t.maxCode < c) }

/-- A value to convert: v x 2^e exact, or a marked entry. -/
structure Val where
  v : Int := 0
  e : Int := 0
  marked : Bool := false
  deriving DecidableEq, Repr

/-- The exact value of an entry times the per-tensor scale (R67, R69). -/
def valOf (x : AccEntry) (s : Num) : Val :=
  { v := x.a * s.int, e := x.d + s.k, marked := x.inv || s.bad }

/-- Whether |a| ≤ |b|. -/
def Val.le (a b : Val) : Bool :=
  let k := min a.e b.e
  decide (a.v.natAbs <<< (a.e - k).toNat ≤ b.v.natAbs <<< (b.e - k).toNat)

/-- The exponent x of a block's shared scale for a largest magnitude m (R73); 0 for m = 0. -/
def sharedExp (t : Target) (m : Val) : Int :=
  if m.v = 0 then 0 else min (max (ilog2 m.v.natAbs + m.e - t.emax) (-127)) 127

/-- The values of a block from the largest magnitude down, each with its index; equal ones by index (R85). -/
def insertVal (i : Nat) (a : Val) : List (Nat × Val) → List (Nat × Val)
  | [] => [(i, a)]
  | b :: l => if a.le b.2 then b :: insertVal i a l else (i, a) :: b :: l

def rankVals (vs : List Val) : List (Nat × Val) :=
  (vs.zipIdx).foldl (fun l e => insertVal e.2 e.1 l) []

/-- The exact difference v - q of R86, as an integer and an exponent. -/
def residualOf (a : Val) (q : Int) (qe : Int) : Int × Int :=
  let k := min a.e qe
  (a.v * 2 ^ (a.e - k).toNat - q * 2 ^ (qe - k).toNat, k)

/-- The value of a code as an integer and an exponent; INT8 under MX has the quantum `q`. -/
def codeValue (fmt : Nat) (q : Int) (c : Nat) : Int × Int :=
  let n := decElem fmt c
  (n.int, if (targetOf fmt).isInt then q else n.k)

/-- One converted block of 32 elements. -/
structure BlockConv where
  codes : List Nat
  scale : Nat := 0x7F
  /-- four bytes each: the two residual records (R87) -/
  recs : List Nat := [0, 0]
  /-- saturations counted, clamp, nan_out, outliers taken, candidates left over -/
  sats : Nat := 0
  clamp : Bool := false
  nanOut : Bool := false
  taken : Nat := 0
  excess : Nat := 0
  deriving DecidableEq, Repr

/-- A residual record (R87). -/
def residualRec (res pos : Nat) : Nat := res % 65536 + pos % 32 * 65536 + 2 ^ 21

/-- Converts one block of up to 32 values (R70, R73, R85, R86); `r` gives the random word of element i. -/
def convertBlock (fmt mode : Nat) (mx split : Bool) (vs : List Val) (r : Nat → Nat) : BlockConv :=
  let t := targetOf fmt
  if mx && vs.any (·.marked) then
    { codes := List.replicate vs.length 0, scale := 0xFF, nanOut := true }
  else
    let rank := rankVals (vs.map fun a => if a.marked then {} else a)
    let m := (rank.getD (if split then 2 else 0) (0, {})).2
    let x := if mx then sharedExp t m else 0
    let q : Int := if mx && fmt == 2 then -6 else 0
    let one (i : Nat) (a : Val) : Conv := convertTo t a.v (a.e - x) mode (r i) q
    let cand := if split then
        rank.filter (fun e => !((vs.getD e.1 {}).marked) && (one e.1 e.2).sat) else []
    let out := (cand.take 2).map (·.1)
    let conv := vs.zipIdx.map fun e => if e.1.marked then { code := t.marked } else one e.2 e.1
    let residual (i : Nat) : Conv :=
      let (qv, qe) := codeValue fmt q (conv.getD i { code := 0 }).code
      let (d, k) := residualOf (vs.getD i {}) qv (qe + x)
      convertTo (targetOf 5) d k modeRne 0 0
    let res := out.map residual
    let sats := (conv.zipIdx.filter (fun e => e.1.sat && !(out.contains e.2))).length
    { codes := conv.map (·.code)
      scale := (x + 127).toNat
      recs := [match out with | i :: _ => residualRec (res.getD 0 { code := 0 }).code i | [] => 0,
               match out with | _ :: i :: _ => residualRec (res.getD 1 { code := 0 }).code i | _ => 0]
      sats := sats
      clamp := decide (0 < sats) || res.any (·.sat)
      nanOut := vs.any (·.marked)
      taken := out.length
      excess := cand.length - 2 }

/-! ### Stochastic rounding (R71) -/

def philoxRound (c : Nat × Nat × Nat × Nat) (k0 k1 : Nat) : Nat × Nat × Nat × Nat :=
  let p0 := 0xD2511F53 * c.1
  let p1 := 0xCD9E8D57 * c.2.2.1
  (Nat.xor (Nat.xor (p1 / 2 ^ 32) c.2.1) k0, p1 % 2 ^ 32,
   Nat.xor (Nat.xor (p0 / 2 ^ 32) c.2.2.2) k1, p0 % 2 ^ 32)

def philoxRounds : Nat → Nat × Nat × Nat × Nat → Nat → Nat → Nat × Nat × Nat × Nat
  | 0, c, _, _ => c
  | n + 1, c, k0, k1 =>
    philoxRounds n (philoxRound c k0 k1) ((k0 + 0x9E3779B9) % 2 ^ 32) ((k1 + 0xBB67AE85) % 2 ^ 32)

/-- The random word of the element with logical index `i`. -/
def philox (k0 k1 i : Nat) : Nat := (philoxRounds 10 (i % 2 ^ 32, bits i 32 32, 0, 0) k0 k1).1

/-! ### Contour bins (R78) -/

/-- The bin of an exact value v x 2^e under base `b`. -/
def contourBin (bad : Bool) (v : Nat) (e b : Int) : Nat :=
  if bad then 63
  else if v = 0 then 0
  else
    let x := ilog2 v + e
    if x < b then 1 else min (2 + (x - b).toNat) 62

end Sys2Proof.Machine
end

