-- ==== Sys2Proof/Config.lean ====
section
/-! DEFINITION. What an implementation fixes and what the spec leaves open: constants without a body, so that no
proof can see what they are. -/

namespace Sys2Proof.Config

/-- The `n`-th free value a run draws: a value the spec does not state. -/
opaque freeValue : Nat → Nat

/-- The module identity sensed from the fuses (GEN_UID, R397). -/
opaque uid : BitVec 64

/-- Whether the ordering code is NCV-2896-S (R1, R397). -/
opaque codeS : Bool

/-- The value of the address straps ADDR2 to ADDR0 (R451). -/
opaque straps : BitVec 3

/-- The provisional identity GETPID returns (R368): the spec states none. -/
opaque pid : BitVec 48

/-- LINK_TS_TX_ASYM and LINK_TS_RX_ASYM of the peer on a port: the exchange of R297 takes them from the peer's own
registers, and no message of the spec carries them. -/
opaque peerTxAsym : Nat → BitVec 20
opaque peerRxAsym : Nat → BitVec 20

/-- Whether the load descriptor at a companion-window address, at an elapsed time, names an arrival counter (R337): what
companion memory holds is not the module's. -/
opaque ringNames : Nat → Nat → Nat → Bool

/-- The vendor root public key in the boot ROM, 64 bytes: the root, then the public seed (R384). -/
opaque vendorKey : BitVec 512

/-- The secret seed and the PRF key of the attestation key seed, which no register shows (R390). -/
opaque attSecret : BitVec 256
opaque attPrf : BitVec 256

/-- The secret seed and the PRF key of the cartouche's own key (R428). -/
opaque cartSecret : BitVec 256
opaque cartPrf : BitVec 256

/-- The attestation root and public seed, 32 bytes each, and the vendor's signature in the certificate (R394). -/
opaque attRoot : BitVec 256
opaque attSeed : BitVec 256
opaque certSign : Nat → Byte

/-- The cartouche's identity, and the bytes of its certificate (R432, R437). -/
opaque cartId : BitVec 64
opaque cartCert : Nat → Byte

end Sys2Proof.Config
end

