-- ==== Sys2Proof/Machine/Ops.lean ====
section
/-! DEFINITION. The named operations over registers, time, memory and free values that every meaning uses. -/

namespace Sys2Proof.Machine

/-- What a command answers. -/
abbrev Out := Host.Outcome State Fault Refusal

/-! ### Registers -/

/-- The 32-bit register at control-space address `a`, as stored. -/
def State.reg (s : State) (a : Nat) : Word := smGet regReset s.csr a

/-- The state with the 32-bit register at `a` set. -/
def State.setReg (s : State) (a : Nat) (w : Word) : State := { s with csr := smSet regReset s.csr a w }

/-- The 64 bits stored at `a` and `a + 4` (R9). -/
def State.reg64 (s : State) (a : Nat) : Nat := (s.reg a).toNat + 2 ^ 32 * (s.reg (a + 4)).toNat

/-- The state with the 64 bits at `a` and `a + 4` set. -/
def State.setReg64 (s : State) (a n : Nat) : State :=
  (s.setReg a (BitVec.ofNat 32 n)).setReg (a + 4) (BitVec.ofNat 32 (n >>> 32))

/-- The value of a register field. -/
def State.fld (s : State) (f : Fld) : Nat :=
  if f.lo + f.width ≤ 32 then bits (s.reg f.addr).toNat f.lo f.width
  else bits (s.reg64 f.addr) f.lo f.width

/-- The state with a register field set to the low bits of `v`. -/
def State.setFld (s : State) (f : Fld) (v : Nat) : State :=
  if f.lo + f.width ≤ 32 then
    s.setReg f.addr (BitVec.ofNat 32 (putBits (s.reg f.addr).toNat f.lo f.width v))
  else s.setReg64 f.addr (putBits (s.reg64 f.addr) f.lo f.width v)

/-- Whether a one-bit field is set. -/
def State.flag (s : State) (f : Fld) : Bool := decide (s.fld f ≠ 0)

/-- The state with a counter field raised by `k`, staying at its all-ones value (R262). -/
def State.count (s : State) (f : Fld) (k : Nat) : State := s.setFld f (satAdd f.width (s.fld f) k)

/-- The state with a bit set. -/
def State.raiseBit (s : State) (f : Fld) : State := s.setFld f 1

/-- The state with a field set where `c` holds. -/
def State.setIf (s : State) (c : Bool) (f : Fld) (v : Nat) : State := if c then s.setFld f v else s

/-! ### Free values -/

/-- The next free value, below `2 ^ w`, and the state after drawing it. -/
def State.draw (s : State) (w : Nat) : Nat × State :=
  (Config.freeValue s.free % 2 ^ w, { s with free := s.free + 1 })

/-! ### Time (R168) -/

/-- The frame number: bits [63:16] of the tick count. -/
def State.frame (s : State) : Nat := s.time.tick / 65536

/-- The tick within the frame. -/
def State.inFrame (s : State) : Nat := s.time.tick % 65536

/-- The state with time moved on by `n` ticks. -/
def State.pass (s : State) (n : Nat) : State :=
  { s with time := { s.time with tick := s.time.tick + n, elapsed := s.time.elapsed + n } }

/-- The state at tick count `t`, if that is still to come. -/
def State.toTick (s : State) (t : Nat) : State := s.pass (t - s.time.tick)

/-- The state at elapsed time `t`, if that is still to come. -/
def State.toElapsed (s : State) (t : Nat) : State := s.pass (t - s.time.elapsed)

/-- The first tick count at or after the present one that is congruent to `r` modulo `m`. -/
def State.nextAt (s : State) (r m : Nat) : Nat := s.time.tick + (r + m - s.time.tick % m) % m

/-- The first tick count after the present one that is congruent to `r` modulo `m`. -/
def State.nextAfter (s : State) (r m : Nat) : Nat := s.time.tick + 1 + (r + m - (s.time.tick + 1) % m) % m

/-- The current schedule frame: frame number - start frame - slips (TIME_SCHED_FRAME, R191). -/
def State.schedFrame (s : State) : Nat :=
  (s.frame + 2 ^ 49 - s.fld TIME_JOB_START_frame - s.time.slips % 2 ^ 48) % 2 ^ 48

/-! ### Parts -/

def State.sheet (s : State) (i : Nat) : SheetSt := smGet (fun _ => {}) s.sheets i
def State.setSheet (s : State) (i : Nat) (x : SheetSt) : State :=
  { s with sheets := smSet (fun _ => {}) s.sheets i x }
def State.modSheet (s : State) (i : Nat) (f : SheetSt → SheetSt) : State := s.setSheet i (f (s.sheet i))

def State.port (s : State) (p : Nat) : PortSt := smGet (fun _ => {}) s.ports p
def State.setPort (s : State) (p : Nat) (x : PortSt) : State :=
  { s with ports := smSet (fun _ => {}) s.ports p x }
def State.modPort (s : State) (p : Nat) (f : PortSt → PortSt) : State := s.setPort p (f (s.port p))

def State.wport (s : State) (p : Nat) : WPortSt := smGet (fun _ => {}) s.wiora.port p
def State.setWport (s : State) (p : Nat) (x : WPortSt) : State :=
  { s with wiora := { s.wiora with port := smSet (fun _ => {}) s.wiora.port p x } }
def State.modWport (s : State) (p : Nat) (f : WPortSt → WPortSt) : State := s.setWport p (f (s.wport p))

def State.dx (s : State) (e : Nat) : DxSt := smGet (fun _ => {}) s.fab.dx e
def State.setDx (s : State) (e : Nat) (x : DxSt) : State :=
  { s with fab := { s.fab with dx := smSet (fun _ => {}) s.fab.dx e x } }

def State.modFab (s : State) (f : FabSt → FabSt) : State := { s with fab := f s.fab }
def State.modX (s : State) (f : XSt → XSt) : State := { s with x := f s.x }
def State.modTime (s : State) (f : TimeSt → TimeSt) : State := { s with time := f s.time }
def State.modFault (s : State) (f : FaultSt → FaultSt) : State := { s with fault := f s.fault }
def State.modLoad (s : State) (f : LoadSt → LoadSt) : State := { s with load := f s.load }

/-- The descriptor in progress on digest lane `k`. -/
def State.lane (s : State) (k : Nat) : Option LoadSlot := smGet (fun _ => none) s.load.slots k

/-- Whether lane `k` still runs attempt `attempt` of descriptor `num`: a response to any other is late (R333, R340). -/
def State.loadWants (s : State) (k num attempt : Nat) : Bool :=
  match s.lane k with
  | some x => x.num == num && x.attempt == attempt
  | none => false
def State.modTopo (s : State) (f : TopoSt → TopoSt) : State := { s with topo := f s.topo }
def State.modNet (s : State) (f : NetSt → NetSt) : State := { s with net := f s.net }
def State.modBoot (s : State) (f : BootSt → BootSt) : State := { s with boot := f s.boot }
def State.modCart (s : State) (f : CartSt → CartSt) : State := { s with cart := f s.cart }
def State.modPwr (s : State) (f : PwrSt → PwrSt) : State := { s with pwr := f s.pwr }
def State.modWiora (s : State) (f : WioraSt → WioraSt) : State := { s with wiora := f s.wiora }
def State.modOwn (s : State) (f : OwnSt → OwnSt) : State := { s with own := f s.own }
def State.modLatch (s : State) (f : LatchSt → LatchSt) : State := { s with latch := f s.latch }

/-- The state with the answer of a read. -/
def State.answer (s : State) (status : Nat) (data : List Byte) : State :=
  { s with resp := { status := status, data := data } }

/-! ### Association lists with one entry per key -/

/-- The value at a key, `d` where there is none. -/
def alGet {β : Type} (d : β) (l : List (Nat × β)) (k : Nat) : β :=
  match l.find? (fun e => e.1 == k) with
  | some e => e.2
  | none => d

/-- The list with one entry for `k`. -/
def alSet {β : Type} (l : List (Nat × β)) (k : Nat) (v : β) : List (Nat × β) :=
  (k, v) :: l.filter (fun e => e.1 != k)

/-! ### The device memory map (R304, R309, R317) -/

/-- A region of the device memory map. -/
inductive Region where
  | hbm
  /-- the schedule region -/
  | sched
  /-- the store windows of the sheets -/
  | sheetWin
  /-- the parts of the depot: its schedule window and its staging area (R317) -/
  | depotSched
  | depotStage
  | ddr
  | compA
  | compB
  deriving DecidableEq, Repr

/-- The DDR5 tier's size in bytes: n x capacity, 0 while it is absent or disabled (R309). -/
def State.tierSize (s : State) : Nat :=
  let n := if s.fld MEM_STAT_tier = 1 then 4 else if s.fld MEM_STAT_tier = 2 then 8 else 0
  n * s.fld MEM_STAT_cap * 2 ^ 30

/-- The region an address lies in, with its first and last-plus-one address; none where it is unmapped (R304). -/
def State.region (s : State) (a : Nat) : Option (Region × Nat × Nat) :=
  let d := 0x030000000000
  let sb := d + s.fld MEM_DEPOT_PART_sched_base * 2 ^ 20
  let gb := d + s.fld MEM_DEPOT_PART_stage_base * 2 ^ 20
  let gl := s.fld MEM_DEPOT_PART_stage_size * 2 ^ 20
  -- the depot window is one region: where its parts touch, a range may run from one into the other
  let se := if gb = sb + 2 ^ 20 then gb + gl else sb + 2 ^ 20
  let ge := if sb = gb + gl then sb + 2 ^ 20 else gb + gl
  if a < 0x005FE0000000 then some (.hbm, 0, 0x005FE0000000)
  else if a < 0x006000000000 then some (.sched, 0x005FE0000000, 0x006000000000)
  else if 0x020000000000 ≤ a ∧ a < 0x020050000000 then
    some (.sheetWin, 0x020000000000, 0x020050000000)
  else if sb ≤ a ∧ a < sb + 2 ^ 20 then some (.depotSched, sb, se)
  else if gb ≤ a ∧ a < gb + gl then some (.depotStage, gb, ge)
  else if 0x100000000000 ≤ a ∧ a < 0x100000000000 + s.tierSize then
    some (.ddr, 0x100000000000, 0x100000000000 + s.tierSize)
  else if 0x800000000000 ≤ a ∧ a < 0xC00000000000 then some (.compA, 0x800000000000, 0xC00000000000)
  else if 0xC00000000000 ≤ a ∧ a < 0x1000000000000 then some (.compB, 0xC00000000000, 0x1000000000000)
  else none

/-- The region that holds `[a, a + n)` wholly, if one does. -/
def State.within (s : State) (a n : Nat) : Option Region :=
  match s.region a with
  | some (r, _, hi) => if a + n ≤ hi then some r else none
  | none => none

/-- Whether `[a, a + n)` touches the depot's schedule window, which is read-only (R319). -/
def State.touchesSched (s : State) (a n : Nat) : Bool :=
  let sb := 0x030000000000 + s.fld MEM_DEPOT_PART_sched_base * 2 ^ 20
  decide (a < sb + 2 ^ 20 ∧ sb < a + n)

/-- The size of the protected unit of an address (R313). -/
def unitSize (a : Nat) : Nat :=
  if 0x030000000000 ≤ a ∧ a < 0x030010000000 then 8 else 64

/-- The device number of an address (R309, R325): 0-7 stacks, 8-15 MRDIMMs, 16 the depot. -/
def State.devOf (s : State) (a : Nat) : Nat :=
  if a < 0x006000000000 then a / (48 * 2 ^ 30)
  else if 0x030000000000 ≤ a ∧ a < 0x030010000000 then 16
  else
    let u := (a - 0x100000000000) / 4096
    if s.fld MEM_STAT_tier = 1 then 8 + 2 * (u % 4) else 8 + u % 8

/-! ### Bytes of device memory -/

/-- `n` bytes of device memory from `a`, outside sheets and companion windows. -/
def State.memRead (s : State) (a n : Nat) : List Byte := smRead zeroByte s.mem a n

/-- The state with bytes written from `a`. -/
def State.memWrite (s : State) (a : Nat) (bs : List Byte) : State :=
  { s with mem := smWrite zeroByte s.mem a bs }

/-- The protected units that `[a, a + n)` touches. -/
def unitsOf (a n : Nat) : List Nat :=
  let u := unitSize a
  if n = 0 then [] else (List.range ((a + n - 1) / u - a / u + 1)).map (fun i => (a / u + i) * u)

/-- Whether a protected unit holds poison (R314). -/
def State.isPoison (s : State) (u : Nat) : Bool := smGet (fun _ => false) s.poison u

def State.setPoison (s : State) (u : Nat) (b : Bool) : State :=
  { s with poison := smSet (fun _ => false) s.poison u b }

/-- Whether any unit of `[a, a + n)` holds poison. -/
def State.poisonIn (s : State) (a n : Nat) : Bool := (unitsOf a n).any s.isPoison

/-- The units `[a, a + n)` covers whole: a write of it clears their poison (R314). -/
def coveredUnits (a n : Nat) : List Nat :=
  (unitsOf a n).filter (fun u => decide (a ≤ u ∧ u + unitSize a ≤ a + n))

/-- The state with the poison of every covered unit cleared. -/
def State.clearPoison (s : State) (a n : Nat) : State :=
  (coveredUnits a n).foldl (fun t u => t.setPoison u false) s

end Sys2Proof.Machine
end

