-- ==== Sys2Proof/Machine/WSend.lean ====
section
/-! DEFINITION. The sending side of the Wiora ports (R346 to R351, R354) and the event rings (R365 to R367). -/

namespace Sys2Proof.Machine

/-! ### Messages (R347, R348) -/

/-- The 88 bits of a message header. -/
def WMsg.header (m : WMsg) : Nat :=
  atBit m.cls 3 0 ||| atBit m.op 5 3 ||| atBit m.txid 10 8 ||| atBit m.len 6 18 ||| atBit m.line 40 24
    ||| atBit m.status 4 64 ||| atBit m.word 4 68 ||| atBit m.size 1 72 ||| atBit m.lineHi 6 73

/-- The message whose 88 header bits are `n`, without data. -/
def msgOf (n : Nat) : WMsg :=
  { cls := bits n 0 3, op := bits n 3 5, txid := bits n 8 10, len := bits n 18 6, line := bits n 24 40,
    status := bits n 64 4, word := bits n 68 4, size := bits n 72 1, lineHi := bits n 73 6 }

/-- Length in lines: 0 means 64 (R347). -/
def WMsg.lines (m : WMsg) : Nat := ringSize m.len 64

/-- The data slots that follow a header (R348): an RdData has them whatever its status. -/
def WMsg.slots (m : WMsg) : Nat :=
  if m.cls = 1 then (if m.op = 5 then m.lines else if m.op = 6 ∨ m.op = 7 ∨ m.op = 9 then 1 else 0)
  else if m.cls = 4 then (if m.op = 2 then 1 else m.lines)
  else 0

/-- Byte address of a message's line. -/
def WMsg.addr (m : WMsg) : Nat := m.line * 64 + m.lineHi * 2 ^ 46

/-! ### Flits (R346) -/

/-- The link header of a flit. -/
def wHeader (seq ack op cc frh frd : Nat) : BitVec 48 :=
  BitVec.ofNat 48 (atBit seq 10 0 ||| atBit ack 10 10 ||| atBit op 2 20 ||| atBit cc 2 22 ||| atBit frh 12 24
    ||| atBit frd 12 36)

/-- The payload region: up to four headers, then three data slots. -/
def wPayload (hs : List Nat) (data : List Byte) : List Byte :=
  padTo 44 (hs.flatMap (leBytes 11)) ++ padTo 192 data

/-- A flit of port `q` with its acknowledgement and its credits in place. -/
def WPortSt.stamp (q : WPortSt) (seq op : Nat) (pay : List Byte) : WFlit :=
  { hdr := wHeader seq (subMod 10 q.expect 1) op q.cc (q.freed.h.getD q.cc 0) q.freed.d, payload := pay }

/-- The payloads of the flits that carry a message: its header leads the first one. -/
def WMsg.payloads (m : WMsg) : List (List Byte) :=
  let n := max 1 (ceilDiv m.data.length 192)
  (List.range n).map fun i =>
    wPayload (if i = 0 then [m.header] else []) ((m.data.drop (192 * i)).take 192)

/-- Whether port `q` has the credits a message takes and room for its flits in the replay buffer (R350, R351). -/
def WPortSt.credit (q : WPortSt) (m : WMsg) : Bool :=
  let i := m.cls - 1
  decide (subMod 12 (q.sent.h.getD i 0) (q.seen.h.getD i 0) < 256)
    && decide (subMod 12 q.sent.d q.seen.d + m.slots ≤ 1024)
    && decide (q.replay.length + m.payloads.length ≤ 256)

/-- The first message that may be sent: no earlier one of its class waits, so that no class waits behind another
(R350). -/
def firstSendable (q : WPortSt) : List WMsg → List Nat → Option (WMsg × List WMsg)
  | [], _ => none
  | m :: ms, blocked =>
    if !(blocked.contains m.cls) && q.credit m then some (m, ms)
    else match firstSendable q ms (m.cls :: blocked) with
      | some (m', ms') => some (m', m :: ms')
      | none => none

/-- A flit on the line: it carries the acknowledgement and the freed counts of the class whose turn it is (R350). -/
def WPortSt.emit (q : WPortSt) (seq op : Nat) (pay : List Byte) : WPortSt :=
  { q with wire := q.wire ++ [q.stamp seq op pay], cc := (q.cc + 1) % 4, owe := q.owe - 1 }

/-- One flit put on the line and into the replay buffer (R351). -/
def WPortSt.putFlit (q : WPortSt) (pay : List Byte) : WPortSt :=
  { q.emit q.next 0 pay with replay := q.replay ++ [q.stamp q.next 0 pay], next := (q.next + 1) % 1024 }

/-- `n` empty flits: what they carry is the acknowledgement and the freed counts. An empty flit takes no sequence
number and is not held (DESIGN CHOICE: R351 numbers flits and says nothing of empty ones). -/
def WPortSt.idle : Nat → WPortSt → WPortSt
  | 0, q => q
  | n + 1, q => WPortSt.idle n (q.emit q.next 0 (wPayload [] []))

/-- A flit that carries an op only. -/
def WPortSt.putOp (q : WPortSt) (op : Nat) : WPortSt := { q with wire := [] }.emit q.next op (wPayload [] [])

/-- Everything held is sent again from the oldest flit on, with the acknowledgement and the freed counts of now
(R351). -/
def WPortSt.resend (q : WPortSt) : WPortSt :=
  q.replay.foldl (fun (t : WPortSt) f => t.emit (bits f.hdr.toNat 0 10) 0 f.payload) { q with wire := [] }

/-- Waiting messages go on the line while credits and the replay buffer allow, at most `n` of them. -/
def WPortSt.pump : Nat → WPortSt → WPortSt
  | 0, q => q
  | n + 1, q =>
    match firstSendable q q.tx [] with
    | none => q
    | some (m, rest) =>
      let q := { q with
        tx := rest
        sent := { h := q.sent.h.set (m.cls - 1) ((q.sent.h.getD (m.cls - 1) 0 + 1) % 4096)
                  d := (q.sent.d + m.slots) % 4096 } }
      WPortSt.pump n (m.payloads.foldl WPortSt.putFlit q)

/-- What a port puts on the line: its waiting messages, and then the empty flits it still owes. -/
def WPortSt.flow (q : WPortSt) : WPortSt :=
  let t := { q with wire := [] }.pump q.tx.length
  let t := t.idle t.owe
  if t.wire.isEmpty then { t with wire := q.wire } else t

/-- Whether a Wiora port is ACTIVE (R352). -/
def State.wactive (s : State) (p : Nat) : Bool := decide (s.fld (WLINK_STAT_state p) = 4)

/-- What waits on port `p` is sent as far as possible. -/
def State.wPump (s : State) (p : Nat) : State :=
  if s.wactive p then s.modWport p WPortSt.flow else s

/-- A message handed to port `p`. -/
def State.wSend (s : State) (p : Nat) (m : WMsg) : State :=
  (s.modWport p fun q => { q with tx := q.tx ++ [m] }).wPump p

/-! ### Requests of the module (R354) -/

/-- The port a companion-window address goes out on, and the companion byte address; none where the sum with
WLINK_CBASE reaches 2^52. -/
def State.compAddr (s : State) (a : Nat) : Nat × Option Nat :=
  let p := if a < 0xC00000000000 then 0 else 1
  let b := (a - (if p = 0 then 0x800000000000 else 0xC00000000000)) + s.fld (WLINK_CBASE_base p) * 64
  (p, if b < 2 ^ 52 then some b else none)

/-- The same for `n` bytes, of which none may reach 2^52. -/
def State.compRange (s : State) (a n : Nat) : Nat × Option Nat :=
  match s.compAddr a with
  | (p, some b) => (p, if b + n ≤ 2 ^ 52 then some b else none)
  | (p, none) => (p, none)

/-- The first transaction identity from `t` on, of `n` in rotation, that no outstanding request has. -/
def WPortSt.freeFrom (q : WPortSt) : Nat → Nat → Option Nat
  | 0, _ => none
  | n + 1, t => if q.reqs.any (fun r => r.txid == t) then q.freeFrom n ((t + 1) % 1024) else some t

/-- A free transaction identity: at most 1,024 requests are outstanding (R347). -/
def WPortSt.freeTx (q : WPortSt) : Option Nat := q.freeFrom 1024 q.nextTx

/-- Requests of port `q` that are outstanding. -/
def WPortSt.outstanding (q : WPortSt) : Nat := (q.reqs.filter fun r => decide (r.txid < 1024)).length

/-- A request sent on port `p` to companion byte address `b`: it takes a free transaction identity, or is held while
1,024 are outstanding (R347). -/
def State.wRequest (s : State) (p : Nat) (who : WWho) (op b len word size : Nat) (data : List Byte) : State :=
  let q := s.wport p
  let m : WMsg := { cls := 1, op := op, len := len % 64, line := b / 64 % 2 ^ 40, lineHi := b / 2 ^ 46, word := word,
                    size := size, data := data }
  let r : WReq := { txid := 1024 + q.nHeld, who := who, op := op, addr := b, len := len, size := size }
  match q.freeTx with
  | some t =>
    (s.setWport p { q with nextTx := (t + 1) % 1024, reqs := q.reqs ++ [{ r with txid := t }] }).wSend p
      { m with txid := t }
  | none => s.setWport p { q with nHeld := q.nHeld + 1, reqs := q.reqs ++ [{ r with held := some m }] }

/-- An identity has come free: the oldest request that is held takes it. -/
def State.wUnhold (s : State) (p : Nat) : State :=
  let q := s.wport p
  match q.reqs.find? (fun r => r.held.isSome), q.freeTx with
  | some r, some t =>
    let take (e : WReq) : WReq := if e.txid == r.txid then { e with txid := t, held := none } else e
    let s := s.setWport p { q with nextTx := (t + 1) % 1024, reqs := q.reqs.map take }
    s.wSend p { r.held.getD { cls := 1, op := r.op } with txid := t }
  | _, _ => s

/-- The request of `who` for `b`, if one is outstanding or answered. -/
def WPortSt.reqOf (q : WPortSt) (who : WWho) (b : Nat) : Option WReq :=
  q.reqs.find? (fun r => decide (r.who = who) && r.addr == b)

/-- The port state without the request of transaction `t`. -/
def WPortSt.dropReq (q : WPortSt) (t : Nat) : WPortSt :=
  { q with reqs := q.reqs.filter (fun r => r.txid != t) }

/-- A request of port `p` is done with: its identity is free for one that is held. -/
def State.wDropReq (s : State) (p t : Nat) : State := (s.modWport p fun q => q.dropReq t).wUnhold p

/-! ### Event rings (R365, R366) -/

/-- The 64 bytes of event entry `n` of a ring of `size` entries. -/
def EvEntry.line (e : EvEntry) (n size dropped : Nat) : List Byte :=
  leBytes 1 e.kind ++ leBytes 1 (1 - (n / size) % 2) ++ leBytes 2 0 ++ leBytes 4 dropped ++ leBytes 8 n
    ++ padTo 32 e.body ++ leBytes 16 0

def State.evSize (s : State) (p : Nat) : Nat := ringSize (s.fld (WLINK_EVR_size p)) 65536

/-- The port event entry `n` of port `p`'s ring goes out on, and its companion byte address there: none where the sum
reaches 2^52. No place at all where it does not lie in a companion window (R354, R365). -/
def State.evPlace (s : State) (p n : Nat) : Option (Nat × Option Nat) :=
  let a := s.fld (WLINK_EVR_base p) * 64 + 64 * (n % s.evSize p)
  if 0x800000000000 ≤ a then some (s.compRange a 64) else none

/-- The line of event entry `n` is asked for in state E, unless it is held or asked for already. One whose address is
refused is marked, and its fault is recorded by `State.evGo` (R354). -/
def State.evAsk (s : State) (p n : Nat) : State :=
  match s.evPlace p n with
  | none => s
  | some (o, none) => s.modWport p fun q => { q with evBad := some o }
  | some (o, some b) =>
    if (s.wport p).evE.contains (o, b) || ((s.wport o).reqOf (.evLine p) b).isSome then s
    else s.wRequest o (.evLine p) 2 b 1 0 0 []

/-- The lines of the next eight entries are asked for (R358). -/
def State.evAhead (s : State) (p : Nat) : State :=
  if s.flag (WLINK_EVR_enable p) then iter 8 (fun k t => t.evAsk p ((t.wport p).prod + k)) s else s

/-- Whether a line is one of the next eight entries' of port `p`'s ring. -/
def State.evWants (s : State) (p : Nat) (l : Nat × Nat) : Bool :=
  s.flag (WLINK_EVR_enable p)
    && (List.range 8).any fun k => decide (s.evPlace p ((s.wport p).prod + k) = some (l.1, some l.2))

/-- An events-lost entry, kind 0x03, joins the ring of port WLINK_BQ_CFG.evport. R365 names the entry and its ring and
not when it is posted: the model posts one once an entry that carries a count of dropped entries is written, where the
buffer has room (log entry 109). -/
def State.evLost (s : State) : State :=
  let p := s.fld WLINK_BQ_CFG_evport
  if s.flag (WLINK_EVR_enable p) && Nat.blt (s.wport p).evBuf.length 256 then
    s.modWport p fun q => { q with evBuf := q.evBuf ++ [{ kind := 3, body := [] }] }
  else s

/-- The oldest buffered entry is written if its line is held in E, and the line eight entries on is asked for; its own
line is asked for otherwise (R358, R366). Nothing is written while the ring is not in use (R377). -/
def State.evStep (s : State) (p : Nat) : State :=
  let q := s.wport p
  match q.evBuf, s.evPlace p q.prod with
  | e :: rest, some (o, some b) =>
    if !s.flag (WLINK_EVR_enable p) || decide (s.evSize p ≤ q.prod - q.c) then s
    else if q.evE.contains (o, b) then
      let data := e.line q.prod (s.evSize p) q.dropped
      let s := s.setWport p { q with
        evBuf := rest, prod := q.prod + 1, dropped := 0, told7031 := false
        evE := q.evE.filter (fun l => l != (o, b)) }
      let s := (s.wRequest o (.evWrite p) 7 b 1 0 0 data).evAsk p (q.prod + 8)
      if q.dropped = 0 then s else s.evLost
    else s.evAsk p q.prod
  | _, _ => s

/-- Buffered entries are written as far as the ring and the lines held allow. -/
def State.evPump (s : State) (p : Nat) : State :=
  iter (s.wport p).evBuf.length (fun _ t => t.evStep p) s

/-- An event entry for port `p`'s ring: into the buffer, or dropped and counted where the buffer is full and the
entry may be dropped (R366). The answer says whether an entry was dropped. -/
def State.postEvent (s : State) (p kind : Nat) (body : List Byte) (mayDrop : Bool) : Bool × State :=
  if !s.flag (WLINK_EVR_enable p) then (false, s)
  else if mayDrop && 256 ≤ (s.wport p).evBuf.length then
    let s := s.modWport p fun q => { q with dropped := q.dropped + 1 }
    (true, s.raiseBit (WLINK_EVR_STAT_dropped p))
  else
    (false, (s.modWport p fun q => { q with evBuf := q.evBuf ++ [{ kind := kind, body := body }] }).evPump p)

end Sys2Proof.Machine
end

