-- ==== Sys2Proof/Machine/Flit.lean ====
section
/-! DEFINITION. Fabric flits: the CRC of R233, the header fields of R234 to R237 and the packets of the X class. -/

namespace Sys2Proof.Machine

/-! ### CRC-32 (R233): polynomial 0x04C1_1DB7 reflected, initial value and final XOR all ones -/

def crcBit (c : Nat) : Nat := if c % 2 = 1 then (c / 2) ^^^ 0xEDB88320 else c / 2

def crcByte (c : Nat) (b : Byte) : Nat :=
  crcBit (crcBit (crcBit (crcBit (crcBit (crcBit (crcBit (crcBit (c ^^^ b.toNat))))))))

def crc32 (bs : List Byte) : Nat := (bs.foldl crcByte 0xFFFFFFFF) ^^^ 0xFFFFFFFF

end Sys2Proof.Machine

namespace Sys2Proof

open Sys2Proof.Machine

/-- A header field: bits [lo + w - 1 : lo]. -/
def RawFlit.h (f : RawFlit) (lo w : Nat) : Nat := bits f.hdr.toNat lo w

/-- The flit with a header field set. -/
def RawFlit.setH (f : RawFlit) (lo w v : Nat) : RawFlit :=
  { f with hdr := BitVec.ofNat 256 (putBits f.hdr.toNat lo w v) }

/-- The CRC of a flit: header bytes 0 to 27, then the payload (R233). -/
def flitCrc (f : RawFlit) : Nat := crc32 (leBytes 28 f.hdr.toNat ++ padTo 256 f.payload)

/-- The flit with its CRC in place. -/
def RawFlit.sealed (f : RawFlit) : RawFlit := f.setH 224 32 (flitCrc f)

def RawFlit.crcOk (f : RawFlit) : Bool := decide (f.h 224 32 = flitCrc f)

/-- A flit whose header is empty but for its class. -/
def blankFlit (cls : Nat) (payload : List Byte) : RawFlit :=
  { hdr := BitVec.ofNat 256 (atBit cls 2 24), payload := padTo 256 payload }

/-! ### Common fields (R234) -/

def RawFlit.seq (f : RawFlit) : Nat := f.h 0 12
def RawFlit.ack (f : RawFlit) : Nat := f.h 12 12
/-- 0 S, 1 X, 2 C, 3 idle -/
def RawFlit.cls (f : RawFlit) : Nat := f.h 24 2
/-- 0 none, 1 NAK, 2 PAUSE, 3 reserved -/
def RawFlit.op (f : RawFlit) : Nat := f.h 26 2
def RawFlit.shared (f : RawFlit) : Bool := decide (f.h 28 1 = 1)
def RawFlit.slice (f : RawFlit) : Nat := f.h 112 16

/-- The six freed counts of a header (R234). -/
def RawFlit.freed (f : RawFlit) : Six :=
  { sd := f.h 32 12, sh := f.h 44 12, xd := f.h 56 12, xh := f.h 68 12, cd := f.h 80 12, ch := f.h 92 12 }

def RawFlit.setFreed (f : RawFlit) (x : Six) : RawFlit :=
  (((((f.setH 32 12 x.sd).setH 44 12 x.sh).setH 56 12 x.xd).setH 68 12 x.xh).setH 80 12 x.cd).setH 92 12 x.ch

/-! ### S flits (R235) -/

def RawFlit.tag (f : RawFlit) : Nat := f.h 128 24
/-- the path index of an S or X flit -/
def RawFlit.path (f : RawFlit) : Nat := f.h 152 16
/-- the hop count of an S or X flit -/
def RawFlit.hop (f : RawFlit) : Nat := f.h 168 4
def RawFlit.index (f : RawFlit) : Nat := f.h 172 13
/-- 0 normal, 1 overflow, 2 void, 3 bundle -/
def RawFlit.form (f : RawFlit) : Nat := f.h 185 2
def RawFlit.ac (f : RawFlit) : Nat := f.h 187 12
def RawFlit.W (f : RawFlit) : Nat := f.h 199 8
def RawFlit.r (f : RawFlit) : Nat := f.h 207 8
def RawFlit.e (f : RawFlit) : Nat := f.h 215 8
def RawFlit.last (f : RawFlit) : Bool := decide (f.h 223 1 = 1)

/-- An S flit with the transfer fields of R207. -/
def mkSFlit (slice tag path hop index form ac W r e : Nat) (last : Bool) (payload : List Byte) : RawFlit :=
  let h := atBit slice 16 112 ||| atBit tag 24 128 ||| atBit path 16 152 ||| atBit hop 4 168 ||| atBit index 13 172
    ||| atBit form 2 185 ||| atBit ac 12 187 ||| atBit W 8 199 ||| atBit r 8 207 ||| atBit e 8 215 ||| atBit (b2n last) 1 223
  { hdr := BitVec.ofNat 256 h, payload := padTo 256 payload }

/-! ### X flits (R236) -/

/-- The source coordinate of an X flit as a coordinate word: group [9:0], row [13:10], column [16:14]. -/
def RawFlit.xsource (f : RawFlit) : Nat := f.h 128 17
def RawFlit.xseq (f : RawFlit) : Nat := f.h 172 16
def RawFlit.xack (f : RawFlit) : Nat := f.h 188 16
def RawFlit.xackValid (f : RawFlit) : Bool := decide (f.h 204 1 = 1)
def RawFlit.echo (f : RawFlit) : Bool := decide (f.h 205 1 = 1)
def RawFlit.first (f : RawFlit) : Bool := decide (f.h 206 1 = 1)
def RawFlit.lastX (f : RawFlit) : Bool := decide (f.h 207 1 = 1)
def RawFlit.token (f : RawFlit) : Option Nat := if f.h 223 1 = 1 then some (f.h 208 15) else none
def RawFlit.mark (f : RawFlit) : Bool := decide (f.h 29 1 = 1)

/-- A flit that is an acknowledgement alone. -/
def RawFlit.ackOnly (f : RawFlit) : Bool := !f.first && !f.lastX && f.xackValid

end Sys2Proof

namespace Sys2Proof.Machine

/-- Whether a packet of this op carries data after its header (R236): write requests, messages, read responses. -/
def opHasData (op : Nat) : Bool := op == 2 || op == 3 || op == 0x81

/-- The bytes of an X packet: its 16-byte header and its data (R236). -/
def XPacket.bytes (p : XPacket) : List Byte :=
  leBytes 1 p.op ++ leBytes 1 p.status ++ leBytes 2 p.len ++ leBytes 6 p.addr ++ leBytes 6 0
    ++ (if opHasData p.op then p.data else [])

/-- How many flits a packet takes: 256 payload bytes each. -/
def XPacket.flits (p : XPacket) : Nat := max 1 (ceilDiv p.bytes.length 256)

/-- The flits of a packet from source coordinate `src`, with the acknowledgement `ack` and the echoed mark. -/
def XPacket.cut (p : XPacket) (src : Nat) (ack : Option Nat) (echo : Bool) : List RawFlit :=
  let n := p.flits
  (List.range n).map fun i =>
    let h := atBit 1 2 24 ||| atBit src 17 128 ||| atBit p.path 16 152 ||| atBit 1 4 168 ||| atBit p.xseq 16 172
      ||| atBit (ack.getD 0) 16 188 ||| atBit (b2n ack.isSome) 1 204 ||| atBit (b2n echo) 1 205
      ||| atBit (b2n (i == 0)) 1 206 ||| atBit (b2n (i + 1 == n)) 1 207 ||| atBit (p.token.getD 0) 15 208
      ||| atBit (b2n p.token.isSome) 1 223
    { hdr := BitVec.ofNat 256 h, payload := padTo 256 ((p.bytes.drop (256 * i)).take 256) }

/-- An acknowledgement alone: an X flit that is neither the first nor the last of a packet and carries none (R226). -/
def ackFlit (src path next ack : Nat) (echo : Bool) : RawFlit :=
  let h := atBit 1 2 24 ||| atBit src 17 128 ||| atBit path 16 152 ||| atBit 1 4 168 ||| atBit next 16 172
    ||| atBit ack 16 188 ||| atBit 1 1 204 ||| atBit (b2n echo) 1 205
  { hdr := BitVec.ofNat 256 h, payload := List.replicate 256 0 }

/-- The packet that a whole list of flits carries, first flit first. -/
def packetOf (fs : List RawFlit) : XPacket :=
  let bs := fs.flatMap (·.payload)
  let len := leField bs 2 2
  let op := leField bs 0 1
  match fs.head? with
  | none => {}
  | some f =>
    { op := op, status := leField bs 1 1, len := len, addr := leField bs 4 6,
      data := if opHasData op then (bs.drop 16).take len else [],
      xseq := f.xseq, token := f.token, path := f.path }

/-! ### Fields of a transfer-table entry (R196 to R198) -/

def enTick (e : Nat) : Nat := bits e 0 16
/-- length of the main region in flits; for a bundle the slots it owns -/
def enLength (e : Nat) : Nat := ringSize (bits e 16 12) 4096
def enTag (e : Nat) : Nat := bits e 80 24
/-- 0 departure, 1 transit, 2 mark, 3 bundle -/
def enClass (e : Nat) : Nat := bits e 104 2
def enMulti (e : Nat) : Bool := bit e 106
def enReduce (e : Nat) : Bool := bit e 107
def enW (e : Nat) : Nat := bits e 108 8
def enR (e : Nat) : Nat := bits e 116 8
def enGuard (e : Nat) : Nat := bits e 124 2
def enKeep (e : Nat) : Bool := bit e 126
def enPath (e : Nat) : Nat := bits e 28 16
def enAc (e : Nat) : Nat := bits e 44 12
def enSrc (e : Nat) : Nat := bits e 56 24
def enBundle (e : Nat) : Nat := bits e 56 10
def enIn (e : Nat) : Nat := bits e 28 5
def enMask (e : Nat) : Nat := bits e 33 31
def enLocal (e : Nat) : Bool := bit e 64
def enJoin (e : Nat) : Bool := bit e 65
def enJoinPort (e : Nat) : Nat := bits e 66 5

/-- The out-ports of a transit entry. -/
def outPorts (e : Nat) : List Nat := (List.range 31).filter fun p => bit (enMask e) p

/-- Units of the escape region of a count of escaped blocks. -/
def escUnits (n : Nat) : Nat := ceilDiv (776 * n) 256

def srcDevice (en : Nat) : Bool := bit (enSrc en) 23
def srcUnit (en : Nat) : Nat := enSrc en % 65536

/-! ### Flows (R211, R217) -/

/-- Every main flit, and every escape flit announced, has been taken. -/
def FlowSt.isDone (f : FlowSt) : Bool :=
  match f.mains with
  | some m => decide (m + f.escapes ≤ f.taken)
  | none => false

end Sys2Proof.Machine
end

