-- ==== Sys2Proof/Machine/XSend.lean ====
section
/-! DEFINITION. Paths (R202), coordinates and routes (R264, R265) and the sending side of residual traffic
(R226, R227, R257, R258). -/

namespace Sys2Proof.Machine

/-! ### Path entries (R202) -/

def State.pathEntry (s : State) (i : Nat) : Nat := smGet (fun _ => 0) s.fab.path i

/-- The out-port at the h-th module of the route; 31 where the route ends. -/
def pathHop (e h : Nat) : Nat := if h < 8 then bits e (8 * h) 5 else 31
def pathDest (e : Nat) : Nat := bits e 64 48
def pathNb (e : Nat) : Nat := bits e 112 7
/-- the spacing of the path in ticks -/
def pathSpacing (e : Nat) : Nat := if bit e 120 then 8 else 2
def pathValid (e : Nat) : Bool := bit e 121
def pathAlt (e : Nat) : Nat := bits e 128 16
def pathAltv (e : Nat) : Bool := bit e 144
/-- A path whose hop[0] is 0x1F is a tree path. -/
def pathTree (e : Nat) : Bool := pathHop e 0 == 31

/-! ### Coordinates (R263 to R265) -/

def coordGroup (c : Nat) : Nat := bits c 0 10
def coordRow (c : Nat) : Nat := bits c 10 4
def coordCol (c : Nat) : Nat := bits c 14 3
def mkCoord (g r x : Nat) : Nat := g % 1024 + r % 16 * 1024 + x % 8 * 16384

/-- The logical coordinate word of this module (R282). -/
def State.lcoord (s : State) : Nat := s.fld TOPO_LCOORD_coord

/-- The module that port `p` of the module at `c` leads to in the nominal wiring, and the port it arrives on, in an
installation of `G` groups (R264, R265). -/
def wired (G c p : Nat) : Nat × Nat :=
  let g := coordGroup c
  let r := coordRow c
  let x := coordCol c
  if p < 7 then
    let y := if p < x then p else p + 1
    (mkCoord g r y, if x < y then x else x - 1)
  else if p < 15 then
    let k := p - 7
    let y := if k < r then k else k + 1
    (mkCoord g y x, 7 + (if r < y then r else r - 1))
  else
    let q := (8 * r + x) * 16 + (p - 15)
    let h := (g + q + 1) % max G 1
    let q' := G - 2 - q
    (mkCoord h (q' / 16 / 8) (q' / 16 % 8), 15 + q' % 16)

/-- The number of groups G (TOPO_CFG.gcount holds G - 1). -/
def State.groups (s : State) : Nat := s.fld TOPO_CFG_gcount + 1

/-- The coordinate of the module a path leads to from here: the hops followed through the wiring, the first global
hop through TOPO_GPEER where that entry is valid. -/
def State.routeDest (s : State) (e : Nat) : Nat :=
  let step (acc : Nat × Bool) (h : Nat) : Nat × Bool :=
    let p := pathHop e h
    if acc.2 || p == 31 then (acc.1, true)
    else if h == 0 && 15 ≤ p && s.flag (TOPO_GPEER_valid (p - 15)) then
      (s.fld (TOPO_GPEER_coord (p - 15)), false)
    else ((wired s.groups acc.1 p).1, false)
  ((List.range 8).foldl step (s.fld TOPO_COORD_coord, false)).1

/-! ### Sending X packets -/

def State.xwin (s : State) (d : Nat) : XWin := smGet (fun _ => {}) s.x.win d
def State.setXwin (s : State) (d : Nat) (w : XWin) : State :=
  s.modX fun x => { x with win := smSet (fun _ => {}) x.win d w }
def State.xin (s : State) (c : Nat) : XIn := smGet (fun _ => {}) s.x.src c
def State.setXin (s : State) (c : Nat) (w : XIn) : State :=
  s.modX fun x => { x with src := smSet (fun _ => {}) x.src c w }

/-- The acknowledgement a flit to coordinate `d` carries (R236): the last number received in order from it. -/
def State.xackFor (s : State) (d : Nat) : Option Nat :=
  if (s.x.src.any (fun e => e.1 == d)) then some (subMod 16 (s.xin d).expect 1) else none

/-- The flits of a packet put into the X queue of its port. -/
def State.xQueue (s : State) (o : XOut) : State :=
  let fs := o.pkt.cut s.lcoord (s.xackFor o.dest) (s.xin o.dest).echo
  let w := s.xwin o.dest
  let s := s.setXwin o.dest { w with inflight := w.inflight + fs.length }
  let s := if (s.xackFor o.dest).isSome then
      s.setXin o.dest { s.xin o.dest with echo := false } else s
  s.modPort o.port fun q => { q with txX := q.txX ++ fs.map (fun f => ({ flit := f } : OutFlit)) }

/-- A packet sent at once, or held while its window is full or a bulk path load runs (R227, R463). -/
def State.xStart (s : State) (o : XOut) : State :=
  if s.fab.pathLoad.isSome || (s.xwin o.dest).window ≤ (s.xwin o.dest).inflight then
    s.modX fun x => { x with wait := x.wait ++ [o] }
  else
    let o := { o with sentAt := s.time.elapsed }
    (s.xQueue o).modX fun x => { x with out := x.out ++ [o] }

/-- Packets that waited are sent as far as their windows allow. -/
def State.xPump (s : State) : State :=
  let w := s.x.wait
  w.foldl (fun t o => t.xStart o) (s.modX fun x => { x with wait := [] })

/-- The coordinate under which this module keeps its pair with the module a route leads to: the logical one, which that
module's flits carry (R282), once a response has told it, and else that of the route. -/
def State.xPair (s : State) (d : Nat) : Nat := smGet id s.x.logical d

/-- A new request or message on a path, under the next number of its pair (R226) and with a token (R258).
None where the path names no first port. -/
def State.xRequest (s : State) (path op addr len : Nat) (data : List Byte) (who : XWho) : Option State :=
  let e := s.pathEntry path
  if pathHop e 0 = 31 || !pathValid e then none
  else
    let d := s.xPair (s.routeDest e)
    let w := s.xwin d
    let s := s.setXwin d { w with next := (w.next + 1) % 65536 }
    let tok := s.x.nextToken
    let s := s.modX fun x => { x with nextToken := (tok + 1) % 32768 }
    let p : XPacket :=
      { op := op, len := len, addr := addr, data := data, xseq := w.next, token := some tok, path := path }
    some (s.xStart { dest := d, port := pathHop e 0, pkt := p, who := who, sentAt := s.time.elapsed })

end Sys2Proof.Machine
end

