-- ==== Sys2Proof/Machine/Faults.lean ====
section
/-! DEFINITION. Fault records: what raising one does (R399 to R405, R409) and trace records (R417). -/

namespace Sys2Proof.Machine

/-! ### Units (R400) -/

def unitSheet (i : Nat) : Nat := 0x1000 + i % 512
def unitPort (p : Nat) : Nat := 0x2000 + p % 32
def unitWiora (p : Nat) : Nat := 0x3000 + p % 2
def unitDev (d : Nat) : Nat := 0x4000 + d % 32
def unitDx (e : Nat) : Nat := 0x5000 + e % 16
def unitBank (n : Nat) : Nat := 0x6000 + n % 16
def unitRu (n : Nat) : Nat := 0x7000 + n % 8
def unitXing (c : Nat) : Nat := 0x8000 + c % 16
def unitLoader : Nat := 0x9000
def unitStager : Nat := 0x9001
def unitMgmt : Nat := 0xA000
def unitCart : Nat := 0xB000

/-! ### Records -/

/-- The 32 bytes of a record (R399). -/
def FaultRec.bytes (r : FaultRec) : List Byte :=
  leBytes 2 r.code ++ leBytes 2 r.unit ++ leBytes 3 r.tag ++ leBytes 1 r.flags ++ leBytes 8 r.tick
    ++ leBytes 4 r.frame ++ leBytes 4 r.aux ++ leBytes 3 (r.subject % 2 ^ 17) ++ leBytes 1 r.epoch
    ++ leBytes 2 r.count ++ leBytes 2 r.slice

/-- The record that 32 bytes hold. -/
def recOf (bs : List Byte) : FaultRec :=
  { code := leField bs 0 2, unit := leField bs 2 2, tag := leField bs 4 3, flags := leField bs 7 1,
    tick := leField bs 8 8, frame := leField bs 16 4, aux := leField bs 20 4, subject := leField bs 24 3,
    epoch := leField bs 27 1, count := leField bs 28 2, slice := leField bs 30 2 }

/-- Whether two records describe one event: the key of R403 and R405. -/
def FaultRec.sameKey (a b : FaultRec) : Bool :=
  a.subject == b.subject && a.unit == b.unit && a.epoch == b.epoch && a.code == b.code && a.slice == b.slice

/-- Whether records of a code travel up the tree (R401). -/
def codeTravels (code : Nat) : Bool :=
  let c := code / 4096
  decide (1 ≤ c ∧ c ≤ 6) || c == 9

/-- The codes that always carry the stop flag (R409). -/
def stopCodes : List Nat := [0x1050, 0x2020, 0x2021, 0x3021, 0x3040, 0x3063, 0x6051]

/-- A record of this module at this moment (R399); `flags` bit 0 stop, bit 1 halted. -/
def State.mkRec (s : State) (code unit tag aux flags : Nat) : FaultRec :=
  { code := code, unit := unit, tag := tag % 2 ^ 24, flags := flags, tick := s.time.tick % 2 ^ 64,
    frame := s.schedFrame % 2 ^ 32, aux := aux % 2 ^ 32, subject := s.lcoord,
    epoch := s.fld TIME_JOB_START_frame % 256, slice := s.fld TOPO_SLICE_id }

/-! ### The log (R403) -/

/-- Merge window in ticks. -/
def State.logWindow (s : State) : Nat := ringSize (s.fld FAULT_CFG_log_window) 16 * 65536

/-- Whether a log entry takes a record: same key, opened within the window, not consumed. -/
def State.logTakes (s : State) (r : FaultRec) (e : LogEntry) : Bool :=
  let cons := s.fld FAULT_LOG_CONS_cons
  e.entry.sameKey r && decide (s.time.elapsed - e.at0 < s.logWindow)
    && decide (subMod 32 e.idx cons < subMod 32 (s.fld FAULT_LOG_PROD_prod) cons)

/-- Replace the first element that satisfies `p`. -/
def updFirst {α : Type} (p : α → Bool) (f : α → α) : List α → List α
  | [] => []
  | a :: l => if p a then f a :: l else a :: updFirst p f l

/-- The state after a record is offered to the log. -/
def State.logRec (s : State) (r : FaultRec) : State :=
  let prod := s.fld FAULT_LOG_PROD_prod
  let cons := s.fld FAULT_LOG_CONS_cons
  if s.fault.log.any (s.logTakes r) then
    let add (e : LogEntry) : LogEntry :=
      { e with entry := { e.entry with count := min (e.entry.count + r.count) 65535
                                       flags := e.entry.flags ||| r.flags } }
    s.modFault fun f => { f with log := updFirst (s.logTakes r) add f.log }
  else if subMod 32 prod cons = 1024 then s.count FAULT_STAT_lost 1
  else
    let keep := s.fault.log.filter (fun e => e.idx % 1024 != prod % 1024)
    (s.modFault fun f => { f with log := keep ++ [{ idx := prod, at0 := s.time.elapsed, entry := r }] }).setFld
      FAULT_LOG_PROD_prod (prod + 1)

/-- The origin remembers the first stop record of its slice since its last decision (R408). -/
def State.noteStop (s : State) (r : FaultRec) : State :=
  if s.flag TOPO_ORIGIN_self && bit r.flags 0 && r.slice == s.fld TOPO_SLICE_id && s.time.stopRec.isNone then
    s.modTime fun t => { t with stopRec := some (r.code, r.subject) }
  else s

/-- The in-band interrupt with mandatory byte `b`, where IBIs are enabled on an assigned bus (R368). -/
def State.raiseIbi (s : State) (b : Byte) : State :=
  if s.flag WLINK_MGMT_ibi && s.flag WLINK_MGMT_i3c then s.modOwn fun o => { o with ibi := some b } else s

/-- IBIs come to be enabled while a record is pending: the interrupt is raised (R403). -/
def State.ibiPending (s : State) : State :=
  if s.fld FAULT_LOG_PROD_prod != s.fld FAULT_LOG_CONS_cons then s.raiseIbi 1 else s

/-! ### Up the tree (R404, R405) -/

/-- A record sent to the parent at once as a message packet. -/
def State.sendParent (s : State) (r : FaultRec) : State :=
  match s.xRequest (s.fld FAULT_CFG_up_path) 3 0 32 r.bytes (.fault 1) with
  | some t => t
  | none => s.count FAULT_STAT_unsent 1

/-- The least of the 64 merge slots that is free. -/
def freeMerge (l : List MergeEntry) : Option Nat :=
  (List.range 64).find? (fun i => !(l.any (fun e => e.slot == i)))

/-- send_up of R405. -/
def State.sendUp (s : State) (r : FaultRec) : State :=
  let hit (e : MergeEntry) : Bool := e.entry.sameKey r && decide (s.time.elapsed < e.at0 + 65536)
  if s.fault.merge.any hit then
    s.modFault fun f => { f with merge := updFirst hit (fun e => { e with extra := e.extra + r.count }) f.merge }
  else
    let s := match freeMerge s.fault.merge with
      | some i =>
        let e : MergeEntry := { slot := i, entry := r, at0 := s.time.elapsed }
        s.modFault fun f => { f with merge := f.merge ++ [e] }
      | none => s
    s.sendParent r

/-- Whether this module sends records up: it is a member and has a parent (R402). -/
def State.hasParent (s : State) : Bool :=
  let id := s.fld TOPO_SLICE_id
  id != 0 && id != 0xFFFF && s.fld TOPO_TREE_parent != 31

/-! ### Trace records (R417) -/

/-- Whether tracing takes records of a kind. -/
def State.traceOn (s : State) (kind : Nat) : Bool :=
  s.flag FAULT_TRACE_CTL_enable && bit (s.reg FAULT_TRACE_CTL).toNat kind

/-- The device address of the next trace record. -/
def State.traceAddr (s : State) : Nat :=
  let size := ringSize (s.fld FAULT_TRACE_RING_size) 65536 * 4096
  s.fld FAULT_TRACE_RING_base * 16 + 16 * (s.fld FAULT_TRACE_PROD_prod % size)

/-- A trace record is written and the producer moves on. The second answer says that it is part of a poisoned unit: it
is then refused (R314), though its place in the ring is used. -/
def State.tracePut (s : State) (kind tag unit aux : Nat) : State × Bool :=
  let a := s.traceAddr
  let p := s.fld FAULT_TRACE_PROD_prod
  let bad := (unitsOf a 16).any s.isPoison
  let t := if bad then s else s.memWrite a (leBytes 8 s.time.tick ++ leBytes 3 tag ++ leBytes 1 kind ++ leBytes 2 unit
    ++ leBytes 2 aux)
  (t.setFld FAULT_TRACE_PROD_prod (p + 1), bad)

/-! ### Raising a record (R402) -/

/-- The event entry of a record, where its class is set in the mask; the answer says that 0x7031 is due, once where
entries are dropped (R366, R402). -/
def State.eventRec (s : State) (r : FaultRec) : Bool × State :=
  let c := r.code / 4096
  if bit (s.fld FAULT_CFG_ev_mask) (c - 1) then
    let p := s.fld FAULT_CFG_evport
    let (lost, s) := s.postEvent p 2 r.bytes true
    if lost && !(s.wport p).told7031 then (true, s.modWport p fun q => { q with told7031 := true }) else (false, s)
  else (false, s)

/-- A record is logged, offered to the origin's decision and the event ring, and sent up the tree. -/
def State.record (s : State) (r : FaultRec) : Bool × State :=
  let (due, s) := (((s.logRec r).noteStop r).raiseIbi 1).eventRec r
  (due, if codeTravels r.code && s.hasParent then s.sendUp r else s)

/-- The record of dropped event entries. -/
def State.rec7031 (s : State) : FaultRec := s.mkRec 0x7031 (unitWiora (s.fld FAULT_CFG_evport)) 0 (s.fld FAULT_CFG_evport) 0

/-- A record, and the 0x7031 that its own event entry may lead to. -/
def State.recordAll (s : State) (r : FaultRec) : State :=
  match s.record r with
  | (true, t) => (t.record t.rec7031).2
  | (false, t) => t

/-- A trace record of a kind, if tracing takes it. One that is refused records 0x6022, which leaves no trace record of
its own (R314, R417). -/
def State.trace (s : State) (kind tag unit aux : Nat) : State :=
  if s.traceOn kind then
    match s.tracePut kind tag unit aux with
    | (t, true) => t.recordAll (t.mkRec 0x6022 (unitDev (t.devOf s.traceAddr)) tag (t.devOf s.traceAddr) 0)
    | (t, false) => t
  else s

/-- A record with its own trace record. -/
def State.recordTraced (s : State) (r : FaultRec) : Bool × State :=
  match s.record r with
  | (due, t) => (due, t.trace 6 r.tag r.unit r.code)

/-- What raising a record does: log, event, the way up the tree, and trace. -/
def State.emit (s : State) (r : FaultRec) : State :=
  match s.recordTraced r with
  | (true, t) => (t.recordTraced t.rec7031).2
  | (false, t) => t

/-- Raise a fault of this module: the stop flag follows R409. -/
def State.raise (s : State) (code unit tag aux : Nat) : State :=
  s.emit (s.mkRec code unit tag aux (b2n (stopCodes.contains code)))

/-- Raise a fault with the stop flag set by the caller (0x6021 of an engine or a departure, R409). -/
def State.raiseStop (s : State) (code unit tag aux : Nat) : State := s.emit (s.mkRec code unit tag aux 1)

/-- Raise a fault that halts an engine: halted and stop are set (R402, R409). -/
def State.raiseHalt (s : State) (code unit tag aux : Nat) : State := s.emit (s.mkRec code unit tag aux 3)

/-- Whether port `p`'s permit table admits S traffic: a valid entry with s set, either way, any slice (R409). -/
def State.admitsS (s : State) (p : Nat) : Bool :=
  s.csr.any fun e =>
    decide (LINK_PERMIT p 0 ≤ e.1 ∧ e.1 < LINK_PERMIT p 1024 ∧ (e.1 - LINK_PERMIT p 0) % 16 = 0)
      && bit e.2.toNat 31 && bit e.2.toNat 18

/-- Raise a fabric fault whose subject is the peer on port `p`, where it has been heard (R401). -/
def State.raisePeer (s : State) (code p aux : Nat) : State :=
  let r := s.mkRec code (unitPort p) 0 aux 0
  s.emit (if s.flag (TOPO_PORT_heard p) then
    { r with subject := s.fld (TOPO_PORT_peer p), unit := unitPort (s.fld (TOPO_PORT_peer_port p)) } else r)

/-- Raise a link fault of port `p` (R261, R401, R409). -/
def State.raiseLink (s : State) (code p aux : Nat) : State :=
  let stop := (code == 0x5020 && !s.flag (LINK_CFG_wtol p)) || (code == 0x5030 && s.admitsS p)
  let r := s.mkRec code (unitPort p) 0 (p + aux) (b2n stop)
  s.emit (if (s.port p).everActive && s.flag (TOPO_PORT_heard p) then
    { r with subject := s.fld (TOPO_PORT_peer p), unit := unitPort (s.fld (LINK_PEER_port p)) } else r)

/-- The number of an agent (R370). -/
def agentNo : Agent → Nat
  | .wa => 1
  | .wb => 2
  | .mgmt => 3
  | .dbg => 4

end Sys2Proof.Machine
end

