-- ==== Sys2Proof/Machine/MemSys.lean ====
section
/-! DEFINITION. Device memory as its readers and writers see it: the sheet store windows (R125 to R128), errors and
poison (R313, R314), and accesses of engines through the companion windows (R354). -/

namespace Sys2Proof.Machine

/-! ### Supply banks (R102, R441, R460) -/

/-- The supply bank of a sheet: die x 8 + column div 2. -/
def sheetBank (i : Nat) : Nat := i / 160 * 8 + i % 16 / 2

/-- The die of a sheet. -/
def sheetDie (i : Nat) : Nat := i / 160

/-- Whether power domain `j` reports power good. -/
def State.domUp (s : State) (j : Nat) : Bool := bit (s.fld PWR_DOM_STAT_on) j

/-- Whether a sheet's bank is up. -/
def State.sheetUp (s : State) (i : Nat) : Bool := s.domUp (sheetBank i)

/-- An access to a sheet whose bank is down: fault 0x7002 at most once per frame per agent (R460), with the tag of the
word or transfer it was for (R134). -/
def State.bankDown (s : State) (agent i tag : Nat) : State :=
  if s.latch.bank7002.any (fun e => e.1 == agent && e.2 == s.frame + 1) then s
  else (s.modLatch fun l => { l with bank7002 := alSet l.bank7002 agent (s.frame + 1) }).raise
    0x7002 (unitSheet i) tag 0

/-! ### Sheet windows (R125) -/

/-- Base of the windows, and the size of one. -/
def winBase : Nat := 0x020000000000
def winSize : Nat := 0x400000

/-- The store of a window offset: 0 activation, 1 stream buffer, 2 control, 3 accumulator, 4 vector registers; 5 for
a reserved region. -/
def storeOf (off : Nat) : Nat :=
  if off < 0x300000 then 0 else if off < 0x380000 then 1 else if off < 0x3A0000 then 2
  else if off < 0x3AC000 then 3 else if off < 0x3B0000 then 5 else if off < 0x3C8000 then 4 else 5

/-- Start and size of each window region. -/
def regionOf (store : Nat) : Nat × Nat :=
  if store = 0 then (0, 0x300000) else if store = 1 then (0x300000, 0x80000) else if store = 2 then (0x380000, 0x20000)
  else if store = 3 then (0x3A0000, 0xC000) else if store = 4 then (0x3B0000, 0x18000) else (0, 0)

/-- Whether `[off, off + n)` lies in one region of the window, that of `store`. -/
def inStore (store off n : Nat) : Bool :=
  let (b, l) := regionOf store
  decide (b ≤ off ∧ off + n ≤ b + l)

/-- Accumulator entry `n` of a sheet. -/
def SheetSt.entry (x : SheetSt) (n : Nat) : AccEntry := smGet (fun _ => {}) x.acc n

/-- A window byte. -/
def SheetSt.byte (x : SheetSt) (off : Nat) : Byte :=
  let st := storeOf off
  if st = 3 then
    let o := off - 0x3A0000
    BitVec.ofNat 8 ((x.entry (o / 24)).val.toNat >>> (8 * (o % 24)))
  else if st = 5 then 0
  else smGet zeroByte x.mem off

/-- Window bytes `[off, off + n)`. -/
def SheetSt.read (x : SheetSt) (off n : Nat) : List Byte := (List.range n).map fun i => x.byte (off + i)

/-- Window bytes written; those of the accumulator bank and the reserved regions are discarded. -/
def SheetSt.write (x : SheetSt) (off : Nat) (bs : List Byte) : SheetSt :=
  { x with mem := bs.zipIdx.foldl (fun m e =>
      let o := off + e.2
      if storeOf o = 3 ∨ storeOf o = 5 then m else smSet zeroByte m o e.1) x.mem }

/-- The sheet and the window offset of a device address. -/
def winOf (a : Nat) : Nat × Nat := ((a - winBase) / winSize, (a - winBase) % winSize)

/-- The parts of `[a, a + n)` sheet by sheet: sheet, offset, first byte's place and length. -/
def winParts (a n : Nat) : List (Nat × Nat × Nat × Nat) :=
  let i0 := (winOf a).1
  let i1 := (winOf (a + n - 1)).1
  if n = 0 then [] else
    (List.range (i1 - i0 + 1)).map fun k =>
      let lo := max a (winBase + (i0 + k) * winSize)
      let hi := min (a + n) (winBase + (i0 + k + 1) * winSize)
      (i0 + k, (winOf lo).2, lo - a, hi - lo)

/-- Whether `[off, off + n)` touches a region of kind `st`. -/
def touches (st off n : Nat) : Bool :=
  if st = 3 then decide (off < 0x3AC000 ∧ 0x3A0000 < off + n ∧ n ≠ 0)
  else decide ((off < 0x3B0000 ∧ 0x3AC000 < off + n ∧ n ≠ 0) ∨ (off < 0x400000 ∧ 0x3C8000 < off + n ∧ n ≠ 0))

/-- Whether twin mode is on (R414). -/
def State.twinOn (s : State) : Bool := s.flag FAULT_TWIN_STAT_active

/-- The twin of a CD0 sheet. -/
def twinOf (i : Nat) : Nat := if i < 160 then i + 160 else i - 160

/-- A write into a sheet's window by anyone outside the sheet (R126, R414, R460), for the word or transfer `tag`. -/
def State.winWrite (s : State) (agent i off tag : Nat) (bs : List Byte) : State :=
  if !s.sheetUp i then s.bankDown agent i tag
  else
    let s := if touches 3 off bs.length then s.raise 0x6120 (unitSheet i) tag 0 else s
    let s := if touches 5 off bs.length then s.raise 0x6121 (unitSheet i) tag 0 else s
    let s := s.modSheet i fun x => x.write off bs
    if s.twinOn && i < 160 then s.modSheet (i + 160) fun x => x.write off bs else s

/-! ### Errors in sheet storage (R127, R128) -/

/-- The protected unit of a store: its size, and the base its units are counted from. -/
def unitOfStore (store : Nat) : Nat × Nat :=
  if store ≤ 2 then (8, 0) else if store = 3 then (24, 0x3A0000) else (4, 0)

/-- The protected units of the part of `[off, off + n)` that lies in one store: store and offset of each. -/
def unitsIn (off n st : Nat) : List (Nat × Nat) :=
  let (r, len) := regionOf st
  let (u, b) := unitOfStore st
  let lo := max off r
  let hi := min (off + n) (r + len)
  if hi ≤ lo then [] else
    let f := (lo - b) / u
    let l := (hi - 1 - b) / u
    (List.range (l - f + 1)).map fun k => (st, b + (f + k) * u)

/-- The protected units of `[off, off + n)`, each under the store it lies in, in address order. -/
def storeUnits (off n : Nat) : List (Nat × Nat) := [0, 1, 2, 3, 4].flatMap (unitsIn off n)

/-- What is left of an access's error for the units after the first `k`. -/
def eccFrom (k : Nat) : Ecc → Ecc
  | .clean => .clean
  | .corrected u => if u < k then .clean else .corrected (u - k)
  | .uncorrectable u => if u < k then .clean else .uncorrectable (u - k)

/-- A corrected error in sheet storage. -/
def State.sheetCe (s : State) (i : Nat) : State := s.count (SHEET_ECC_CE_CNT_count i) 1

/-- The registers of an uncorrectable error. -/
def State.sheetUe (s : State) (i store off : Nat) : State :=
  ((s.setFld (SHEET_ECC_UE_store i) store).setFld (SHEET_ECC_UE_ue i) 1).setFld (SHEET_ECC_ADDR_offset i) off

/-- An access's error in sheet storage, its units given: the state, and the unit that is bad if one is. -/
def State.sheetEcc (s : State) (i : Nat) (ecc : Ecc) (units : List (Nat × Nat)) : State × Option (Nat × Nat) :=
  match ecc with
  | .clean => (s, none)
  | .corrected u => if u < units.length then (s.sheetCe i, none) else (s, none)
  | .uncorrectable u =>
    match units[u]? with
    | some (st, off) => (s.sheetUe i st off, some (st, off))
    | none => (s, none)

/-! ### Errors in device memory (R314) -/

/-- MEM_ECC_LAST. -/
def State.eccLast (s : State) (a d poison : Nat) : State :=
  s.setReg64 MEM_ECC_LAST (a + d * 2 ^ 48 + poison * 2 ^ 53 + 2 ^ 63)

/-- The effect of a read's error on device memory; the record carries the reader's tag (R134). -/
def State.memEcc (s : State) (a n tag : Nat) (ecc : Ecc) : State :=
  match ecc with
  | .clean => s
  | .corrected u =>
    match (unitsOf a n)[u]? with
    | some b => s.count (MEM_DEV_ce (s.devOf b)) 1
    | none => s
  | .uncorrectable u =>
    match (unitsOf a n)[u]? with
    | some b =>
      let d := s.devOf b
      (((s.setPoison b true).count (MEM_DEV_ue d) 1).eccLast b d 0).raise 0x6020 (unitDev d) tag d
    | none => s

/-! ### Refresh windows (R311) -/

/-- The devices that `[a, a + n)` touches: those of its 4 KiB units, of which nine cover every MRDIMM, and of its
end. -/
def State.devsOf (s : State) (a n : Nat) : List Nat :=
  if n = 0 then [] else
    ((List.range (min 9 ((a + n - 1) / 4096 - a / 4096 + 1))).map fun k => s.devOf (max a ((a / 4096 + k) * 4096)))
      ++ [s.devOf (a + n - 1)]

/-- An access waits for the refresh windows of the devices it touches to end, whoever makes it (R311). -/
def State.waitRefresh (s : State) (a n : Nat) : State :=
  (s.devsOf a n).foldl (fun t d => t.toElapsed (smGet (fun _ => 0) t.load.refresh d)) s

/-- What a read delivers. -/
inductive Got where
  | data (bs : List Byte)
  /-- nothing, for the poison of a unit of device `dev` (0 where it lies in no memory device) -/
  | poison (dev : Nat)
  /-- nothing: the link to a companion went down -/
  | down
  deriving DecidableEq, Repr

/-- A read of device memory that lies in one region outside the sheet windows and the companion windows. -/
def State.memGet (s : State) (a n tag : Nat) (ecc : Ecc) : State × Got :=
  let s := s.waitRefresh a n
  let t := s.memEcc a n tag ecc
  match ((unitsOf a n).filter t.isPoison).getLast? with
  | some b =>
    let t := if s.isPoison b then t.eccLast b (t.devOf b) 1 else t
    (t, .poison (t.devOf b))
  | none => (t, .data (t.memRead a n))

/-- A read of the window of a sheet from outside (R126, R128, R460). -/
def State.winGet (s : State) (agent i off n tag : Nat) (ecc : Ecc) : State × Got :=
  if !s.sheetUp i then (s.bankDown agent i tag, .data (List.replicate n 0))
  else
    let s := if touches 5 off n then s.raise 0x6121 (unitSheet i) tag 0 else s
    match s.sheetEcc i ecc (storeUnits off n) with
    | (t, some (st, _)) => (t.raise (0x6110 + st) (unitSheet i) tag 0, .poison 0)
    | (t, none) => (t, .data ((t.sheet i).read off n))

/-- The parts of a window read one after another; the error names a unit counted over all of them. -/
def State.winGets (s : State) (agent tag : Nat) : List (Nat × Nat × Nat × Nat) → Ecc → State × Got
  | [], _ => (s, .data [])
  | p :: ps, ecc =>
    match s.winGet agent p.1 p.2.1 p.2.2.2 tag ecc with
    | (t, .data bs) =>
      (match t.winGets agent tag ps (eccFrom (storeUnits p.2.1 p.2.2.2).length ecc) with
       | (u, .data bs') => (u, .data (bs ++ bs'))
       | (u, g) => (u, g))
    | (t, g) => (t, g)

/-- Whether a device address lies in the sheet windows. -/
def inWindows (a : Nat) : Bool := decide (winBase ≤ a ∧ a < winBase + 320 * winSize)

/-- A read of device memory or of sheet windows, its address already checked, for the word or transfer `tag`. -/
def State.devGet (s : State) (agent a n tag : Nat) (ecc : Ecc) : State × Got :=
  if inWindows a then s.winGets agent tag (winParts a n) ecc else s.memGet a n tag ecc

/-- A write of device memory outside the sheet windows: a part of a poisoned unit is refused (R314). -/
def State.memPut (s : State) (a tag : Nat) (bs : List Byte) : State :=
  let n := bs.length
  let s := s.waitRefresh a n
  let bad := (unitsOf a n).filter fun u => s.isPoison u && !((coveredUnits a n).contains u)
  if bad.isEmpty then (s.memWrite a bs).clearPoison a n
  else
    let keep := bs.zipIdx.filter fun e => !(bad.contains ((a + e.2) / unitSize a * unitSize a))
    let s := keep.foldl (fun t e => t.memWrite (a + e.2) [e.1]) s
    let s := s.clearPoison a n
    let d := s.devOf (bad.headD a)
    s.raise 0x6022 (unitDev d) tag d

/-- A write of device memory or of sheet windows, its address already checked, for the word or transfer `tag`. -/
def State.devPut (s : State) (agent a tag : Nat) (bs : List Byte) : State :=
  if inWindows a then
    (winParts a bs.length).foldl (fun t p => t.winWrite agent p.1 p.2.1 tag ((bs.drop p.2.2.1).take p.2.2.2)) s
  else s.memPut a tag bs

/-! ### Companion windows (R354) -/

/-- Whether an address lies in a companion window. -/
def inCompanion (a : Nat) : Bool := decide (0x800000000000 ≤ a)

/-- The protected units that a read of `[a, a + n)` counts its error over; none through a companion window. -/
def readUnits (a n : Nat) : Nat :=
  if inCompanion a then 0
  else if inWindows a then ((winParts a n).map fun p => (storeUnits p.2.1 p.2.2.2).length).foldl (· + ·) 0
  else (unitsOf a n).length

/-- The reads of whole lines that cover `[b, b + n)`: line address and number of lines, at most 64 each. -/
def lineChunks (b n : Nat) : List (Nat × Nat) :=
  let f := b / 64
  let l := (b + n - 1) / 64
  let k := l - f + 1
  (List.range (ceilDiv k 64)).map fun c => ((f + 64 * c) * 64, min 64 (k - 64 * c))

/-- A fetch's outcome: its bytes, or poison, or link down, or still on its way. -/
inductive Fetch where
  | got (g : Got)
  | wait
  deriving DecidableEq, Repr

/-- Whether a status carries data (R347). -/
def statusData (st : Nat) : Bool := st == 0 || st == 4 || st == 5

/-- The status by which the module completes a request locally when its link is down; never on the wire (R353). -/
def linkDownStatus : Nat := 15

/-- A read through a companion window: the requests go out once, and their answers are taken together. A refused
address reads as all ones (R305, R354). -/
def State.compFetch (s : State) (who : WWho) (a n tag : Nat) : State × Fetch :=
  match s.compRange a n with
  | (p, none) => (s.raise 0x7020 (unitWiora p) tag p, .got (.data (List.replicate n 0xFF)))
  | (p, some b) =>
    let q := s.wport p
    let mine := q.reqs.filter fun r => decide (r.who = who)
    let cs := lineChunks b n
    if mine.isEmpty then (cs.foldl (fun t c => t.wRequest p who 3 c.1 c.2 0 0 []) s, .wait)
    else if mine.all (·.answer.isSome) then
      let s := s.modWport p fun q => { q with reqs := q.reqs.filter fun r => !decide (r.who = who) }
      let ans := mine.map fun r => r.answer.getD (0, [])
      if ans.any (fun x => x.1 == linkDownStatus) then (s, .got .down)
      else if ans.any (fun x => x.1 == 3) then (s, .got (.poison 0))
      else if ans.all (fun x => statusData x.1) then
        (s, .got (.data (((ans.flatMap (·.2)).drop (b % 64)).take n)))
      else (s, .got .down)
    else (s, .wait)

/-- What a read through a companion window has brought so far: its bytes, once every answer has come with data. -/
def State.compPeek (s : State) (who : WWho) (a n : Nat) : Option (List Byte) :=
  let mine := (s.wport (s.compAddr a).1).reqs.filter fun r => decide (r.who = who)
  let ans := mine.map fun r => r.answer.getD (linkDownStatus, [])
  if !mine.isEmpty && ans.all (fun x => statusData x.1) then some (((ans.flatMap (·.2)).drop (a % 64)).take n) else none

/-- A fetch by an engine of the module: from memory at once, or through a companion window. -/
def State.fetch (s : State) (who : WWho) (a n tag : Nat) (ecc : Ecc) : State × Fetch :=
  if inCompanion a then s.compFetch who a n tag
  else match s.devGet 0 a n tag ecc with
    | (t, g) => (t, .got g)

/-- One line of a write through a companion window: the whole line, or its four-byte words. Bytes of a word that the
write does not give are free values: the spec names no message for part of a word. -/
def State.compLine (s : State) (p : Nat) (who : WWho) (line lo : Nat) (bs : List Byte) : State :=
  if lo = 0 ∧ bs.length = 64 then s.wRequest p who 5 line 1 0 0 bs
  else
    (List.range 16).foldl (fun t w =>
      if 4 * w + 4 ≤ lo ∨ lo + bs.length ≤ 4 * w then t
      else
        let (v, t) := t.draw 32
        let word := (List.range 4).map fun k =>
          if lo ≤ 4 * w + k ∧ 4 * w + k < lo + bs.length then bs.getD (4 * w + k - lo) 0
          else (leBytes 4 v).getD k 0
        t.wRequest p who 6 line 1 w 0 (padTo 64 (List.replicate (4 * w) 0 ++ word))) s

/-- A write through a companion window (R354): its messages go out on the port. -/
def State.compWrite (s : State) (who : WWho) (a tag : Nat) (bs : List Byte) : State :=
  match s.compRange a bs.length with
  | (p, none) => s.raise 0x7020 (unitWiora p) tag p
  | (p, some b) =>
    if bs.isEmpty then s else
      (List.range ((b + bs.length - 1) / 64 - b / 64 + 1)).foldl (fun t k =>
        let line := (b / 64 + k) * 64
        let lo := max b line
        let hi := min (b + bs.length) (line + 64)
        t.compLine p who line (lo - line) ((bs.drop (lo - b)).take (hi - lo))) s

/-- A write by an engine of the module. -/
def State.store (s : State) (who : WWho) (a tag : Nat) (bs : List Byte) : State :=
  if inCompanion a then s.compWrite who a tag bs else s.devPut 0 a tag bs

end Sys2Proof.Machine
end

