-- ==== Sys2Proof/Machine/Sha3.lean ====
section
/-! DEFINITION. SHAKE256 of FIPS 202, the hash the spec names for load digests, twin digests and records. -/

namespace Sys2Proof.Machine

/-- The 25 lanes of the permutation, lane x + 5y, each below 2^64. -/
abbrev Lanes := List Nat

def lane (a : Lanes) (x y : Nat) : Nat := a.getD (x % 5 + 5 * (y % 5)) 0

/-- A lane rotated left. -/
def rotl64 (n r : Nat) : Nat := (n <<< r) % 2 ^ 64 + n >>> (64 - r)

/-- The rotation offsets of the step rho, lane x + 5y. -/
def rhoOffsets : List Nat :=
  [0, 1, 62, 28, 27, 36, 44, 6, 55, 20, 3, 10, 43, 25, 39, 41, 45, 15, 21, 8, 18, 2, 61, 56, 14]

/-- The round constants. -/
def roundConstants : List Nat :=
  [0x0000000000000001, 0x0000000000008082, 0x800000000000808A, 0x8000000080008000, 0x000000000000808B,
   0x0000000080000001, 0x8000000080008081, 0x8000000000008009, 0x000000000000008A, 0x0000000000000088,
   0x0000000080008009, 0x000000008000000A] ++
  [0x000000008000808B, 0x800000000000008B, 0x8000000000008089, 0x8000000000008003, 0x8000000000008002,
   0x8000000000000080, 0x000000000000800A, 0x800000008000000A, 0x8000000080008081, 0x8000000000008080,
   0x0000000080000001, 0x8000000080008008]

/-- A lane list built from a function of x and y. -/
def mkLanes (f : Nat → Nat → Nat) : Lanes := (List.range 25).map fun i => f (i % 5) (i / 5)

/-- One round with its constant: theta, rho and pi, chi, iota. -/
def keccakRound (a : Lanes) (rc : Nat) : Lanes :=
  let c := (List.range 5).map fun x =>
    Nat.xor (Nat.xor (Nat.xor (Nat.xor (lane a x 0) (lane a x 1)) (lane a x 2)) (lane a x 3)) (lane a x 4)
  let d := (List.range 5).map fun x => Nat.xor (c.getD ((x + 4) % 5) 0) (rotl64 (c.getD ((x + 1) % 5) 0) 1)
  let t := mkLanes fun x y => rotl64 (Nat.xor (lane a x y) (d.getD x 0)) (rhoOffsets.getD (x + 5 * y) 0)
  -- pi: the lane at (y, 2x + 3y) comes from (x, y)
  let b := mkLanes fun x y => lane t (x + 3 * y) x
  let e := mkLanes fun x y =>
    Nat.xor (lane b x y) (Nat.land (2 ^ 64 - 1 - lane b (x + 1) y) (lane b (x + 2) y))
  match e with
  | l :: ls => Nat.xor l rc :: ls
  | [] => []

def keccakF (a : Lanes) : Lanes := roundConstants.foldl keccakRound a

/-- The rate of SHAKE256 in bytes. -/
def shakeRate : Nat := 136

/-- A block of the rate XORed into the state. -/
def absorbBlock (a : Lanes) (block : List Byte) : Lanes :=
  keccakF (a.zipIdx.map fun e => Nat.xor e.1 (leField block (8 * e.2) 8))

/-- The message padded to whole blocks: 0x1F, zeros, 0x80 in the last byte. -/
def shakePad (m : List Byte) : List Byte :=
  let n := (m.length / shakeRate + 1) * shakeRate
  let p := padTo n (m ++ [0x1F])
  p.set (n - 1) (p.getD (n - 1) 0 ||| 0x80)

/-- The first `n` bytes of SHAKE256, for n at most the rate. -/
def shake256 (n : Nat) (m : List Byte) : List Byte :=
  let p := shakePad m
  let a := (chunks shakeRate (p.length / shakeRate) p).foldl absorbBlock (List.replicate 25 0)
  (a.flatMap (leBytes 8)).take n

end Sys2Proof.Machine
end

