-- ==== Sys2Proof/Machine/Link.lean ====
section
/-! DEFINITION. The link layer of the fabric ports: permit tables (R275, R276), slots (R179, R180, R239), credits
(R241 to R244), sequence and replay (R245 to R248), training (R249 to R254), grace, flush and reissue
(R255 to R258, R260). -/

namespace Sys2Proof.Machine

/-- The ticks of a slot of port `p` (R167). -/
def slotTicks (p : Nat) : Nat := if p < 15 then 2 else 8

/-- The lanes of port `p` at full width (R229). -/
def fullLanes (p : Nat) : Nat := if p < 15 then 8 else 2

/-! ### Permit tables -/

/-- The 128 bits of permit entry `k` of port `p`. -/
def State.permit (s : State) (p k : Nat) : Nat :=
  s.reg64 (LINK_PERMIT p k) + 2 ^ 64 * s.reg64 (LINK_PERMIT p k + 8)

/-- The valid permit entries of port `p`, with their numbers. -/
def State.permits (s : State) (p : Nat) : List (Nat × Nat) :=
  let b := LINK_PERMIT p 0
  (s.csr.filter fun e =>
    decide (b ≤ e.1 ∧ e.1 < LINK_PERMIT p 1024 ∧ (e.1 - b) % 16 = 0) && bit e.2.toNat 31).map
    fun e => ((e.1 - b) / 16, s.permit p ((e.1 - b) / 16))

/-- Whether the table admits class `cls` (0 S, 1 X, 2 C) of a slice arriving on the port (R276). -/
def State.admitsIn (s : State) (p cls slice : Nat) : Bool :=
  !s.flag (LINK_PERMIT_CTL_enable p)
    || (if slice = 0 then cls != 0
        else (s.permits p).any fun e => bits e.2 0 16 == slice && bit e.2 16 && bit e.2 (18 + cls))

/-- Whether the table admits class `cls` of a slice leaving on the port (R276). -/
def State.admitsOut (s : State) (p cls slice : Nat) : Bool :=
  !s.flag (LINK_PERMIT_CTL_enable p)
    || (if slice = 0 then cls != 0
        else (s.permits p).any fun e => bits e.2 0 16 == slice && bit e.2 17 && bit e.2 (18 + cls))

/-- Whether a permit entry names a slot (R276). -/
def namesSlot (e slot : Nat) : Bool :=
  bit e 31 && bit e 17 && bit e 18 && decide (bits e 32 16 ≤ slot ∧ slot ≤ bits e 48 16)
    && bit (bits e 64 16) (slot % 16)

/-- A slot that no permit entry names: a recovery slot (R179). -/
def State.recovery (s : State) (p slot : Nat) : Bool := !((s.permits p).any fun e => namesSlot e.2 slot)

/-- Whether a slot is open to a slice (R276). -/
def State.slotOpen (s : State) (p slice slot : Nat) : Bool :=
  !s.flag (LINK_PERMIT_CTL_enable p) || s.recovery p slot
    || (s.permits p).any fun e => bits e.2 0 16 == slice && namesSlot e.2 slot

/-- A discard by the permit table on arrival: counted, and recorded once per port per frame (R276). -/
def State.denyIn (s : State) (p slice : Nat) : State :=
  let s := s.count (LINK_PERMIT_CNT_in p) 1
  if (s.port p).in4110 = some s.frame then s
  else (s.modPort p fun q => { q with in4110 := some s.frame }).raisePeer 0x4110 p (p + slice * 65536)

/-- A discard by the permit table on leaving (R276). -/
def State.denyOut (s : State) (p slice : Nat) : State :=
  let s := s.count (LINK_PERMIT_CNT_out p) 1
  if (s.port p).out4111 = some s.frame then s
  else (s.modPort p fun q => { q with out4111 := some s.frame }).raisePeer 0x4111 p (p + slice * 65536)

/-! ### Credits (R242) -/

/-- A count of the six by class (0 S, 1 X, 2 C) and share. -/
def Six.get (x : Six) (cls : Nat) (sh : Bool) : Nat :=
  match cls, sh with
  | 0, false => x.sd
  | 0, true => x.sh
  | 1, false => x.xd
  | 1, true => x.xh
  | _, false => x.cd
  | _, true => x.ch

/-- The six with one count raised by one, modulo 4,096. -/
def Six.bump (x : Six) (cls : Nat) (sh : Bool) : Six :=
  match cls, sh with
  | 0, false => { x with sd := (x.sd + 1) % 4096 }
  | 0, true => { x with sh := (x.sh + 1) % 4096 }
  | 1, false => { x with xd := (x.xd + 1) % 4096 }
  | 1, true => { x with xh := (x.xh + 1) % 4096 }
  | _, false => { x with cd := (x.cd + 1) % 4096 }
  | _, true => { x with ch := (x.ch + 1) % 4096 }

/-- The dedicated reserve of a class (R241). -/
def reserve (cls : Nat) : Nat := match cls with | 0 => 512 | 1 => 96 | _ => 32

/-- Credits in use of one kind. -/
def PortSt.used (q : PortSt) (cls : Nat) (sh : Bool) : Nat := subMod 12 (q.sent.get cls sh) (q.seen.get cls sh)

def PortSt.sharedUsed (q : PortSt) : Nat := q.used 0 true + q.used 1 true + q.used 2 true

/-- choose_credit of R242: some false dedicated, some true shared, none wait. -/
def PortSt.credit (q : PortSt) (cls : Nat) : Option Bool :=
  if q.used cls false < reserve cls then some false
  else if q.sharedUsed < 896 then some true
  else none

/-- Whether a header frees more than was sent (on_header_passing_crc of R242). -/
def PortSt.creditError (q : PortSt) (n : Six) : Bool :=
  [(0, false), (0, true), (1, false), (1, true), (2, false), (2, true)].any fun k =>
    decide (q.used k.1 k.2 < subMod 12 (n.get k.1 k.2) (q.seen.get k.1 k.2))

/-- Flits of one kind in the receive pool. -/
def PortSt.poolCount (q : PortSt) (cls : Nat) (sh : Bool) : Nat :=
  (q.pool.filter fun e => e.flit.cls == cls && e.shared == sh).length

/-- Whether the pool has room for a flit of a kind (R241, R244). -/
def PortSt.poolRoom (q : PortSt) (cls : Nat) (sh : Bool) : Bool :=
  if sh then decide (q.poolCount 0 true + q.poolCount 1 true + q.poolCount 2 true < 896)
  else decide (q.poolCount cls false < reserve cls)

/-- A pool entry freed (on_free of R242). -/
def State.poolFree (s : State) (p id : Nat) : State :=
  s.modPort p fun q =>
    match q.pool.find? (fun e => e.id == id) with
    | some e => { q with pool := q.pool.filter (fun e => e.id != id), freed := q.freed.bump e.flit.cls e.shared }
    | none => q

/-- A pool entry that has one copy less to send; freed with the last one (R243). -/
def State.poolSent (s : State) (p id : Nat) : State :=
  match (s.port p).pool.find? (fun e => e.id == id) with
  | some e =>
    if e.copies ≤ 1 then s.poolFree p id
    else s.modPort p fun q =>
      { q with pool := updFirst (fun e => e.id == id) (fun e => { e with copies := e.copies - 1 }) q.pool }
  | none => s

/-! ### Symbols of class C -/

/-- A symbol queued for port `p`. -/
def State.sendSymbol (s : State) (p : Nat) (sym : List Byte) : State :=
  if p < 31 then s.modPort p fun q => { q with txC := q.txC ++ [padTo 16 sym] } else s

/-- The DONE symbol of a transfer (R220, R237). -/
def doneSymbol (slice tag : Nat) (lost : Bool) : List Byte :=
  leBytes 1 1 ++ leBytes 1 (b2n lost) ++ leBytes 2 slice ++ leBytes 3 tag ++ leBytes 9 0

/-! ### Training (R249 to R254) -/

/-- The lane mask a port takes from its good lanes: full width, else the lower half, else the upper half (R253).
None is no legal width. -/
def pickWidth (p good : Nat) (degrade : Bool) : Nat :=
  let full := 2 ^ fullLanes p - 1
  let low := 2 ^ (fullLanes p / 2) - 1
  let high := low * 2 ^ (fullLanes p / 2)
  if !degrade && good &&& full == full then full
  else if good &&& low == low then low
  else if good &&& high == high then high
  else 0

/-- The port enters a training state (R249); before INIT no lane has codeword lock. -/
def State.linkEnter (s : State) (p st : Nat) : State :=
  let s := s.modPort p fun q => { q with since := s.time.elapsed, good := 0, sentInit := 0, initRec := [] }
  let s := if st ≤ 3 then iter (fullLanes p) (fun l t => t.setFld (LINK_LANE_lock p l) 0) s else s
  s.setFld (LINK_STAT_state p) st

/-- The port leaves ACTIVE: the grace timer starts (R255). -/
def State.leaveActive (s : State) (p : Nat) : State :=
  let s := match (s.port p).graceAt with
    | some _ => s
    | none =>
      (s.modPort p fun q => { q with graceAt := some (s.time.elapsed + s.fld (LINK_CFG_grace p) * 1280) }).setFld
        (LINK_STAT_grace p) 1
  s.modPort p fun q => { q with pause := 0 }

/-- From ACTIVE to EQUALIZE as a retrain (R249). -/
def State.linkRetrainNow (s : State) (p : Nat) : State :=
  ((s.leaveActive p).linkEnter p 2).setFld (LINK_STAT_retraining p) 1

/-- A retrain of R252 begins: it is counted, fault 0x5003 is recorded, and an ACTIVE port that starts it sends PAUSE
in four flits first. A port on its way back from ALIGN or INIT starts again from EQUALIZE. -/
def State.linkRetrain (s : State) (p : Nat) : State :=
  let st := s.fld (LINK_STAT_state p)
  if st = 5 ∧ (s.port p).pause = 0 then
    ((s.count (LINK_RETRAIN_retrains p) 1).raiseLink 0x5003 p 0).modPort p fun q => { q with pause := 4 }
  else if st = 3 ∨ st = 4 then
    (((s.count (LINK_RETRAIN_retrains p) 1).raiseLink 0x5003 p 0).linkEnter p 2).setFld (LINK_STAT_retraining p) 1
  else s

/-- A protocol error (R244, R246, R248): a bit of LINK_PROTO, a fault, and a retrain. -/
def State.linkError (s : State) (p : Nat) (f : Fld) (code : Nat) : State :=
  ((s.raiseBit f).raiseLink code p 0).linkRetrain p

/-! ### Lost X requests (R257, R258) -/

/-- A response to a loader read, with its data or none (R332); a late one is discarded (R333, R340). -/
def State.loadHear (s : State) (slot num off attempt : Nat) (data : Option (List Byte)) : State :=
  if s.loadWants slot num attempt then
    let a : LoadAnswer := { slot := slot, num := num, off := off, attempt := attempt, data := data }
    s.modLoad fun l => { l with inbox := l.inbox ++ [a] }
  else s

/-- A request ended in lost-link: it is reissued once on the alternate path, or completes (R258). -/
def State.xLost (s : State) (o : XOut) : State :=
  let s := s.modX fun x => { x with out := x.out.filter (fun e => e != o) }
  let e := s.pathEntry o.pkt.path
  let alt := s.pathEntry (pathAlt e)
  if !o.reissued && pathAltv e && (o.pkt.op == 1 || o.pkt.token.isSome) && pathHop alt 0 != 31 then
    s.xStart { o with pkt := { o.pkt with path := pathAlt e }, port := pathHop alt 0, reissued := true }
  else
    let s := s.raiseLink 0x5031 o.port ((o.pkt.token.getD 0) * 65536)
    let s := match o.who with
      | .loader slot num off attempt => s.loadHear slot num off attempt none
      | .fault n => s.count FAULT_STAT_unsent n
      | _ => s
    if o.reissued then s else s.xStart { o with pkt := { o.pkt with op := 3, len := 0, data := [], token := none }, who := .filler }

/-! ### Flush (R256, R257) -/

/-- Tags of the S transfers with a flit held for port `p`. -/
def PortSt.heldTags (q : PortSt) : List Nat :=
  (((q.replay.filter (fun f => f.cls == 0)).map RawFlit.tag)
    ++ (q.txS.map (fun o => o.flit.tag))).eraseDups

/-- The X flits held for port `p`. -/
def PortSt.xHeld (q : PortSt) : List RawFlit := (q.replay ++ q.txX.map (·.flit)).filter fun f => f.cls == 1

/-- Packets of class X with a flit held for port `p`: the flits of one packet share source, number and path. -/
def PortSt.heldX (q : PortSt) : Nat := ((q.xHeld.map fun f => (f.xsource, f.xseq, f.path)).eraseDups).length

/-- Whether a flit of this module's packet is held for a port. -/
def State.heldHere (s : State) (p : Nat) (o : XOut) : Bool :=
  (s.port p).xHeld.any fun f => f.xsource == s.lcoord && f.xseq == o.pkt.xseq && f.path == o.pkt.path

/-- DONE with lost set goes back on port `p`, or to this module's own departure (R220). -/
def State.lostBack (s : State) (p slice tag : Nat) : State :=
  if p < 31 then s.sendSymbol p (doneSymbol slice tag true)
  else s.modFab fun f => { f with flights := f.flights.eraseP fun e => e.tag == tag && e.own }

/-- DONE with lost set goes upstream for a transfer of tag `tag` lost on port `p`, once (R220, R256): to the in-ports
of its transit entry, or out of the in-flight count where it left from here. -/
def State.lostUp (s : State) (p tag : Nat) : State :=
  match s.fab.trans.find? (fun t => t.tag == tag && bit t.entry (33 + p)) with
  | some t =>
    let s := if t.told then s else
      let s := s.lostBack (enIn t.entry) t.slice tag
      if enJoin t.entry then s.lostBack (enJoinPort t.entry) t.slice tag else s
    let go (u : ArmedTr) : ArmedTr := { u with lost := true, told := true, waitDone := u.waitDone.filter (· != p) }
    s.modFab fun f => { f with trans := updFirst (fun u => u.num == t.num) go f.trans }
  | none =>
    s.modFab fun f =>
      { f with flights := f.flights.eraseP fun e => e.tag == tag && !e.own
               deps := f.deps.filter fun d => !(d.tag == tag && d.sent) }

/-- Whether a flow has begun and is not whole: main flits or announced escape flits are still to come. -/
def FlowSt.partly (f : FlowSt) : Bool := f.first.isSome && !f.isDone

/-- Flows partly received on in-port `p` are abandoned and their join units freed (R256); later flits of either operand
of an abandoned join are discarded (R216). -/
def State.abandonFrom (s : State) (p : Nat) : State :=
  s.modFab fun f =>
    let hit (t : ArmedTr) : Bool :=
      (enIn t.entry == p && t.a.partly) || (enJoin t.entry && enJoinPort t.entry == p && t.b.partly)
    let gone := (f.trans.filter hit).flatMap fun t =>
      (enIn t.entry, t.tag) :: (if enJoin t.entry then [(enJoinPort t.entry, t.tag)] else [])
    { f with trans := f.trans.filter (fun t => !hit t), abandoned := f.abandoned ++ gone
             orphans := f.orphans.filter fun o => o.port != p }

/-- S flits that missed their slot by more than one slot become late and are counted (R239). -/
def State.markLate (s : State) (p : Nat) : State :=
  let now := s.time.tick
  let missed (o : OutFlit) : Bool := !o.late && decide (o.slot + slotTicks p < now)
  let n := ((s.port p).txS.filter missed).length
  (s.modPort p fun q => { q with txS := q.txS.map (fun o => if missed o then { o with late := true } else o) }).count
    (LINK_LATE_count p) n

/-- The port is flushed: held flits, queues and pool are discarded, what was lost is counted and told, and the port
trains from DETECT with fresh set (R256). A transit flit held here leaves its in-port's pool (R243). Of the requests
sent on this port, those end in lost-link of which a flit was held; the others go on (R257). -/
def State.linkFlush (s : State) (p : Nat) : State :=
  let s := s.markLate p
  let q := s.port p
  let tags := q.heldTags
  let s := s.count (LINK_LOST_transfers p) tags.length
  let s := s.count (LINK_LOST_x_flushed p) q.heldX
  let s := tags.foldl (fun t tag => t.lostUp p tag) s
  let s := s.abandonFrom p
  let gone := s.x.out.filter (fun o => o.port == p && o.who != .response && o.who != .filler && s.heldHere p o)
  let s := (q.txS ++ q.txX).foldl (fun t o => if o.inPort < 31 then t.poolSent o.inPort o.poolId else t) s
  let s := s.setPort p { s.port p with
    replay := [], replayAt := none, txS := [], txC := [], txX := [], pool := [], symIn := []
    sent := {}, seen := {}, freed := {}, expect := 0, stalls := 0, nakDue := false, nakAt := none
    graceAt := none, fresh := true, pause := 0 }
  let s := ((s.setFld (LINK_SEQ_next p) 0).setFld (LINK_SEQ_acked p) 0xFFF).setFld (LINK_STAT_grace p) 0
  gone.foldl (fun t o => t.xLost o) s

/-- A flush with its record; that of the parent port stops the slice at the next boundary (R256, R411). -/
def State.flushTold (s : State) (p : Nat) : State :=
  let s := s.linkFlush p
  let s := (s.setFld (LINK_STAT_flushed p) 1).count (LINK_RETRAIN_flushes p) 1
  let s := s.raiseLink 0x5030 p 0
  if s.fld TOPO_TREE_parent = p ∧ s.fld TOPO_SLICE_state = 1 ∧ s.time.stopNext.isNone then
    s.modTime fun t => { t with stopNext := some (0x5030, s.lcoord) }
  else s

/-- Grace has expired, or the link is treated as down at once (R251, R256, R260). A port whose enable is 0 stays OFF. -/
def State.linkDown (s : State) (p : Nat) : State :=
  let s := s.flushTold p
  ((s.linkEnter p (if s.flag (LINK_CTL_enable p) then 1 else 0)).setFld (LINK_STAT_retraining p) 0).setFld
    (LINK_STAT_lanes p) 0

/-! ### Acknowledgement and replay (R245 to R248) -/

/-- Whether ack `a` is in window (R246). -/
def ackInWindow (a acked next : Nat) : Bool := decide (subMod 12 a acked ≤ subMod 12 (subMod 12 next 1) acked)

/-- Held flits up to `a` are acknowledged. -/
def State.takeAck (s : State) (p a : Nat) : State :=
  let n := subMod 12 a (s.fld (LINK_SEQ_acked p))
  if n = 0 then s
  else
    let now := s.time.elapsed
    (s.modPort p fun q => { q with replay := q.replay.drop n, ackAt := now, stalls := 0
                                   replayAt := q.replayAt.map (· - n) }).setFld (LINK_SEQ_acked p) a

/-- A replay from the oldest held flit begins (R247). Eight in a row without the ack advancing are a protocol error
(R248). -/
def State.startReplay (s : State) (p : Nat) : State :=
  if (s.port p).replay.isEmpty then s
  else
    let from0 := (s.fld (LINK_SEQ_acked p) + 1) % 4096
    let n := (s.port p).stalls + 1
    let s := (s.modPort p fun q => { q with replayAt := some 0, replayFrom := from0, stalls := n }).count
      (LINK_REPLAY_replays p) 1
    if 8 ≤ n then (s.modPort p fun q => { q with stalls := 0 }).linkError p (LINK_PROTO_replay_limit p) 0x5011
    else s

/-- A NAK with ack `a` is taken: while a replay is in progress it is ignored, unless its ack lies beyond the first flit
of that replay (R247). -/
def State.takeNak (s : State) (p a : Nat) : State :=
  let s := (s.count (LINK_NAK_taken p) 1).takeAck p a
  let q := s.port p
  let past := decide (0 < subMod 12 a q.replayFrom ∧ subMod 12 a q.replayFrom < 2048)
  if q.replayAt.isSome && !past then s else s.startReplay p

/-! ### Reception (R237, R242 to R247) -/

/-- Whether a symbol is discarded on arrival: a reserved kind, or a HOLD, SLIP or FENCE of another slice
(R237, R407). -/
def State.badSymbol (s : State) (sym : List Byte) : Bool :=
  let k := leField sym 0 1
  !(decide (1 ≤ k ∧ k ≤ 6)) || (decide (2 ≤ k ∧ k ≤ 4) && leField sym 2 2 != s.fld TOPO_SLICE_id)

/-- One symbol of an accepted C flit: discarded or kept for its own command. -/
def State.takeSymbol (s : State) (p id : Nat) (sym : List Byte) : State :=
  let slice := leField sym 2 2
  if s.badSymbol sym then s.raiseBit (LINK_PROTO_bad_symbol p)
  else if !s.admitsIn p 2 slice then s.denyIn p slice
  else s.modPort p fun q => { q with symIn := q.symIn ++ [(id, sym)] }

/-- The pool entry of a C flit is freed once none of its symbols waits. -/
def State.freeC (s : State) (p id : Nat) : State :=
  if (s.port p).symIn.any (fun e => e.1 == id) then s else s.poolFree p id

/-- The first waiting symbol of port `p`, if it is of kind `k`; it is consumed. -/
def State.popSymbol (s : State) (p k : Nat) : Option (List Byte × State) :=
  match (s.port p).symIn with
  | (id, sym) :: rest =>
    if leField sym 0 1 = k then some (sym, (s.modPort p fun q => { q with symIn := rest }).freeC p id) else none
  | [] => none

/-- The short timestamp of this moment (R296). -/
def State.shortStamp (s : State) : Nat := (s.time.tick * 256 + s.fld TIME_FRAC_frac) % 2 ^ 32

/-- Whether a symbol is a regular BEACON, or a probe (R298, R300). -/
def isBeacon (y : List Byte) : Bool := leField y 0 1 == 5 && !bit (leField y 12 1) 0
def isProbe (y : List Byte) : Bool := leField y 0 1 == 5 && bit (leField y 12 1) 0

/-- The slot of port `p` that is running, by its first tick. -/
def State.slotNow (s : State) (p : Nat) : Nat := s.time.tick - s.time.tick % slotTicks p

/-- A regular beacon takes the port's timestamp unit in this slot (R300): the slot is not beacon-free, and a probe sent
in it is void: its capture is gone, and it goes out again. -/
def State.takeUnit (s : State) (p : Nat) : State :=
  let now := s.slotNow p
  if (s.port p).bcnSlot = some now then s
  else
    let void := (s.port p).probeSlot == some now
    s.modPort p fun q =>
      { q with bcnSlot := some now, probeBusy := q.probeBusy + 1
               bcnTx := if void then none else q.bcnTx
               probeSlot := if void then none else q.probeSlot
               probeAgain := q.probeAgain || void }

/-- An accepted flit goes into the pool (R243), a C flit's symbols to their queue, a denied S or X flit away. -/
def State.intoPool (s : State) (p : Nat) (f : RawFlit) : State :=
  let id := (s.port p).nextId
  let e : PoolFlit := { id := id, flit := f, shared := f.shared, at0 := s.time.tick, stamp := s.shortStamp }
  let s := s.modPort p fun q =>
    { q with pool := q.pool ++ [e], nextId := id + 1, expect := (q.expect + 1) % 4096, nakDue := false, nakAt := none }
  if f.cls = 2 then
    let n := min (f.h 128 5) 16
    let ys := chunks 16 n f.payload
    let s := if ys.any isBeacon then s.takeUnit p else s
    (ys.foldl (fun t sym => t.takeSymbol p id sym) s).freeC p id
  else if !s.admitsIn p f.cls f.slice then (s.denyIn p f.slice).poolFree p id
  else s

/-- The receiver owes a NAK (R247): one at once, and while the expected flit is missing one in 256 ticks. -/
def State.oweNak (s : State) (p : Nat) : State :=
  match (s.port p).nakAt with
  | some t =>
    if t + 256 ≤ s.time.elapsed then s.modPort p fun q => { q with nakDue := true } else s
  | none => s.modPort p fun q => { q with nakDue := true }

/-- A flit whose CRC passes: credits and ack of its header first, then its sequence number. -/
def State.goodFlit (s : State) (p : Nat) (f : RawFlit) : State :=
  let q := s.port p
  if q.creditError f.freed then s.linkError p (LINK_PROTO_credit p) 0x5012
  else if !ackInWindow f.ack (s.fld (LINK_SEQ_acked p)) (s.fld (LINK_SEQ_next p)) then
    (s.modPort p fun q => { q with seen := f.freed }).linkError p (LINK_PROTO_ack_window p) 0x5010
  else
    let s := s.modPort p fun q => { q with seen := f.freed }
    let s := if f.op = 1 then s.takeNak p f.ack else s.takeAck p f.ack
    let s :=
      if f.cls = 3 then s
      else if f.seq ≠ (s.port p).expect then s.oweNak p
      else if !(s.port p).poolRoom f.cls f.shared then s.linkError p (LINK_PROTO_overrun p) 0x5013
      else s.intoPool p f
    if f.op = 2 ∧ s.fld (LINK_STAT_state p) = 5 then
      -- a retrain that this module has begun, with PAUSE flits still to send, is counted already
      (if 0 < (s.port p).pause then s else (s.count (LINK_RETRAIN_retrains p) 1).raiseLink 0x5003 p 0).linkRetrainNow p
    else s

/-- The codeword that holds bit `n` of a flit stream: 5,140 message bits each (R231). -/
def codewordOf (n : Nat) : Nat := n / 5140

/-- The lane that codeword `c` travels on, of the active lanes `mask`: the c mod w-th (R231). -/
def codewordLane (mask c : Nat) : Nat :=
  let lanes := (List.range 8).filter fun l => bit mask l
  lanes.getD (c % max 1 lanes.length) 0

/-- The next 288 bytes of the stream come in. What FEC says of them is said of the codeword that holds their last bit: a
codeword that cannot be corrected is counted once, and every flit with a bit in it fails. Answers whether this one does.
The parity of a codeword is not formed: the spec names no field and no generator (log entry 103). -/
def State.takeBits (s : State) (p : Nat) (fec : Fec) : State × Bool :=
  let q := s.port p
  let c0 := codewordOf q.rxBits
  let c1 := codewordOf (q.rxBits + 2303)
  let s := s.modPort p fun q => { q with rxBits := q.rxBits + 2304 }
  match fec with
  | .corrected n => (s.count (LINK_FEC_CE_symbols p) n, q.badCw == some c0)
  | .clean => (s, q.badCw == some c0)
  | .uncorrectable =>
    (if q.badCw = some c1 then s
     else (s.modPort p fun q => { q with badCw := some c1 }).count (LINK_FEC_UE_count p) 1, true)

/-- A flit arrives on an ACTIVE port (R231, R233, R242 to R247). -/
def State.linkReceive (s : State) (p : Nat) (f : RawFlit) (fec : Fec) : State :=
  if s.fld (LINK_STAT_state p) ≠ 5 then s
  else
    let (s, bad) := s.takeBits p fec
    if bad || !f.crcOk then (s.count (LINK_CRC_ERR_count p) 1).oweNak p
    else s.goodFlit p f

/-! ### Transmission (R238, R239) -/

/-- A flit with the running fields of its header and its CRC in place (R234, R245). -/
def State.stampFlit (s : State) (p : Nat) (f : RawFlit) (op : Nat) : RawFlit :=
  let q := s.port p
  (((f.setH 12 12 (subMod 12 q.expect 1)).setH 26 2 op).setFreed q.freed).sealed

/-- The op of the next header: PAUSE before a retrain, NAK where one is owed (R247, R252). -/
def State.nextOp (s : State) (p : Nat) : Nat :=
  let q := s.port p
  if 0 < q.pause then 2 else if q.nakDue then 1 else 0

/-- What sending a header with op `op` does: a NAK is counted and timed, the last PAUSE begins the retrain. -/
def State.sentOp (s : State) (p op : Nat) : State :=
  if op = 1 then
    (s.modPort p fun q => { q with nakDue := false, nakAt := some s.time.elapsed }).count (LINK_NAK_sent p) 1
  else if op = 2 then
    let s := s.modPort p fun q => { q with pause := q.pause - 1 }
    if (s.port p).pause = 0 then s.linkRetrainNow p else s
  else s

/-- A new S, X or C flit is put on the line: it takes a credit and a number and is held (R242, R245). -/
def State.putNew (s : State) (p : Nat) (f : RawFlit) (sh : Bool) : State :=
  let n := s.fld (LINK_SEQ_next p)
  let op := s.nextOp p
  let g := s.stampFlit p ((f.setH 0 12 n).setH 28 1 (b2n sh)) op
  let now := s.time.elapsed
  let s := s.modPort p fun q =>
    { q with sent := q.sent.bump f.cls sh, replay := q.replay ++ [g], wire := some g
             ackAt := if q.replay.isEmpty then now else q.ackAt }
  (s.setFld (LINK_SEQ_next p) (n + 1)).sentOp p op

/-- An idle flit (R234). -/
def State.putIdle (s : State) (p : Nat) : State :=
  let op := s.nextOp p
  let f := s.stampFlit p ((blankFlit 3 []).setH 0 12 (s.fld (LINK_SEQ_next p))) op
  (s.modPort p fun q => { q with wire := some f }).sentOp p op

/-- The next flit of a replay (R245): its ack and freed fields are refreshed. -/
def State.putReplay (s : State) (p i : Nat) (f : RawFlit) : State :=
  let op := s.nextOp p
  let g := s.stampFlit p f op
  let s := s.modPort p fun q =>
    { q with wire := some g, replayAt := if i + 1 < q.replay.length then some (i + 1) else none }
  (s.count (LINK_REPLAY_flits p) 1).sentOp p op

/-- S flits that the permit table does not admit are discarded on leaving (R276). -/
def State.dropDenied (s : State) (p : Nat) : State :=
  let bad := (s.port p).txS.filter (fun o => !s.admitsOut p 0 o.flit.slice)
  bad.foldl (fun t o =>
    let t := t.modPort p fun q => { q with txS := q.txS.erase o }
    (if o.inPort < 31 then t.poolSent o.inPort o.poolId else t).denyOut p o.flit.slice) s

/-- The flit with the least key. -/
def leastBy (key : OutFlit → Nat) : List OutFlit → Option OutFlit
  | [] => none
  | o :: os =>
    match leastBy key os with
    | none => some o
    | some o' => if key o ≤ key o' then some o else some o'

/-- The S flit that may start now (R238): one whose slot has come, else a late one in a recovery slot that no
planned flit takes (R179, R180), or in any slot open to its slice in a slip frame (R184). -/
def State.pickS (s : State) (p : Nat) : Option OutFlit :=
  let now := s.time.tick
  let w := slotTicks p
  let start := now - now % w
  let slot := s.inFrame / w
  let q := s.port p
  if q.lastSlot = some start then none
  else
    match leastBy (·.slot) (q.txS.filter fun o => !o.late && decide (o.slot ≤ now)
        && s.slotOpen p o.flit.slice (o.slot % 65536 / w)) with
    | some o => some o
    | none =>
      leastBy (·.claim) (q.txS.filter fun o => decide ((if o.late then o.ready else o.slot) ≤ now)
        && (s.recovery p slot || (s.time.slipFrame && s.slotOpen p o.flit.slice slot)))

/-- A BEACON takes the time of the beacon before it on this port into bytes 4 to 7, and its own is captured (R296,
R298). -/
def State.stampBeacon (s : State) (p : Nat) (y : List Byte) : State × List Byte :=
  if leField y 0 1 ≠ 5 then (s, y)
  else
    let now := s.shortStamp
    let prev := match (s.port p).bcnTx with | some (_, t) => t | none => 0
    let s := if isBeacon y then s.takeUnit p else
      let slot := s.slotNow p
      s.modPort p fun q => { q with probeSlot := some slot }
    (s.modPort p fun q => { q with bcnTx := some (leField y 1 1 % 16, now) },
      y.take 4 ++ leBytes 4 prev ++ y.drop 8)

/-- The symbols that may leave in this C flit: probes only in a beacon-free slot (R300). -/
def State.sendable (s : State) (p : Nat) (ys : List (List Byte)) : List (List Byte) :=
  let busy := (s.port p).bcnSlot == some (s.slotNow p) || ys.any isBeacon
  (if busy then ys.filter fun y => !isProbe y else ys).take 16

/-- A C flit of the symbols `ys` is put on the line. -/
def State.putSymbols (s : State) (p : Nat) (ys : List (List Byte)) (sh : Bool) : State :=
  let (s, zs) := ys.foldl (fun (acc : State × List (List Byte)) y =>
    let (s, z) := acc.1.stampBeacon p y
    (s, acc.2 ++ [z])) (s, [])
  let s := s.modPort p fun q => { q with txC := ys.foldl (fun l y => l.erase y) q.txC }
  s.putNew p ((blankFlit 2 zs.flatten).setH 128 5 zs.length) sh

/-- X flits at the front of the queue that the permit table does not admit are discarded on leaving (R276). -/
def State.dropDeniedX (s : State) (p : Nat) : State :=
  let bad := (s.port p).txX.takeWhile fun o => !s.admitsOut p 1 o.flit.slice
  bad.foldl (fun t o =>
    let t := t.modPort p fun q => { q with txX := q.txX.tail }
    (if o.inPort < 31 then t.poolSent o.inPort o.poolId else t).denyOut p o.flit.slice) s

/-- What leaves on port `p` when the line is free, and the S flit sent, if it is one. -/
def State.transmit (s : State) (p : Nat) : State × Option OutFlit :=
  let s := (s.markLate p).dropDenied p
  let q := s.port p
  let full := decide (512 ≤ q.replay.length)
  let c := q.credit 2
  let x := q.credit 1
  match q.replayAt with
  | some i =>
    match q.replay[i]? with
    | some f => (s.putReplay p i f, none)
    | none => (s.modPort p fun q => { q with replayAt := none }, none)
  | none =>
    if full then (s.putIdle p, none)
    else
      match s.pickS p, q.credit 0 with
      | some o, some sh =>
        let fr := s.frame
        let now := s.time.tick
        let s := s.modPort p fun q =>
          { q with txS := q.txS.erase o, lastSlot := some (now - now % slotTicks p)
                   slices := o.flit.slice :: (if q.sliceFrame = fr then q.slices else [])
                   sliceFrame := fr }
        let s := s.putNew p o.flit sh
        ((if o.inPort < 31 then s.poolSent o.inPort o.poolId else s), some o)
      | _, _ =>
        let (ok, no) := q.txC.partition (fun y => s.admitsOut p 2 (leField y 2 2))
        let s := no.foldl (fun t y => t.denyOut p (leField y 2 2)) s
        let s := if no.isEmpty then s else s.modPort p fun q => { q with txC := ok }
        match s.sendable p ok, c with
        | y :: ys, some sh => (s.putSymbols p (y :: ys) sh, none)
        | _, _ =>
          let s := s.dropDeniedX p
          match (s.port p).txX, x with
          | o :: rest, some sh =>
            let s := (s.modPort p fun q => { q with txX := rest }).putNew p o.flit sh
            ((if o.inPort < 31 then s.poolSent o.inPort o.poolId else s), none)
          | _, _ => (s.putIdle p, none)

end Sys2Proof.Machine
end

