-- ==== Sys2Proof/Machine/NetTime.lean ====
section
/-! DEFINITION. Timestamps and beacons (R296 to R300), the INIT exchange (R250, R251), and the reference domains
(R287 to R295). -/

namespace Sys2Proof.Machine

/-! ### Timestamp samples (R297, R299) -/

/-- The signed difference of two 32-bit timestamps. -/
def diff32 (a b : Nat) : Int := sInt 32 (subMod 32 a b)

/-- Half of an exact value: the half unit that is left goes where the spec does not say (a free bit). -/
def State.halve (s : State) (x : Int) : Int × State :=
  if x % 2 = 0 then (x / 2, s) else
    let (b, s) := s.draw 1
    (x / 2 + b, s)

/-- The mean of a list of integers: exact where it is one, else one of its two neighbours (a free bit). -/
def State.mean (s : State) (l : List Int) : Int × State :=
  let sum := l.foldl (· + ·) 0
  let n : Int := max 1 l.length
  if sum % n = 0 then (sum / n, s) else
    let (b, s) := s.draw 1
    (sum / n + b, s)

/-- A sample from t1..t4 is formed and, if its delay is not negative, kept (R297, R299). -/
def State.takeSample (s : State) (p t1 t2 t3 t4 : Nat) (peerTx peerRx : Int) : State :=
  let tx := sInt 20 (s.fld (LINK_TS_TX_ASYM_delay p))
  let rx := sInt 20 (s.fld (LINK_TS_RX_ASYM_delay p))
  let there := diff32 t2 t1 - peerRx - tx
  let back := diff32 t4 t3 - rx - peerTx
  let (theta, s) := s.halve (there - back)
  let (delta, s) := s.halve (there + back)
  if delta < 0 then s
  else
    let app := diff32 t2 t1
    let kept := ((theta, delta) :: (s.port p).samples).take 16
    let s := s.modPort p fun q => { q with samples := kept, apparent := some app }
    let (mo, s) := s.mean (kept.map (·.1))
    let (md, s) := s.mean (kept.map (·.2))
    let first := !s.flag (LINK_TS_STAT_valid p)
    let mn := sInt 32 (s.fld (LINK_TS_OFF_MIN_value p))
    let mx := sInt 32 (s.fld (LINK_TS_OFF_MAX_value p))
    let s := s.setFld (LINK_TS_OFFSET_value p) (uNat 32 mo)
    let s := s.setFld (LINK_TS_DELAY_value p) (uNat 32 md)
    let s := s.setFld (LINK_TS_OFF_MIN_value p) (uNat 32 (if first then theta else min mn theta))
    let s := s.setFld (LINK_TS_OFF_MAX_value p) (uNat 32 (if first then theta else max mx theta))
    let s := s.setFld (LINK_TS_STAT_valid p) 1
    s.setFld (LINK_TS_STAT_samples p) (s.fld (LINK_TS_STAT_samples p) + 1)

/-- LINK_LAT from an apparent delay: rounded up to whole ticks, plus one slot (R240, R297). -/
def State.setLat (s : State) (p : Nat) (app : Int) : State :=
  s.setFld (LINK_LAT_ticks p) ((-((-app) / 256)).toNat + slotTicks p)

/-- A beacon or INIT record numbered `n` arrives at stamp `now`: it reports the reception of this module's number `m`
at `t2` and the sending of the peer's number before it at `t3`. The sample is accepted where both numbers match. -/
def State.hearStamp (s : State) (p n m t3 t2 now : Nat) : State :=
  let q := s.port p
  let s := match q.bcnTx, q.bcnRx with
    | some (k, t1), some (j, t4) =>
      if k = m ∧ (j + 1) % 16 = n then
        s.takeSample p t1 t2 t3 t4 (Config.peerTxAsym p).toInt (Config.peerRxAsym p).toInt
      else s
    | _, _ => s
  s.modPort p fun q => { q with bcnRx := some (n, now) }

/-- The timestamp fields this port sends next, with its number: (numbers byte, previous send, reported reception). -/
def PortSt.stampFields (q : PortSt) : Nat × Nat × Nat :=
  (q.bcnNo % 16 + 16 * (match q.bcnRx with | some (n, _) => n | none => 0),
   (match q.bcnTx with | some (_, t) => t | none => 0), (match q.bcnRx with | some (_, t) => t | none => 0))

/-- The BEACON symbol of port `p` (R298); `probe` for a probe of R300. -/
def State.beaconOf (s : State) (p : Nat) (probe : Bool) : List Byte :=
  let (nums, tx, rx) := (s.port p).stampFields
  leBytes 1 5 ++ leBytes 1 nums ++ leBytes 2 0 ++ leBytes 4 tx ++ leBytes 4 rx
    ++ leBytes 1 (b2n probe + 2 * s.fld TIME_DOM_STAT_sel + 4 * s.fld TIME_DOM_STAT_holdover) ++ leBytes 3 0

/-- A beacon is queued and takes the next number. -/
def State.sendBeacon (s : State) (p : Nat) (probe : Bool) : State :=
  let b := s.beaconOf p probe
  (s.sendSymbol p b).modPort p fun q => { q with bcnNo := (q.bcnNo + 1) % 16 }

/-- A probe is queued, and the slots of its sample count from here (R300). -/
def State.sendProbe (s : State) (p : Nat) : State :=
  let now := s.time.tick
  (s.sendBeacon p true).modPort p fun q => { q with probeFrom := now, probeBusy := 0, probeAgain := false }

/-- A regular beacon of a port that has them enabled and is ACTIVE: TIME_BCN_CFG.interval ticks after the one before it
(R299). -/
def State.beaconSend (s : State) (p : Nat) : State :=
  if s.flag (LINK_TS_CTL_bcn_en p) && s.fld (LINK_STAT_state p) = 5 then
    let s := match (s.port p).bcnAt with
      | some t => s.toElapsed (t + ringSize (s.fld TIME_BCN_CFG_interval) 65536)
      | none => s
    let now := s.time.elapsed
    (s.sendBeacon p false).modPort p fun q => { q with bcnAt := some now }
  else s

/-- The end of a port's measurement (R271, R300): LINK_LAT, measured, and the busy bit once no port is left. -/
def State.measureEnd (s : State) (p : Nat) (ok : Bool) : State :=
  let s := s.modPort p fun q =>
    { q with measuring := false, measWait := false, probes := 0, probeMiss := 0, probeAgain := false }
  let s := s.setFld (LINK_TS_STAT_probing p) 0
  let s := if ok then
      match (s.port p).apparent with
      | some a => (s.setLat p a).setFld (TOPO_PORT_measured p) 1
      | none => s.setFld (TOPO_PORT_measured p) 1
    else s
  if s.ports.any (fun e => e.2.measuring) then s else s.setFld TOPO_STAT_measure_busy 0

/-- A void probe goes out again in the next beacon-free slot (R300). -/
def State.probeRetry (s : State) (p : Nat) : State :=
  if (s.port p).probeAgain && (s.port p).bcnSlot != some (s.slotNow p) then s.sendProbe p else s

/-- An apparent delay beyond LINK_LAT is recorded, once per frame (R299). -/
def State.lateLink (s : State) (p : Nat) : State :=
  match (s.port p).apparent with
  | some a =>
    if decide (((s.fld (LINK_LAT_ticks p) - slotTicks p) * 256 : Nat) < a) && (s.port p).at3069 != some s.frame then
      (s.modPort p fun q => { q with at3069 := some s.frame }).raise 0x3069 (unitPort p) 0 p
    else s
  | none => s

/-- A probe that completed its sample or not is answered with a probe; the sixteenth sample ends a measurement (R300). -/
def State.probeHear (s : State) (p : Nat) (got : Bool) : State :=
  let s := if got && (s.port p).measuring then s.modPort p fun q => { q with probes := q.probes + 1 } else s
  let done := (s.port p).measuring && decide (16 ≤ (s.port p).probes)
  let s := s.sendProbe p
  if done then s.measureEnd p true else s

/-- A received BEACON, presented at the stamp its flit captured, completes a sample; a probe is answered. A probe that
came with a regular beacon, which takes the unit, is void (R296, R299, R300). -/
def State.beaconHear (s : State) (p : Nat) : State :=
  let head := (s.port p).symIn.head?
  let flit := head.bind fun x => (s.port p).pool.find? (fun e : PoolFlit => e.id == x.1)
  match s.popSymbol p 5 with
  | none => s
  | some (y, s) =>
    let now := match flit with | some e => e.stamp | none => s.shortStamp
    let void := isProbe y && (match flit with
      | some e => (chunks 16 16 (padTo 256 e.flit.payload)).any isBeacon
          || (s.port p).bcnSlot == some (e.at0 - e.at0 % slotTicks p)
      | none => false)
    if void then s
    else
      let nums := leField y 1 1
      let before := s.fld (LINK_TS_STAT_samples p)
      let s := s.hearStamp p (nums % 16) (nums / 16) (leField y 4 4) (leField y 8 4) now
      let got := decide (s.fld (LINK_TS_STAT_samples p) ≠ before)
      let s := if got then s.lateLink p else s
      if isProbe y then s.probeHear p got else s

/-- TIME_TS clear: extremes, means and sample count (R303). -/
def State.tsClear (s : State) (p : Nat) : State :=
  let s := s.modPort p fun q => { q with samples := [], apparent := none }
  let s := (s.setFld (LINK_TS_OFFSET_value p) 0).setFld (LINK_TS_DELAY_value p) 0
  let s := (s.setFld (LINK_TS_OFF_MIN_value p) 0).setFld (LINK_TS_OFF_MAX_value p) 0
  (s.setFld (LINK_TS_STAT_valid p) 0).setFld (LINK_TS_STAT_samples p) 0

/-! ### INIT (R250, R251) -/

/-- The six freed counts packed as bytes 16 to 24 of an INIT record. -/
def Six.packed (x : Six) : Nat :=
  x.sd + x.sh * 2 ^ 12 + x.xd * 2 ^ 24 + x.xh * 2 ^ 36 + x.cd * 2 ^ 48 + x.ch * 2 ^ 60

/-- The six counts that bytes 16 to 24 of an INIT record hold. -/
def sixOf (n : Nat) : Six :=
  { sd := bits n 0 12, sh := bits n 12 12, xd := bits n 24 12, xh := bits n 36 12, cd := bits n 48 12, ch := bits n 60 12 }

/-- The freed counts of a header or of an INIT record are taken (R242): the state, and whether they are in error. -/
def State.takeFreed (s : State) (p : Nat) (x : Six) : State × Bool :=
  if (s.port p).creditError x then (s.linkError p (LINK_PROTO_credit p) 0x5012, true)
  else (s.modPort p fun q => { q with seen := x }, false)

/-- The INIT record this module sends on port `p` (R250, R298). -/
def State.initRecord (s : State) (p : Nat) : List Byte :=
  let q := s.port p
  let (nums, tx, rx) := q.stampFields
  leBytes 8 Config.uid.toNat ++ leBytes 1 p ++ leBytes 1 q.goodLanes
    ++ leBytes 1 (s.fld (LINK_CTL_half_rate p) + 2 * b2n q.fresh) ++ leBytes 1 0 ++ leBytes 2 q.expect
    ++ leBytes 2 0 ++ leBytes 9 q.freed.packed ++ leBytes 7 0 ++ leBytes 4 tx ++ leBytes 4 rx ++ leBytes 1 nums
    ++ leBytes 215 0

/-- Lanes of the port that a retrain leaves out of `lanes` are marked (R262). -/
def State.markExcluded (s : State) (p lanes : Nat) : State :=
  if s.flag (LINK_STAT_retraining p) then
    iter (fullLanes p) (fun l t => if bit lanes l then t else t.raiseBit (LINK_LANE_failed p l)) s
  else s

/-- The port's width, degraded state and its faults on entry to ACTIVE (R250, R253, R254). -/
def State.takeWidth (s : State) (p peerMask : Nat) : State :=
  let lanes := pickWidth p ((s.port p).goodLanes &&& peerMask) (s.flag (LINK_CTL_width_max p))
  let half := s.fld (LINK_CTL_half_rate p)
  let full := decide (lanes = 2 ^ fullLanes p - 1)
  let degraded := !full || half == 1
  let s := (s.markExcluded p lanes).modPort p fun q => { q with narrow := !full, widen := false }
  let s := (s.setFld (LINK_STAT_lanes p) lanes).setFld (LINK_STAT_half p) half
  let s := s.setFld (LINK_STAT_degraded p) (b2n degraded)
  if degraded then
    let s := s.raiseLink 0x5002 p 0
    if s.admitsS p then s.raiseLink 0x5020 p 0 else s
  else s

/-- The port becomes ACTIVE: grace ends, held flits are replayed, the latency is set (R240, R251, R255). -/
def State.linkActivate (s : State) (p : Nat) (fresh : Bool) : State :=
  let s := s.modPort p fun q =>
    { q with graceAt := none, fresh := false, everActive := true, tries := 0, ackAt := s.time.elapsed, stalls := 0
             replayAt := none, survey := q.survey || fresh, told4101 := q.told4101 && !fresh
             measSkip := if q.measWait then (q.symIn.filter fun y => leField y.2 0 1 == 6).length else q.measSkip
             measWait := false }
  let s := ((s.linkEnter p 5).setFld (LINK_STAT_retraining p) 0).setFld (LINK_STAT_grace p) 0
  let s := (s.setFld (LINK_STAT_attempts p) 0).startReplay p
  match (s.port p).apparent with
  | some a => s.setLat p a
  | none => s

/-- Four good records each way: the two sides agree, or the link is down (R250, R251, R260). -/
def State.linkEstablish (s : State) (p : Nat) : State :=
  let q := s.port p
  let ini := q.initRec
  let ident := leField ini 0 8
  let peer := leField ini 8 1 % 32
  let mask := leField ini 9 1
  let half := leField ini 10 1 % 2
  let pfresh := bit (leField ini 10 1) 1
  let e := leField ini 12 2 % 4096
  let lanes := pickWidth p (q.goodLanes &&& mask) (s.flag (LINK_CTL_width_max p))
  if lanes = 0 ∨ half ≠ s.fld (LINK_CTL_half_rate p) then (s.linkEnter p 2).setFld (LINK_STAT_retraining p) 1
  else if q.fresh ∨ pfresh then
    -- a side with fresh set starts at seq 0 with full credits; its peer flushes first
    let s := if !q.fresh then s.flushTold p else s
    let s := (s.setReg64 (LINK_PEER_ID p) ident).setFld (LINK_PEER_port p) peer
    let s := s.modPort p fun q => { q with expect := 0, sent := {}, seen := {}, freed := {} }
    let s := (s.setFld (LINK_SEQ_next p) 0).setFld (LINK_SEQ_acked p) 0xFFF
    (s.takeWidth p mask).linkActivate p true
  else if s.reg64 (LINK_PEER_ID p) ≠ ident ∨ s.fld (LINK_PEER_port p) ≠ peer then
    (s.raiseLink 0x5014 p 0).linkDown p
  else if !ackInWindow (subMod 12 e 1) (s.fld (LINK_SEQ_acked p)) (s.fld (LINK_SEQ_next p)) then
    (s.raiseLink 0x5010 p 0).linkDown p
  else
    ((s.takeAck p (subMod 12 e 1)).takeWidth p mask).linkActivate p false

/-- INIT ends once four good records have come and four have gone (R249). -/
def State.tryEstablish (s : State) (p : Nat) : State :=
  if 4 ≤ (s.port p).good ∧ 4 ≤ (s.port p).sentInit then s.linkEstablish p else s

/-- The freed counts of an INIT flit's header and record; those of a side that starts afresh count nothing (R242,
R251). -/
def State.initFreed (s : State) (p : Nat) (f : RawFlit) : State × Bool :=
  let pay := padTo 256 f.payload
  if (s.port p).fresh || bit (leField pay 10 1) 1 then (s, false)
  else match s.takeFreed p f.freed with
    | (s, true) => (s, true)
    | (s, false) => s.takeFreed p (sixOf (leField pay 16 9))

/-- An INIT record arrives: good if its CRC passes and it is an idle flit; records must agree (R249, R250). -/
def State.initReceive (s : State) (p : Nat) (f : RawFlit) : State :=
  if s.fld (LINK_STAT_state p) ≠ 4 then s
  else
    let (s, bad) := s.takeBits p .clean
    if bad || !f.crcOk then (s.count (LINK_CRC_ERR_count p) 1)
    else if f.cls ≠ 3 then s
    else match s.initFreed p f with
      | (s, true) => s
      | (s, false) =>
        let pay := padTo 256 f.payload
        let ini := pay.take 16
        let q := s.port p
        let now := s.shortStamp
        let nums := leField pay 40 1
        let s := s.setPort p { q with good := if q.initRec = ini then q.good + 1 else 1, initRec := ini }
        let s := s.hearStamp p (nums % 16) (nums / 16) (leField pay 32 4) (leField pay 36 4) now
        s.tryEstablish p

/-- The flit a port in INIT puts on the line (R250). -/
def State.initSend (s : State) (p : Nat) : State :=
  let f := s.stampFlit p ((blankFlit 3 (s.initRecord p)).setH 0 12 (s.fld (LINK_SEQ_next p))) 0
  let now := s.shortStamp
  let s := s.modPort p fun q =>
    { q with wire := some f, sentInit := q.sentInit + 1, bcnTx := some (q.bcnNo, now)
             bcnNo := (q.bcnNo + 1) % 16 }
  s.tryEstablish p

/-! ### Reference domains (R289 to R295) -/

def domNo : Dom → Nat
  | .a => 0
  | .b => 1

def State.dom (s : State) (d : Nat) : DomSt := if d = 0 then s.net.a else s.net.b
def State.modDom (s : State) (d : Nat) (f : DomSt → DomSt) : State :=
  s.modNet fun n => if d = 0 then { n with a := f n.a } else { n with b := f n.b }

/-- 0 DOWN, 1 ACQ, 2 REF, 3 TRACK. -/
def State.domState (s : State) (d : Nat) : Nat :=
  if d = 0 then s.fld TIME_DOM_STAT_state_a else s.fld TIME_DOM_STAT_state_b

def State.domEnter (s : State) (d st : Nat) : State :=
  (if d = 0 then s.setFld TIME_DOM_STAT_state_a st else s.setFld TIME_DOM_STAT_state_b st).modDom d fun x =>
    { x with since := s.time.elapsed, good := 0, bad := 0 }

/-- The servo stops correcting phase (R291). -/
def State.stopSlew (s : State) : State := s.setFld TIME_DOM_STAT_slewing 0

/-- The module selects domain `d` in place of another: counted and recorded (R292). The generators relock with the phase
between the domains held as an offset, which the servo removes from the new domain's next edge on; the switch moves the
phase by at most four units, by how many the spec does not say (free). -/
def State.domSwitch (s : State) (d : Nat) : State :=
  let s := s.setFld TIME_DOM_STAT_sel d
  let s := s.setFld TIME_DOM_STAT_switches (s.fld TIME_DOM_STAT_switches + 1)
  let e := sInt 32 (s.fld (TIME_DOM_PHASE_phase d))
  let s := (s.stopSlew.setFld TIME_DOM_STAT_held 0).modNet fun n => { n with chosen := true, target := e }
  let (v, s) := s.draw 16
  let s := s.setFld TIME_FRAC_frac (uNat 8 ((s.fld TIME_FRAC_frac : Int) + ((v % 9 : Nat) : Int) - 4))
  s.raise 0x3061 0 0 0

/-- The choice of R291 after a domain changed state. -/
def State.reselect (s : State) : State :=
  let sel := s.fld TIME_DOM_STAT_sel
  let pref := s.fld TIME_DOM_CTL_pref
  if !s.net.chosen then
    let d := if s.domState pref = 3 then some pref else if s.domState (1 - pref) = 3 then some (1 - pref) else none
    match d with
    | some d => (s.setFld TIME_DOM_STAT_sel d).modNet fun n => { n with chosen := true }
    | none => s
  else if s.domState sel ≠ 3 ∧ s.domState (1 - sel) = 3 then s.domSwitch (1 - sel)
  else s

/-- Holdover begins when the last domain leaves REF and TRACK, and ends when one is there again (R293). At reset, with
both domains DOWN, the flag reads 0 as R302 resets it. -/
def State.checkHoldover (s : State) : State :=
  let none2 := decide (s.domState 0 < 2 ∧ s.domState 1 < 2)
  if none2 && !s.flag TIME_DOM_STAT_holdover then
    ((s.setFld TIME_DOM_STAT_holdover 1).modNet fun n => { n with holdAt := s.time.elapsed }).raise 0x3062 0 0 0
  else if !none2 && s.flag TIME_DOM_STAT_holdover then s.setFld TIME_DOM_STAT_holdover 0
  else s

/-- Where domain `d` is the selected one, phase correction stops: it is out of TRACK (R291). -/
def State.lostPhase (s : State) (d : Nat) : State :=
  if s.net.chosen && s.fld TIME_DOM_STAT_sel == d then s.stopSlew else s

/-- No edge for 512 ticks, or the frequency is off: DOWN (R290, R292, R293). -/
def State.refLoss (s : State) (d : Nat) : State :=
  if s.domState d = 0 then s
  else
    let lost := s.net.chosen && s.fld TIME_DOM_STAT_sel == d
    let usable := decide (2 ≤ s.domState d)
    let s := ((s.domEnter d 0).modDom d fun x => { x with heard := false }).lostPhase d
    let s := if lost then s.raise 0x3060 0 0 d else s
    if usable then (s.reselect).checkHoldover else s.reselect

/-- From TRACK to REF, and the choice that follows (R290, R291). -/
def State.trackLost (s : State) (d : Nat) : State :=
  if s.domState d = 3 then (((s.domEnter d 2).lostPhase d).reselect).checkHoldover else s

/-- The signed distance of a PPS edge from the nearest whole-second point, in fraction units (R294). -/
def ppsPhase (tick frac delay : Nat) : Int :=
  let sec : Int := 1280000000 * 256
  let t : Int := (tick * 256 + frac : Nat) - (delay : Nat)
  let m := t % sec
  if m * 2 ≤ sec then m else m - sec

/-- The servo at a PPS edge of the selected domain in TRACK (R295): `held` and `slewing` follow the phase of this edge. -/
def State.servoEdge (s : State) (e : Int) : State :=
  let lim : Int := (ringSize (s.fld TIME_DOM_CFG_max_offset) 256 * 256 : Nat)
  let s := s.modNet fun n => { n with target := e }
  if e.natAbs ≤ 1 then s.stopSlew.setFld TIME_DOM_STAT_held 0
  else if (e.natAbs : Int) ≤ lim then (s.setFld TIME_DOM_STAT_slewing 1).setFld TIME_DOM_STAT_held 0
  else (s.stopSlew.setFld TIME_DOM_STAT_held 1).raise 0x3064 0 0 0

/-- The counter set to the second of the last valid message (R295). -/
def State.setCounter (s : State) (secs : Nat) : State :=
  let t := secs * 1280000000
  ((s.modTime fun u => { u with tick := t, boundary := t / 65536, period := t / 12800 }).setFld TIME_FRAC_frac 0).setFld
    TIME_DOM_STAT_set 1

/-- The CRC of R288: polynomial 0x1021, initial value 0xFFFF, not reflected. -/
def crc16 (bs : List Byte) : Nat :=
  let step (c : Nat) : Nat := if bit c 15 then (c * 2 % 65536) ^^^ 0x1021 else c * 2
  bs.foldl (fun c b => step (step (step (step (step (step (step (step (c ^^^ (b.toNat * 256)))))))))) 0xFFFF

/-- A time-of-day message arrives whole (R289, R290). -/
def State.todMessage (s : State) (d : Nat) (bs : List Byte) : State :=
  let x := s.dom d
  let wire := leField bs 0 1 = 0xA5 ∧ leField bs 1 1 = 0x5A ∧ leField bs 2 1 = 1 ∧ leField bs 14 2 = crc16 (bs.take 14)
  let secs := leField bs 4 6
  let seq := leField bs 10 2
  let timely := match x.pps with
    | some t => decide (t + 1280000 * 256 ≤ s.time.elapsed * 256 ∧ s.time.elapsed * 256 ≤ t + 1152000000 * 256)
    | none => false
  let follows := match x.msg with
    | some (q, u) => decide (seq = (q + 1) % 65536 ∧ secs = u + 1)
    | none => true
  let other := decide (leField bs 3 1 % 2 = d ∧ secs < 2 ^ 33) && timely && follows
  if wire ∧ other = true then
    let s := s.modDom d fun x => { x with heard := true, bad := 0, msg := some (seq, secs) }
    (s.setFld (TIME_TOD_seconds d) secs).setFld (TIME_TOD_flags d) (leField bs 3 1)
  else
    let f := if wire then (if d = 0 then TIME_TOD_ERR_seq_a else TIME_TOD_ERR_seq_b)
      else (if d = 0 then TIME_TOD_ERR_crc_a else TIME_TOD_ERR_crc_b)
    let s := s.count f 1
    let now := s.time.elapsed
    let due := match x.err with
      | some t => decide (1280000000 ≤ now - t)
      | none => true
    let s := if due then (s.modDom d fun x => { x with err := some now }).raise 0x3065 0 0 d else s
    let s := s.modDom d fun x => { x with bad := x.bad + 1 }
    if 2 ≤ (s.dom d).bad then s.trackLost d else s

/-- Whether an edge at `now` falls more than 8 ticks from one second after the edge before it, in fraction units (R290). -/
def ppsOff (before : Option Nat) (now : Nat) : Bool :=
  match before with
  | some t => decide (t + 1280000008 * 256 < now ∨ now < t + 1279999992 * 256)
  | none => false

/-- What a PPS edge means for the domain's state: REF to TRACK after two good seconds, TRACK to REF on a period error
(R290). -/
def State.ppsState (s : State) (d : Nat) (off : Bool) : State :=
  let s := if off && decide (2 ≤ s.domState d) then (s.raise 0x3066 0 0 d).trackLost d else s
  if !off && s.domState d = 2 && 2 ≤ (s.dom d).good then ((s.domEnter d 3).reselect).checkHoldover else s

/-- A PPS edge of domain `d` at fraction `frac` of the present tick: its phase is measured in every state (R290, R294,
R295). `timeStep` and `ready` say whether the boot sequence stands at its time step, and whether the module is ready. -/
def State.ppsEdge (s : State) (d frac : Nat) (timeStep ready : Bool) : State :=
  let x := s.dom d
  let now := s.time.elapsed * 256 + frac
  let off := ppsOff x.pps now
  let e := ppsPhase s.time.tick frac (s.fld (TIME_PPS_DELAY_delay d))
  let s := s.setFld (TIME_DOM_PHASE_phase d) (uNat 32 e)
  let track := decide (s.domState d = 3)
  let s := s.modDom d fun x =>
    { x with pps := some now, heard := false, good := if x.heard && !off then x.good + 1 else 0 }
  let s := s.ppsState d off
  if track && !off && s.fld TIME_DOM_STAT_sel = d then
    if timeStep && !s.flag TIME_DOM_STAT_set then
      match (s.dom d).msg with
      | some (_, secs) => s.setCounter secs
      | none => s
    else if ready then s.servoEdge e else s
  else s

/-- Whether the servo may move the phase: the selected domain is in TRACK (R291). -/
def State.mayServo (s : State) : Bool := decide (s.domState (s.fld TIME_DOM_STAT_sel) = 3)

/-- One step of the servo: one fraction unit towards the error every 4,096 ticks (R295). -/
def State.servoStep (s : State) : State :=
  if s.flag TIME_DOM_STAT_slewing && s.mayServo then
    let e := s.net.target
    let u : Int := if e < 0 then -1 else 1
    let s := s.pass 4096
    let s := s.setFld TIME_FRAC_frac (uNat 8 ((s.fld TIME_FRAC_frac : Int) + u))
    let s := s.modNet fun n => { n with target := e - u }
    if (e - u).natAbs ≤ 1 then s.stopSlew else s
  else s

/-- A write of 1 to slew_now: a held phase is slewed (R295). -/
def State.slewNow (s : State) : State :=
  if s.flag TIME_DOM_STAT_held && s.mayServo then (s.setFld TIME_DOM_STAT_held 0).setFld TIME_DOM_STAT_slewing 1 else s

/-- A write of 1 to switch (R291). -/
def State.switchRequest (s : State) : State :=
  let d := 1 - s.fld TIME_DOM_STAT_sel
  if s.domState d = 3 then s.domSwitch d else s.raise 0x3061 0 0 (2 ^ 31)

end Sys2Proof.Machine
end

