-- ==== Sys2Proof/Machine/LinkTrain.lean ====
section
/-! DEFINITION. The training commands of the fabric ports and the timers of their link layer (R247 to R256). -/

namespace Sys2Proof.Machine

/-- A DETECT attempt expires after 1 ms and repeats (R249). -/
def State.detectTimeout (s : State) (p : Nat) : State :=
  if s.fld (LINK_STAT_state p) = 1 then
    let s := s.toElapsed ((s.port p).since + 1280000)
    (s.count (LINK_STAT_attempts p) 1).modPort p fun q => { q with since := s.time.elapsed }
  else s

/-- Signal on the lanes of a legal width: EQUALIZE, as full training (R249, R253). -/
def State.signalDetected (s : State) (p lanes : Nat) : State :=
  if s.fld (LINK_STAT_state p) = 1 ∧ pickWidth p lanes false ≠ 0 then
    (s.linkEnter p 2).setFld (LINK_STAT_retraining p) 0
  else s

/-- Whether equalisation must keep the degraded width: forced, or the port last ran below full width and this is no
retrain that may widen it (R253). -/
def State.mustDegrade (s : State) (p : Nat) : Bool :=
  s.flag (LINK_CTL_width_max p) || ((s.port p).narrow && !(s.port p).widen)

/-- Equalisation completes: the port takes its width and moves to ALIGN; the lanes found good go into the INIT record, of
a port held to the degraded width those of that width alone (R250, R253). -/
def State.equalizeDone (s : State) (p good : Nat) : State :=
  if s.fld (LINK_STAT_state p) = 2 then
    let lanes := pickWidth p good (s.mustDegrade p)
    if lanes = 0 then s
    else
      let mask := if s.mustDegrade p then lanes else good % 2 ^ fullLanes p
      ((s.markExcluded p lanes).modPort p fun q => { q with goodLanes := mask }).linkEnter p 3
  else s

/-- A training state of a retrain or of full training expires (R249). -/
def State.trainExpired (s : State) (p limit : Nat) : State :=
  let s := s.toElapsed ((s.port p).since + limit)
  if s.flag (LINK_STAT_retraining p) then (s.setFld (LINK_STAT_retraining p) 0).linkEnter p 1
  else (s.raiseLink 0x5001 p 0).linkEnter p 1

def State.equalizeTimeout (s : State) (p : Nat) : State :=
  if s.fld (LINK_STAT_state p) = 2 then
    s.trainExpired p (if s.flag (LINK_STAT_retraining p) then 30720 else 640000000)
  else s

def State.alignTimeout (s : State) (p : Nat) : State :=
  if s.fld (LINK_STAT_state p) = 3 then s.trainExpired p 12800 else s

/-- Codeword lock and deskew are found: INIT (R249); codewords count from here (R231). -/
def State.alignDone (s : State) (p : Nat) : State :=
  if s.fld (LINK_STAT_state p) = 3 then
    let s := s.modPort p fun q => { q with rxBits := 0, badCw := none }
    let s := iter (fullLanes p)
      (fun l t => t.setFld (LINK_LANE_lock p l) (b2n (bit (s.port p).goodLanes l))) s
    s.linkEnter p 4
  else s

/-- INIT expires: back to EQUALIZE as a retrain, at most three times, then DETECT (R249). -/
def State.initTimeout (s : State) (p : Nat) : State :=
  if s.fld (LINK_STAT_state p) = 4 then
    let s := s.toElapsed ((s.port p).since + 2560)
    let n := (s.port p).tries
    if n < 3 then
      ((s.modPort p fun q => { q with tries := n + 1 }).linkEnter p 2).setFld (LINK_STAT_retraining p) 1
    else ((s.modPort p fun q => { q with tries := 0 }).linkEnter p 1).setFld (LINK_STAT_retraining p) 0
  else s

/-- A lane loses signal or lock for 1 us (R252). -/
def State.laneLoss (s : State) (p lane : Nat) : State :=
  if lane < fullLanes p then (s.setFld (LINK_LANE_lock p lane) 0).linkRetrain p else s

/-- The corrected symbols of a lane over 1 ms: kept, and a retrain where they exceed the limit (R252). -/
def State.serCount (s : State) (p lane n : Nat) : State :=
  if lane < fullLanes p then
    let s := s.setFld (LINK_LANE_ce_ms p lane) (min n 0xFFFF)
    if s.fld (LINK_CFG_ser_limit p) * 1024 < n then s.linkRetrain p else s
  else s

/-- Grace expires: the port is flushed (R255, R256). -/
def State.graceExpire (s : State) (p : Nat) : State :=
  match (s.port p).graceAt with
  | some t => (s.toElapsed t).linkDown p
  | none => s

/-- A NAK is repeated 256 ticks after the last one, until the expected flit arrives (R247). -/
def State.nakRepeat (s : State) (p : Nat) : State :=
  match (s.port p).nakAt with
  | some t =>
    let s := s.toElapsed (t + 256)
    s.modPort p fun q => { q with nakDue := true, nakAt := none }
  | none => s

/-- The ack has not advanced for 4,096 ticks: a replay, and after eight in a row a protocol error (R248). -/
def State.replayTimeout (s : State) (p : Nat) : State :=
  if s.fld (LINK_STAT_state p) = 5 ∧ (s.port p).replay ≠ [] then
    let s := s.toElapsed ((s.port p).ackAt + 4096)
    (s.modPort p fun q => { q with ackAt := s.time.elapsed }).startReplay p
  else s

/-- Whether port `p` may leave OFF: its domain is up and the boot sequence has come to its LINKS step (R381, R444). -/
def State.portMay (s : State) (p : Nat) : Bool :=
  bit (s.fld PWR_DOM_STAT_on) (if p < 15 then 17 else 18) && decide (8 ≤ s.fld BOOT_STAT_step)

/-- LINK_CTL is written: `old` its value before, `v` the value written (R249, R252, R253). -/
def State.linkCtl (s : State) (p old v : Nat) : State :=
  let s := s.setReg (LINK_CTL p) (BitVec.ofNat 32 (v % 16 - v / 2 % 2 * 2))
  let st := s.fld (LINK_STAT_state p)
  if !bit v 0 then
    let s := if st = 5 then s.leaveActive p else s
    ((s.linkEnter p 0).setFld (LINK_STAT_retraining p) 0).setFld (LINK_STAT_lanes p) 0
  else if st = 0 then (if s.portMay p then s.linkEnter p 1 else s)
  else if bit v 1 || bit old 2 != bit v 2 then
    (s.modPort p fun q => { q with widen := true }).linkRetrain p
  else if bit old 3 != bit v 3 then s.linkRetrain p
  else s

/-- LINK_CFG is written, or refused for its grace (R262). -/
def State.linkCfg (s : State) (p v : Nat) : State :=
  if 1 ≤ v % 2 ^ 14 ∧ v % 2 ^ 14 ≤ 16000 then
    s.setReg (LINK_CFG p) (BitVec.ofNat 32 (v &&& 0x00FF7FFF))
  else s.raiseLink 0x5040 p 0

/-! ### The commands -/

def execNakRepeat (port : Port) (s : State) : Out := .next (s.nakRepeat port)
def execReplayTimeout (port : Port) (s : State) : Out := .next (s.replayTimeout port)
def execLinkDetectTimeout (port : Port) (s : State) : Out := .next (s.detectTimeout port)
def execLinkSignalDetected (port : Port) (lanes : BitVec 8) (s : State) : Out :=
  .next (s.signalDetected port lanes.toNat)
def execLinkEqualizeDone (port : Port) (good : BitVec 8) (s : State) : Out :=
  .next (s.equalizeDone port good.toNat)
def execLinkEqualizeTimeout (port : Port) (s : State) : Out := .next (s.equalizeTimeout port)
def execLinkAlignDone (port : Port) (s : State) : Out := .next (s.alignDone port)
def execLinkAlignTimeout (port : Port) (s : State) : Out := .next (s.alignTimeout port)
def execInitRecordReceive (port : Port) (flit : RawFlit) (s : State) : Out := .next (s.initReceive port flit)
def execLinkInitTimeout (port : Port) (s : State) : Out := .next (s.initTimeout port)
def execLaneLoss (port : Port) (lane : Fin 8) (s : State) : Out := .next (s.laneLoss port lane)
def execSerLimitExceeded (port : Port) (lane : Fin 8) (count : BitVec 32) (s : State) : Out :=
  .next (s.serCount port lane count.toNat)
def execGraceExpire (port : Port) (s : State) : Out := .next (s.graceExpire port)
def execLinkFlitReceive (port : Port) (flit : RawFlit) (fec : Fec) (s : State) : Out :=
  .next (s.linkReceive port flit fec)

def execRefclkEdge (dom : Dom) (s : State) : Out :=
  .next (if s.domState (domNo dom) = 0 then s.domEnter (domNo dom) 1 else s)
def execRefclkLoss (dom : Dom) (s : State) : Out := .next (s.refLoss (domNo dom))
/-- ACQ to REF after 1 ms (R290). -/
def execDomainAcqDone (dom : Dom) (s : State) : Out :=
  let d := domNo dom
  .next (if s.domState d = 1 then
    (((s.toElapsed ((s.dom d).since + 1280000)).domEnter d 2).checkHoldover) else s)
/-- No PPS for 1.1 s (R290). -/
def execPpsTimeout (dom : Dom) (s : State) : Out :=
  let d := domNo dom
  .next (if s.domState d = 3 then
    let s := s.toElapsed (((s.dom d).pps.getD (s.time.elapsed * 256)) / 256 + 1408000000)
    s.trackLost d else s)
def execTodMessage (dom : Dom) (bytes : List Byte) (s : State) : Out := .next (s.todMessage (domNo dom) bytes)
/-- Back to pref after 10 s in TRACK (R291). -/
def execDomainRevert (s : State) : Out :=
  let d := s.fld TIME_DOM_CTL_pref
  .next (if s.flag TIME_DOM_CTL_revert && s.net.chosen && s.fld TIME_DOM_STAT_sel != d && s.domState d == 3 then
    (s.toElapsed ((s.dom d).since + 12800000000)).domSwitch d else s)
/-- Holdover has lasted its limit (R293). -/
def execHoldoverLimit (s : State) : Out :=
  .next (if s.flag TIME_DOM_STAT_holdover then
    (s.toElapsed (s.net.holdAt + ringSize (s.fld TIME_DOM_CFG_holdover) 65536 * 1280000)).raise 0x3063 0 0 0
    else s)
def execServoStep (s : State) : Out := .next s.servoStep
def execBeaconSend (port : Port) (s : State) : Out := .next (s.beaconSend port)
def execBeaconSymbol (port : Port) (s : State) : Out := .next (s.beaconHear port)

end Sys2Proof.Machine
end

