-- ==== Sys2Proof/Machine/Topo.lean ====
section
/-! DEFINITION. Survey and circuit measurement (R266 to R271, R300), slice registers (R274), permit commits (R277),
fences (R279 to R281) and the logical coordinate (R282). -/

namespace Sys2Proof.Machine

/-! ### Survey -/

/-- The SURVEY symbol this module sends on port `p` (R267). -/
def State.surveySymbol (s : State) (p : Nat) : List Byte :=
  let c := s.fld TOPO_COORD_coord
  let cv := s.fld TOPO_STAT_cvalid
  leBytes 1 6 ++ leBytes 1 (cv + 2 * b2n (s.fld TOPO_STAT_survey == 2)) ++ leBytes 2 0
    ++ leBytes 8 Config.uid.toNat
    ++ leBytes 4 (p + s.fld TOPO_CFG_group * 2 ^ 5 + (if cv = 1 then coordRow c * 2 ^ 15 + coordCol c * 2 ^ 19 else 0))

/-- A survey starts: no port has been heard or found in order yet, and no coordinate is derived (R266, R270, R401). A
port stays marked miswired or missing until this survey finds it in order. -/
def State.surveyStart (s : State) : State :=
  let s := iter 31 (fun p t =>
    ((t.setFld (TOPO_PORT_heard p) 0).setFld (TOPO_PORT_ok p) 0).modPort p fun q => { q with told4101 := false }) s
  ((s.setFld TOPO_STAT_survey 1).setFld TOPO_STAT_cvalid 0).modTopo fun t =>
    { t with surveyAt := s.time.elapsed, sentAt := none }

/-- Whether SURVEY symbols go out on a port: ACTIVE, in a survey of the module or of this port alone (R266). -/
def State.surveys (s : State) (p : Nat) : Bool :=
  decide (s.fld (LINK_STAT_state p) = 5)
    && (s.fld TOPO_STAT_survey == 1 || (s.port p).survey || ((s.port p).measuring && !(s.port p).measWait))

/-- SURVEY symbols go out on every ACTIVE port that is surveyed, 12,800 ticks after the last ones (R266). -/
def State.surveySend (s : State) : State :=
  if (List.range 31).any s.surveys then
    let s := match s.topo.sentAt with
      | some t => s.toElapsed (t + 12800)
      | none => s
    let now := s.time.elapsed
    (iter 31 (fun p t => if t.surveys p then t.sendSymbol p (t.surveySymbol p) else t) s).modTopo fun t =>
      { t with sentAt := some now }
  else s

/-- What port `base + c` says of this module's place along its row or column: none for a tie, a port not heard or a
peer port of another kind (R268). -/
def State.placeBy (s : State) (base n c : Nat) : Option Nat :=
  let q := s.fld (TOPO_PORT_peer_port (base + c))
  if s.flag (TOPO_PORT_heard (base + c)) && decide (base ≤ q ∧ q < base + n) then
    let p := q - base
    if p < c then some p else if c < p then some (p + 1) else none
  else none

/-- The places its ports of one kind give (R268). -/
def State.places (s : State) (base n : Nat) : List Nat := (List.range n).filterMap (s.placeBy base n)

/-- Whether row or column port `base + c` contradicts the wiring, `own` being this module's place (R269). -/
def State.portWrong (s : State) (base n c own : Nat) (place : Nat → Nat) : Bool :=
  let p := base + c
  let q := s.fld (TOPO_PORT_peer_port p)
  let peer := s.fld (TOPO_PORT_peer p)
  let cv := (s.port p).peerCv
  let all := s.places base n
  let kind := decide (base ≤ q ∧ q < base + n)
  let tie := kind && q == p
  all.any (fun v => v != all.headD v)
    || (tie && !((own == c && (!cv || place peer == c + 1)) || (own == c + 1 && (!cv || place peer == c))))
    || !kind
    || (cv && peer != (wired s.groups (s.fld TOPO_COORD_coord) p).1)
    || coordGroup peer != s.fld TOPO_CFG_group

/-- Whether a global port's peer contradicts what is expected of it. Group and port number stand in every SURVEY symbol,
the rest of the coordinate once the peer has derived it (R267). -/
def State.peerDiffers (s : State) (p coord port : Nat) : Bool :=
  let peer := s.fld (TOPO_PORT_peer p)
  s.fld (TOPO_PORT_peer_port p) != port || coordGroup peer != coordGroup coord || ((s.port p).peerCv && peer != coord)

/-- Whether a global port contradicts its TOPO_GPEER entry, or the nominal wiring (R265, R269). -/
def State.globalWrong (s : State) (p : Nat) : Bool :=
  let j := p - 15
  let c := s.fld TOPO_COORD_coord
  let q := (8 * coordRow c + coordCol c) * 16 + j
  let w := wired s.groups c p
  decide (s.fld (TOPO_PORT_peer_port p) < 15)
    || (if s.flag (TOPO_GPEER_valid j) then s.peerDiffers p (s.fld (TOPO_GPEER_coord j)) (s.fld (TOPO_GPEER_port j))
        else decide (coordRow c < 8 ∧ q + 2 ≤ s.groups) && s.peerDiffers p w.1 w.2)

/-- The aux word of 0x4101 (R269). -/
def State.bothEnds (s : State) (p : Nat) : Nat :=
  p + s.fld (TOPO_PORT_peer_port p) * 2 ^ 5 + s.fld (TOPO_PORT_peer p) * 2 ^ 10

/-- One heard port is checked, once the coordinate is derived; a miswired one is recorded once in each survey (R269). -/
def State.checkPort (s : State) (p : Nat) : State :=
  if !s.flag (TOPO_PORT_heard p) then s
  else
    let c := s.fld TOPO_COORD_coord
    let wrong := if p < 7 then s.portWrong 0 7 p (coordCol c) coordCol
      else if p < 15 then s.portWrong 7 8 (p - 7) (coordRow c) coordRow
      else s.globalWrong p
    if wrong then
      let s := (s.setFld (TOPO_PORT_miswired p) 1).setFld (TOPO_PORT_ok p) 0
      if (s.port p).told4101 then s
      else (s.modPort p fun q => { q with told4101 := true }).raisePeer 0x4101 p (s.bothEnds p)
    else ((s.setFld (TOPO_PORT_miswired p) 0).setFld (TOPO_PORT_missing p) 0).setFld (TOPO_PORT_ok p) 1

/-- The coordinate is derived from the ports heard so far (R268). -/
def State.deriveCoord (s : State) : State :=
  match s.places 0 7, s.places 7 8 with
  | x :: _, r :: _ =>
    let w := mkCoord (s.fld TOPO_CFG_group) r x
    let s := (s.setFld TOPO_COORD_coord w).setFld TOPO_STAT_cvalid 1
    if s.topo.lwritten then s else s.setFld TOPO_LCOORD_coord w
  | _, _ => s

/-- A survey completes when all row and column ports were heard and none is miswired (R270). -/
def State.surveyDone (s : State) : State :=
  if s.fld TOPO_STAT_survey = 1 ∧ s.fld TOPO_STAT_cvalid = 1
      ∧ (List.range 15).all (fun p => s.flag (TOPO_PORT_heard p) && !s.flag (TOPO_PORT_miswired p)) then
    s.setFld TOPO_STAT_survey 2
  else s

/-- Step 2 of a circuit measurement, once its retrain is over: the peer is checked against the entry, and the probes
begin (R271). -/
def State.measureSurvey (s : State) (p : Nat) : State :=
  let q := s.port p
  if !q.measuring || q.measWait || s.flag (LINK_TS_STAT_probing p) then s
  else if 0 < q.measSkip then s.modPort p fun q => { q with measSkip := q.measSkip - 1 }
  else
    let j := p - 15
    let s := if s.peerDiffers p (s.fld (TOPO_GPEER_coord j)) (s.fld (TOPO_GPEER_port j)) then s.raisePeer 0x4105 p p else s
    (s.setFld (LINK_TS_STAT_probing p) 1).sendProbe p

/-- A SURVEY symbol arrives on a port (R267 to R271). -/
def State.surveyHear (s : State) (p : Nat) : State :=
  match s.popSymbol p 6 with
  | none => s
  | some (y, s) =>
    let w := leField y 12 4
    let peer := mkCoord (bits w 5 10) (bits w 15 4) (bits w 19 3)
    let cv := bit (leField y 1 1) 0
    let s := s.modPort p fun q => { q with peerCv := cv, survey := q.survey && !bit (leField y 1 1) 1 }
    let s := ((s.setFld (TOPO_PORT_heard p) 1).setFld (TOPO_PORT_peer_port p) (bits w 0 5)).setFld
      (TOPO_PORT_peer p) peer
    let s := s.deriveCoord
    let s := if s.flag TOPO_STAT_cvalid then iter 31 (fun i t => t.checkPort i) s else s
    s.surveyDone.measureSurvey p

/-- The survey has not completed within its timeout (R270). -/
def State.surveyTimeout (s : State) : State :=
  if s.fld TOPO_STAT_survey = 1 then
    let s := s.toElapsed (s.topo.surveyAt + ringSize (s.fld TOPO_CFG_timeout) 256 * 1280000)
    let s := iter 15 (fun p t =>
      if t.flag (TOPO_PORT_heard p) then t
      else (t.setFld (TOPO_PORT_missing p) 1).raise 0x4102 (unitPort p) 0 p) s
    let s := if s.flag TOPO_STAT_cvalid then s else s.raise 0x4103 0 0 0
    s.setFld TOPO_STAT_survey 3
  else s

/-! ### Circuit measurement (R271, R300) -/

/-- A write of 1 to TOPO_CTL.measure: every global port with a valid entry is retrained, surveyed and measured. -/
def State.measureStart (s : State) : State :=
  let s := iter 16 (fun j t =>
    if t.flag (TOPO_GPEER_valid j) then
      let p := 15 + j
      let t := t.modPort p fun q =>
        { q with measuring := true, measWait := true, measSkip := 0, measAt := t.time.elapsed, probes := 0
                 probeMiss := 0, told4101 := false }
      (t.setFld (TOPO_PORT_measured p) 0).linkRetrain p
    else t) s
  if s.ports.any (fun e => e.2.measuring) then s.setFld TOPO_STAT_measure_busy 1 else s

/-- A port under measurement did not reach ACTIVE in time, or a sample was not completed in 64 beacon-free slots: those
since the probe was sent in which no regular beacon took the unit (R271, R300). -/
def State.measureTimeout (s : State) (p : Nat) : State :=
  if !(s.port p).measuring then s
  else if s.fld (LINK_STAT_state p) ≠ 5 then
    ((s.toElapsed ((s.port p).measAt + 640000000)).raise 0x4106 (unitPort p) 0 p).measureEnd p false
  else
    let q := s.port p
    let s := (s.toTick (q.probeFrom + (64 + q.probeBusy) * slotTicks p)).count (LINK_TS_STAT_probe_fail p) 1
    let s := s.modPort p fun q => { q with probeMiss := q.probeMiss + 1 }
    if 8 ≤ (s.port p).probeMiss then
      ((s.raise 0x3068 (unitPort p) 0 p).raise 0x4106 (unitPort p) 0 p).measureEnd p false
    else s.sendProbe p

/-! ### Slice registers (R274) -/

/-- The supply code of bank `n`, and whether it stands at its ceiling or floor (R193). -/
def State.setCode (s : State) (n v : Nat) : State :=
  let s := s.setFld (PWR_GOV_STAT_code n) v
  let s := s.setFld (PWR_GOV_STAT_at_ceiling n) (b2n (v == s.fld (PWR_GOV_CTL_vmax n)))
  s.setFld (PWR_GOV_STAT_at_floor n) (b2n (v == s.fld (PWR_GOV_CTL_vmin n)))

/-- Bank `n` starts at its vstart (R177). -/
def State.startBank (s : State) (n : Nat) : State := s.setCode n (s.fld (PWR_GOV_CTL_vstart n))

/-- A job starts: the record of branch points and the slip counts begin anew (R177, R191, R285). -/
def State.jobStart (s : State) : State :=
  iter 16 (fun n t => t.startBank n) (s.setFld TOPO_SLICE_branch_seen 0)

/-- TOPO_SLICE is written, or refused with 0x4121. -/
def State.sliceWrite (s : State) (v : Nat) : State :=
  let old := s.fld TOPO_SLICE_state
  let id := v % 65536
  let st := bits v 16 2
  if (old ≠ 0 ∧ id ≠ s.fld TOPO_SLICE_id) ∨ (st = 1 ∧ (id = 0 ∨ id = 0xFFFF)) then s.raise 0x4121 0 0 0
  else
    let s := ((s.setFld TOPO_SLICE_id id).setFld TOPO_SLICE_state st).setFld TOPO_SLICE_branch (bits v 18 1)
    if old ≠ 1 ∧ st = 1 then s.jobStart else s

/-- TOPO_ORIGIN, TOPO_TREE or TOPO_TREE_CHILD is written, or refused while the slice is not idle. -/
def State.treeWrite (s : State) (a mask v : Nat) : State :=
  if s.fld TOPO_SLICE_state ≠ 0 then s.raise 0x4121 0 0 0
  else s.setReg a (BitVec.ofNat 32 (v &&& mask))

/-- TOPO_LCOORD is written: it waits for the next boundary, or is refused while the slice runs (R282). -/
def State.lcoordWrite (s : State) (v : Nat) : State :=
  if s.fld TOPO_SLICE_state = 1 then s.raise 0x4122 0 0 0
  else (s.modTopo fun t => { t with lcoord := some (v % 2 ^ 17), lwritten := true }).setFld TOPO_LCOORD_pending 1

/-! ### Fences (R279 to R281) -/

/-- The ports of this module's children in the fault tree. -/
def State.children (s : State) : List Nat :=
  (List.range 31).filter fun p => bit (s.fld TOPO_TREE_CHILD_children) p

/-- A FENCE symbol for the module at physical coordinate `target` (R279). -/
def fenceSymbol (on : Bool) (slice target : Nat) : List Byte :=
  leBytes 1 4 ++ leBytes 1 (b2n on) ++ leBytes 2 slice ++ leBytes 4 target ++ leBytes 8 0

/-- A FENCE symbol goes down the fault tree, to every child (R279). -/
def State.fenceDown (s : State) (y : List Byte) : State := s.children.foldl (fun t c => t.sendSymbol c y) s

/-- TOPO_FENCE.req is written. The origin device sends what it takes down the fault tree; the spec names no other request
that reaches it there (DESIGN CHOICE, log entry 102). -/
def State.fenceWrite (s : State) (on : Bool) : State :=
  let s := (s.setFld TOPO_FENCE_req (b2n on)).modTopo fun t => { t with fence := some on }
  if s.flag TOPO_ORIGIN_self then
    s.fenceDown (fenceSymbol on (s.fld TOPO_SLICE_id) (s.fld TOPO_COORD_coord))
  else s

/-- A FENCE symbol: passed on to the children, and taken where it names this module (R279). -/
def State.fenceHear (s : State) (p : Nat) : State :=
  match s.popSymbol p 4 with
  | none => s
  | some (y, s) =>
    let s := s.fenceDown y
    if leField y 4 4 % 2 ^ 17 = s.fld TOPO_COORD_coord then
      s.modTopo fun t => { t with fence := some (bit (leField y 1 1) 0) }
    else s

/-- A fence ordered for this boundary takes effect, or is refused at a branch point (R281). -/
def State.applyFence (s : State) : State :=
  match s.topo.fence with
  | none => s
  | some on =>
    let s := s.modTopo fun t => { t with fence := none }
    if on && s.fld TOPO_SLICE_state == 1 && (s.flag TOPO_SLICE_branch || s.flag TOPO_SLICE_branch_seen) then
      (s.setFld TOPO_FENCE_refused 1).raise 0x4120 0 0 0
    else s.setFld TOPO_FENCE_fenced (b2n on)

/-- A logical coordinate written since the last boundary takes effect (R282). -/
def State.applyLcoord (s : State) : State :=
  match s.topo.lcoord with
  | none => s
  | some w => ((s.modTopo fun t => { t with lcoord := none }).setFld TOPO_LCOORD_coord w).setFld TOPO_LCOORD_pending 0

/-! ### Permit commits (R275, R277) -/

/-- Whether S flits of a slice are in use on a port in the present frame (R277). -/
def State.sliceInUse (s : State) (p slice : Nat) : Bool :=
  let q := s.port p
  (q.sliceFrame == s.frame && q.slices.contains slice) || q.txS.any (fun o => o.flit.slice == slice)

/-- Whether a slice may not be touched: it runs here, or is in use on the port. -/
def State.sliceBusy (s : State) (p slice : Nat) : Bool :=
  (s.fld TOPO_SLICE_id == slice && s.fld TOPO_SLICE_state == 1) || s.sliceInUse p slice

/-- Whether two entries of different slices may claim one slot out of a port (R277). -/
def entriesMeet (e f : Nat) : Bool :=
  bit f 31 && bit f 17 && bit f 18 && bits e 0 16 != bits f 0 16
    && decide (bits e 32 16 ≤ bits f 48 16 ∧ bits f 32 16 ≤ bits e 48 16)
    && (bits e 64 16 &&& bits f 64 16) != 0

/-- Whether a commit of `e` over entry `k` of port `p` is refused (R277). -/
def State.permitBad (s : State) (p k e : Nat) : Bool :=
  let old := s.permit p k
  let valid := bit e 31
  let top := if p < 15 then 32767 else 8191
  (valid && (bits e 21 10 != 0 || bits e 80 48 != 0 || decide (bits e 48 16 < bits e 32 16)
      || decide (top < bits e 48 16) || bits e 0 16 == 0 || bits e 0 16 == 0xFFFF))
    || (valid && s.sliceBusy p (bits e 0 16)) || (bit old 31 && s.sliceBusy p (bits old 0 16))
    || (valid && bit e 17 && bit e 18 && (s.permits p).any (fun f => f.1 != k && entriesMeet e f.2))
    || (valid && bit e 18 && (s.flag (TOPO_PORT_miswired p) || s.flag (TOPO_PORT_missing p)))

/-- The four words of a permit entry are committed together, or refused (R277). -/
def State.permitCommit (s : State) (p k e : Nat) : State :=
  if s.permitBad p k e then (s.setFld (LINK_PERMIT_CTL_refused p) 1).raise 0x4112 (unitPort p) 0 0
  else
    let e := if bit e 31 then e else 0
    (s.setReg64 (LINK_PERMIT p k) e).setReg64 (LINK_PERMIT p k + 8) (e >>> 64)

/-! ### The commands -/

def execSurveySend (s : State) : Out := .next s.surveySend
def execSurveySymbol (port : Port) (s : State) : Out := .next (s.surveyHear port)
def execSurveyTimeout (s : State) : Out := .next s.surveyTimeout
def execMeasureTimeout (port : Port) (s : State) : Out := .next (s.measureTimeout port)
def execFenceSymbol (port : Port) (s : State) : Out := .next (s.fenceHear port)

end Sys2Proof.Machine
end

