-- ==== Sys2Proof/Machine/Hold.lean ====
section
/-! DEFINITION. HOLD, SLIP and STOP (R181, R182, R185, R186, R406 to R408), the end of a batch (R363), the release of
an arrival counter (R136, R143) and the twin digests (R415). -/

namespace Sys2Proof.Machine

/-! ### HOLD (R181, R406) -/

/-- A HOLD symbol. -/
def holdSymbol (load : Bool) (slice frame tag : Nat) : List Byte :=
  leBytes 1 2 ++ leBytes 1 (b2n load) ++ leBytes 2 slice ++ leBytes 6 frame ++ leBytes 3 tag ++ leBytes 3 0

/-- A HOLD goes to the parent: the first of a frame, and one later with load 0 after one with load 1 (R406). -/
def State.holdUp (s : State) (load : Bool) (slice frame tag : Nat) : State :=
  let fr := s.frame
  let s := if s.time.holdFrame = fr then s else
    s.modTime fun t => { t with holdFrame := fr, sentHold := false, sentLoadHold := false }
  let first := !s.time.sentHold && !s.time.sentLoadHold
  if first || (!load && !s.time.sentHold) then
    (s.sendSymbol (s.fld TOPO_TREE_parent) (holdSymbol load slice frame tag)).modTime fun t =>
      { t with sentHold := t.sentHold || !load, sentLoadHold := t.sentLoadHold || load }
  else s

/-- Whether a STOP is ordered for a coming boundary. -/
def State.stopOrdered (s : State) : Bool := s.time.orders.any fun o => o.2.1

/-- A HOLD counts as received at the origin device (R182, R408). -/
def State.holdAtOrigin (s : State) (load : Bool) : State :=
  if s.fld TOPO_SLICE_state ≠ 1 ∨ s.stopOrdered then s
  else s.modTime fun t => { t with gotHold := t.gotHold || !load, gotLoadHold := t.gotLoadHold || load }

/-- The module raises a HOLD of a kind for its slice (R181). -/
def State.raiseHoldAs (s : State) (load : Bool) (tag : Nat) : State :=
  let s := (s.count TIME_HOLD_CNT_count 1).setFld TIME_SLIP_STAT_hold_pending 1
  let id := s.fld TOPO_SLICE_id
  if id = 0 ∨ id = 0xFFFF ∨ s.fld TOPO_SLICE_state ≠ 1 then s
  else if s.flag TOPO_ORIGIN_self then s.holdAtOrigin load
  else s.holdUp load id s.frame tag

/-- A HOLD symbol arrives (R406). -/
def State.holdHear (s : State) (p : Nat) : State :=
  match s.popSymbol p 2 with
  | none => s
  | some (y, s) =>
    let load := bit (leField y 1 1) 0
    if s.flag TOPO_ORIGIN_self then s.holdAtOrigin load
    else s.holdUp load (leField y 2 2) (leField y 4 6) (leField y 10 3)

/-! ### SLIP and STOP (R182, R185, R186, R407, R408) -/

/-- A SLIP or STOP symbol. -/
def slipSymbol (stop loadOnly : Bool) (slice frame code subject : Nat) : List Byte :=
  leBytes 1 3 ++ leBytes 1 (b2n stop + 2 * b2n loadOnly) ++ leBytes 2 slice ++ leBytes 6 frame ++ leBytes 2 code
    ++ leBytes 4 subject

/-- An order of the origin: to every child, and to itself for the boundary that ends this frame. -/
def State.order (s : State) (stop loadOnly : Bool) (code subject : Nat) : State :=
  let f := s.frame + 1
  let y := slipSymbol stop loadOnly (s.fld TOPO_SLICE_id) f code subject
  let s := s.children.foldl (fun t c => t.sendSymbol c y) s
  s.modTime fun t => { t with orders := t.orders ++ [(f, stop, loadOnly, code, subject)] }

/-- The origin's decision (R182, R186, R408). -/
def State.takeDecision (s : State) : State :=
  if !s.flag TOPO_ORIGIN_self || s.fld TOPO_SLICE_state != 1 then s
  else
    let hold := s.time.gotHold
    let load := s.time.gotLoadHold
    let stop := s.time.stopRec
    let s := s.modTime fun t => { t with gotHold := false, gotLoadHold := false, stopRec := none }
    match stop with
    | some (code, subject) => s.order true false code subject
    | none =>
      if hold then
        if ringSize (s.fld TIME_SLIP_CFG_max_consec) 256 ≤ s.time.consec then
          let s := s.raise 0x3040 0 0 0
          (s.order true false 0x3040 s.lcoord).modTime fun t => { t with stopRec := none }
        else s.order false false 0 0
      else if load then s.order false true 0 0
      else s

/-- A SLIP or STOP symbol arrives: to the children, and to its boundary; late, it is not applied (R185, R411). -/
def State.slipHear (s : State) (p : Nat) : State :=
  match s.popSymbol p 3 with
  | none => s
  | some (y, s) =>
    let s := s.children.foldl (fun t c => t.sendSymbol c y) s
    let k := leField y 1 1
    let f := leField y 4 6
    if f ≤ s.time.boundary then
      if bit k 0 then s.modTime fun t => { t with stopNext := some (leField y 10 2, leField y 12 4 % 2 ^ 17) }
      else
        let m := (sInt 48 s.schedFrame - (s.frame - f : Nat)).toNat
        let s := s.modTime fun t => { t with slipAt := t.slipAt ++ [m] }
        let origin := s.fld TOPO_ORIGIN_coord
        let s := s.setFld TIME_SLIP_STAT_late_slip 1
        let s := s.emit { s.mkRec 0x3021 0 0 0 1 with subject := origin }
        s.modTime fun t => { t with stopNext := some (0x3021, origin) }
    else
      s.modTime fun t =>
        { t with orders := t.orders ++ [(f, bit k 0, bit k 1, leField y 10 2, leField y 12 4 % 2 ^ 17)] }

/-! ### Twin digests (R414, R415) -/

/-- The item of an effect, hashed into the digest of a word's twin frame. -/
def State.digest (s : State) (sheet tag kind addr : Nat) (frame : Option Nat) (data : List Byte) : State :=
  match frame with
  | none => s
  | some f =>
    let item := leBytes 1 kind ++ leBytes 1 (sheet % 160) ++ leBytes 3 tag ++ leBytes 6 addr
      ++ leBytes 2 data.length ++ data
    let h := leNat (shake256 8 item)
    s.modFault fun x => { x with twin := updFirst (fun e => e.frame == f) (fun e =>
      if sheetDie sheet = 0 then { e with d0 := (e.d0 + h) % 2 ^ 64 } else { e with d1 := (e.d1 + h) % 2 ^ 64 }) x.twin }

/-- Whether the effects of a sheet's words outside its die are suppressed: it is the twin of a CD0 sheet (R414). -/
def State.suppressed (s : State) (sheet : Nat) : Bool := s.twinOn && sheetDie sheet == 1

/-! ### The end of a batch (R363) -/

/-- The body of the completion event: bytes 16 to 47 of R365. -/
def completionBody (k cookie : Nat) : List Byte := leBytes 8 k ++ leBytes 8 cookie ++ leBytes 16 0

/-- One overlay entry's busy count lowered. -/
def State.ovlRelease (s : State) (i : Nat) : State :=
  let e := smGet (fun _ => {}) s.fab.ovl i
  s.modFab fun f => { f with ovl := smSet (fun _ => {}) f.ovl i { e with busy := e.busy - 1 } }

/-- The batch ends once its completion entry has room in the event buffer. -/
def State.batchEnd (s : State) : State :=
  let p := s.fld WLINK_BQ_CFG_evport
  if s.flag (WLINK_EVR_enable p) && 256 ≤ (s.wport p).evBuf.length then
    (s.modWiora fun w => { w with ending := true }).setFld WLINK_BQ_STAT_end_wait 1
  else
    let s := (s.postEvent p 1 (completionBody s.wiora.next s.wiora.cookie) false).2
    let s := s.wiora.resolve.foldl (fun t i => t.ovlRelease i) s
    let s := s.modWiora fun w => { w with slots := [], resolve := [], next := w.next + 1, ending := false }
    ((s.setFld WLINK_BQ_STAT_open 0).setFld WLINK_BQ_STAT_end_wait 0).setFld WLINK_BQ_STAT_next s.wiora.next

/-! ### Arrival counters (R136, R143, R218, R458) -/

def State.ac (s : State) (n : Nat) : Nat := s.fld (FAB_AC_count n)

/-- What completions added to counter `n` since sheet `i` last received its updates (step 2 of R137). -/
def State.acUnseen (s : State) (i n : Nat) : Nat :=
  smGet (fun _ => 0) s.fab.acTotal n - smGet (fun _ => 0) (s.sheet i).acSeen n

/-- Counter `n` as sheet `i` sees it. -/
def State.acView (s : State) (i n : Nat) : Nat := s.ac n - s.acUnseen i n

/-- A completion advances counter `n` (R217, R218). -/
def State.acAdd (s : State) (n k tag : Nat) : State :=
  let v := s.ac n + k
  let s := s.modFab fun f => { f with acTotal := smSet (fun _ => 0) f.acTotal n (smGet (fun _ => 0) f.acTotal n + k) }
  if v < 2 ^ 32 then s.setFld (FAB_AC_count n) v
  else (s.setFld (FAB_AC_count n) (2 ^ 32 - 1)).raise 0x4021 0 tag 0

/-- A word's release of counter `n` (R136, R143), judged by what its sheet has received so far (R137); it may end
the open batch (R363). -/
def State.acRelease (s : State) (sheet n k tag : Nat) : State :=
  let v := s.ac n
  let s := if s.acView sheet n < k then
      (s.setFld (FAB_AC_count n) (v - s.acView sheet n)).raise 0x2011 (unitSheet sheet) tag 0
    else s.setFld (FAB_AC_count n) (v - k)
  if s.flag WLINK_BQ_STAT_open && n == s.fld WLINK_BQ_CFG_open_ac && s.ac n == 0 && 0 < v && !s.wiora.ending then
    s.batchEnd
  else s

/-! ### The commands -/

def execHoldSymbol (port : Port) (s : State) : Out := .next (s.holdHear port)
def execSlipSymbol (port : Port) (s : State) : Out := .next (s.slipHear port)

end Sys2Proof.Machine
end

