-- ==== Sys2Proof/Machine/Words.lean ====
section
/-! DEFINITION. Control words: their fields (R132 to R136, R145 to R158) and the checks made when a word reaches the
head of its queue (R146, R159, R414, R462). -/

namespace Sys2Proof.Machine

/-! ### Common fields (R132) -/

def QWord.f (w : QWord) (lo n : Nat) : Nat := bits w.raw lo n
def QWord.tag (w : QWord) : Nat := w.f 488 24
def QWord.engine (w : QWord) : Nat := w.f 486 2
def QWord.cls (w : QWord) : Nat := w.f 480 6
def QWord.rep (w : QWord) : Nat := ringSize (w.f 416 16) 65536
def QWord.pmode (w : QWord) : Nat := w.f 414 2
def QWord.pflag (w : QWord) : Nat := w.f 408 6

/-- Wait A or B: selector and count as stored. -/
def QWord.waitA (w : QWord) : Nat × Nat := (w.f 464 16, w.f 392 16)
def QWord.waitB (w : QWord) : Nat × Nat := (w.f 448 16, w.f 376 16)
def QWord.signal (w : QWord) : Nat × Nat := (w.f 432 16, w.f 360 16)

/-- Kind and operand of a selector. -/
def selKind (sel : Nat) : Nat := sel / 4096
def selArg (sel : Nat) : Nat := sel % 4096

/-- A count of 0 means 65,536 (R135, R136). -/
def countOf (c : Nat) : Nat := ringSize c 65536

/-! ### Address generators (R145, R146) -/

/-- An address generator: base, two strides and the first count. -/
structure Agd where
  base : Int
  s1 : Int
  c1 : Nat
  s2 : Int
  deriving DecidableEq, Repr

/-- The 80-bit descriptor at payload bit `lo`. -/
def QWord.agd (w : QWord) (lo : Nat) : Agd :=
  { base := w.f lo 22, s1 := sInt 20 (w.f (lo + 22) 20), c1 := countOf (w.f (lo + 42) 16),
    s2 := sInt 22 (w.f (lo + 58) 22) }

/-- The address for iteration `i`. -/
def Agd.at (g : Agd) (i : Nat) : Int := g.base + (i % g.c1 : Nat) * g.s1 + (i / g.c1 : Nat) * g.s2

/-- The iterations at the corners of the range of `rep` iterations: the ends of the first row, of the last full row
and of the last row. -/
def Agd.corners (g : Agd) (rep : Nat) : List Nat :=
  let last := (rep - 1) / g.c1 * g.c1
  [min g.c1 rep - 1, last - 1, last, rep - 1]

/-- The lowest and the highest address over `rep` iterations: they lie at the corners. -/
def Agd.span (g : Agd) (rep : Nat) : Int × Int :=
  (g.corners rep).foldl (fun m i => (min m.1 (g.at i), max m.2 (g.at i))) (g.at 0, g.at 0)

/-- Whether every address of `rep` iterations, `n` bytes each, lies in `[lo, hi)`. -/
def Agd.inside (g : Agd) (rep n : Nat) (lo hi : Int) : Bool :=
  let (a, b) := g.span rep
  decide (lo ≤ a ∧ b + n ≤ hi)

/-- Whether the range lies in one of the named window stores. -/
def Agd.inStores (g : Agd) (rep n : Nat) (stores : List Nat) : Bool :=
  stores.any fun st =>
    let (b, l) := regionOf st
    g.inside rep n b (b + l : Nat)

/-! ### Payload fields -/

/-- The device-memory side of an ST word or of an overlay descriptor (R156, R158). -/
structure MemSide where
  g : Agd
  len : Nat
  deriving DecidableEq, Repr

def QWord.memSide (w : QWord) : MemSide :=
  { g := { base := w.f 80 48, s1 := sInt 32 (w.f 128 32), c1 := countOf (w.f 160 16), s2 := sInt 32 (w.f 176 32) },
    len := countOf (w.f 208 16) }

/-- The memory side that an overlay operand descriptor gives (R158). -/
def descSide (d : List Byte) : MemSide :=
  { g := { base := leField d 0 6, s1 := sInt 32 (leField d 8 4), c1 := countOf (leField d 12 2),
           s2 := sInt 32 (leField d 16 4) },
    len := countOf (leField d 6 2) }

/-- Whether the reserved bytes of an operand descriptor are zero. -/
def descClean (d : List Byte) : Bool := leField d 14 2 == 0 && leField d 20 12 == 0

/-- Reduction rows of a weight tile, its size in bytes and its code width (R104, R148). -/
def tileRows (wfmt : Nat) : Nat := if wfmt = 1 then 512 else 256
def tileBytes (wfmt : Nat) : Nat := if wfmt = 2 then 65536 else 32768
def codeBits (wfmt : Nat) : Nat := if wfmt = 0 then 4 else if wfmt = 1 then 2 else 8

/-- Whether a weight operand uses its scale array and its legend index array (R462). -/
def usesScale (wscale : Nat) : Bool := wscale != 0
def usesIndex (lmode wfmt : Nat) : Bool := lmode == 1 && wfmt != 2

/-- Blocks of a weight tile along the reduction axis and over its 256 columns. -/
def tileBlocks (wfmt wscale : Nat) : Nat := tileRows wfmt / blockLen wscale * 256

/-- Bytes of the weight side arrays (R462). -/
def sideBytes (wfmt wscale lmode : Nat) : Nat :=
  (if usesScale wscale then tileBlocks wfmt wscale else 0) + (if usesIndex lmode wfmt then tileBlocks wfmt wscale else 0)

/-- Bytes of one activation vector. -/
def vectorBytes (wfmt afmt : Nat) : Nat := tileRows wfmt * elemBits afmt / 8

/-- Bytes of the side arrays' generator that break R462. -/
def sideBad (w : QWord) (lo : Nat) (used : Bool) : Bool :=
  if used then w.f (lo + 22) 58 != 0 else w.f lo 80 != 0

/-- Start of stream buffer half `h`. -/
def halfBase (h : Nat) : Nat := 0x300000 + 0x40000 * h

/-! ### Decode checks (R159) -/

/-- The classes of each engine (R133). -/
def classes (eng : Nat) : List Nat :=
  if eng = 0 then [0] else if eng = 1 then [0, 1, 2, 0x10, 0x11, 0x12, 0x18, 0x19, 0x1A]
  else if eng = 2 then [0, 1, 2] else [0, 1, 2, 3]

/-- Whether a wait is well formed (R135). -/
def waitOk (w : Nat × Nat) : Bool :=
  let k := selKind w.1
  let x := selArg w.1
  if k = 0 then w.1 == 0 && w.2 == 0
  else if k = 1 ∨ k = 2 ∨ k = 3 then decide (x < 64) && w.2 == 0
  else if k = 4 then decide (x < 16)
  else if k = 5 then decide (x < 8) && w.2 == 0
  else k == 8

/-- Whether a signal is well formed (R136). -/
def signalOk (w : Nat × Nat) : Bool :=
  let k := selKind w.1
  let x := selArg w.1
  if k = 0 then w.1 == 0 && w.2 == 0
  else if k = 1 ∨ k = 2 then decide (x < 64) && w.2 == 0
  else if k = 4 then decide (x < 16)
  else if k = 6 then decide (x < 8)
  else k == 8

/-- Whether both waits consume from one counter or flag (R138). -/
def doubleTake (a b : Nat × Nat) : Bool :=
  (selKind a.1 == 3 || selKind a.1 == 4) && a.1 == b.1

/-- The operands a lane operation reads (R151): a, b, c. -/
def laneUses (op : Nat) : Bool × Bool × Bool :=
  if op = 0 then (true, true, true) else if op ≤ 7 then (true, true, false) else (true, false, false)

def laneOp (op : Nat) : Bool := decide (op ≤ 9) || decide (0x10 ≤ op ∧ op ≤ 0x15)

/-- A select code of R152: 0, or 4 to 7. -/
def selectBad (c : Nat) : Bool := decide (1 ≤ c ∧ c ≤ 3)

/-- Check 0x2004: a reserved field or an unused generator is not zero (R150, R154, R156, R462). -/
def QWord.reservedBad (w : QWord) : Bool :=
  let e := w.engine
  let c := w.cls
  w.f 352 8 != 0 ||
  (if e = 0 then
    w.f 284 68 != 0 || (w.f 258 2 == 0 && w.f 80 80 != 0)
      || sideBad w 160 (usesScale (w.f 256 2) || usesIndex (w.f 260 1) (w.f 248 4))
  else if e = 1 then
    (if c = 0 then
      let (_, b, cc) := laneUses (w.f 200 8)
      w.f 0 160 != 0 || w.f 208 144 != 0
        || (laneOp (w.f 200 8) && ((!b && w.f 178 9 != 0) || (!cc && w.f 187 9 != 0)))
    else if c = 1 ∨ c = 2 then w.f 80 80 != 0 || w.f 174 178 != 0
    else if c = 0x10 then w.f 343 9 != 0 || (w.f 164 1 == 0 && w.f 80 80 != 0)
    else if c = 0x11 then
      w.f 198 154 != 0 || sideBad w 80 (usesScale (w.f 172 2) || usesIndex (w.f 174 1) (w.f 168 4))
    else if c = 0x12 then w.f 0 160 != 0 || w.f 184 168 != 0
    else if c = 0x18 then w.f 80 80 != 0 || w.f 162 190 != 0
    else if c = 0x19 then w.f 0 160 != 0 || w.f 168 184 != 0
    else w.f 0 160 != 0 || w.f 204 148 != 0)
  else if e = 2 then
    w.f 229 123 != 0 || (w.f 169 1 == 1 && w.f 80 89 != 0)
      || (c == 2 && (w.f 80 90 != 0 || w.f 194 16 != 0 || w.f 214 9 != 0))
  else
    w.f 279 73 != 0 || (c == 2 && w.f 0 80 != 0) || (c == 3 && w.f 80 144 != 0))

/-- Check 0x2005: a reserved code (R148, R151, R152, R153). -/
def QWord.codeBad (w : QWord) : Bool :=
  let e := w.engine
  let c := w.cls
  if e = 0 then
    decide (2 < w.f 248 4) || decide (4 < w.f 252 4) || w.f 256 2 == 3 || w.f 258 2 == 3
  else if e = 1 then
    if c = 0 then !laneOp (w.f 200 8)
    else if c = 0x10 then
      let t := w.f 160 4
      decide (6 < t) || w.f 165 2 == 3 || (w.f 164 1 == 1 && !([1, 2, 3, 4].contains t))
        || (w.f 167 1 == 1 && (t == 5 || t == 6)) || selectBad (w.f 168 3) || selectBad (w.f 171 3)
        || (w.f 171 3 != 0 && decide (1 < t))
    else if c = 0x11 then decide (2 < w.f 168 4) || w.f 172 2 == 3
    else (c == 0x18 || c == 0x19 || c == 0x1A) && w.rep != 1
  else if e = 2 then c == 1 && (w.f 215 8 == 0 || decide (192 < w.f 215 8))
  else selectBad (w.f 224 3) || decide (6 < w.f 227 4) || w.f 231 2 == 3

/-- Whether a register field stays below 384 over every iteration (R150). -/
def regsOk (rep rinc r : Nat) : Bool := decide (r + (rep - 1) * rinc < 384)

/-- Whether a tile named by offset fits in its half (R147). -/
def tileFits (tile wfmt : Nat) : Bool := decide (tile * 2048 + tileBytes wfmt ≤ 0x40000)

/-- Whether `n` bytes from `off` lie in half `h`. -/
def inHalf (h off n : Nat) : Bool := decide (halfBase h ≤ off ∧ off + n ≤ halfBase h + 0x40000)

/-- Whether the memory side's range lies in one region of the device memory map (R146). -/
def State.sideOk (s : State) (m : MemSide) (rep : Nat) : Bool :=
  let (lo, hi) := m.g.span rep
  decide (0 ≤ lo) && (s.within lo.toNat ((hi - lo).toNat + m.len)).isSome

/-- Elements of a byte count in an activation format. -/
def elemsOf (fmt n : Nat) : Nat := n * 8 / elemBits fmt

/-- Bytes of the tally scale array of an ST word (R158). -/
def QWord.tallyScales (w : QWord) (len : Nat) : Nat :=
  ceilDiv (elemsOf (w.f 227 4) (len * w.rep)) (blockLen (w.f 231 2))

/-- Whether the tally scale array is read and lies outside the stores it may lie in. The spec names no region for
tbase; that it must lie in the activation store or the stream buffer is the model's choice (log entry 90). -/
def QWord.tallyBad (w : QWord) (len : Nat) : Bool :=
  w.f 224 3 != 0 && w.f 231 2 != 0
    && !(inStore 0 (w.f 233 22) (w.tallyScales len) || inStore 1 (w.f 233 22) (w.tallyScales len))

/-- Whether a reduce generator is block-aligned and stays in the bank (R155). -/
def Agd.blocksOk (g : Agd) (rep blocks : Nat) : Bool :=
  decide (g.base % 768 = 0 ∧ g.s1 % 768 = 0 ∧ g.s2 % 768 = 0) && g.inside rep (768 * blocks) 0 49152

/-- Check 0x2006: a range outside its region, and the other bounds of R159. -/
def State.rangeBad (s : State) (sheet : Nat) (w : QWord) : Bool :=
  let e := w.engine
  let c := w.cls
  let n := w.rep
  let g0 := w.agd 0
  let g1 := w.agd 80
  if e = 0 then
    let wf := w.f 248 4
    let half := w.f 247 1
    let side := sideBytes wf (w.f 256 2) (w.f 260 1)
    !g0.inStores n (vectorBytes wf (w.f 252 4)) [0]
      || (w.f 258 2 != 0 && !g1.inStores n (tileRows wf / blockLen (w.f 258 2)) [0])
      || (side != 0 && !inHalf half (w.f 160 22) side) || !tileFits (w.f 240 7) wf
  else if e = 1 then
    if c = 0 then
      let (_, b, cc) := laneUses (w.f 200 8)
      let inc := w.f 196 4
      !regsOk n inc (w.f 160 9) || !regsOk n inc (w.f 169 9) || (b && !regsOk n inc (w.f 178 9))
        || (cc && !regsOk n inc (w.f 187 9))
    else if c = 1 ∨ c = 2 then
      !g0.inStores n (if w.f 169 1 = 1 then 128 else 256) [0, 1] || !regsOk n (w.f 170 4) (w.f 160 9)
    else if c = 0x10 then
      let t := w.f 160 4
      !g0.inStores n (8 * elemBits t) [0, 1]
        || (w.f 164 1 == 1 && !g1.inStores n 2 [0, 1])
        || (w.f 167 1 == 1 && !(inStore 0 (w.f 321 22) (16 * n) || inStore 1 (w.f 321 22) (16 * n)))
        || decide (2048 < w.f 174 11 + 64 * n)
        || ((w.f 164 1 == 1 || w.f 167 1 == 1)
            && (w.f 174 11 % 32 != 0 || w.f 249 48 % 32 != 0 || w.f 297 24 % 32 != 0))
    else if c = 0x11 then
      let wf := w.f 168 4
      let side := sideBytes wf (w.f 172 2) (w.f 174 1)
      !g0.inStores n 8 [0, 1] || !tileFits (w.f 160 7) wf || decide (tileRows wf / 32 ≤ w.f 194 4)
        || (side != 0 && !inHalf (w.f 167 1) (w.f 80 22) side)
    else if c = 0x12 then
      decide (2048 < w.f 169 11 + 64 * n) || !regsOk n (w.f 180 4) (w.f 160 9)
    else if c = 0x18 then !g0.inStores n 512 [0]
    else false
  else if e = 2 then
    let len := countOf (w.f 194 16)
    let stg := w.f 170 24 * 256
    if c = 0 then
      len % 4 != 0 || !g0.inStores n len [0, 1, 4]
        || (if w.f 169 1 = 1 then decide (2 ^ 24 < stg + len * n)
            else !g1.inStores n len [0, 1, 4] || decide (159 < w.f 160 8))
        || (s.twinOn && sheetDie sheet == 0 && w.f 168 1 == 1)
    else if c = 1 then
      !g0.blocksOk n len
        || (if w.f 169 1 = 1 then decide (2 ^ 24 < stg + blockLenOf (w.f 215 8) * len * n)
            else !g1.blocksOk n len || decide (159 < w.f 160 8))
        || (s.twinOn && sheetDie sheet == 0 && w.f 168 1 == 1)
    else !g0.inStores n 32 [0, 1] || decide (64 < w.f 223 6 + n)
  else
    let m := w.memSide
    if c = 0 then !g0.inStores n m.len [0, 1, 2] || !s.sideOk m n || w.tallyBad m.len
    else if c = 1 then !g0.inStores n m.len [0, 1] || !s.sideOk m n
    else if c = 2 then
      let q := w.f 255 2
      m.len % 64 != 0 || decide (s.fld (SHEET_Q_RING_size sheet q) * 64 < m.len * n) || !s.sideOk m n
    else !g0.inStores n 1 [0, 1, 2]

/-- The fault of a word's decode checks, the first of the table that holds (R159). -/
def State.decodeFault (s : State) (sheet eng : Nat) (w : QWord) : Option Nat :=
  if w.engine ≠ eng then some 0x2001
  else if !(classes eng).contains w.cls then some 0x2002
  else if !waitOk w.waitA || !waitOk w.waitB || !signalOk w.signal || w.pmode == 3 || doubleTake w.waitA w.waitB then
    some 0x2003
  else if w.reservedBad then some 0x2004
  else if w.codeBad then some 0x2005
  else if s.rangeBad sheet w then some 0x2006
  else none

/-! ### Load holds (R337) -/

/-- The arrival counters a word waits on in vain: that of wait A, and that of wait B. -/
def State.arrivalWaits (s : State) (w : QWord) : List Nat :=
  let short (x : Nat × Nat) : Bool := selKind x.1 == 8 && Nat.blt (s.ac (selArg x.1)) (countOf x.2)
  ([w.waitA, w.waitB].filter short).map fun x => selArg x.1

/-- Whether a load descriptor in progress, or still in the loader's ring, names counter `n`. What a ring in a companion
window holds is the companion's: whether a descriptor there names the counter is a free value (log entry 105). -/
def State.loaderNames (s : State) (n : Nat) : Bool :=
  let head := s.fld MEM_LOAD_HEAD_head
  let size := ringSize (s.fld MEM_LOAD_RING_size) 65536
  let left := min size (subMod 32 (s.fld MEM_LOAD_TAIL_tail) head)
  let names (d : List Byte) : Bool := leField d 10 2 % 4096 == n
  s.load.slots.any (fun e => match e.2 with | some d => names d.desc | none => false)
    || (List.range left).any fun k =>
      let a := s.fld MEM_LOAD_RING_base * 64 + 64 * ((head + k) % size)
      if inCompanion a then Config.ringNames s.time.elapsed a n else names (s.memRead a 64)

/-- Whether some head word waits on a counter that the loader is still to advance. -/
def State.loadHold (s : State) : Bool :=
  s.sheets.any fun e => [e.2.mx, e.2.vx, e.2.mv, e.2.st].any fun q =>
    match q with
    | w :: _ => w.phase == .waiting && (s.arrivalWaits w).any s.loaderNames
    | [] => false

/-- The module raises HOLD for its slice (R181, R337). -/
def State.raiseHold (s : State) (tag : Nat) : State := s.raiseHoldAs s.loadHold tag

end Sys2Proof.Machine
end

