-- ==== Sys2Proof/Machine/Sheet.lean ====
section
/-! DEFINITION. A sheet's queues and the step boundary (R91, R135 to R144, R160 to R163, R414), its clears and its
scrub (R81, R84, R129, R130), and what every engine shares. -/

namespace Sys2Proof.Machine

/-! ### Queues (R161) -/

def SheetSt.queue (x : SheetSt) (e : Nat) : List QWord :=
  if e = 0 then x.mx else if e = 1 then x.vx else if e = 2 then x.mv else x.st

def SheetSt.setQueue (x : SheetSt) (e : Nat) (q : List QWord) : SheetSt :=
  if e = 0 then { x with mx := q } else if e = 1 then { x with vx := q }
  else if e = 2 then { x with mv := q } else { x with st := q }

def State.head (s : State) (i e : Nat) : Option QWord := ((s.sheet i).queue e).head?

def State.setHead (s : State) (i e : Nat) (w : QWord) : State :=
  s.modSheet i fun x => x.setQueue e (match x.queue e with | _ :: q => w :: q | [] => [])

/-- The register index of an engine (R131, R166). -/
def engNo : Engine → Nat
  | .mx => 0
  | .vx => 1
  | .mv => 2
  | .st => 3

/-! ### Halting (R160) -/

def State.halted (s : State) (i e : Nat) : Bool := bit (s.fld (SHEET_STATUS_halted i)) e

/-- The engine halts with its word at the head; the fault carries the halted flag. -/
def State.haltEngine (s : State) (i e code tag aux : Nat) : State :=
  (s.setFld (SHEET_STATUS_halted i) (s.fld (SHEET_STATUS_halted i) ||| 2 ^ e)).raiseHalt code (unitSheet i) tag aux

/-- The head word of an engine while it executes: the sheet is up and running and the engine is not halted. -/
def State.executing (s : State) (i e : Nat) : Option QWord :=
  if s.sheetUp i && s.flag (SHEET_CTL_run i) && !s.halted i e then
    match s.head i e with
    | some w => if w.phase = .running then some w else none
    | none => none
  else none

/-- The head word of an engine while it executes a word of a class. -/
def State.running (s : State) (i e cls : Nat) : Option QWord :=
  match s.executing i e with
  | some w => if w.cls = cls then some w else none
  | none => none

/-- One iteration of the head word is complete (R144). -/
def State.advance (s : State) (i e : Nat) (w : QWord) : State :=
  let w := { w with iter := w.iter + 1, part := [], phase := if w.rep ≤ w.iter + 1 then .done else .running }
  (s.setHead i e w).modSheet i fun x => { x with moved := true }

/-- An engine's reads checked for errors: none where the engine halts (R128). -/
def State.engEcc (s : State) (i e : Nat) (w : QWord) (ecc : Ecc) (units : List (Nat × Nat)) : State × Bool :=
  match s.sheetEcc i ecc units with
  | (t, some (st, _)) => (t.haltEngine i e (0x6110 + st) w.tag 0, false)
  | (t, none) => (t, true)

/-! ### Accumulator updates (R32, R59, R74) -/

/-- Entries written: number, what each was before its products, and what it is now. Marks gained set
SHEET_ACC_FLAGS; an invalid mark gained is counted. -/
def State.putEntries (s : State) (i : Nat) (es : List (Nat × AccEntry × AccEntry)) : State :=
  let s := s.modSheet i fun x =>
    { x with acc := es.foldl (fun m e => smSet (fun _ => ({} : AccEntry)) m e.1 e.2.2) x.acc }
  let gained (f : AccEntry → Bool) : List (Nat × AccEntry × AccEntry) := es.filter fun e => !f e.2.1 && f e.2.2
  let inv := (gained (·.inv)).length
  let s := s.setIf (!(gained (·.ovf)).isEmpty) (SHEET_ACC_FLAGS_over i) 1
  let s := s.setIf (!(gained (·.under)).isEmpty) (SHEET_ACC_FLAGS_under i) 1
  if inv = 0 then s else (s.setFld (SHEET_ACC_FLAGS_invalid i) 1).count (SHEET_INVALID_CNT_count i) inv

/-! ### Vector registers (R110) -/

/-- Window offset of vector register `v`. -/
def vregOff (v : Nat) : Nat := 0x3B0000 + 256 * v

/-- The 64 lanes of a register. -/
def SheetSt.vreg (x : SheetSt) (v : Nat) : List Nat :=
  let bs := x.read (vregOff v) 256
  (List.range 64).map fun l => leField bs (4 * l) 4

def State.setVreg (s : State) (i v : Nat) (codes : List Nat) : State :=
  s.modSheet i fun x => x.write (vregOff v) (codes.flatMap (leBytes 4))

/-! ### Contour banks and saturation counters (R78 to R84) -/

/-- One tally in bin `k` of bank `b`. -/
def State.tallyBin (s : State) (i b k : Nat) : State :=
  let f := SHEET_CONTOUR_BIN_count i b k
  let n := s.fld f
  if n = 0xFFFFFF then s
  else
    let s := s.setFld f (n + 1)
    if n + 1 = 0xFFFFFF then
      s.setFld (SHEET_CONTOUR_STAT_bin_over i) (s.fld (SHEET_CONTOUR_STAT_bin_over i) ||| 2 ^ b)
    else s

/-- The base exponent of bank `b`. -/
def State.contourBase (s : State) (i b : Nat) : Int := sInt 10 (s.fld (SHEET_CONTOUR_CFG_base i b))

/-- Values tallied into bank `b`: bad, magnitude and exponent of each. -/
def State.tally (s : State) (i b : Nat) (vs : List (Bool × Nat × Int)) : State :=
  let base := s.contourBase i b
  vs.foldl (fun t v => t.tallyBin i b (contourBin v.1 v.2.1 v.2.2 base)) s

/-- Every bin of bank `b` and its bin_over bit are cleared (R81). -/
def State.clearBank (s : State) (i b : Nat) : State :=
  let s := { s with csr := smClear (SHEET_CONTOUR_BIN i b 0) (SHEET_CONTOUR_BIN i b 64) s.csr }
  s.setFld (SHEET_CONTOUR_STAT_bin_over i) (s.fld (SHEET_CONTOUR_STAT_bin_over i) &&& (15 - 2 ^ b))

/-- Saturation counter `n` raised (R83, R84). -/
def State.satCount (s : State) (i n k : Nat) : State :=
  let v := s.fld (SHEET_SAT_count i n)
  if v + k < 2 ^ 32 then s.setFld (SHEET_SAT_count i n) (v + k)
  else (s.setFld (SHEET_SAT_count i n) (2 ^ 32 - 1)).setFld (SHEET_CONTOUR_STAT_sat_over i)
    (s.fld (SHEET_CONTOUR_STAT_sat_over i) ||| 2 ^ n)

/-- Saturation counter `n` and its sat_over bit cleared (R84). -/
def State.satClear (s : State) (i n : Nat) : State :=
  (s.setFld (SHEET_SAT_count i n) 0).setFld (SHEET_CONTOUR_STAT_sat_over i)
    (s.fld (SHEET_CONTOUR_STAT_sat_over i) &&& (15 - 2 ^ n))

/-! ### Flags and counters (R135, R136, R143) -/

def State.flagN (s : State) (i n : Nat) : Bool := bit (s.reg64 (SHEET_FLAGS i)) n

def State.setFlagN (s : State) (i n : Nat) (v : Bool) : State :=
  s.setReg64 (SHEET_FLAGS i) (putBits (s.reg64 (SHEET_FLAGS i)) n 1 (b2n v))

def State.ct (s : State) (i n : Nat) : Nat := s.fld (SHEET_CT_count i n)

/-- A counter add; past all ones it stays there and records 0x2010. -/
def State.ctAdd (s : State) (i n k tag : Nat) : State :=
  let v := s.ct i n + k
  if v < 2 ^ 32 then s.setFld (SHEET_CT_count i n) v
  else (s.setFld (SHEET_CT_count i n) (2 ^ 32 - 1)).raise 0x2010 (unitSheet i) tag 0

/-- Whether comparator `m` is true (R141). -/
def State.cmpTrue (s : State) (i m : Nat) : Bool :=
  s.flag (SHEET_CMP_CTL_enable i m) &&
    (let v := s.fld (SHEET_CMP_VAL_value i m)
     if s.flag (SHEET_CMP_CTL_source i m) then decide (v ≤ s.ct i (s.fld (SHEET_CMP_CTL_ctr i m)))
     else decide (v ≤ (s.sheet i).time))

/-- Whether a wait holds (R135). -/
def State.waitHolds (s : State) (i : Nat) (w : Nat × Nat) : Bool :=
  let k := selKind w.1
  let x := selArg w.1
  if k = 1 ∨ k = 3 then s.flagN i (x % 64)
  else if k = 2 then !s.flagN i (x % 64)
  else if k = 4 then decide (countOf w.2 ≤ s.ct i (x % 16))
  else if k = 5 then s.cmpTrue i (x % 8)
  else if k = 8 then decide (countOf w.2 ≤ s.acView i x)
  else true

/-- What a satisfied wait consumes (R135). -/
def State.consume (s : State) (i : Nat) (w : Nat × Nat) : State :=
  let k := selKind w.1
  let x := selArg w.1
  if k = 3 then s.setFlagN i (x % 64) false
  else if k = 4 then s.setFld (SHEET_CT_count i (x % 16)) (s.ct i (x % 16) - countOf w.2)
  else s

/-- A retiring word's signal (R136). -/
def State.applySignal (s : State) (i : Nat) (w : QWord) : State :=
  let (sel, c) := w.signal
  let k := selKind sel
  let x := selArg sel
  if k = 1 then s.setFlagN i (x % 64) true
  else if k = 2 then s.setFlagN i (x % 64) false
  else if k = 4 then s.ctAdd i (x % 16) (countOf c) w.tag
  else if k = 6 then
    let v := s.fld (SHEET_CMP_VAL_value i (x % 8)) + countOf c
    -- past 2^64 the spec states no value: a free one
    if v < 2 ^ 64 then s.setFld (SHEET_CMP_VAL_value i (x % 8)) v
    else
      let (v, s) := s.draw 64
      s.setFld (SHEET_CMP_VAL_value i (x % 8)) v
  else if k = 8 then
    let s := s.digest i w.tag 2 x w.twin (leBytes 4 (countOf c))
    if s.suppressed i then s else s.acRelease i x (countOf c) w.tag
  else s

/-! ### Staging (R204, R205) -/

def State.stageWrite (s : State) (a : Nat) (bs : List Byte) : State :=
  let put (m : SMap Byte) (e : Byte × Nat) : SMap Byte :=
    if a + e.2 < 2 ^ 24 then smSet zeroByte m (a + e.2) e.1 else m
  s.modFab fun f => { f with staging := bs.zipIdx.foldl put f.staging }

def State.stageRead (s : State) (a n : Nat) : List Byte := smRead zeroByte s.fab.staging a n

def State.filled (s : State) (u : Nat) : Bool := smGet (fun _ => false) s.fab.fill u

/-- Fill bits of the units from `u0`, `n` of them. -/
def State.setFill (s : State) (u0 n : Nat) (b : Bool) : State :=
  let put (m : SMap Bool) (k : Nat) : SMap Bool :=
    if u0 + k < 65536 then smSet (fun _ => false) m (u0 + k) b else m
  s.modFab fun f => { f with fill := (List.range n).foldl put f.fill }

def State.tallyOf (s : State) (u : Nat) : Nat := smGet (fun _ => 0) s.fab.tally u

def State.setTally (s : State) (u n : Nat) : State :=
  s.modFab fun f => { f with tally := smSet (fun _ => 0) f.tally u n }

/-! ### What a departure leaves behind (R205) -/

/-- The escape tally of a reduce departure. -/
def State.escTally (s : State) (en : Nat) : Nat := if enReduce en then s.tallyOf (srcUnit en) else 0

def State.dropDep (s : State) (d : ArmedDep) : State :=
  s.modFab fun f => { f with deps := f.deps.filter fun u => !(u.dx == d.dx && u.idx == d.idx && u.due == d.due) }

/-- After its last flit has left, a departure's source is freed unless it is kept (R205). -/
def State.depDone (s : State) (d : ArmedDep) : State :=
  let en := d.entry
  let s := s.dropDep d
  if enClass en = 3 || srcDevice en || enKeep en then s
  else
    let u := srcUnit en
    let n := enLength en
    let esc := if enReduce en then escUnits (max (enR en) (s.escTally en)) else 0
    let s := s.setFill u (n + esc) false
    iter (n + esc) (fun k t => t.setTally (u + k) 0) s

/-- The departures on a tree path whose last flit has entered the crossbar by now are done with (R205). -/
def State.treeDone (s : State) : State :=
  (s.fab.deps.filter fun d => match d.leftAt with | some t => decide (t < s.time.tick) | none => false).foldl
    (fun t d => t.depDone d) s

/-- Bytes of the in-place region of a reduce move to staging. -/
def QWord.inPlace (w : QWord) : Nat := blockLenOf (w.f 215 8) * countOf (w.f 194 16) * w.rep

/-- A retiring move to staging fills the units it wrote, and adds its escapes to the tally of its first unit. -/
def State.fillStaging (s : State) (w : QWord) : State :=
  let s := s.treeDone
  let u := w.f 170 24
  if w.cls = 0 then s.setFill u (ceilDiv (countOf (w.f 194 16) * w.rep) 256) true
  else
    let main := ceilDiv w.inPlace 256
    let s := s.setFill u main true
    let s := s.setFill (u + main) (ceilDiv (776 * w.esc) 256) true
    s.setTally u ((s.tallyOf u + w.esc) % 65536)

/-! ### Retirement (R140) -/

/-- The destination sheet of a move; in twin mode a CD1 word stays on its die (R154, R414). -/
def State.moveDest (s : State) (i : Nat) (w : QWord) : Nat :=
  (if s.twinOn then sheetDie i else w.f 168 1) * 160 + w.f 160 8

/-- Outstanding companion writes of an ST word, over both ports. -/
def State.writesOf (s : State) (i : Nat) : List WReq :=
  ((s.wport 0).reqs ++ (s.wport 1).reqs).filter fun r => decide (r.who = .word i 3)

/-- Whether a done word's conditions of R140 hold. -/
def State.canRetire (s : State) (i e : Nat) (w : QWord) : Bool :=
  if w.phase = .skipped then true
  else if w.phase ≠ .done then false
  else if e = 2 ∧ w.cls ≤ 1 ∧ w.f 169 1 = 0 ∧ w.f 214 1 = 1 then
    !((s.sheet (s.moveDest i w)).pendInc.any fun m => m.2.1 == w.tag && m.2.2 == i)
  else if e = 3 ∧ w.cls = 1 then (s.writesOf i).all (·.answer.isSome)
  else true

/-- The answered companion writes of a sheet's ST word are dropped. -/
def State.dropWrites (s : State) (i : Nat) : State :=
  iter 2 (fun p t => t.modWport p fun q =>
    { q with reqs := q.reqs.filter fun r => !(decide (r.who = .word i 3) && r.answer.isSome) }) s

/-- The port an ST word's memory side lies behind. -/
def portOfAddr (a : Nat) : Nat := if a < 0xC00000000000 then 0 else 1

/-- One word of a twin frame has retired on a die. -/
def State.twinRetire (s : State) (i : Nat) (w : QWord) : State :=
  match w.twin with
  | none => s
  | some f =>
    let down (e : TwinFrame) : TwinFrame :=
      if sheetDie i = 0 then { e with open0 := e.open0 - 1 } else { e with open1 := e.open1 - 1 }
    s.modFault fun x => { x with twin := updFirst (fun e => e.frame == f) down x.twin }

/-- Step 1 of R137 for one engine: its head retires if it can, and its signal is applied. -/
def State.retire (s : State) (i e : Nat) : State :=
  match s.head i e with
  | none => s
  | some w =>
    if s.halted i e || !s.canRetire i e w then s
    else if e = 3 ∧ w.cls = 1 ∧ w.phase = .done ∧ (s.writesOf i).any (fun r => (r.answer.getD (0, [])).1 ≠ 0) then
      let p := portOfAddr w.memSide.g.base.toNat
      (s.dropWrites i).haltEngine i 3 0x7040 w.tag p
    else
      let s := if e = 3 ∧ w.cls = 1 then s.dropWrites i else s
      let s := if e = 2 ∧ w.cls ≤ 1 ∧ w.f 169 1 = 1 ∧ w.phase = .done ∧ !s.suppressed i then s.fillStaging w else s
      let s := if e = 3 ∧ w.cls = 2 ∧ w.phase = .done then
          let q := w.f 255 2
          s.setFld (SHEET_Q_TAIL_tail i q) ((s.fld (SHEET_Q_TAIL_tail i q) + w.memSide.len * w.rep / 64) % 2 ^ 32)
        else s
      let s := s.modSheet i fun x => x.setQueue e (x.queue e).tail
      let s := s.modSheet i fun x => { x with moved := true, circ := false }
      let s := s.setFld (SHEET_Q_DONE_done i e) ((s.fld (SHEET_Q_DONE_done i e) + 1) % 2 ^ 32)
      let s := (s.applySignal i w).twinRetire i w
      s.trace 2 w.tag (unitSheet i) e

/-! ### Steps 2 and 3 of R137 -/

/-- The mesh increments and the arrival counter updates received are applied. -/
def State.applyIncs (s : State) (i : Nat) : State :=
  let ms := (s.sheet i).pendInc
  ms.foldl (fun t m => t.ctAdd i m.1 1 m.2.1)
    (s.modSheet i fun x => { x with pendInc := [], acSeen := s.fab.acTotal })

/-- One control-space write held for step 3: SHEET_SAFE_CTL carries the clears, SHEET_CONTOUR_CFG_b a new base. -/
def State.applyHeld (s : State) (i : Nat) (a : Nat) (v : Word) : State :=
  if a = SHEET_SAFE_CTL i then
    let s := iter 4 (fun b t => if v.getLsbD (8 + b) then t.clearBank i b else t) s
    iter 4 (fun n t => if v.getLsbD (12 + n) then t.satClear i n else t) s
  else if SHEET_CONTOUR_CFG i 0 ≤ a ∧ a < SHEET_CONTOUR_CFG i 4 then
    (s.setReg a (v &&& 0x3FF)).clearBank i ((a - SHEET_CONTOUR_CFG i 0) / 4)
  else if SHEET_CMP_CTL i 0 ≤ a ∧ a < SHEET_CMP_CTL i 8 then s.setReg a (v &&& 0x3F)
  else s.setReg a v

def State.applyWrites (s : State) (i : Nat) : State :=
  let ws := (s.sheet i).pendW
  ws.foldl (fun t w => t.applyHeld i w.1 w.2) (s.modSheet i fun x => { x with pendW := [] })

/-! ### Step 4 of R137: waits and beginning (R91, R138, R414) -/

/-- The word begins its first step, or its predicate fails and it is marked done. A matrix word that is skipped takes
no tile: what was loaded for it is dropped, for only the active tile is exempt from loading (R105). -/
def State.begin (s : State) (i e : Nat) (w : QWord) : State :=
  let f := s.flagN i w.pflag
  if (w.pmode = 1 ∧ !f) ∨ (w.pmode = 2 ∧ f) then
    let s := s.setHead i e { w with phase := .skipped }
    if e = 0 then s.modSheet i fun x => { x with shadow := none } else s
  else (s.setHead i e { w with phase := .running }).trace 1 w.tag (unitSheet i) e

/-- FD registers a joint begin once both twins have reported: the frame is their twin frame (R414, R416). -/
def State.register (s : State) (i e : Nat) : State :=
  match s.head i e, s.head (twinOf i) e with
  | some a, some b =>
    let f := s.frame
    if a.phase = .reported ∧ b.phase = .reported ∧ a.num = b.num ∧ a.twin = none then
      if s.fault.twin.any (fun x => x.frame == f) ∨ s.fault.twin.length < 16 then
        let add (l : List TwinFrame) : List TwinFrame :=
          if l.any (fun x => x.frame == f) then l else l ++ [{ frame := f }]
        let up (y : TwinFrame) : TwinFrame := { y with open0 := y.open0 + 1, open1 := y.open1 + 1 }
        let s := s.modFault fun x => { x with twin := updFirst (fun y => y.frame == f) up (add x.twin) }
        (s.setHead i e { a with twin := some f }).setHead (twinOf i) e { b with twin := some f }
      else s
    else s
  | _, _ => s

/-- Whether a legend load is in progress, so that the matrix engine begins no word (R43). One whose engine halted
before its first slot is not (R160). -/
def State.legendBusy (s : State) (i : Nat) : Bool :=
  match s.head i 2 with
  | some w => decide (w.cls = 2 ∧ w.phase = .running) && !(s.halted i 2 && w.iter == 0)
  | none => false

/-- The waits of a checked head word. -/
def State.evalWaits (s : State) (i e : Nat) (w : QWord) : State :=
  if !s.flag (SHEET_CTL_run i) ∨ (e = 0 ∧ s.legendBusy i) then s
  else if s.waitHolds i w.waitA && s.waitHolds i w.waitB then
    let s := (s.consume i w.waitA).consume i w.waitB
    if s.twinOn then (s.setHead i e { w with phase := .reported }).register i e
    else s.begin i e w
  else s

/-- Step 4 for one engine: a new head is checked, then its waits are evaluated. -/
def State.evalHead (s : State) (i e : Nat) : State :=
  match s.head i e with
  | none => s
  | some w =>
    if s.halted i e then s
    else match w.phase with
      | .fetched =>
        (match s.decodeFault i e w with
         | some code => s.haltEngine i e code w.tag 0
         | none =>
           let w := { w with phase := .waiting }
           (s.setHead i e w).evalWaits i e w)
      | .waiting => s.evalWaits i e w
      | .reported =>
        if !s.flag (SHEET_CTL_run i) ∨ (e = 0 ∧ s.legendBusy i) then s
        else if w.twin.isSome then s.begin i e w else s.register i e
      | _ => s

/-- The sheet's sample of the time counter: 3 to 5 ticks behind, never falling back (R173). -/
def State.sample (s : State) (i : Nat) (lag : Lag) : State :=
  let l := match lag with | .three => 3 | .four => 4 | .five => 5
  let t := s.time.tick - l
  s.modSheet i fun x => { x with time := max x.time t }

/-- The step boundary (R137). -/
def State.stepBoundary (s : State) (i : Nat) (lag : Lag) : State :=
  if !s.sheetUp i then s
  else
    let s := s.sample i lag
    let s := iter 4 (fun e t => t.retire i e) s
    let s := (s.applyIncs i).applyWrites i
    iter 4 (fun e t => t.evalHead i e) s

/-! ### Fetching words (R161, R414) -/

/-- The next word of an engine's ring enters its queue. The spec does not say which word's tag an uncorrectable error
in a word still to be fetched carries: the model halts the engine at once with tag 0, and fetches nothing (the model's
choice, log entry 93). -/
def State.wordFetch (s : State) (i e : Nat) (ecc : Ecc) : State :=
  let head := s.fld (SHEET_Q_HEAD_head i e)
  let q := (s.sheet i).queue e
  if !s.sheetUp i || s.suppressed i || s.fld (SHEET_Q_TAIL_tail i e) == head || 64 ≤ q.length then s
  else
    let size := max (s.fld (SHEET_Q_RING_size i e)) 1
    let off := 0x380000 + 64 * ((s.fld (SHEET_Q_RING_base i e) + head % size) % 2048)
    match s.sheetEcc i ecc (storeUnits off 64) with
    | (t, some _) => t.haltEngine i e 0x6112 0 0
    | (t, none) =>
      let w : QWord := { num := head, raw := leNat ((t.sheet i).read off 64) }
      let push (t : State) (j : Nat) : State :=
        (t.modSheet j fun x => x.setQueue e (x.queue e ++ [w])).setFld (SHEET_Q_HEAD_head j e) ((head + 1) % 2 ^ 32)
      if s.twinOn then push (push t i) (twinOf i) else push t i

/-! ### Registers written by agents (R46, R49, R162, R163, R166) -/

/-- An engine is idle: it executes no word. -/
def State.engIdle (s : State) (i e : Nat) : Bool := ((s.sheet i).queue e).isEmpty

/-- SHEET_Q_TAIL_e (R162). -/
def State.tailWrite (s : State) (i e v : Nat) : State :=
  let old := s.fld (SHEET_Q_TAIL_tail i e)
  let head := s.fld (SHEET_Q_HEAD_head i e)
  if 2 ^ 31 ≤ subMod 32 v old ∨ s.fld (SHEET_Q_RING_size i e) < subMod 32 v head then
    s.raise 0x2031 (unitSheet i) 0 0
  else s.setFld (SHEET_Q_TAIL_tail i e) v

/-- Whether two rings of control-store words meet. -/
def ringsMeet (b1 n1 b2 n2 : Nat) : Bool := decide (b1 < b2 + n2 ∧ b2 < b1 + n1)

/-- SHEET_Q_RING_e (R163). -/
def State.ringWrite (s : State) (i e v : Nat) : State :=
  let base := bits v 0 11
  let size := bits v 12 12
  let others := (List.range 4).filter (· != e)
  if !s.engIdle i e || s.fld (SHEET_Q_HEAD_head i e) != s.fld (SHEET_Q_TAIL_tail i e) || size == 0
      || Nat.blt 2048 (base + size)
      || others.any (fun k => ringsMeet base size (s.fld (SHEET_Q_RING_base i k)) (s.fld (SHEET_Q_RING_size i k))) then
    s.raise 0x2030 (unitSheet i) 0 0
  else (s.setFld (SHEET_Q_RING_base i e) base).setFld (SHEET_Q_RING_size i e) size

/-- The legend store of a sheet returns to its reset contents (R40). -/
def State.legendReload (s : State) (i : Nat) : State :=
  { s with csr := smClear (SHEET_LEGEND i 0) (SHEET_LEGEND i 512) s.csr }

/-- Legend entry `flat`. -/
def State.legend (s : State) (i flat : Nat) : Nat :=
  bits (s.reg (SHEET_LEGEND i (flat / 2))).toNat (16 * (flat % 2)) 16

/-- A refused legend load or write (R45). -/
def State.legendRefuse (s : State) (i slot entry tag : Nat) : State :=
  (((s.setFld (SHEET_LEGEND_CTL_bad i) 1).setFld (SHEET_LEGEND_CTL_bad_slot i) slot).setFld
    (SHEET_LEGEND_CTL_bad_entry i) entry).raise 0x1010 (unitSheet i) tag 0

/-- SHEET_LEGEND_k (R45, R46, R49). -/
def State.legendWrite (s : State) (i k v : Nat) : State :=
  if !s.engIdle i 0 then s.raise 0x1011 (unitSheet i) 0 0
  else if legendBad (v % 65536) then s.legendRefuse i (2 * k / 16) (2 * k % 16) 0
  else if legendBad (v / 65536 % 65536) then s.legendRefuse i ((2 * k + 1) / 16) ((2 * k + 1) % 16) 0
  else s.setReg (SHEET_LEGEND i k) (BitVec.ofNat 32 v)

/-- SHEET_LEGEND_CTL (R46). -/
def State.legendCtl (s : State) (i v : Nat) : State :=
  let s := s.setIf (bit v 31) (SHEET_LEGEND_CTL_bad i) 0
  if bit v 0 then (if s.engIdle i 0 then s.legendReload i else s.raise 0x1011 (unitSheet i) 0 0) else s

/-- A control-space write that waits for step 3 of the next boundary (R137). -/
def State.holdWrite (s : State) (i a : Nat) (v : Word) : State :=
  s.modSheet i fun x => { x with pendW := x.pendW ++ [(a, v)] }

/-- SHEET_SAFE_CTL: calib at once, the clears at the next boundary (R81, R84, R89). -/
def State.safeCtl (s : State) (i : Nat) (v : Word) : State :=
  let s := s.setFld (SHEET_SAFE_CTL_calib i) (bits v.toNat 0 1)
  if bits v.toNat 8 8 = 0 then s else s.holdWrite i (SHEET_SAFE_CTL i) v

/-! ### Scrubbing and clearing (R129, R130) -/

/-- Units of the activation store, the stream buffer and the control store. -/
def scrubUnits : Nat := 475136

/-- One unit is read and checked, at the first multiple of 64 ticks at which this sheet has read none: several sheets
scrub in one slot. -/
def State.sheetScrub (s : State) (i : Nat) (ecc : Ecc) : State :=
  if !s.sheetUp i || !s.flag (SHEET_SCRUB_enable i) then s
  else
    let s := s.toTick (if (s.sheet i).scrubAt = some s.time.elapsed then s.nextAfter 0 64 else s.nextAt 0 64)
    let s := s.modSheet i fun x => { x with scrubAt := some s.time.elapsed }
    let u := (s.sheet i).scrub
    let s := match s.sheetEcc i ecc (storeUnits (8 * u) 8) with
      | (t, some (st, _)) => t.raise (0x6110 + st) (unitSheet i) 0 0
      | (t, none) => t
    if u + 1 < scrubUnits then s.modSheet i fun x => { x with scrub := u + 1 }
    else (s.modSheet i fun x => { x with scrub := 0 }).setFld (SHEET_SCRUB_passes i)
      ((s.fld (SHEET_SCRUB_passes i) + 1) % 2 ^ 24)

/-- The sheet's stores, queues and registers as a reset leaves them (R40, R57, R130, R166). -/
def State.sheetClear (s : State) (i : Nat) : State :=
  let s := { s with csr := smClear (sheetBase i) (sheetBase i + 0x10000) s.csr }
  s.setSheet i {}

/-! ### The commands -/

def execStepBoundary (sheet : Sheet) (lag : Lag) (s : State) : Out := .next (s.stepBoundary sheet lag)
def execWordFetch (sheet : Sheet) (engine : Engine) (ecc : Ecc) (s : State) : Out :=
  .next (s.wordFetch sheet (engNo engine) ecc)
def execSheetScrubRead (sheet : Sheet) (ecc : Ecc) (s : State) : Out := .next (s.sheetScrub sheet ecc)
def execSheetClearDone (sheet : Sheet) (s : State) : Out :=
  .next (if s.sheetUp sheet then s.setFld (SHEET_STATUS_clearing sheet) 0 else s)

end Sys2Proof.Machine
end

