-- ==== Sys2Proof/Machine/SheetMx.lean ====
section
/-! DEFINITION. Weight operands (R27, R28, R33 to R42, R50), matrix words and tile loading (R56, R57, R103 to R105,
R147, R149, R462), and the outlier add (R88, R153). -/

namespace Sys2Proof.Machine

/-! ### Weight operands -/

/-- A weight operand: its format, scale mode, legend mode and fixed slot, its codes and its side arrays. -/
structure WOperand where
  wfmt : Nat
  wscale : Nat
  lmode : Nat
  slot : Nat
  data : List Byte
  side : List Byte
  deriving DecidableEq, Repr

/-- A weight as the array takes it: its value times 2^8, its block's scale with the factor of R34, and whether its
legend index is invalid (R42). -/
structure Weight where
  val : Int
  scale : Num
  bad : Bool
  deriving DecidableEq, Repr

/-- The block of reduction row `r`, column `c`: blocks follow the elements' order, the reduction axis fastest. -/
def WOperand.block (o : WOperand) (r c : Nat) : Nat :=
  let l := blockLen o.wscale
  c * (tileRows o.wfmt / l) + r / l

/-- The legend index byte of a block: the fixed slot where the mode is fixed. -/
def WOperand.index (o : WOperand) (b : Nat) : Nat :=
  if usesIndex o.lmode o.wfmt then
    leField o.side ((if usesScale o.wscale then tileBlocks o.wfmt o.wscale else 0) + b) 1
  else o.slot

/-- The code at reduction row `r`, column `c`. -/
def WOperand.code (o : WOperand) (r c : Nat) : Nat :=
  elemAt (codeBits o.wfmt) o.data (c * tileRows o.wfmt + r)

/-- The value of a code times 2^8: through the legend, or the signed digits of an INT8 weight. -/
def weightVal (legend : Nat → Nat) (wfmt slot code : Nat) : Int :=
  if wfmt = 2 then termSum (nafTerms 9 0 (sInt 8 code)) else termSum (legendTerms (legend (16 * slot + code)))

/-- The weight at reduction row `r`, column `c`. -/
def WOperand.at (o : WOperand) (legend : Nat → Nat) (r c : Nat) : Weight :=
  let b := o.block r c
  let ix := o.index b
  { val := weightVal legend o.wfmt (ix % 64) (o.code r c)
    scale := (blockScale o.wscale (leField o.side b 1)).scale (mxFactor (o.wfmt == 2) o.wscale)
    bad := decide (64 ≤ ix) && o.wfmt != 2 }

/-- The legend slots an operand reads. -/
def WOperand.slots (o : WOperand) : List Nat :=
  if o.wfmt = 2 then []
  else if usesIndex o.lmode o.wfmt then
    ((List.range (tileBlocks o.wfmt o.wscale)).map fun b => o.index b % 64).eraseDups
  else [o.slot]

/-- The protected units of the legend entries an operand reads (R48, R127). -/
def WOperand.legendUnits (o : WOperand) : List (Nat × Nat) :=
  o.slots.flatMap fun l => (List.range (2 ^ min (codeBits o.wfmt) 4)).map fun e => (5, 16 * l + e)

/-- The protected units of an accumulator row. -/
def rowUnits (row : Nat) : List (Nat × Nat) := (List.range 256).map fun c => (3, 0x3A0000 + 24 * (256 * row + c))

/-! ### Datum check (R56) -/

/-- Whether every entry of a row holds datum `d`. -/
def SheetSt.rowDatum (x : SheetSt) (row : Nat) (d : BitVec 10) : Bool :=
  (List.range 256).all fun c => decide ((x.entry (256 * row + c)).datum = d)

/-- The refusal of a word whose datum differs. -/
def State.datumHalt (s : State) (i e : Nat) (w : QWord) : State :=
  (s.setFld (SHEET_ACC_FLAGS_datum_err i) 1).haltEngine i e 0x1020 w.tag 0

/-! ### Matrix words -/

/-- The row of iteration `i`. -/
def QWord.mxRow (w : QWord) (i : Nat) : Nat := (w.f 277 3 + i * w.f 280 3) % 8

def QWord.mxDatum (w : QWord) : BitVec 10 := BitVec.ofNat 10 (w.f 267 10)

/-- The rows a matrix word adds into. -/
def QWord.mxRows (w : QWord) : List Nat := ((List.range (min w.rep 8)).map w.mxRow).eraseDups

/-- Whether iteration `i` is the word's first addition into its row. -/
def QWord.firstVisit (w : QWord) (i : Nat) : Bool := (List.range (min i 8)).all fun j => w.mxRow j != w.mxRow i

/-- Steps a vector takes (R104). -/
def mxSteps (wfmt afmt : Nat) : Nat :=
  (if wfmt = 2 then 2 else 1) * (if elemBits afmt = 4 then 1 else 2)

/-- Whether a tile in a latch is that of a word, and complete. -/
def Tile.names (t : Tile) (w : QWord) : Bool :=
  t.half == w.f 247 1 && t.tile == w.f 240 7 && t.wfmt == w.f 248 4

def Tile.complete (t : Tile) : Bool := decide (tileBytes t.wfmt ≤ 2048 * t.loaded)

/-- The tile a matrix word computes with, and the latches once it has it. -/
def SheetSt.takeTile (x : SheetSt) (w : QWord) : Option (Tile × SheetSt) :=
  match x.active with
  | some t =>
    if t.names w then some (t, x)
    else match x.shadow with
      | some u => if u.names w && u.complete then some (u, { x with active := some u, shadow := none }) else none
      | none => none
  | none =>
    match x.shadow with
    | some u => if u.names w && u.complete then some (u, { x with active := some u, shadow := none }) else none
    | none => none

/-- One column's contributions of one vector. -/
def columnParts (legend : Nat → Nat) (o : WOperand) (acts scales : List Num) (la c : Nat) (d : Int) :
    List Contribution :=
  acts.zipIdx.map fun a =>
    let w := o.at legend a.2 c
    contribute a.1 w.val (w.scale.mul (scales.getD (a.2 / la) { m := 1 })) w.bad d

/-- The activation vector of iteration `i`, and its block scales with the factor of R34. -/
def SheetSt.vector (x : SheetSt) (w : QWord) (i : Nat) : List Num × List Num :=
  let wf := w.f 248 4
  let af := w.f 252 4
  let sc := w.f 258 2
  let bs := x.read ((w.agd 0).at i).toNat (vectorBytes wf af)
  let acts := (List.range (tileRows wf)).map fun r => decElem af (elemAt (elemBits af) bs r)
  let n := if usesScale sc then tileRows wf / blockLen sc else 0
  let ss := (x.read ((w.agd 80).at i).toNat n).map fun b =>
    (blockScale sc b.toNat).scale (mxFactor (af == 2) sc)
  (acts, ss)

/-- The protected units an iteration of a matrix word reads. -/
def QWord.mxUnits (w : QWord) (i : Nat) (o : WOperand) (clear : Bool) : List (Nat × Nat) :=
  let wf := w.f 248 4
  let sc := w.f 258 2
  storeUnits ((w.agd 0).at i).toNat (vectorBytes wf (w.f 252 4))
    ++ storeUnits ((w.agd 80).at i).toNat (if usesScale sc then tileRows wf / blockLen sc else 0)
    ++ (if i = 0 then storeUnits (w.f 160 22) o.side.length else [])
    ++ o.legendUnits ++ (if clear then [] else rowUnits (w.mxRow i))

/-- One iteration of the head matrix word (R103, R149). -/
def State.mxMatrix (s : State) (i : Nat) (ecc : Ecc) : State :=
  match s.running i 0 0 with
  | none => s
  | some w =>
    let x := s.sheet i
    if w.iter = 0 ∧ w.f 283 1 = 0 ∧ !(w.mxRows.all fun r => x.rowDatum r w.mxDatum) then s.datumHalt i 0 w
    else match x.takeTile w with
      | none => s
      | some (t, x') =>
        let wf := w.f 248 4
        let side := if w.iter = 0 then
            x.read (w.f 160 22) (sideBytes wf (w.f 256 2) (w.f 260 1)) else w.latch
        let o : WOperand := { wfmt := wf, wscale := w.f 256 2, lmode := w.f 260 1, slot := w.f 261 6,
                              data := t.data, side := side }
        let row := w.mxRow w.iter
        let clear := w.f 283 1 == 1 && w.firstVisit w.iter
        match s.engEcc i 0 w ecc (w.mxUnits w.iter o clear) with
        | (s, false) => s
        | (s, true) =>
          let (acts, scales) := x.vector w w.iter
          let la := blockLen (w.f 258 2)
          let d := w.mxDatum.toInt
          let legend := s.legend i
          let cols := (List.range 256).map fun c =>
            let ps := columnParts legend o acts scales la c d
            let n := 256 * row + c
            let base := if clear then AccEntry.clear w.mxDatum else x.entry n
            let sum := Contribution.sum ps
            ((n, base, base.add sum.q sum.ovf sum.under sum.inv), (ps.filter (·.toZero)).length)
          let s := s.modSheet i fun y => { y with active := x'.active, shadow := x'.shadow }
          let s := s.putEntries i (cols.map (·.1))
          let s := s.count (SHEET_UNDER_CNT_count i) ((cols.map (·.2)).foldl (· + ·) 0)
          let s := s.setFld (SHEET_MX_STEPS_count i)
            ((s.fld (SHEET_MX_STEPS_count i) + mxSteps wf (w.f 252 4)) % 2 ^ 64)
          s.advance i 0 { w with latch := side }

/-! ### Tile loading (R105) -/

/-- The matrix word whose tile is due to be loaded: the running one, else the next one once its waits hold. -/
def State.tileWord (s : State) (i : Nat) : Option QWord :=
  match s.executing i 0 with
  | none => none
  | some w =>
    let x := s.sheet i
    let isActive (v : QWord) : Bool := match x.active with | some t => t.names v | none => false
    if w.cls = 0 ∧ !isActive w then some w
    else match x.mx with
      | _ :: v :: _ =>
        if !isActive v && decide (v.cls = 0) && (s.decodeFault i 0 v).isNone
            && s.waitHolds i v.waitA && s.waitHolds i v.waitB then some v else none
      | _ => none

/-- One load step of 2 KiB into the shadow latches. An uncorrectable error in the tile of the next word halts the
engine at once with that word's tag, while the running word stands at the head: the spec does not say which of the two
words halts (the model's choice, log entry 93). -/
def State.tileLoad (s : State) (i : Nat) (ecc : Ecc) : State :=
  match s.tileWord i with
  | none => s
  | some w =>
    let fresh : Tile := { half := w.f 247 1, tile := w.f 240 7, wfmt := w.f 248 4, data := [], loaded := 0 }
    let t := match (s.sheet i).shadow with
      | some u => if u.names w then u else fresh
      | none => fresh
    if t.complete then s
    else
      let off := halfBase t.half + 2048 * (t.tile + t.loaded)
      match s.engEcc i 0 w ecc (storeUnits off 2048) with
      | (s, false) => s
      | (s, true) =>
        s.modSheet i fun x =>
          { x with shadow := some { t with data := t.data ++ x.read off 2048, loaded := t.loaded + 1 }, moved := true }

/-! ### Outlier add (R88, R153) -/

/-- A residual record: its BF16 value and its position, where it is valid (R87). -/
def residualAt (bs : List Byte) (k : Nat) : Option (Num × Nat) :=
  let r := leField bs (4 * k) 4
  if bit r 21 then some (decBf16 (r % 65536), bits r 16 5) else none

/-- The protected units of the weights of one reduction row. -/
def weightUnits (base wfmt r : Nat) : List (Nat × Nat) :=
  ((List.range 256).flatMap fun c =>
    storeUnits (base + (c * tileRows wfmt + r) * codeBits wfmt / 8) 1).eraseDups

/-- One residual into the 256 entries of a row. -/
def addResidual (legend : Nat → Nat) (o : WOperand) (d : Int) (res : Num) (r : Nat)
    (es : List (AccEntry × Nat)) : List (AccEntry × Nat) :=
  es.zipIdx.map fun e =>
    let w := o.at legend r e.2
    let p := contribute res w.val w.scale w.bad d
    (e.1.1.add p.q p.ovf p.under p.inv, e.1.2 + b2n p.toZero)

/-- One iteration of the head outlier-add word. -/
def State.outlierAdd (s : State) (i : Nat) (ecc : Ecc) : State :=
  match s.running i 1 0x11 with
  | none => s
  | some w =>
    let x := s.sheet i
    let row := w.f 191 3
    let datum := BitVec.ofNat 10 (w.f 181 10)
    if w.iter = 0 ∧ !(x.rowDatum row datum) then s.datumHalt i 1 w
    else
      let wf := w.f 168 4
      let base := halfBase (w.f 167 1) + 2048 * w.f 160 7
      let side := if w.iter = 0 then x.read (w.f 80 22) (sideBytes wf (w.f 172 2) (w.f 174 1)) else w.latch
      let o : WOperand := { wfmt := wf, wscale := w.f 172 2, lmode := w.f 174 1, slot := w.f 175 6,
                            data := x.read base (tileBytes wf), side := side }
      let off := ((w.agd 0).at w.iter).toNat
      let bs := x.read off 8
      let recs := (List.range 2).filterMap fun k => residualAt bs k
      let blk := (w.f 194 4 + w.iter) % (tileRows wf / 32)
      let units := storeUnits off 8 ++ (if w.iter = 0 then storeUnits (w.f 80 22) side.length else [])
        ++ recs.flatMap (fun r => weightUnits base wf (32 * blk + r.2)) ++ o.legendUnits ++ rowUnits row
      match s.engEcc i 1 w ecc units with
      | (s, false) => s
      | (s, true) =>
        let before := (List.range 256).map fun c => (x.entry (256 * row + c), 0)
        let after := recs.foldl (fun es r => addResidual (s.legend i) o datum.toInt r.1 (32 * blk + r.2) es) before
        let s := s.putEntries i ((before.zip after).zipIdx.map fun e => (256 * row + e.2, e.1.1.1, e.1.2.1))
        let s := s.count (SHEET_UNDER_CNT_count i) ((after.map (·.2)).foldl (· + ·) 0)
        s.advance i 1 { w with latch := side }

/-! ### The commands -/

def execMxMatrix (sheet : Sheet) (ecc : Ecc) (s : State) : Out := .next (s.mxMatrix sheet ecc)
def execTileLoad (sheet : Sheet) (ecc : Ecc) (s : State) : Out := .next (s.tileLoad sheet ecc)
def execVxOutlierAdd (sheet : Sheet) (ecc : Ecc) (s : State) : Out := .next (s.outlierAdd sheet ecc)

end Sys2Proof.Machine
end

