-- ==== Sys2Proof/Machine/VecTables.lean ====
section
/-! DEFINITION. The constants and tables of the vector unit's reference functions (R114): each is its exact real value
times 2^62, or times 2^32 for TR and TS, rounded to the nearest integer. -/

namespace Sys2Proof.Machine

/-- 2^(j/64) -/
def TX : List Int :=
  [4611686018427387904, 4661903986662671290, 4712668792719003884, 4763986391269842979,
   4815862801830788490, 4868304109465667592, 4921316465500308116, 4974906088244084429,
   5029079263719320435, 5083842346398635251, 5139201759950318048, 5195163997991819502,
   5251735624851448219, 5308923276338361494, 5366733660520940721, 5425173558513642752,
   5484249825272419512, 5543969390398799154, 5604339258952723100, 5665366512274234280,
   5727058308814112983, 5789421884973557729, 5852464555953009676, 5916193716610220111,
   5980616842327661685, 6045741489889385141, 6111575298367424380, 6178125990017853852,
   6245401371186603363, 6313409333225136570, 6382157853416100552, 6451654995909055045] ++
  [6521908912666391106, 6592927844419550153, 6664720121635655541, 6737294165494670078,
   6810658488877194079, 6884821697363019841, 6959792490240559659, 7035579661527265796,
   7112192101001162095, 7189638795243608238, 7267928828693418961, 7347071384712461870,
   7427075746662858866, 7507951298995917514, 7589707528352920109, 7672354024677899536,
   7755900482342532474, 7840356701283281883, 7925732588150922155, 8012038157472581778,
   8099283532826439817, 8187478948029213993, 8276634748336579668, 8366761391656660532,
   8457869449776733335, 8549969609603290562, 8643072674415606502, 8737189565132953757,
   8832331321595618838, 8928509103859867100, 9025734193507008925, 9124017994966720698]

/-- 64 / (64 + j), scaled by 2^32 -/
def TR : List Int :=
  [4294967296, 4228890876, 4164816772, 4102655328, 4042322161, 3983737782,
   3926827242, 3871519816, 3817748708, 3765450780, 3714566310, 3665038759,
   3616814565, 3569842947, 3524075730, 3479467177, 3435973837, 3393554407,
   3352169597, 3311782011, 3272356035, 3233857729, 3196254732, 3159516172,
   3123612579, 3088515808, 3054198966, 3020636340, 2987803336, 2955676419,
   2924233053, 2893451652] ++
  [2863311531, 2833792855, 2804876601, 2776544515, 2748779069, 2721563435,
   2694881441, 2668717543, 2643056798, 2617884828, 2593187801, 2568952401,
   2545165805, 2521815660, 2498890063, 2476377540, 2454267026, 2432547849,
   2411209710, 2390242669, 2369637129, 2349383820, 2329473788, 2309898378,
   2290649225, 2271718239, 2253097598, 2234779731, 2216757314, 2199023256,
   2181570690, 2164392968]

/-- -log2(TR[j] / 2^32) -/
def TL : List Int :=
  [0, 103153330702939250, 204731739352141108, 304782594828752867,
   403351162029306822, 500480719642447904, 596212681762030500, 690586697513152706,
   783640752558224646, 875411264237939544, 965933157880404945, 1055239956174601389,
   1143363847428069099, 1230335760232396121, 1316185422452001628, 1400941428091784915,
   1484631293743743897, 1567281506108829950, 1648917580315857336, 1729564102651907719,
   1809244773511092878, 1887982455748846313, 1965799209214409969, 2042716326274841920,
   2118754371899452236, 2193933212860768471, 2268272047560597671, 2341789442533511232,
   2414503353303161723, 2486431150342140059, 2557589652337693239, 2627995141559083497] ++
  [2697663385105535774, 2766609666807252410, 2834848794609187549, 2902395124433472475,
   2969262589327022675, 3035464692392651237, 3101014547086433783, 3165924883216945248,
   3230208053740683627, 3293876067642107276, 3356940583756181790, 3419412935207222574,
   3481304139309660049, 3542624910245652570, 3603385666562963573, 3663596543760481721,
   3723267406736127383, 3782407853747834077, 3841027233308145875, 3899134646877474776,
   3956738958822153048, 4013848808332078403, 4070472609035941866, 4126618567167943388,
   4182294678655644420, 4237508744791285131, 4292268366176641841, 4346580967188314772,
   4400453783639787783, 4453893881037596441, 4506908159391169654, 4559503346814093944]

/-- sqrt(32 / (32 + j)), scaled by 2^32 -/
def TS : List Int :=
  [4294967296, 4229391425, 4166730311, 4106774231, 4049334000, 3994238453,
   3941332297, 3890474265, 3841535534, 3794398344, 3748954808, 3705105875,
   3662760417, 3621834435, 3582250356, 3543936417, 3506826112, 3470857714,
   3435973837, 3402121052, 3369249547, 3337312811, 3306267366, 3276072511,
   3246690101, 3218084345, 3190221618, 3163070302, 3136600629, 3110784547,
   3085595594, 3061008783] ++
  [3037000500, 3013548408, 2990631357, 2968229309, 2946323258, 2924895168,
   2903927907, 2883405191, 2863311531, 2843632180, 2824353096, 2805460890,
   2786942794, 2768786621, 2750980735, 2733514014, 2716375826, 2699556000,
   2683044799, 2666832900, 2650911367, 2635271635, 2619905489, 2604805043,
   2589962729, 2575371273, 2561023689, 2546913259, 2533033519, 2519378252,
   2505941472, 2492717415] ++
  [2479700525, 2466885449, 2454267026, 2441840278, 2429600400, 2417542755,
   2405662866, 2393956408, 2382419202, 2371047208, 2359836520, 2348783360,
   2337884075, 2327135126, 2316533088, 2306074646, 2295756587, 2285575798,
   2275529262, 2265614055, 2255827340, 2246166364, 2236628460, 2227211035,
   2217911575, 2208727636, 2199656848, 2190696905, 2181845568, 2173100661,
   2164460067, 2155921730]

/-- KX1 to KX4: (ln 2)^k / k! -/
def KX : List Int :=
  [3196577161300663915, 1107849223398934356, 255967521894832113, 44355791529079737]

/-- KL1 to KL5: (-1)^(k+1) / (k ln 2) -/
def KL : List Int :=
  [6653256548922161246, -3326628274461080623, 2217752182974053749, -1663314137230540311,
   1330651309784432249]

/-- KS0 to KS6 -/
def KS : List Int :=
  [4611686018427387904, -2305843009213693952, 1729382256910270464, -1441151880758558720,
   1261007895663738880, -1134907106097364992, 1040331513922584576]

/-- KT0 to KT4 -/
def KT : List Int :=
  [4611686018427387904, -1537228672809129301, 614891469123651721, -248884642264335220,
   100855214512344991]

/-- KE0 to KE8 -/
def KE : List Int :=
  [5203730428379116615, -1734576809459705538, 520373042837911661, -123898343532836110,
   24091344575829244, -3942220021499331, 555954105596059, -68832413073798,
   7591810265492]

/-- 2 log2 e -/
def KH : Int := 13306513097844322492

/-- rows 8 to 21 of KB: eight entries each -/
def KBPart0 : List Int :=
  [2525029276340363464, 3924147758082055062, -2084703496481091751, -569716764356965025,
   846232181026016085, -8909309160938911, -224084224776354691, 36134048203777387,
   2762018937950238157, 3657707905695336002, -2171764069006605751, -359579357916663891,
   830671478217044843, -89410668701548983, -203816532677363722, 55864273389088246,
   2982067018572375613, 3382826815673861573, -2219980097785971657, -156367645776591258,
   791301499699101225, -160806349938036694, -175837344204148133, 71256728214000797,
   3184795632336550604, 3104256381240121476, -2231184274016337311, 34357004219454469] ++
  [731381042947412654, -220579151113217479, -142187856498435020, 81718137462647068,
   3370115421995327113, 2826457599499220000, -2208169999608765625, 207936008296492096,
   654831663295437983, -267015697268771999, -105086439048374088, 87031960446814930,
   3538203854883897528, 2553491647140998757, -2154508577275217701, 360747192336977038,
   565979303991243713, -299242172798137864, -66765953298188716, 87343500122036652,
   3689477453869099292, 2288935119188439021, -2074347451764522863, 490273212378252889,
   469294101229278447, -317201075409089304, -29323935464645192, 83116870292116893] ++
  [3824559531605268751, 2035821037909002127, -1972201630474345810, 595106540378347627,
   369145812995686472, -321575964649332796, 5403355119163990, 75070134362691585,
   3944245050174679663, 1796605760171250555, -1852749690176602134, 674896825272663783,
   269589554527650115, -313674738824454807, 35935143596866309, 64096428243650655,
   4049464193282410451, 1573160567266350245, -1720644370447570580, 730249664362570133,
   174192838284242985, -295284266058127346, 61204298457894132, 51179434364795547,
   4141246125473077901, 1366785586760000360, -1580345834691250416, 762588051987838742] ++
  [85910727341614199, -268510126991848190, 80578750820344370, 37311216721100090,
   4220684237210235306, 1178242823462913469, -1435983441095425790, 773988938069062298,
   7011637895973759, -235614854895005897, 93848764695503143, 23419294411388702,
   4288903953467006678, 1007804493482507392, -1291249507274462596, 767007456302767670,
   -60947649269139673, -198866566640396218, 101185302641106465, 10308134245165483,
   4347033935024147678, 855312564752436777, -1149326258886086919, 744500585334640606,
   -117102577809682684, -160407540027687739, 103076564719983849, -1381766805544337]

/-- rows 22 to 35 of KB: eight entries each -/
def KBPart1 : List Int :=
  [4396181243774292638, 720245391118092843, -1012845081259818061, 709460466641715151,
   -161224363520849945, -122149435512036451, 100250711501827072, -11196104796975413,
   4437410792092633150, 601787549335273914, -883875463086183561, 664865541160130099,
   -193635477427409354, -85698819359436034, 93592840958699720, -18871086388160053,
   4471729165220826318, 498899401357366300, -763939708328467146, 613555318466188112,
   -215106721257852891, -52313728769421538, 84063591394819681, -24322171528228482,
   4500072704858639122, 410383453450695387, -654048628937045772, 558132183762046004] ++
  [-226745374289698486, -22889479018931017, 72625468872726699, -27620650047656856,
   4523299578518712612, 334945212924418222, -554753008906067680, 500891376358976989,
   -229883001411921926, 2030075527705179, 60181362845591946, -28962031948409327,
   4542185435998005543, 271246899653681460, -466205608779765010, 443778293508920254,
   -225970101390973340, 22220956653618095, 47527937288124190, -28630316026279580,
   4557422171765237479, 217953006914904524, -388228793567173683, 388370690056050574,
   -216483047975445481, 37732964665689733, 35324865023198849, -26961872298280303] ++
  [4569619267757510979, 173767287333674945, -320383436021463179, 335882210998490176,
   -202846934590412072, 48834950960881850, 24079368946067916, -24312036846204075,
   4579307180631989625, 137461238416768809, -262035485731965542, 287183016978783273,
   -186376151147247627, 55956910156141333, 14144353644217895, -21026695027926135,
   4586942255214824112, 107894562265881722, -212417419460954641, 242833008953875726,
   -168232936701986537, 59633534966651680, 5727609131997911, -17420240843094463,
   4592912685332533671, 84028369581815137, -170682625713061996, 203123265792499741] ++
  [-149402858249486884, 60452842589958171, -1090849970421009, -13760451377870705,
   4597545097896782617, 64932091326439821, -135951566214733374, 168121697399252061,
   -130685213226597544, 59012356857499824, -6336317196370741, -10260085690861509,
   4601111399901558457, 49785161358480824, -107349254179224277, 137719499096474624,
   -112695750236978612, 55884234850451665, -10114593735567838, -7074457990397592,
   4603835595453727712, 37874553498485094, -84034165574763803, 111675685413176427,
   -95878824980321331, 51589751546082253, -12587233752870978, -4303867066443637]

/-- rows 36 to 49 of KB: eight entries each -/
def KBPart2 : List Int :=
  [4605900346599664449, 28589212888307854, -65219141901452292, 89657707345689409,
   -80526108474026219, 46582761778842102, -13948679509587523, -1999583719368156,
   4607453114076800433, 21412331083683324, -50185150977382790, 71276854707599501,
   -66799180451340569, 41241175260851933, -14406553385516421, -172081872401666,
   4608611769796807370, 15912293314797078, -38288955788730469, 56117768806156101,
   -54753705331996403, 35865110740199707, -14165819484336141, 1199688814481167,
   4609469620411615477, 11732989328837626, -28965817405567890, 43761911370384610] ++
  [-44363336879295873, 30680221757189291, -13417042653208122, 2158992167366612,
   4610099820117626320, 8584038367241776, -21728347117080747, 33805239637659834,
   -35541974044052979, 25844676828305691, -12328586328802132, 2762715272721616,
   4610559180987550109, 6231343595406149, -16162547450584699, 25870623768167325,
   -28163449382480434, 21458391603873252, -11042314572187300, 3074002976680886,
   4610891411159077228, 4488268420589431, -11921962992190676, 19615719991807846,
   -22078140450056236, 17573308230642397, -9672195875866293, 3156384791352717] ++
  [4611129826070325899, 3207620788492276, -8720719018713377, 14737096291920570,
   -17126333932258399, 14203759263754838, -8305134450842249, 3069462352885238,
   4611299586719815654, 2274543732034596, -6326074754721220, 10971415697034063,
   -13148433368780921, 11336207413658556, -7003360058071040, 2866073042893700,
   4611419522816847284, 1600341389528392, -4550970826471365, 8094435062009165,
   -9992284578303827, 8937893189217853, -5807768698065070, 2590742260221237,
   4611503598821354030, 1117218344409578, -3246915813440336, 5918493273737459] ++
  [-7518005267252966, 6964133141060336, -4741702575801409, 2279179664773114,
   4611562078299202458, 773874529549079, -2297440009598828, 4289058509147987,
   -5600757887983601, 5364182439236130, -3814770102031793, 1958556202202889,
   4611602437650357382, 531875667288489, -1612248116468233, 3080792846266725,
   -4131910618800260, 4085703771415298, -3026420354020805, 1648309587222709,
   4611630074856140293, 362707692090580, -1122126922405232, 2193484213430598,
   -3019003585182045, 3077971672633602, -2369090664688190, 1361256528576501]

/-- rows 50 to 63 of KB: eight entries each -/
def KBPart3 : List Int :=
  [4611648853029992708, 245420300731693, -774607824184407, 1548097196477459,
   -2184888280129520, 2293992294720282, -1830834185369091, 1104831471991703,
   4611661512684244207, 164767395312366, -530345053661677, 1083109629211560,
   -1566347874958462, 1691740000245552, -1397403275274534, 882316702500556,
   4611669981049845692, 109758747639588, -360145890692399, 751232886676426,
   -1112442824472712, 1234711341117507, -1053814109487883, 693971836902627,
   4611675601700830945, 72546102326433, -242576029654011, 516560365328254] ++
  [-782765684231838, 891980993061607, -785449632721426, 538008490055504,
   4611679303244707623, 47576895461016, -162058800164084, 352149560218936,
   -545735119693181, 637919232516278, -578774763334676, 411386336336716,
   4611681721980593123, 30958876333439, -107388602281616, 238016517331757,
   -377013696486728, 451701548675808, -421742929926609, 310429380272310,
   4611683290187119372, 19988552884548, -70584577373561, 159505008272075,
   -258097837772528, 316711693372074, -303969965667371, 231276437177002] ++
  [4611684299038813137, 12805147697202, -46018499536821, 105984272574567,
   -175100989936817, 219912391261805, -216743121382552, 170188647547727,
   4611684943001433730, 8139447100396, -29759853460825, 69826493777294,
   -117731607783008, 151234528249461, -152921985895229, 123740639253775,
   4611685350854048462, 5133484939187, -19090147117603, 45616494749329,
   -78454787551999, 103016548058800, -106776319350688, 88922089772296,
   4611685607157882134, 3212452788489, -12147087106476, 29549964484745] ++
  [-51818872568479, 69511055414401, -73794526743640, 63174192782111,
   4611685766972393837, 1994657295584, -7666963979899, 18981709433298,
   -33924818157153, 46464895086633, -50486528654508, 44381956745782,
   4611685865847412857, 1228872710876, -4800284026861, 12091115416324,
   -22015365121888, 30771673378053, -34196519011836, 30839168926174,
   4611685926544270126, 751194820502, -2981304443869, 7637636400902,
   -14162166585085, 20191148533551, -22934629158154, 21198814960038]

/-- KB[i, m]: erf^(m)(c_i) / m! for i = 8..63, m = 0..7 -/
def KB (i m : Nat) : Int := (KBPart0 ++ KBPart1 ++ KBPart2 ++ KBPart3).getD (8 * (i - 8) + m) 0

end Sys2Proof.Machine
end

