-- ==== Sys2Proof/Machine/VecRef.lean ====
section
/-! DEFINITION. The vector unit: binary32 arithmetic and conversions (R52, R111) and the reference functions
(R112 to R119), on FP32 codes. -/

namespace Sys2Proof.Machine

/-- The canonical NaN, the infinities and the constants 1.0 and -1.0. -/
def qNaN : Nat := 0x7FC00000
def pInf : Nat := 0x7F800000
def nInf : Nat := 0xFF800000
def signed (neg : Bool) (c : Nat) : Nat := if neg then c + 2 ^ 31 else c

/-- What one lane of an operation gives: the code, and what R111 records. -/
structure Lane where
  code : Nat
  nanMade : Bool := false
  overflow : Bool := false
  deriving DecidableEq, Repr

/-- fin of R113: the FP32 code nearest to (-1)^s x n x 2^e, overflow to infinity. -/
def fin32 (neg : Bool) (n : Nat) (e : Int) : Nat :=
  if n = 0 then signed neg 0
  else
    let t := targetOf 6
    let qx := max (ilog2 n + e) (-126) - 23
    signed neg (min (floatCode t (roundMag n e qx modeRne 0) qx) pInf)

/-- Whether a code is an infinity. -/
def isInf32 (c : Nat) : Bool := c % 2 ^ 31 == pInf

/-- Whether a code is a zero. -/
def isZero (n : Num) : Bool := !n.bad && n.m == 0

/-- Every finite result, with overflow flagged. -/
def finLane (neg : Bool) (n : Nat) (e : Int) : Lane :=
  let c := fin32 neg n e
  { code := c, overflow := isInf32 c }

/-- The rounded sum of two finite values; a zero sum has the sign IEEE 754 gives it. -/
def addFinite (a b : Num) : Lane :=
  let k := min a.k b.k
  let v := a.int * 2 ^ (a.k - k).toNat + b.int * 2 ^ (b.k - k).toNat
  if v = 0 then { code := signed (a.m == 0 && b.m == 0 && a.neg && b.neg) 0 }
  else finLane (decide (v < 0)) v.natAbs k

/-- a x b + c with one rounding (R111). -/
def fma32 (a b c : Nat) : Lane :=
  let x := decFp32 a
  let y := decFp32 b
  let z := decFp32 c
  if (isZero x && y.inf) || (x.inf && isZero y) then { code := qNaN, nanMade := true }
  else if x.nan || y.nan || z.nan then { code := qNaN }
  else
    let neg := x.neg != y.neg
    if x.inf || y.inf then
      if z.inf && z.neg != neg then { code := qNaN, nanMade := true } else { code := signed neg pInf }
    else if z.inf then { code := signed z.neg pInf }
    else addFinite { neg := neg, m := x.m * y.m, k := x.k + y.k } z

def add32 (a b : Nat) : Lane :=
  let x := decFp32 a
  let y := decFp32 b
  if x.nan || y.nan then { code := qNaN }
  else if x.inf && y.inf && x.neg != y.neg then { code := qNaN, nanMade := true }
  else if x.inf then { code := signed x.neg pInf }
  else if y.inf then { code := signed y.neg pInf }
  else addFinite x y

def mul32 (a b : Nat) : Lane :=
  let x := decFp32 a
  let y := decFp32 b
  let neg := x.neg != y.neg
  if x.nan || y.nan then { code := qNaN }
  else if (isZero x && y.inf) || (x.inf && isZero y) then { code := qNaN, nanMade := true }
  else if x.inf || y.inf then { code := signed neg pInf }
  else if x.m * y.m = 0 then { code := signed neg 0 }
  else finLane neg (x.m * y.m) (x.k + y.k)

/-- A key that orders non-NaN codes as their values, -0 below +0. -/
def ordKey (c : Nat) : Int := if bit c 31 then -((c % 2 ^ 31 : Nat) : Int) - 1 else (c : Int)

/-- A key that orders non-NaN codes as their values, the zeros equal. -/
def cmpKey (c : Nat) : Int := if bit c 31 then -((c % 2 ^ 31 : Nat) : Int) else (c : Int)

def minMax32 (max : Bool) (a b : Nat) : Lane :=
  if (decFp32 a).nan || (decFp32 b).nan then { code := qNaN }
  else if decide (ordKey a ≤ ordKey b) != max then { code := a } else { code := b }

/-- 1.0 where the comparison holds, else +0; quiet against a NaN. -/
def cmp32 (rel : Int → Int → Bool) (a b : Nat) : Lane :=
  if !(decFp32 a).nan && !(decFp32 b).nan && rel (cmpKey a) (cmpKey b) then { code := 0x3F800000 } else { code := 0 }

/-- narrow_bf16 of R52. -/
def narrowBf16 (x : Nat) : Nat :=
  if bits x 23 8 = 0xFF ∧ bits x 0 23 ≠ 0 then bits x 31 1 * 0x8000 + 0x7FC0
  else
    let keep := bits x 16 16
    let drop := bits x 0 16
    if drop > 0x8000 ∨ (drop = 0x8000 ∧ keep % 2 = 1) then keep + 1 else keep

/-- Narrowing with the overflow of R111. -/
def narrowLane (a : Nat) : Lane :=
  let c := narrowBf16 a
  { code := c, overflow := !(decFp32 a).bad && c % 2 ^ 15 == 0x7F80 }

/-- Widening a BF16 code (R52). -/
def widenBf16 (c : Nat) : Nat :=
  let x := c % 65536 * 65536
  if (decFp32 x).nan then qNaN else x

/-! ### Reference functions -/

/-- V x 2^n, floored (R113). -/
def scale2 (v : Int) (n : Int) : Int := if 0 ≤ n then v <<< n.toNat else v >>> (-n).toNat

/-- V x 2^n rounded to nearest, ties to even, for V ≥ 0 (R113). -/
def rneScale (v : Nat) (n : Int) : Nat := if 0 ≤ n then v <<< n.toNat else (rneShift v (-n).toNat).1

def shr (v : Int) (n : Nat) : Int := v >>> n

/-- Horner's rule: `p := c + ((p x y) >> sh)` down a list of constants. -/
def horner (y : Int) (sh : Nat) (p : Int) (cs : List Int) : Int := cs.foldl (fun p c => c + shr (p * y) sh) p

def one62 : Int := 2 ^ 62

/-- norm of R113: |x| = Mn x 2^(E-23). -/
def norm32 (n : Num) : Nat × Int :=
  let z := 24 - (Nat.log2 n.m + 1)
  (n.m <<< z, n.k - z + 23)

/-- exp2_core of R115. -/
def exp2Core (r : Nat) : Int :=
  let j := r >>> 26
  let f : Int := (r % 2 ^ 26 : Nat)
  let p := horner f 32 (KX.getD 3 0) [KX.getD 2 0, KX.getD 1 0, KX.getD 0 0, one62]
  shr (TX.getD j 0 * p) 62

/-- Whether |x| ≥ n x 2^e for a finite x. -/
def absGe (x : Num) (n : Nat) (e : Int) : Bool :=
  let k := min x.k e
  decide (n <<< (e - k).toNat ≤ x.m <<< (x.k - k).toNat)

/-- exp2 of R115. -/
def exp2Ref (c : Nat) : Lane :=
  let x := decFp32 c
  if x.nan then { code := qNaN }
  else if x.inf then (if x.neg then { code := 0 } else { code := pInf })
  else if !x.neg && absGe x 128 0 then { code := pInf, overflow := true }
  else if x.neg && absGe x 150 0 && !(cmpKey c == cmpKey 0xC3160000) then { code := 0 }
  else
    let m : Int := rneScale x.m (x.k + 32)
    let v := if x.neg then -m else m
    let n := shr v 32
    let r := (v - n * 2 ^ 32).toNat
    finLane false (exp2Core r).toNat (n - 62)

/-- reduce of R116: E, j and Y. -/
def reduce32 (x : Num) : Int × Nat × Int :=
  let (mn, e) := norm32 x
  let j := (mn >>> 17) - 64
  (e, j, ((mn : Int) * TR.getD j 0 - 2 ^ 55) * 2 ^ 7)

/-- log2 of R116. -/
def log2Ref (c : Nat) : Lane :=
  let x := decFp32 c
  if x.nan then { code := qNaN }
  else if isZero x then { code := nInf }
  else if x.neg then { code := qNaN, nanMade := true }
  else if x.inf then { code := pInf }
  else
    let (e, j, y) := reduce32 x
    let p := horner y 62 (KL.getD 4 0) [KL.getD 3 0, KL.getD 2 0, KL.getD 1 0, KL.getD 0 0]
    let n := e * one62 + TL.getD j 0 + shr (p * y) 62
    finLane (decide (n < 0)) n.natAbs (-62)

/-- rcp of R116. -/
def rcpRef (c : Nat) : Lane :=
  let x := decFp32 c
  if x.nan then { code := qNaN }
  else if isZero x then { code := signed x.neg pInf }
  else if x.inf then { code := signed x.neg 0 }
  else
    let (e, j, y) := reduce32 x
    let p := iter 5 (fun _ p => one62 - shr (p * y) 62) one62
    finLane x.neg (p * TR.getD j 0).toNat (-94 - e)

/-- rsqrt of R117. -/
def rsqrtRef (c : Nat) : Lane :=
  let x := decFp32 c
  if x.nan then { code := qNaN }
  else if isZero x then { code := if x.neg then nInf else pInf }
  else if x.neg then { code := qNaN, nanMade := true }
  else if x.inf then { code := 0 }
  else
    let (mn, e) := norm32 x
    let (mn, e) := if e % 2 = 1 then (mn <<< 1, e - 1) else (mn, e)
    let j := (mn >>> 18) - 32
    let t := TS.getD j 0
    let y := shr ((mn : Int) * t * t - 2 ^ 87) 25
    let p := horner y 62 (KS.getD 6 0)
      [KS.getD 5 0, KS.getD 4 0, KS.getD 3 0, KS.getD 2 0, KS.getD 1 0, KS.getD 0 0]
    finLane false (p * t).toNat (-94 - e / 2)

/-- tanh of R118. -/
def tanhRef (c : Nat) : Lane :=
  let x := decFp32 c
  if x.nan then { code := qNaN }
  else if x.inf || absGe x 19 (-1) then { code := signed x.neg 0x3F800000 }
  else if x.m = 0 then { code := c }
  else if !absGe x 1 (-3) then
    let z := scale2 ((x.m * x.m : Nat) : Int) (2 * x.k + 62)
    let p := horner z 62 (KT.getD 4 0) [KT.getD 3 0, KT.getD 2 0, KT.getD 1 0, KT.getD 0 0]
    finLane x.neg ((x.m : Int) * p).toNat (x.k - 62)
  else
    let v : Int := rneScale (x.m * KH.toNat) (x.k - 30)
    let n := shr v 32
    let r := (v - n * 2 ^ 32).toNat
    let u := exp2Core r
    let b : Int := 2 ^ (62 - n).toNat
    finLane x.neg (((u - b) * one62) / (u + b)).toNat (-62)

/-- erf of R119. -/
def erfRef (c : Nat) : Lane :=
  let x := decFp32 c
  if x.nan then { code := qNaN }
  else if x.inf || absGe x 4 0 then { code := signed x.neg 0x3F800000 }
  else if x.m = 0 then { code := c }
  else if !absGe x 1 (-1) then
    let z := scale2 ((x.m * x.m : Nat) : Int) (2 * x.k + 62)
    let p := horner z 62 (KE.getD 8 0)
      [KE.getD 7 0, KE.getD 6 0, KE.getD 5 0, KE.getD 4 0, KE.getD 3 0, KE.getD 2 0, KE.getD 1 0, KE.getD 0 0]
    finLane x.neg ((x.m : Int) * p).toNat (x.k - 62)
  else
    let i := (scale2 (x.m : Int) (x.k + 4)).toNat
    let h := scale2 (x.m : Int) (x.k + 62) - ((2 * i + 1 : Nat) : Int) * 2 ^ 57
    let p := horner h 62 (KB i 7) [KB i 6, KB i 5, KB i 4, KB i 3, KB i 2, KB i 1, KB i 0]
    finLane x.neg p.toNat (-62)

end Sys2Proof.Machine
end

