-- ==== Sys2Proof/Machine/SheetVx.lean ====
section
/-! DEFINITION. The vector engine's words: conversion out (R67 to R73, R79, R83, R85 to R87, R152, R153), the guard
pass (R93, R94, R209), contour drain (R80), mark read, load, store and the lane operations (R110, R111, R150, R151). -/

namespace Sys2Proof.Machine

/-! ### Conversion out -/

/-- The 64 values of iteration `i`: first entry `n`. -/
def State.convEntries (s : State) (sh n : Nat) : List AccEntry :=
  (List.range 64).map fun j => (s.sheet sh).entry (n + j)

/-- The random word of element `j` of iteration `i` (R71). -/
def State.convRandom (s : State) (sh : Nat) (w : QWord) (i j : Nat) : Nat :=
  philox (s.fld (SHEET_SR_SEED_seed sh)) (w.f 217 32) (w.f 249 48 + i * w.f 297 24 + j)

/-- The two blocks of one iteration. -/
def State.convBlocks (s : State) (sh : Nat) (w : QWord) (i : Nat) (es : List AccEntry) : List BlockConv :=
  let sc := decFp32 (w.f 185 32)
  (List.range 2).map fun b =>
    convertBlock (w.f 160 4) (w.f 165 2) (w.f 164 1 == 1) (w.f 167 1 == 1)
      (((es.drop (32 * b)).take 32).map fun e => valOf e sc) (fun j => s.convRandom sh w i (32 * b + j))

/-- Flags and counts of converted blocks. -/
def State.convCounts (s : State) (sh : Nat) (w : QWord) (bs : List BlockConv) : State :=
  let sum (f : BlockConv → Nat) : Nat := (bs.map f).foldl (· + ·) 0
  let s := s.setIf (bs.any (·.clamp)) (SHEET_CONV_STAT_clamp sh) 1
  let s := s.setIf (bs.any (·.nanOut)) (SHEET_CONV_STAT_nan_out sh) 1
  let s := s.setIf (decFp32 (w.f 185 32)).bad (SHEET_CONV_STAT_scale_bad sh) 1
  let s := s.count (SHEET_OUTLIER_CNT_taken sh) (sum (·.taken))
  let s := s.count (SHEET_OUTLIER_CNT_excess sh) (sum (·.excess))
  if w.f 171 3 = 0 then s else s.satCount sh (w.f 171 3 - 4) (sum (·.sats))

/-- The bytes a conversion iteration writes: window offset and bytes. -/
def QWord.convWrites (w : QWord) (i : Nat) (bs : List BlockConv) : List (Nat × List Byte) :=
  [(((w.agd 0).at i).toNat, packElems (elemBits (w.f 160 4)) (bs.flatMap (·.codes)))]
    ++ (if w.f 164 1 = 1 then [(((w.agd 80).at i).toNat, bs.map fun b => BitVec.ofNat 8 b.scale)] else [])
    ++ (if w.f 167 1 = 1 then [(w.f 321 22 + 16 * i, (bs.flatMap (·.recs)).flatMap (leBytes 4))] else [])

/-- One iteration of the head conversion word. -/
def State.convert (s : State) (sh : Nat) (ecc : Ecc) : State :=
  match s.running sh 1 0x10 with
  | none => s
  | some w =>
    let n := w.f 174 11 + 64 * w.iter
    match s.engEcc sh 1 w ecc ((List.range 64).map fun j => (3, 0x3A0000 + 24 * (n + j))) with
    | (s, false) => s
    | (s, true) =>
      let es := s.convEntries sh n
      let bs := s.convBlocks sh w w.iter es
      let s := s.convCounts sh w bs
      let s := if w.f 168 3 = 0 then s
        else s.tally sh (w.f 168 3 - 4) (es.map fun e => (e.inv, e.a.natAbs, e.d))
      let s := (w.convWrites w.iter bs).foldl (fun t p => t.modSheet sh fun x => x.write p.1 p.2) s
      s.advance sh 1 w

/-! ### The guard pass -/

/-- The first entry of block `b` of row `e` (R108). -/
def blockEntry (e b : Nat) : Nat := 256 * e + 32 * b

/-- Guard report (R93). -/
def State.guardReport (s : State) (sh : Nat) : State :=
  match s.running sh 1 0x19 with
  | none => s
  | some w =>
    let n := w.f 160 2
    let v := s.fld (SHEET_SAT_count sh n)
    let s := s.setFld (SHEET_SAT_count sh n) 0
    let e0 := blockEntry (w.f 162 3) (w.f 165 3)
    let es := (List.range 32).map fun j =>
      let e : AccEntry := if j = 0 then { val := BitVec.ofNat 192 v } else {}
      (e0 + j, e, e)
    (s.putEntries sh es).advance sh 1 w

/-- The guard latch is written by a decide word (R209); a CD1 word's write is digested and suppressed (R414). -/
def State.guardLatch (s : State) (sh : Nat) (w : QWord) (v : Bool) : State :=
  let s := s.digest sh w.tag 3 0 w.twin (leBytes 1 (b2n v))
  if s.suppressed sh then s
  else
    let f := s.schedFrame + 1
    ((s.setFld FAB_DISPATCH_STAT_guard_value (b2n v)).setFld FAB_DISPATCH_STAT_guard_valid 1).modFab
      fun b => { b with guardClear := some f }

/-- Guard decide (R90, R94, R95). -/
def State.guardDecide (s : State) (sh : Nat) (ecc : Ecc) : State :=
  match s.running sh 1 0x1A with
  | none => s
  | some w =>
    let e0 := blockEntry (w.f 160 3) (w.f 163 3)
    match s.engEcc sh 1 w ecc ((List.range 32).map fun j => (3, 0x3A0000 + 24 * (e0 + j))) with
    | (s, false) => s
    | (s, true) =>
      let x := s.sheet sh
      let marked := (List.range 32).any fun j => let e := x.entry (e0 + j); e.ovf || e.under || e.inv
      let s := if marked then s.raise 0x1044 (unitSheet sh) w.tag 0 else s
      let take := marked || decide ((x.entry e0).a > (w.f 172 32 : Nat))
      let calib := s.flag (SHEET_SAFE_CTL_calib sh)
      let s := if take then
          s.count (if calib then SHEET_GUARD_CNT_would sh else SHEET_GUARD_CNT_taken sh) 1
        else s
      let g := take && !calib
      let s := (s.setFlagN sh (w.f 166 6) g).guardLatch sh w g
      let s := if g then
          let s := s.digest sh w.tag 4 0 w.twin []
          if s.suppressed sh then s else s.raiseHold w.tag
        else s
      s.advance sh 1 w

/-! ### Contour drain (R80) -/

/-- One bin added into its 64-bit counter and cleared. A sum past 64 bits is a free value: the spec states none. -/
def State.drainBin (s : State) (sh b base k : Nat) : State :=
  let off := base + 8 * k
  let n := s.fld (SHEET_CONTOUR_BIN_count sh b k)
  let v := leNat ((s.sheet sh).read off 8) + n
  let (v, s) := if v < 2 ^ 64 then (v, s) else s.draw 64
  (s.modSheet sh fun x => x.write off (leBytes 8 v)).setFld (SHEET_CONTOUR_BIN_count sh b k) 0

def State.contourDrain (s : State) (sh : Nat) (ecc : Ecc) : State :=
  match s.running sh 1 0x18 with
  | none => s
  | some w =>
    let base := ((w.agd 0).at 0).toNat
    match s.engEcc sh 1 w ecc (storeUnits base 512) with
    | (s, false) => s
    | (s, true) => (iter 64 (fun k t => t.drainBin sh (w.f 160 2) base k) s).advance sh 1 w

/-! ### Mark read, load and store (R150, R153) -/

/-- The pattern of an entry's datum and marks. -/
def markWord (e : AccEntry) : Nat := e.datum.toNat + 1024 * b2n e.ovf + 2048 * b2n e.under + 4096 * b2n e.inv

def State.markRead (s : State) (sh : Nat) (ecc : Ecc) : State :=
  match s.running sh 1 0x12 with
  | none => s
  | some w =>
    let n := w.f 169 11 + 64 * w.iter
    match s.engEcc sh 1 w ecc ((List.range 64).map fun j => (3, 0x3A0000 + 24 * (n + j))) with
    | (s, false) => s
    | (s, true) =>
      let x := s.sheet sh
      (s.setVreg sh (w.f 160 9 + w.iter * w.f 180 4)
        ((List.range 64).map fun l => markWord (x.entry (n + l)))).advance sh 1 w

/-- Vector load: 256 bytes of FP32, or 128 bytes of BF16 widened. -/
def State.vectorLoad (s : State) (sh : Nat) (ecc : Ecc) : State :=
  match s.running sh 1 1 with
  | none => s
  | some w =>
    let off := ((w.agd 0).at w.iter).toNat
    let n := if w.f 169 1 = 1 then 128 else 256
    match s.engEcc sh 1 w ecc (storeUnits off n) with
    | (s, false) => s
    | (s, true) =>
      let bs := (s.sheet sh).read off n
      let codes := (List.range 64).map fun l =>
        if w.f 169 1 = 1 then widenBf16 (leField bs (2 * l) 2) else leField bs (4 * l) 4
      (s.setVreg sh (w.f 160 9 + w.iter * w.f 170 4) codes).advance sh 1 w

/-- The flags of R111 that lanes record. -/
def State.laneFlags (s : State) (sh : Nat) (ls : List Lane) : State :=
  let s := s.setIf (ls.any (·.nanMade)) (SHEET_VX_STAT_nan_made sh) 1
  s.setIf (ls.any (·.overflow)) (SHEET_VX_STAT_overflow sh) 1

/-- Vector store: 256 bytes of FP32, or 128 bytes narrowed to BF16. -/
def State.vectorStore (s : State) (sh : Nat) (ecc : Ecc) : State :=
  match s.running sh 1 2 with
  | none => s
  | some w =>
    let v := w.f 160 9 + w.iter * w.f 170 4
    match s.engEcc sh 1 w ecc (storeUnits (vregOff v) 256) with
    | (s, false) => s
    | (s, true) =>
      let codes := (s.sheet sh).vreg v
      let ls := codes.map narrowLane
      let (s, bs) := if w.f 169 1 = 1 then (s.laneFlags sh ls, ls.flatMap fun l => leBytes 2 l.code)
        else (s, codes.flatMap (leBytes 4))
      (s.modSheet sh fun x => x.write ((w.agd 0).at w.iter).toNat bs).advance sh 1 w

/-! ### Lane operations (R151) -/

/-- One iteration of the head lane word, if its operation is `op`: `f` gives a lane of `a`, `b` and `c`. -/
def State.laneWord (s : State) (sh op : Nat) (ecc : Ecc) (f : Nat → Nat → Nat → Lane) : State :=
  match s.running sh 1 0 with
  | none => s
  | some w =>
    if w.f 200 8 ≠ op then s
    else
      let k := w.iter * w.f 196 4
      let (_, useB, useC) := laneUses op
      let va := w.f 169 9 + k
      let vb := w.f 178 9 + k
      let vc := w.f 187 9 + k
      let units := storeUnits (vregOff va) 256 ++ (if useB then storeUnits (vregOff vb) 256 else [])
        ++ (if useC then storeUnits (vregOff vc) 256 else [])
      match s.engEcc sh 1 w ecc units with
      | (s, false) => s
      | (s, true) =>
        let x := s.sheet sh
        let a := x.vreg va
        let b := if useB then x.vreg vb else []
        let c := if useC then x.vreg vc else []
        let ls := (List.range 64).map fun l => f (a.getD l 0) (b.getD l 0) (c.getD l 0)
        ((s.setVreg sh (w.f 160 9 + k) (ls.map (·.code))).laneFlags sh ls).advance sh 1 w

/-! ### The commands -/

def execVxConvert (sheet : Sheet) (ecc : Ecc) (s : State) : Out := .next (s.convert sheet ecc)
def execVxGuardReport (sheet : Sheet) (s : State) : Out := .next (s.guardReport sheet)
def execVxGuardDecide (sheet : Sheet) (ecc : Ecc) (s : State) : Out := .next (s.guardDecide sheet ecc)
def execVxContourDrain (sheet : Sheet) (ecc : Ecc) (s : State) : Out := .next (s.contourDrain sheet ecc)
def execVxMarkRead (sheet : Sheet) (ecc : Ecc) (s : State) : Out := .next (s.markRead sheet ecc)
def execVxLoad (sheet : Sheet) (ecc : Ecc) (s : State) : Out := .next (s.vectorLoad sheet ecc)
def execVxStore (sheet : Sheet) (ecc : Ecc) (s : State) : Out := .next (s.vectorStore sheet ecc)

def execVxFma (sheet : Sheet) (ecc : Ecc) (s : State) : Out := .next (s.laneWord sheet 0x00 ecc fma32)
def execVxAdd (sheet : Sheet) (ecc : Ecc) (s : State) : Out :=
  .next (s.laneWord sheet 0x01 ecc fun a b _ => add32 a b)
def execVxMul (sheet : Sheet) (ecc : Ecc) (s : State) : Out :=
  .next (s.laneWord sheet 0x02 ecc fun a b _ => mul32 a b)
def execVxMin (sheet : Sheet) (ecc : Ecc) (s : State) : Out :=
  .next (s.laneWord sheet 0x03 ecc fun a b _ => minMax32 false a b)
def execVxMax (sheet : Sheet) (ecc : Ecc) (s : State) : Out :=
  .next (s.laneWord sheet 0x04 ecc fun a b _ => minMax32 true a b)
def execVxCmpLt (sheet : Sheet) (ecc : Ecc) (s : State) : Out :=
  .next (s.laneWord sheet 0x05 ecc fun a b _ => cmp32 (fun x y => decide (x < y)) a b)
def execVxCmpLe (sheet : Sheet) (ecc : Ecc) (s : State) : Out :=
  .next (s.laneWord sheet 0x06 ecc fun a b _ => cmp32 (fun x y => decide (x ≤ y)) a b)
def execVxCmpEq (sheet : Sheet) (ecc : Ecc) (s : State) : Out :=
  .next (s.laneWord sheet 0x07 ecc fun a b _ => cmp32 (fun x y => decide (x = y)) a b)
def execVxNarrowBf16 (sheet : Sheet) (ecc : Ecc) (s : State) : Out :=
  .next (s.laneWord sheet 0x08 ecc fun a _ _ => narrowLane a)
def execVxWidenBf16 (sheet : Sheet) (ecc : Ecc) (s : State) : Out :=
  .next (s.laneWord sheet 0x09 ecc fun a _ _ => { code := widenBf16 (a % 65536) })
def execVxExp2 (sheet : Sheet) (ecc : Ecc) (s : State) : Out :=
  .next (s.laneWord sheet 0x10 ecc fun a _ _ => exp2Ref a)
def execVxLog2 (sheet : Sheet) (ecc : Ecc) (s : State) : Out :=
  .next (s.laneWord sheet 0x11 ecc fun a _ _ => log2Ref a)
def execVxRcp (sheet : Sheet) (ecc : Ecc) (s : State) : Out :=
  .next (s.laneWord sheet 0x12 ecc fun a _ _ => rcpRef a)
def execVxRsqrt (sheet : Sheet) (ecc : Ecc) (s : State) : Out :=
  .next (s.laneWord sheet 0x13 ecc fun a _ _ => rsqrtRef a)
def execVxTanh (sheet : Sheet) (ecc : Ecc) (s : State) : Out :=
  .next (s.laneWord sheet 0x14 ecc fun a _ _ => tanhRef a)
def execVxErf (sheet : Sheet) (ecc : Ecc) (s : State) : Out :=
  .next (s.laneWord sheet 0x15 ecc fun a _ _ => erfRef a)

end Sys2Proof.Machine
end

