-- ==== Sys2Proof/Machine/SheetMv.lean ====
section
/-! DEFINITION. The move engine's words: copy and reduce moves over the mesh and into staging (R121 to R123, R154,
R155, R205), and the legend load (R43 to R45, R155). -/

namespace Sys2Proof.Machine

/-! ### What every move shares -/

/-- The last iteration of a move: it counts as sent, and the destination's increment is on its way (R122). -/
def State.moveEnd (s : State) (i : Nat) (w : QWord) : State :=
  if w.iter + 1 < w.rep then s
  else
    let s := s.count (SHEET_MESH_STAT_sent i) 1
    if w.f 169 1 = 0 ∧ w.f 214 1 = 1 then
      s.modSheet (s.moveDest i w) fun x => { x with pendInc := x.pendInc ++ [(w.f 210 4, w.tag, i)] }
    else s

/-- The last 4 KiB that pass a mesh buffer; the rest it held has left it. -/
def meshKeep (old bs : List Byte) : List Byte := (old ++ bs).drop ((old ++ bs).length - 4096)

/-- Bytes of a move leave by the source's egress buffer and, where they stay on the module's sheets, arrive in the
destination's ingress buffer (R15, R121). -/
def State.meshPass (s : State) (i : Nat) (dest : Option Nat) (bs : List Byte) : State :=
  let s := s.modSheet i fun x => { x with egress := meshKeep x.egress bs }
  match dest with
  | some j => s.modSheet j fun x => { x with ingress := meshKeep x.ingress bs }
  | none => s

/-- Where a move goes over the mesh: a sheet, or FD through a gateway. -/
def State.meshDest (s : State) (i : Nat) (w : QWord) : Option Nat :=
  if w.f 169 1 = 1 then none else some (s.moveDest i w)

/-- Bytes of a move into staging: digested in twin mode, and suppressed for a CD1 word (R414, R415). -/
def State.moveStage (s : State) (i : Nat) (w : QWord) (a : Nat) (bs : List Byte) : State :=
  let s := s.digest i w.tag 1 a w.twin bs
  if s.suppressed i then s else s.stageWrite a bs

/-! ### Copy moves -/

/-- One iteration of the head copy move. -/
def State.moveCopy (s : State) (i : Nat) (ecc : Ecc) : State :=
  match s.running i 2 0 with
  | none => s
  | some w =>
    let dest := s.moveDest i w
    let len := countOf (w.f 194 16)
    let src := ((w.agd 0).at w.iter).toNat
    if w.f 169 1 = 0 ∧ !s.sheetUp dest then s
    else match s.engEcc i 2 w ecc (storeUnits src len) with
      | (s, false) => s
      | (s, true) =>
        let bs := (s.sheet i).read src len
        let s := s.meshPass i (s.meshDest i w) bs
        let s := if w.f 169 1 = 1 then s.moveStage i w (w.f 170 24 * 256 + w.iter * len) bs
          else s.modSheet dest fun x => x.write ((w.agd 80).at w.iter).toNat bs
        (s.moveEnd i w).advance i 2 w

/-! ### Reduce moves -/

/-- The 32 entries from entry `n`. -/
def SheetSt.blockAt (x : SheetSt) (n : Nat) : List AccEntry := (List.range 32).map fun j => x.entry (n + j)

/-- The packed blocks of an iteration: `len` of them from entry `n`. -/
def SheetSt.packed (x : SheetSt) (n len w : Nat) : List Packed :=
  (List.range len).map fun k => packBlock (x.blockAt (n + 32 * k)) w none false

/-- What a block adds: its escaped form where it has one (R66). -/
def Packed.value (p : Packed) : Unpacked :=
  match p.esc with
  | none => unpackBlock p.main false
  | some e =>
    let m := unpackBlock p.main false
    let u := unpackBlock e true
    { u with ovf := u.ovf || m.ovf, under := u.under || m.under }

/-- A decoded block added into the 32 entries from entry `n`. -/
def State.addQuiet (s : State) (i n : Nat) (u : Unpacked) : State :=
  s.putEntries i (((s.sheet i).blockAt n).zipIdx.map fun e => (n + e.2, e.1, u.addTo e.2 e.1))

/-- A block that a sheet decodes and adds; a malformed header records 0x1030 (R66). -/
def State.addBlock (s : State) (i n tag : Nat) (u : Unpacked) : State :=
  let s := s.addQuiet i n u
  if u.bad then s.raise 0x1030 (unitSheet i) tag 0 else s

/-- The invalid mark on the 32 entries from entry `n` (R123). -/
def State.markBlock (s : State) (i n : Nat) : State :=
  s.putEntries i (((s.sheet i).blockAt n).zipIdx.map fun e => (n + e.2, e.1, { e.1 with inv := true }))

/-- The blocks of an iteration are added at the destination, or its entries are marked where the datums differ. -/
def State.reduceAt (s : State) (dest n tag : Nat) (bad : Bool) (ps : List Packed) : State :=
  ps.zipIdx.foldl (fun t p =>
    if bad then t.markBlock dest (n + 32 * p.2) else t.addBlock dest (n + 32 * p.2) tag p.1.value) s

/-- The blocks of an iteration go into staging: in place, and their escapes behind the in-place region (R205). -/
def State.reduceStage (s : State) (i : Nat) (w : QWord) (len : Nat) (ps : List Packed) : State :=
  let base := w.f 170 24
  let bl := blockLenOf (w.f 215 8)
  let escs := (base + ceilDiv w.inPlace 256) * 256
  let s := ps.zipIdx.foldl (fun t p =>
    t.moveStage i w (base * 256 + (w.iter * len + p.2) * bl) p.1.main) s
  ((ps.filterMap (·.esc)).zipIdx).foldl (fun t e => t.moveStage i w (escs + 776 * (w.esc + e.2)) e.1) s

/-- A datum mismatch found before the first addition (R123). -/
def State.reduceBad (s : State) (dest tag : Nat) : State :=
  ((s.setFld (SHEET_ACC_FLAGS_datum_err dest) 1).count (SHEET_MESH_STAT_bad dest) 1).raise
    0x1020 (unitSheet dest) tag 0

/-- The protected units of `n` accumulator entries from entry `e`. -/
def entryUnits (e n : Nat) : List (Nat × Nat) := (List.range n).map fun j => (3, 0x3A0000 + 24 * (e + j))

/-- The receiving entries of a reduce move are read to be added to: an uncorrectable error in one is written to the
registers of its sheet and halts the engine of the move, the only engine whose word reads it (R128). -/
def State.recvEcc (s : State) (i dest : Nat) (w : QWord) (ecc : Ecc) (units : List (Nat × Nat)) : State × Bool :=
  match s.sheetEcc dest ecc units with
  | (t, some (st, _)) => (t.haltEngine i 2 (0x6110 + st) w.tag 0, false)
  | (t, none) => (t, true)

/-- The errors of one iteration of a reduce move: in the entries it reads, then in those it adds to. -/
def State.reduceEcc (s : State) (i dest : Nat) (w : QWord) (src dst : Nat) (ecc : Ecc) : State × Bool :=
  let n := 32 * countOf (w.f 194 16)
  match s.engEcc i 2 w ecc (entryUnits src n) with
  | (t, false) => (t, false)
  | (t, true) => if w.f 169 1 = 1 then (t, true) else t.recvEcc i dest w (eccFrom n ecc) (entryUnits dst n)

/-- One iteration of the head reduce move. -/
def State.moveReduce (s : State) (i : Nat) (ecc : Ecc) : State :=
  match s.running i 2 1 with
  | none => s
  | some w =>
    let dest := s.moveDest i w
    let len := countOf (w.f 194 16)
    let src := ((w.agd 0).at w.iter).toNat / 24
    let dst := ((w.agd 80).at w.iter).toNat / 24
    if w.f 169 1 = 0 ∧ !s.sheetUp dest then s
    else match s.reduceEcc i dest w src dst ecc with
      | (s, false) => s
      | (s, true) =>
        let x := s.sheet i
        let ps := x.packed src len (w.f 215 8)
        let n := (ps.filter (·.esc.isSome)).length
        let s := s.meshPass i (s.meshDest i w) (ps.flatMap fun p => p.main ++ p.esc.getD [])
        let s := s.count (SHEET_ESC_CNT_escaped i) n
        let mis := decide (w.f 169 1 = 0 ∧ w.iter = 0 ∧ ((s.sheet dest).entry dst).datum ≠ (x.entry src).datum)
        let s := if mis then s.reduceBad dest w.tag else s
        let w : QWord := { w with bad := w.bad || mis }
        let s := if w.f 169 1 = 1 then s.reduceStage i w len ps else s.reduceAt dest dst w.tag w.bad ps
        (s.moveEnd i w).advance i 2 { w with esc := w.esc + n }

/-! ### Legend load (R43, R45, R155) -/

/-- The first invalid entry of the slots a legend load carries: slot and entry. -/
def SheetSt.badLegend (x : SheetSt) (w : QWord) : Option (Nat × Nat) :=
  (List.range w.rep).findSome? fun i =>
    let bs := x.read ((w.agd 0).at i).toNat 32
    ((List.range 16).find? fun e => legendBad (leField bs (2 * e) 2)).map fun e => (w.f 223 6 + i, e)

/-- One slot of 16 entries. -/
def State.loadSlot (s : State) (i slot : Nat) (bs : List Byte) : State :=
  iter 8 (fun k t => t.setReg (SHEET_LEGEND i (8 * slot + k)) (BitVec.ofNat 32 (leField bs (4 * k) 4))) s

/-- Whether the matrix engine executes a word; a halted engine executes none (R160). -/
def State.mxBusy (s : State) (i : Nat) : Bool :=
  match s.head i 0 with
  | some w => decide (w.phase = .running) && !s.halted i 0
  | none => false

/-- One iteration of the head legend load. -/
def State.moveLegend (s : State) (i : Nat) (ecc : Ecc) : State :=
  match s.running i 2 2 with
  | none => s
  | some w =>
    let off (k : Nat) : Nat := ((w.agd 0).at k).toNat
    let units := if w.iter = 0 then (List.range w.rep).flatMap fun k => storeUnits (off k) 32
      else storeUnits (off w.iter) 32
    if s.mxBusy i then s
    else match s.engEcc i 2 w ecc units with
      | (s, false) => s
      | (s, true) =>
        let found := if w.iter = 0 then (s.sheet i).badLegend w else none
        let s := match found with
          | some (slot, e) => s.legendRefuse i slot e w.tag
          | none => s
        let w : QWord := { w with bad := w.bad || found.isSome }
        let s := if w.bad then s else s.loadSlot i (w.f 223 6 + w.iter) ((s.sheet i).read (off w.iter) 32)
        s.advance i 2 w

/-! ### The commands -/

def execMvCopy (sheet : Sheet) (ecc : Ecc) (s : State) : Out := .next (s.moveCopy sheet ecc)
def execMvReduce (sheet : Sheet) (ecc : Ecc) (s : State) : Out := .next (s.moveReduce sheet ecc)
def execMvLegendLoad (sheet : Sheet) (ecc : Ecc) (s : State) : Out := .next (s.moveLegend sheet ecc)

end Sys2Proof.Machine
end

