-- ==== Sys2Proof/Machine/SheetIo.lean ====
section
/-! DEFINITION. The store engine's words: load, store, control load and overlay load (R107, R156 to R158), the
tallies of loads (R79), calibration (R89), and the overlay index table (R96 to R99, R101). -/

namespace Sys2Proof.Machine

/-! ### What loads share -/

/-- The stream buffer halves a word's local side can touch. -/
def QWord.halves (w : QWord) (len : Nat) : List Nat :=
  let (lo, hi) := (w.agd 0).span w.rep
  [0, 1].filter fun h => decide (lo < ((halfBase h + 0x40000 : Nat) : Int) ∧ (halfBase h : Int) < hi + (len : Int))

/-- Whether the tile of matrix word `v` still has to be loaded. -/
def SheetSt.tileMissing (x : SheetSt) (v : QWord) : Bool :=
  match x.shadow with
  | some t => !(t.names v && t.complete)
  | none => true

/-- Whether a matrix word uses half `h`: it executes, or it is loading its tile (R107). -/
def State.halfBusy (s : State) (i h : Nat) : Bool :=
  (match s.executing i 0 with
   | some v => decide (v.cls = 0 ∧ v.f 247 1 = h)
   | none => false)
  || (match s.tileWord i with
      | some v => v.f 247 1 == h && (s.sheet i).tileMissing v
      | none => false)

/-- A load that would write into a busy half waits before its first write; the word is counted once. -/
def State.stallAt (s : State) (i : Nat) (w : QWord) (len : Nat) : Option State :=
  if w.iter = 0 ∧ (w.halves len).any (s.halfBusy i) then
    some (if w.stalled then s
      else (s.count (SHEET_SB_STALL_count i) 1).setHead i 3 { w with stalled := true })
  else none

/-- One loaded element as a tally: bad, magnitude and exponent (R79). -/
def State.tallyValue (s : State) (i : Nat) (w : QWord) (bs : List Byte) (first j : Nat) : Bool × Nat × Int :=
  let fmt := w.f 227 4
  let sc := w.f 231 2
  let code := if sc = 0 then 0 else leField ((s.sheet i).read (w.f 233 22 + (first + j) / blockLen sc) 1) 0 1
  let v := (decElem fmt (elemAt (elemBits fmt) bs j)).mul
    ((blockScale sc code).scale (mxFactor (fmt == 2) sc))
  (v.bad, v.m, v.k)

/-- The protected units of the tally scales that the elements of one iteration use (R128, R158). -/
def QWord.tallyUnits (w : QWord) (len : Nat) : List (Nat × Nat) :=
  let n := elemsOf (w.f 227 4) len
  if w.f 224 3 = 0 ∨ w.f 231 2 = 0 ∨ n = 0 then [] else
    let l := blockLen (w.f 231 2)
    let first := w.iter * n / l
    storeUnits (w.f 233 22 + first) ((w.iter * n + n - 1) / l - first + 1)

/-- The tallies of the bytes one iteration loads. -/
def State.loadTally (s : State) (i : Nat) (w : QWord) (bs : List Byte) : State :=
  if w.f 224 3 = 0 then s
  else
    let n := elemsOf (w.f 227 4) bs.length
    s.tally i (w.f 224 3 - 4) ((List.range n).map fun j => s.tallyValue i w bs (w.iter * n) j)

/-- Bytes delivered into the window of a sheet, and of its twin (R414). -/
def State.deliver (s : State) (i off : Nat) (bs : List Byte) : State :=
  let s := s.modSheet i fun x => x.write off bs
  if s.twinOn && i < 160 then s.modSheet (i + 160) fun x => x.write off bs else s

/-- Whether the CD0 word of a CD1 store-engine word has come further (R414). -/
def State.twinAhead (s : State) (i : Nat) (w : QWord) : Bool :=
  match s.head (twinOf i) 3 with
  | none => true
  | some v => v.num != w.num || decide (w.iter < v.iter)

/-- The bytes an iteration loads, with the state after the read; none while they are on their way or the engine
halted (R413, R353). -/
def State.loadBytes (s : State) (i : Nat) (w : QWord) (a n off : Nat) (ecc : Ecc) : State × Option (List Byte) :=
  if s.suppressed i then
    (s, if s.twinAhead i w then some ((s.sheet i).read off n) else none)
  else match s.fetch (.word i 3) a n w.tag ecc with
    | (t, .wait) => (t, none)
    | (t, .got (.poison d)) => (t.haltEngine i 3 0x6021 w.tag d, none)
    | (t, .got .down) => (t.haltEngine i 3 0x7040 w.tag (portOfAddr a), none)
    | (t, .got (.data bs)) => (t, some bs)

/-- One iteration of a load, its memory side given: its error names a unit of the memory side, then of the tally
scales. -/
def State.loadStep (s : State) (i : Nat) (w : QWord) (m : MemSide) (ecc : Ecc) : State :=
  match s.stallAt i w m.len with
  | some t => t
  | none =>
    let off := ((w.agd 0).at w.iter).toNat
    let a := (m.g.at w.iter).toNat
    match s.loadBytes i w a m.len off ecc with
    | (t, none) => t
    | (t, some bs) =>
      match t.engEcc i 3 w (eccFrom (if s.suppressed i then 0 else readUnits a m.len) ecc) (w.tallyUnits m.len) with
      | (t, false) => t
      | (t, true) =>
        let t := if t.suppressed i then t else t.deliver i off bs
        (t.loadTally i w bs).advance i 3 w

/-- One iteration of the head load word. -/
def State.storeLoad (s : State) (i : Nat) (ecc : Ecc) : State :=
  match s.running i 3 0 with
  | none => s
  | some w => s.loadStep i w w.memSide ecc

/-! ### Control load (R157) -/

/-- One iteration of the head control load; before its first write it waits for room in the ring (R162). -/
def State.controlLoad (s : State) (i : Nat) (ecc : Ecc) : State :=
  match s.running i 3 2 with
  | none => s
  | some w =>
    let m := w.memSide
    let q := w.f 255 2
    let tail := s.fld (SHEET_Q_TAIL_tail i q)
    let size := max (s.fld (SHEET_Q_RING_size i q)) 1
    let per := m.len / 64
    if w.iter = 0 ∧ size < subMod 32 tail (s.fld (SHEET_Q_HEAD_head i q)) + per * w.rep then s
    else
      let off (k : Nat) : Nat :=
        0x380000 + 64 * (s.fld (SHEET_Q_RING_base i q) + (tail + w.iter * per + k) % 2 ^ 32 % size)
      let bytes : State × Option (List Byte) := if s.suppressed i then
          (s, if s.twinAhead i w then some [] else none)
        else s.loadBytes i w (m.g.at w.iter).toNat m.len 0 ecc
      match bytes with
      | (t, none) => t
      | (t, some bs) =>
        let t := if t.suppressed i then t
          else iter per (fun k t => t.deliver i (off k) ((bs.drop (64 * k)).take 64)) t
        t.advance i 3 w

/-! ### Store (R89, R157, R414) -/

/-- Messages a write to `[b, b + n)` through a companion window takes (R354). -/
def compMsgs (b n : Nat) : Nat :=
  let l := min n (64 - b % 64)
  if b % 64 = 0 ∧ l = 64 then 1 else (b % 64 + l + 3) / 4 - b % 64 / 4

/-- Lines of a companion write go out while requests are free: the bytes still to go are kept. -/
def State.compPush (s : State) (who : WWho) (tag : Nat) : Nat → Nat → List Byte → State × List Byte
  | 0, _, bs => (s, bs)
  | n + 1, a, bs =>
    if bs.isEmpty then (s, [])
    else
      let l := 64 - a % 64
      if ((s.wport (portOfAddr a)).outstanding + compMsgs (a % 64) bs.length) ≤ 1024 then
        (s.compWrite who a tag (bs.take l)).compPush who tag n (a + l) (bs.drop l)
      else (s, bs)

/-- The bytes of a store leave the sheet: dropped in calibration, suppressed on CD1, or written. -/
def State.storeOut (s : State) (i : Nat) (w : QWord) (a : Nat) (bs : List Byte) : State :=
  if inCompanion a then
    let n := w.memSide.len
    match s.compPush (.word i 3) w.tag (bs.length / 64 + 2) (a + (n - bs.length)) bs with
    | (t, []) => t.advance i 3 w
    | (t, rest) => t.setHead i 3 { w with part := rest }
  else
    let t := if s.touchesSched a bs.length then s.raise 0x6010 (unitSheet i) w.tag 16 else s.devPut 0 a w.tag bs
    t.advance i 3 w

/-- One iteration of the head store word. In calibration the writes of one iteration to a companion window count as
one discarded write in SHEET_CALIB_DROP: R89 gives the count no unit (the model's choice, log entry 91). -/
def State.storeWord (s : State) (i : Nat) (ecc : Ecc) : State :=
  match s.running i 3 1 with
  | none => s
  | some w =>
    let m := w.memSide
    let a := (m.g.at w.iter).toNat
    let off := ((w.agd 0).at w.iter).toNat
    if !w.part.isEmpty then s.storeOut i w a w.part
    else match s.engEcc i 3 w ecc (storeUnits off m.len) with
      | (s, false) => s
      | (s, true) =>
        let bs := (s.sheet i).read off m.len
        if inCompanion a && s.flag (SHEET_SAFE_CTL_calib i) then
          (s.count (SHEET_CALIB_DROP_count i) 1).advance i 3 w
        else
          let s := s.digest i w.tag 1 a w.twin bs
          if s.suppressed i then s.advance i 3 w else s.storeOut i w a bs

/-! ### Overlays (R96 to R99, R157, R158) -/

def State.ovl (s : State) (n : Nat) : OvlEntry := smGet (fun _ => {}) s.fab.ovl n

def State.setOvl (s : State) (n : Nat) (e : OvlEntry) : State :=
  s.modFab fun f => { f with ovl := smSet (fun _ => {}) f.ovl n e }

/-- Word `k` of an entry. -/
def OvlEntry.word (e : OvlEntry) (k : Nat) : Nat := (e.w.getD k 0).toNat

/-- An entry's state, its layers and its descriptor array. -/
def OvlEntry.state (e : OvlEntry) : Nat := bits (e.word 0) 0 2
def OvlEntry.layers (e : OvlEntry) : Nat := bits (e.word 4) 0 16
def OvlEntry.descAddr (e : OvlEntry) : Nat := e.word 2 + 2 ^ 32 * e.word 3

/-- The first resolve of an entry by the open batch (R98). -/
def State.ovlResolve (s : State) (n : Nat) : State :=
  if s.wiora.resolve.contains n then s
  else
    let e := s.ovl n
    (s.setOvl n { e with busy := e.busy + 1 }).modWiora fun v => { v with resolve := v.resolve ++ [n] }

/-- What the checks of a word's overlay descriptor find (R146, R158). -/
def State.ovlFault (s : State) (w : QWord) (d : List Byte) : Option Nat :=
  let m := descSide d
  if !descClean d then some 0x2004
  else if !(w.agd 0).inStores w.rep m.len [0, 1, 2] || !s.sideOk m w.rep || w.tallyBad m.len then some 0x2006
  else none

/-- The first step of an overlay load: it resolves its slot and layer and reads its descriptor. -/
def State.overlayBegin (s : State) (i : Nat) (w : QWord) (ecc : Ecc) : State :=
  let slot := s.wiora.slots.getD (w.f 257 5) 0
  let n := slot % 1024
  let e := s.ovl n
  if !bit slot 15 then s.setHead i 3 { w with phase := .skipped }
  else if e.state ≠ 2 then s.haltEngine i 3 0x1042 w.tag n
  else if e.layers ≤ w.f 262 16 then s.haltEngine i 3 0x1043 w.tag n
  else
    let s := s.ovlResolve n
    let a := e.descAddr + 64 * w.f 262 16 + 32 * w.f 278 1
    match s.fetch (.word i 3) a 32 w.tag ecc with
    | (t, .wait) => t
    | (t, .got (.poison d)) => t.haltEngine i 3 0x6021 w.tag d
    | (t, .got .down) => t.haltEngine i 3 0x7040 w.tag (portOfAddr a)
    | (t, .got (.data d)) =>
      match t.ovlFault w d with
      | some code => t.haltEngine i 3 code w.tag 0
      | none => t.setHead i 3 { w with latch := d }

/-- One command of the head overlay load: its resolve, or an iteration. -/
def State.overlayLoad (s : State) (i : Nat) (ecc : Ecc) : State :=
  match s.running i 3 3 with
  | none => s
  | some w => if w.latch.isEmpty then s.overlayBegin i w ecc else s.loadStep i w (descSide w.latch) ecc

/-- FAB_OVL_SEL: the entry's words are loaded into the window. -/
def State.ovlSelect (s : State) (v : Nat) : State :=
  let n := v % 1024
  let e := s.ovl n
  let s := s.setFld FAB_OVL_SEL_entry n
  iter 8 (fun k t => t.setFld (FAB_OVL_DATA_word k) (if k = 6 then e.busy % 65536 else e.word k)) s

/-- Whether the words of a commit break R99: a field of a valid entry that is not legal, or a reserved field. A weight
format is 0 to 2 and mid_fmt 0 to 6 (R148), and desc_addr is a 64-byte-aligned device address of 48 bits (R96, R304).
R99 names no refusal for the reserved state 11: such an entry is taken, and is not valid (the model's choice, log entry
92). -/
def ovlIllegal (e : OvlEntry) : Bool :=
  (e.state == 2 && (decide (2 < bits (e.word 0) 16 4) || decide (2 < bits (e.word 0) 20 4)
      || decide (6 < bits (e.word 1) 10 4) || e.layers == 0 || e.descAddr % 64 != 0 || decide (2 ^ 48 ≤ e.descAddr)))
  || bits (e.word 0) 2 6 != 0 || bits (e.word 0) 24 8 != 0 || bits (e.word 1) 14 18 != 0
  || bits (e.word 4) 16 16 != 0 || e.word 7 != 0

/-- FAB_OVL_CTL.commit. -/
def State.ovlCommit (s : State) : State :=
  let n := s.fld FAB_OVL_SEL_entry
  let old := s.ovl n
  let new : OvlEntry :=
    { w := (List.range 8).map fun k => if k = 6 then 0 else s.reg (FAB_OVL_DATA k), busy := old.busy }
  if old.state = 2 ∧ old.busy ≠ 0 then (s.setFld FAB_OVL_STAT_refused 1).raise 0x1041 0 0 0
  else if ovlIllegal new then (s.setFld FAB_OVL_STAT_refused 1).raise 0x1040 0 0 0
  else s.setOvl n (if new.w.all (· == 0) && new.busy == 0 then {} else new)

/-! ### The commands -/

def execStLoad (sheet : Sheet) (ecc : Ecc) (s : State) : Out := .next (s.storeLoad sheet ecc)
def execStStore (sheet : Sheet) (ecc : Ecc) (s : State) : Out := .next (s.storeWord sheet ecc)
def execStControlLoad (sheet : Sheet) (ecc : Ecc) (s : State) : Out := .next (s.controlLoad sheet ecc)
def execStOverlayLoad (sheet : Sheet) (ecc : Ecc) (s : State) : Out := .next (s.overlayLoad sheet ecc)

end Sys2Proof.Machine
end

