-- ==== Sys2Proof/Machine/Crossbar.lean ====
section
/-! DEFINITION. The crossbar: transit entries, the route check, forwarding, multicast, joins, delivery and DONE
(R196 to R198, R202, R203, R208, R211 to R220, R280). -/

namespace Sys2Proof.Machine

/-! ### Flows -/

/-- Escape flits that a last main flit announces (R207). -/
def escFlits (f : RawFlit) : Nat := if f.form = 0 ∧ f.W ≠ 0 then ceilDiv (776 * f.e) 256 else 0

/-- The flow with one more flit taken at tick `at0`; its payload is kept where it is needed. -/
def FlowSt.take (f : FlowSt) (x : RawFlit) (at0 : Nat) (keep : Bool) : FlowSt :=
  { f with
    first := some (f.first.getD x)
    flits := if keep then smSet (fun _ => []) f.flits x.index x.payload else f.flits
    at0 := if f.first.isSome then f.at0 else at0
    mains := if x.last then some (x.index + 1) else f.mains
    escapes := if x.last then escFlits x else f.escapes
    taken := f.taken + 1 }

/-- Bytes `[off, off + n)` of what a flow carries, once every flit that holds them is in. -/
def FlowSt.bytes (f : FlowSt) (off n : Nat) : Option (List Byte) :=
  let k0 := off / 256
  let ps := (List.range ((off + n - 1) / 256 - k0 + 1)).map fun k => smGet (fun _ => []) f.flits (k0 + k)
  if ps.any (·.isEmpty) then none else some ((ps.flatten.drop (off - 256 * k0)).take n)

/-- Main flits of a reduce flow of `nb` blocks at width `w`. -/
def mainFlits (nb w : Nat) : Nat := ceilDiv (nb * blockLenOf w) 256

/-- The in-place form of block `b`, decoded. Where the header's legal w is not the transfer's W, the block is the length
that W gives and its fields are read at the header's w (DESIGN CHOICE, log entry 97). -/
def FlowSt.mainBlock (f : FlowSt) (w b : Nat) : Option Unpacked :=
  (f.bytes (b * blockLenOf w) (blockLenOf w)).map fun bs => unpackBlock bs false

/-- Block `b` of `nb`, decoded, once it is in: in place, or from the escape region, or in overflow form. A malformed
in-place block is not counted among those that announce an escape, whatever its escape bit (DESIGN CHOICE, log entry
97). -/
def FlowSt.block (f : FlowSt) (nb b : Nat) : Option Unpacked :=
  match f.first with
  | none => none
  | some x =>
    if x.form = 1 then (f.bytes (776 * b) 776).map fun bs => unpackBlock bs true
    else
      match f.mainBlock x.W b with
      | none => none
      | some u =>
        if !u.announces then some u
        else
          let before := (List.range b).map (f.mainBlock x.W)
          if before.any (·.isNone) then none
          else
            let j := (before.filter fun o => match o with | some v => v.announces | none => false).length
            (f.bytes (mainFlits nb x.W * 256 + 776 * j) 776).map fun bs =>
              let v := unpackBlock bs true
              { v with ovf := v.ovf || u.ovf, under := v.under || u.under }

/-! ### Armed entries -/

def State.setTr (s : State) (t : ArmedTr) : State :=
  s.modFab fun f => { f with trans := updFirst (fun u => u.num == t.num) (fun _ => t) f.trans }

def State.dropTr (s : State) (t : ArmedTr) : State :=
  s.modFab fun f => { f with trans := f.trans.filter fun u => u.num != t.num }

/-- The operand of an armed entry that a flit of tag `tag` on port `p` belongs to: false A, true B. -/
def ArmedTr.operand (t : ArmedTr) (p tag : Nat) : Option Bool :=
  if t.tag ≠ tag then none
  else if enIn t.entry = p ∧ !t.a.isDone then some false
  else if enJoin t.entry ∧ enJoinPort t.entry = p ∧ !t.b.isDone then some true
  else none

/-- The armed entry that takes a flit (R211). -/
def State.findTr (s : State) (p tag : Nat) : Option (ArmedTr × Bool) :=
  s.fab.trans.findSome? fun t => (t.operand p tag).map fun b => (t, b)

/-! ### DONE (R220) -/

/-- DONE goes back towards the source of a transfer: on a port, or to this module's own departure. -/
def State.doneUp (s : State) (p slice tag : Nat) (lost : Bool) : State :=
  if p < 31 then s.sendSymbol p (doneSymbol slice tag lost)
  else s.modFab fun f => { f with flights := f.flights.eraseP fun e => e.tag == tag && e.own }

/-- An entry that has nothing left to do returns DONE and leaves the plan. -/
def State.settle (s : State) (t : ArmedTr) : State :=
  let e := t.entry
  let taken := t.a.isDone && (!enJoin e || t.b.isDone)
  if t.bad then (if taken then s.dropTr t else s)
  else if taken && t.waitDone.isEmpty && t.allOut && t.localDone && t.ru.isNone then
    let s := if t.told then s else s.doneUp (enIn e) t.slice t.tag t.lost
    let s := if enJoin e && !t.told then s.doneUp (enJoinPort e) t.slice t.tag t.lost else s
    s.dropTr t
  else s

/-- The entry with number `n`, settled as it stands now. -/
def State.settleNum (s : State) (n : Nat) : State :=
  match s.fab.trans.find? (fun u => u.num == n) with
  | some t => s.settle t
  | none => s

/-! ### Discards -/

/-- A flit is discarded and counted (R211). -/
def State.dropFlit (s : State) (p id : Nat) : State :=
  let s := s.count FAB_DISCARD_CNT_noentry 1
  if p < 31 then s.poolFree p id else s

/-- A flit of a failed flow: discarded; with the last one of its operand, DONE with lost set goes back (R220). -/
def State.badFlit (s : State) (t : ArmedTr) (isB : Bool) (p id at0 : Nat) (f : RawFlit) : State :=
  let s := s.dropFlit p id
  let t := if isB then { t with b := t.b.take f at0 false } else { t with a := t.a.take f at0 false }
  let s := s.setTr t
  let s := if (if isB then t.b else t.a).isDone then s.doneUp p f.slice f.tag true else s
  s.settle t

/-! ### Checks -/

/-- Whether a flit fails the route check, or carries a path too fast for an x2 out-port (R203). -/
def routeBad (e pe : Nat) (f : RawFlit) : Bool :=
  let h := pathHop pe f.hop
  (pathSpacing pe == 2 && (outPorts e).any fun p => decide (15 ≤ p))
    || (!pathTree pe && (if h = 31 then !enLocal e else !bit (enMask e) h))

/-- Whether the first flit of one operand of a join fails R214 by itself (`isB`: operand B). -/
def State.operandBad (s : State) (e : Nat) (isB : Bool) (x : RawFlit) : Bool :=
  let nb := pathNb (s.pathEntry x.path)
  x.W == 0 || nb == 0
    || (if enMask e ≠ 0 then decide (enW e < x.W + 1) || decide (enR e < x.r)
        else !enReduce e || (!isB && (enW e != x.W || enR e != x.r || enLength e != mainFlits nb x.W)))

/-- Whether the operands of a join, both begun, fail R214. -/
def State.joinBad (s : State) (e : Nat) (a b : RawFlit) : Bool :=
  s.operandBad e false a || s.operandBad e true b
    || pathNb (s.pathEntry a.path) != pathNb (s.pathEntry b.path) || a.ac != b.ac
    || (enMask e != 0 && decide (enR e < a.r + b.r))

/-- Whether the range that a transfer of width `w` (0: a copy) on a path writes breaks R217 or R219; a void one writes
nothing. -/
def State.destBad (s : State) (e path w : Nat) (void : Bool) : Bool :=
  let pe := s.pathEntry path
  let a := pathDest pe
  let (i, off) := winOf a
  let inWin := decide (winBase ≤ a ∧ i < 320)
  if void then false
  else if w ≠ 0 then
    !inWin || decide (off < 0x3A0000) || (off - 0x3A0000) % 768 != 0 || !inStore 3 off (768 * pathNb pe)
  else
    let n := enLength e * 256
    if inWin then !([0, 1, 2, 4].any fun st => inStore st off n) else (s.within a n).isNone

/-- A flow of an entry fails R211 or R214: what a join holds of either operand is discarded and counted, its unit is
freed, and an operand that is wholly taken returns DONE with lost set at once (R216, R220). -/
def State.failFlow (s : State) (t : ArmedTr) (code unit : Nat) : State × ArmedTr :=
  let e := t.entry
  let held := if enJoin e then t.a.taken + t.b.taken else 0
  let t := { t with bad := true, ru := none }
  let s := ((s.setTr t).count FAB_DISCARD_CNT_noentry held).raise code unit t.tag 0
  let s := if enJoin e && t.a.isDone then s.doneUp (enIn e) t.slice t.tag true else s
  (if enJoin e && t.b.isDone then s.doneUp (enJoinPort e) t.slice t.tag true else s, t)

/-! ### Transit for other slices (R184, R278, R412) -/

/-- The slice whose permit entry names the slot of port `p` at tick `t` of the frame. -/
def State.slotSlice (s : State) (p t : Nat) : Option Nat :=
  (s.permits p).findSome? fun e =>
    if namesSlot e.2 (t % 65536 / slotTicks p) then some (bits e.2 0 16) else none

/-- Whether a transit entry belongs to the installation transit plan for another slice: its copies leave in slots that
the permit tables give to another slice. An entry carries no slice ID (DESIGN CHOICE, log entry 99). -/
def State.forOther (s : State) (en : Nat) : Bool :=
  enClass en == 1 && (outPorts en).any fun p =>
    match s.slotSlice p (enTick en + 48) with
    | some i => i != 0 && i != s.fld TOPO_SLICE_id
    | none => false

/-! ### Forwarding (R208, R212, R213) -/

/-- A departure's flits from its contested one onward are late (R208), and LINK_LATE counts them (R239). -/
def State.makeLate (s : State) (p : Nat) (o : OutFlit) : State :=
  let hit (u : OutFlit) : Bool := u.rank == o.rank && u.flit.tag == o.flit.tag && decide (o.flit.index ≤ u.flit.index)
  let n := ((s.port p).txS.filter fun u => hit u && !u.late).length
  (s.modPort p fun q => { q with txS := q.txS.map fun u => if hit u then { u with late := true } else u }).count
    (LINK_LATE_count p) n

/-- The departure that loses a slot is late from there on: it is counted, once (R180, R208). -/
def State.lateBy (s : State) (o : OutFlit) : State :=
  let hit (d : ArmedDep) : Bool := d.tag == o.flit.tag && d.dx + 1 == o.rank && d.sent
  match s.fab.deps.find? hit with
  | some d =>
    if d.contested || d.late then s
    else
      (s.modFab fun f => { f with deps := updFirst hit (fun d => { d with contested := true }) f.deps }).count
        TIME_LATE_CNT_count 1
  | none => s

/-- A departure that loses a slot to another records 0x4004, once (R208). -/
def State.contest (s : State) (o : OutFlit) : State :=
  let hit (d : ArmedDep) : Bool := d.tag == o.flit.tag && d.dx + 1 == o.rank && d.sent
  match s.fab.deps.find? hit with
  | some d =>
    if d.lost then s.lateBy o
    else
      let s := s.lateBy o
      let s := s.modFab fun f => { f with deps := updFirst hit (fun d => { d with lost := true }) f.deps }
      s.raise 0x4004 (unitDx d.dx) d.tag 0
  | none => s

/-- The place of a late flit: by tick, then by table entry. -/
def claimOf (tick idx : Nat) : Nat := tick * 2 ^ 25 + idx

/-- A flit queued for an out-port, counted in LINK_LATE where it is late already (R239): its planned slot is decided against the flits already planned for it. A late flit
leaves no earlier than it would have been planned to, or is ready. -/
def State.queueOut (s : State) (p : Nat) (o : OutFlit) : State :=
  let push (s : State) (o : OutFlit) : State :=
    (s.modPort p fun q => { q with txS := q.txS ++ [o] }).count (LINK_LATE_count p) (b2n o.late)
  let o := { o with ready := max o.ready o.slot }
  if o.late then push s o
  else match (s.port p).txS.find? (fun u => !u.late && u.slot == o.slot) with
    | none => push s o
    | some u =>
      if o.rank < u.rank then push (if o.rank = 0 then s.makeLate p u else (s.makeLate p u).contest u) o
      else push (if u.rank = 0 then s.lateBy o else s.contest o) { o with late := true }

/-- FD counts copies of a flit it forwards for another slice (R426). -/
def State.countOther (s : State) (f : RawFlit) (n : Nat) : State :=
  if f.slice = 0 ∨ f.slice = s.fld TOPO_SLICE_id then s else s.modFab fun b => { b with others := b.others + n }

/-- A flit's copies leave on every out-port of its entry, 48 ticks after its planned arrival; later where it was
late here. -/
def State.forward (s : State) (t : ArmedTr) (p id at0 : Nat) (f : RawFlit) : State :=
  let planned := t.due + f.index * pathSpacing (s.pathEntry f.path)
  let g := f.setH 168 4 ((f.hop + 1) % 16)
  let s := s.countOther f (outPorts t.entry).length
  (outPorts t.entry).foldl (fun u q =>
    u.queueOut q { flit := g, slot := planned + 48, late := decide (planned < at0), ready := at0 + 48, inPort := p
                   poolId := id, claim := claimOf (planned + 48) 0 }) s

/-! ### Delivery (R217, R219, R280) -/

/-- Bytes of a delivery are written; a flit that falls into the read-only schedule window is refused (R319). -/
def State.deliverBytes (s : State) (tag a : Nat) (bs : List Byte) : State :=
  if inCompanion a then s.compWrite (.deliver tag) a tag bs
  else if s.touchesSched a bs.length then s.raise 0x6010 (unitDev 16) tag 16
  else s.devPut 0 a tag bs

/-- One block added at the destination, and at its twin (R217, R414); a block of a join was decoded by its reduce
unit, which recorded a malformed one. -/
def State.deliverBlock (s : State) (tag i n : Nat) (join : Bool) (u : Unpacked) : State :=
  if !s.sheetUp i then s.bankDown 0 i tag
  else
    let s := if join then s.addQuiet i n u else s.addBlock i n tag u
    if s.twinOn && i < 160 then (if join then s.addQuiet (i + 160) n u else s.addBlock (i + 160) n tag u) else s

/-- The sheet and the first accumulator entry that a path's reduce flow is added into. -/
def State.accDest (s : State) (path : Nat) : Nat × Nat :=
  let (i, off) := winOf (pathDest (s.pathEntry path))
  (i, (off - 0x3A0000) / 24)

/-- The blocks of a reduce flow that are in and not yet added are added at the destination of `path` (R217). A block
whose announced escape is not among the escape flits of the whole flow is malformed: its marks are added (DESIGN
CHOICE, log entry 97). -/
def State.addReady (s : State) (tag path : Nat) (join : Bool) (f : FlowSt) : State × FlowSt :=
  let nb := pathNb (s.pathEntry path)
  let (i, n) := s.accDest path
  (List.range nb).foldl (fun (acc : State × FlowSt) b =>
    let give (u : Unpacked) : State × FlowSt :=
      (acc.1.deliverBlock tag i (n + 32 * b) join u, { acc.2 with added := acc.2.added ++ [b] })
    if f.added.contains b then acc
    else match f.block nb b with
      | some u => give u
      | none => if f.isDone then give { bad := true } else acc) (s, f)

/-- A block of zeros with every invalid mask bit set: what a join with one void operand comes to (R215). -/
def markedBlock : Unpacked := { mask := 2 ^ 32 - 1 }

/-- The marks of a join with one void operand, added once (R215). -/
def State.addMarks (s : State) (tag path : Nat) (f : FlowSt) : State × FlowSt :=
  let nb := pathNb (s.pathEntry path)
  let (i, n) := s.accDest path
  if f.added.isEmpty then
    (iter nb (fun b t => t.deliverBlock tag i (n + 32 * b) true markedBlock) s, { f with added := List.range nb })
  else (s, f)

/-- Whether an entry still delivers here. -/
def ArmedTr.delivers (t : ArmedTr) : Bool := enLocal t.entry && !t.noLocal && !t.localDone

/-- A reduce flow is added as far as it is in. -/
def State.deliverReduce (s : State) (t : ArmedTr) : State × ArmedTr :=
  match t.a.first with
  | none => (s, t)
  | some x =>
    if !t.delivers || x.form == 2 || x.W == 0 then (s, t)
    else
      let (s, a) := s.addReady t.tag x.path false t.a
      (s, { t with a := a })

/-- The local delivery of a join whose operands have both begun: both are added, as far as they are in, at the
destination of operand A's path, or where exactly one is void its marks (R214, R215, R217; log entry 98). -/
def State.deliverJoin (s : State) (t : ArmedTr) : State × ArmedTr :=
  match t.a.first, t.b.first with
  | some x, some y =>
    if !t.delivers || (x.form == 2 && y.form == 2) then (s, t)
    else if x.form = 2 ∨ y.form = 2 then
      let (s, a) := s.addMarks t.tag x.path t.a
      (s, { t with a := a })
    else
      let (s, a) := s.addReady t.tag x.path true t.a
      let (s, b) := s.addReady t.tag x.path true t.b
      (s, { t with a := a, b := b })
  | _, _ => (s, t)

/-- The transfer completes at this module (R217, R218). -/
def State.completeLocal (s : State) (t : ArmedTr) : State :=
  let ac := match t.a.first with | some x => x.ac | none => 0
  let t := { t with localDone := true, waitW := false }
  (((s.acAdd ac 1 t.tag).trace 4 t.tag 0 ac).setTr t).settle t

/-- Whether writes of a delivery are still to be acknowledged. -/
def State.deliverWaits (s : State) (tag : Nat) : Bool :=
  ((s.wport 0).reqs ++ (s.wport 1).reqs).any fun r => decide (r.who = .deliver tag)

/-- A delivery's companion write was acknowledged: the transfer completes with the last one (R142). -/
def State.deliverAcked (s : State) (tag : Nat) : State :=
  if s.deliverWaits tag then s
  else match s.fab.trans.find? (fun t => t.tag == tag && t.waitW) with
    | some t => s.completeLocal t
    | none => s

/-- The local delivery of an entry whose flows are in and written or added: the count; a delivery not made here is
reported lost. -/
def State.finishLocal (s : State) (t : ArmedTr) : State :=
  if t.localDone || !(t.a.isDone && (!enJoin t.entry || t.b.isDone)) then s.settle t
  else if t.noLocal then
    let t := { t with localDone := true, lost := true }
    (s.setTr t).settle t
  else if s.deliverWaits t.tag then s.setTr { t with waitW := true }
  else s.completeLocal t

/-- A fenced module discards what it would deliver, from this flit on; the transfer is counted once (R280). -/
def State.fenceLocal (s : State) (t : ArmedTr) : State × ArmedTr :=
  if t.delivers && s.flag TOPO_FENCE_fenced then (s.count TOPO_FENCE_CNT_count 1, { t with noLocal := true })
  else (s, t)

/-- The checks a delivery to `path`, at width `w`, is put to at its first flit: a fenced module and R219. -/
def State.startLocal (s : State) (t : ArmedTr) (path w : Nat) (void : Bool) : State × ArmedTr :=
  if !enLocal t.entry then (s, { t with localDone := true })
  else if s.flag TOPO_FENCE_fenced then s.fenceLocal t
  else if s.destBad t.entry path w void then
    ((s.count FAB_DISCARD_CNT_overrun 1).raise 0x4020 0 t.tag 0, { t with noLocal := true })
  else (s, t)

/-- A copy or bundle flit is written as it arrives. -/
def State.writeFlit (s : State) (t : ArmedTr) (f : RawFlit) : State :=
  if t.delivers && f.form != 2 && f.W == 0 then
    s.deliverBytes t.tag (pathDest (s.pathEntry f.path) + 256 * f.index) f.payload
  else s

/-! ### Joins (R214 to R216) -/

/-- The forms of the two operands once both have begun. -/
def ArmedTr.forms (t : ArmedTr) : Option (RawFlit × RawFlit) :=
  match t.a.first, t.b.first with
  | some x, some y => some (x, y)
  | _, _ => none

/-- Entries that hold the sum of one block of each operand. -/
def sumBlock (u v : Unpacked) : List AccEntry :=
  (List.range 32).map fun j => v.addTo j (u.addTo j {})

/-- Whether block `b` of a flow announces an escape in its in-place form. -/
def FlowSt.escapes0 (f : FlowSt) (b : Nat) : Bool :=
  match f.first with
  | some x => (match f.mainBlock x.W b with | some u => u.announces | none => false)
  | none => false

/-- The repacked sum of block `b`, once both operands hold it; a block that escaped in either escapes (R215). -/
def ArmedTr.sumAt (t : ArmedTr) (nb b left : Nat) : Option Packed :=
  match t.a.block nb b, t.b.block nb b with
  | some u, some v =>
    some (packBlock (sumBlock u v) (enW t.entry) (some left) (t.a.escapes0 b || t.b.escapes0 b))
  | _, _ => none

/-- The repacked sums of `n` blocks from block `b` on, up to the first that is not in, with `left` of the escape
reserve unused (R65). -/
def ArmedTr.sumsFrom (t : ArmedTr) (nb : Nat) : Nat → Nat → Nat → List Packed
  | 0, _, _ => []
  | n + 1, b, left =>
    match t.sumAt nb b left with
    | none => []
    | some p => p :: t.sumsFrom nb n (b + 1) (left - b2n p.esc.isSome)

/-- Every block of the result in escaped form. -/
def ArmedTr.overBlock (t : ArmedTr) (nb b : Nat) : List Byte :=
  let u := (t.a.block nb b).getD { bad := true }
  let v := (t.b.block nb b).getD { bad := true }
  let es := sumBlock u v
  let mask := es.foldr (fun e acc => b2n e.inv + 2 * acc) 0
  leBytes 776 (blockHeader 192 true (es.any (·.ovf)) (es.any (·.under)) (es.any (·.inv)) false + mask * 2 ^ 32
    + fieldBits 192 (es.map (·.a)) * 2 ^ 64)

/-- The bytes of all `l` packed blocks, in place. -/
def mainBytes (l : List Packed) : List Byte := l.flatMap (·.main)

/-- Payload `k` of a normal result of blocks `ps`, `nb` in all, and whether it is its last main flit, with e; none
while it is not ready. -/
def resultFlit (w nb : Nat) (ps : List Packed) (k : Nat) : Option (List Byte × Bool × Nat) :=
  let bl := blockLenOf w
  let mains := mainFlits nb w
  let whole := decide (nb ≤ ps.length)
  let esc := ps.filterMap (·.esc)
  if k + 1 < mains then
    let b0 := 256 * k / bl
    let b1 := min ((256 * k + 255) / bl) (nb - 1)
    if b1 < ps.length then
      some (((mainBytes ((ps.drop b0).take (b1 - b0 + 1))).drop (256 * k - b0 * bl)).take 256, false, 0)
    else none
  else if !whole then none
  else if k + 1 = mains then some (((mainBytes ps).drop (256 * k)).take 256, true, esc.length)
  else some ((esc.flatten.drop (256 * (k - mains))).take 256, false, 0)

/-- The number of flits of a normal result, once every block is known. -/
def resultLen (w nb : Nat) (ps : List Packed) : Option Nat :=
  if nb ≤ ps.length then some (mainFlits nb w + ceilDiv (776 * (ps.filterMap (·.esc)).length) 256) else none

/-- Flit `k` of a result, queued on every out-port; `at0` is the tick at which it became ready. It is late from its
first flit that is not ready by its slot, or has none planned, on (R216). -/
def State.joinOut (s : State) (t : ArmedTr) (x : RawFlit) (form k at0 e : Nat) (last : Bool) (bs : List Byte) :
    State × ArmedTr :=
  let slot := t.due + 48 + k * pathSpacing (s.pathEntry x.path)
  let late := t.lateOut || decide (slot < at0) || decide (enLength t.entry + ceilDiv (776 * enR t.entry) 256 ≤ k)
  let g := mkSFlit x.slice t.tag x.path ((x.hop + 1) % 16) k form x.ac (enW t.entry) (enR t.entry) e last bs
  let s := (outPorts t.entry).foldl (fun u q =>
    u.queueOut q { flit := g, slot := slot, late := late, ready := at0, claim := claimOf slot 0 }) s
  (s, { t with outFlits := k + 1, lateOut := late })

/-- Normal result flits from the next one on, as far as they are ready. -/
def State.joinStream (s : State) (t : ArmedTr) (x : RawFlit) (nb : Nat) (ps : List Packed) (at0 : Nat) :
    Nat → State × ArmedTr
  | 0 => (s, t)
  | n + 1 =>
    if resultLen (enW t.entry) nb ps = some t.outFlits then (s, t)
    else match resultFlit (enW t.entry) nb ps t.outFlits with
      | none => (s, t)
      | some (bs, last, e) =>
        let (s, t) := s.joinOut t x 0 t.outFlits at0 e last bs
        s.joinStream t x nb ps at0 n

/-- A result in overflow form: all blocks in escaped form. -/
def State.joinOverflow (s : State) (t : ArmedTr) (x : RawFlit) (at0 : Nat) (bs : List Byte) : State × ArmedTr :=
  let n := ceilDiv bs.length 256
  let (s, t) := (List.range n).foldl (fun (acc : State × ArmedTr) k =>
    acc.1.joinOut acc.2 x 1 k at0 0 (k + 1 == n) ((bs.drop (256 * k)).take 256)) (s, t)
  (s.count FAB_RED_STAT_overflow 1, t)

/-- Malformed blocks of either operand record 0x1030 (R66). -/
def State.joinFaults (s : State) (t : ArmedTr) (nb : Nat) : State :=
  iter nb (fun b u =>
    let bad (f : FlowSt) : Bool := match f.block nb b with | some v => v.bad | none => false
    let u := if bad t.a then u.raise 0x1030 (unitRu (t.ru.getD 0)) t.tag 0 else u
    if bad t.b then u.raise 0x1030 (unitRu (t.ru.getD 0)) t.tag 0 else u) s

/-- The unit of a join that delivers only here is freed with its last addition (R216). -/
def State.joinEnd (s : State) (t : ArmedTr) : State :=
  let t := { t with allOut := true, ru := if enMask t.entry = 0 then none else t.ru }
  let s := s.count FAB_RED_STAT_joins 1
  (s.setTr t).finishLocal t

/-- A join whose operands have both begun goes on: result flits are queued as they become ready (R215, R216). -/
def State.joinStep (s : State) (t : ArmedTr) (at0 : Nat) : State :=
  match t.forms with
  | none => s
  | some (x, y) =>
    let nb := pathNb (s.pathEntry x.path)
    let whole := t.a.isDone && t.b.isDone
    if t.allOut then s
    else if enMask t.entry = 0 then
      if !whole then s
      else if x.form = 2 ∨ y.form = 2 then
        let s := if x.form = y.form then s else s.raise 0x4012 (unitRu (t.ru.getD 0)) t.tag 0
        s.joinEnd t
      else (s.joinFaults t nb).joinEnd t
    else if x.form = 0 ∧ y.form = 0 then
      let ps := t.sumsFrom nb nb 0 (enR t.entry)
      let (s, t) := s.joinStream t x nb ps at0 (mainFlits nb (enW t.entry) + 4 * nb + 8)
      let s := s.setTr t
      if whole && resultLen (enW t.entry) nb ps == some t.outFlits then
        let s := iter (ps.filter (·.deferred)).length (fun _ u => u.raiseHold t.tag) s
        (s.joinFaults t nb).joinEnd t
      else s
    else if !whole then s
    else if x.form = 2 ∧ y.form = 2 then
      let (s, t) := s.joinOut t x 2 0 at0 0 true []
      (s.setTr t).joinEnd t
    else if x.form = 2 ∨ y.form = 2 then
      let one := leBytes 776 (blockHeader 192 true false false true false + (2 ^ 32 - 1) * 2 ^ 32)
      let s := s.raise 0x4012 (unitRu (t.ru.getD 0)) t.tag 0
      let (s, t) := s.joinOverflow t x at0 ((List.replicate nb one).flatten)
      (s.setTr t).joinEnd t
    else
      let s := s.joinFaults t nb
      let (s, t) := s.joinOverflow t x at0 ((List.range nb).flatMap (t.overBlock nb))
      (s.setTr t).joinEnd t

/-! ### Taking a flit (R211) -/

/-- The pool entry of a flit that leaves copies: freed with the last one; at once where there is none (R243). -/
def State.poolTake (s : State) (p id n : Nat) : State :=
  if 31 ≤ p then s
  else if n = 0 then s.poolFree p id
  else
    let go (e : PoolFlit) : PoolFlit := { e with waiting := false, copies := n }
    s.modPort p fun q => { q with pool := updFirst (fun e => e.id == id) go q.pool }

/-- A flit of an entry without join. -/
def State.plainFlit (s : State) (t : ArmedTr) (p id at0 : Nat) (f : RawFlit) : State :=
  let fresh := t.a.first.isNone
  let t := { t with slice := f.slice, a := t.a.take f at0 (enLocal t.entry && f.W != 0) }
  let (s, t) := if fresh then
      s.startLocal { t with waitDone := outPorts t.entry } f.path f.W (f.form == 2)
    else s.fenceLocal t
  let s := (s.poolTake p id (outPorts t.entry).length).forward t p id at0 f
  let (s, t) := (s.writeFlit t f).deliverReduce t
  let t := { t with allOut := t.a.isDone }
  let s := s.setTr t
  if t.a.isDone then s.finishLocal t else s

/-- A flit of an operand of a join: held in the join buffer (R216). The checks of R214 are made on the first flit of
each operand, those that compare the operands with the second of the two. -/
def State.joinFlit (s : State) (t : ArmedTr) (isB : Bool) (p id at0 : Nat) (f : RawFlit) : State :=
  let both := t.forms.isSome
  let fresh := (if isB then t.b.first else t.a.first).isNone
  let t := { t with slice := f.slice, waitDone := if both then t.waitDone else outPorts t.entry }
  let t := if isB then { t with b := t.b.take f at0 true } else { t with a := t.a.take f at0 true }
  let s := s.poolTake p id 0
  let pairBad := match t.forms with | some (x, y) => !both && s.joinBad t.entry x y | none => false
  if (fresh && s.operandBad t.entry isB f) || pairBad then
    let (s, t) := s.failFlow t 0x4012 (unitRu (t.ru.getD 0))
    s.settle t
  else match t.forms with
    | none => s.setTr t
    | some (x, y) =>
      let (s, t) := if both then s.fenceLocal t else s.startLocal t x.path x.W (x.form == 2 && y.form == 2)
      let (s, t) := s.deliverJoin t
      (s.setTr t).joinStep t at0

/-- A flit is taken by its entry. -/
def State.takeBy (s : State) (t : ArmedTr) (isB : Bool) (p id at0 : Nat) (f : RawFlit) : State :=
  let pe := s.pathEntry f.path
  let wrong := !enJoin t.entry && (f.W != enW t.entry || f.r != enR t.entry)
  if t.bad then s.badFlit t isB p id at0 f
  else if wrong || routeBad t.entry pe f then
    let (s, t) := s.failFlow { t with slice := f.slice } 0x4011 (if p < 31 then unitPort p else 0)
    s.badFlit t isB p id at0 f
  else if enJoin t.entry then s.joinFlit t isB p id at0 f
  else s.plainFlit t p id at0 f

/-- A flit that arrives at tick `at0` on in-port `p` (31: this module's own): none where no entry takes it yet. -/
def State.takeFlit (s : State) (p id at0 : Nat) (f : RawFlit) : Option State :=
  match s.findTr p f.tag with
  | some (t, isB) => some (s.takeBy t isB p id at0 f)
  | none => if s.fab.abandoned.contains (p, f.tag) then some (s.dropFlit p id) else none

/-! ### Waiting flits -/

/-- Every waiting S flit of an in-port is tried against the armed entries, in order of arrival. -/
def State.examine (s : State) (p : Nat) : State :=
  if p < 31 then
    (s.port p).pool.foldl (fun t e =>
      if e.waiting && e.flit.cls == 0 then (t.takeFlit p e.id e.at0 e.flit).getD t else t) s
  else
    s.fab.own.foldl (fun t e =>
      match t.takeFlit 31 0 e.1 e.2 with
      | some t => t
      | none => t.modFab fun f => { f with own := f.own ++ [e] }) (s.modFab fun f => { f with own := [] })

/-- The first S flit of an in-port that an armed entry takes. -/
def State.receiveS (s : State) (p : Nat) : State :=
  match (s.port p).pool.findSome? (fun e =>
      if e.waiting && e.flit.cls == 0 then s.takeFlit p e.id e.at0 e.flit else none) with
  | some t => t
  | none => s

/-- An escape flit of a transfer whose last main flit was discarded is discarded too; the last one announced returns
DONE with lost set. -/
def State.dropEscape (s : State) (o : Orphan) : State :=
  let hit (u : Orphan) : Bool := u.port == o.port && u.tag == o.tag
  if o.left ≤ 1 then
    (s.modFab fun f => { f with orphans := f.orphans.eraseP hit }).doneUp o.port o.slice o.tag true
  else s.modFab fun f => { f with orphans := updFirst hit (fun u => { u with left := u.left - 1 }) f.orphans }

/-- A flit that found no entry by the boundary is discarded (R211). With the transfer's last main flit, and every escape
flit that it announced, DONE with lost set goes back (R220). -/
def State.dropLate (s : State) (p id : Nat) (f : RawFlit) : State :=
  let s := (s.dropFlit p id).raise 0x4010 (if p < 31 then unitPort p else 0) f.tag 0
  match s.fab.orphans.find? fun o => o.port == p && o.tag == f.tag && decide (o.mains ≤ f.index) with
  | some o => s.dropEscape o
  | none =>
    if !f.last then s
    else if escFlits f = 0 then s.doneUp p f.slice f.tag true
    else
      let o : Orphan := { port := p, tag := f.tag, slice := f.slice, mains := f.index + 1, left := escFlits f }
      s.modFab fun b => { b with orphans := b.orphans ++ [o] }

/-- The flits that arrived before the boundary that began this frame and found no entry are discarded (R211). -/
def State.dropUntaken (s : State) (p : Nat) : State :=
  let edge := s.frame * 65536
  if p < 31 then
    (s.port p).pool.foldl (fun t e =>
      if e.waiting && e.flit.cls == 0 && decide (e.at0 < edge) then t.dropLate p e.id e.flit else t) s
  else
    (s.fab.own.filter fun e => decide (e.1 < edge)).foldl (fun t e => t.dropLate p 0 e.2)
      (s.modFab fun f => { f with own := f.own.filter fun e => !decide (e.1 < edge) })

/-! ### DONE received (R220) -/

/-- A DONE symbol: an out-port of a transit entry is done, or a transfer of this module is. -/
def State.doneHear (s : State) (p : Nat) : State :=
  match s.popSymbol p 1 with
  | none => s
  | some (y, s) =>
    let tag := leField y 4 3
    let lost := bit (leField y 1 1) 0
    match s.fab.trans.find? (fun t => t.tag == tag && t.waitDone.contains p) with
    | some t =>
      let t := { t with waitDone := t.waitDone.filter (· != p), lost := t.lost || lost }
      (s.setTr t).settle t
    | none => s.modFab fun f => { f with flights := f.flights.eraseP fun e => e.tag == tag && !e.own }

/-- The last flit of a join's result has left on the wire: its unit is free (R216). -/
def State.freeUnit (s : State) (tag : Nat) : State :=
  let waits := (List.range 31).any fun p => (s.port p).txS.any fun o => o.flit.tag == tag && o.rank == 0
  match s.fab.trans.find? (fun t => t.tag == tag && t.ru.isSome && t.allOut) with
  | some t => if waits then s else
      let t := { t with ru := none }
      (s.setTr t).settle t
  | none => s

/-! ### The commands -/

def execSFlitReceive (port : Port) (s : State) : Out := .next (s.receiveS port)
def execDoneSymbol (port : Port) (s : State) : Out := .next (s.doneHear port)

end Sys2Proof.Machine
end

