-- ==== Sys2Proof/Machine/Depart.lean ====
section
/-! DEFINITION. The dispatch engines and departures: reading and arming entries (R194, R195, R199 to R201), sources and
readiness (R204 to R206), planned, late, void and overflow transfers (R180, R181, R184, R207 to R210), bundles
(R221 to R224), the path table (R202, R203, R463) and what the line sends (R238). -/

namespace Sys2Proof.Machine

/-! ### Due ticks (R200) -/

/-- SLIPs applied or received for boundaries up to the frame in which schedule frame `sf` runs. -/
def State.slipsBefore (s : State) (sf : Nat) : Nat := (s.time.slipAt.filter (· ≤ sf)).length

/-- The frame in which schedule frame `sf` runs. -/
def State.frameOf (s : State) (sf : Nat) : Nat :=
  let base := s.fld TIME_JOB_START_frame + sf + s.slipsBefore sf
  s.time.orders.foldl (fun f o => if !o.2.1 && decide (o.1 ≤ f) then f + 1 else f) base

/-- The due tick of entry `en` of schedule frame `sf`. Transit for another slice goes on its own plan, which this slice's
SLIPs do not move (R184). -/
def State.dueOf (s : State) (sf en : Nat) : Nat :=
  (if s.forOther en then s.fld TIME_JOB_START_frame + sf else s.frameOf sf) * 65536 + enTick en

/-! ### Engines (R195, R199) -/

def State.dxOn (s : State) (e : Nat) : Bool := bit (s.fld FAB_DISPATCH_CTL_enable) e && !(s.dx e).stopped

/-- The device address of table entry `i`, and its place in the depot window of engine `e` (R194, R317). -/
def tableAddr (i : Nat) : Nat := 0x005FE0000000 + 16 * i
def State.windowAddr (s : State) (e i : Nat) : Nat :=
  0x030000000000 + s.fld MEM_DEPOT_PART_sched_base * 2 ^ 20 + 65536 * e + 16 * (i % 4096)

/-- A poisoned entry, of device `d`, is not acted on (R314). -/
def State.dxPoison (s : State) (e d : Nat) : State :=
  (s.setFld (FAB_DX_STAT_err e) 1).raiseStop 0x6021 (unitDx e) 0 d

/-- Entry `i` joins the engine's queue; after an END nothing more is read. -/
def State.dxQueue (s : State) (e i en : Nat) : State :=
  let d := s.dx e
  s.setDx e { d with queue := d.queue ++ [(i, en)], sawEnd := enClass en == 2 && bits en 28 2 == 2 }

/-- Entry `i` is read from its place in the window. -/
def State.dxWindow (s : State) (e i w : Nat) (ecc : Ecc) : State :=
  match s.memGet w 16 0 ecc with
  | (t, .data bs) => t.dxQueue e i (leNat bs)
  | (t, .poison d) => t.dxPoison e d
  | (t, .down) => t

/-- The engine reads its next entry through its window. -/
def State.dxRead (s : State) (e : Nat) (ecc : Ecc) : State :=
  let d := s.dx e
  if !s.dxOn e || d.sawEnd || 256 ≤ d.queue.length then s
  else
    let i := s.fld (FAB_DX_POS_index e)
    let s := s.setFld (FAB_DX_POS_index e) ((i + 1) % 2 ^ 25)
    let w := s.windowAddr e i
    match s.memGet (tableAddr i) 16 0 ecc with
    | (t, .data bs) => (t.memPut w 0 bs).dxWindow e i w (eccFrom 1 ecc)
    | (t, .poison d) => t.dxPoison e d
    | (t, .down) => t

/-- An engine starts from its base. -/
def State.dxStart (s : State) (e : Nat) : State :=
  ((s.setDx e {}).setFld (FAB_DX_POS_index e) (s.fld (FAB_DX_BASE_index e))).setFld (FAB_DX_STAT_done e) 0

/-- FAB_DISPATCH_CTL is written; while a bulk path load runs no bit is set (R463). -/
def State.dispatchCtl (s : State) (v : Nat) : State :=
  let old := s.fld FAB_DISPATCH_CTL_enable
  let new := v % 65536
  let keep := if s.fab.pathLoad.isSome then new &&& old else new
  let s := if keep ≠ new then s.raise 0x4003 0 0 0 else s
  let s := iter 16 (fun e t => if bit keep e && !bit old e then t.dxStart e else t) s
  s.setFld FAB_DISPATCH_CTL_enable keep

/-- The head entry of a running engine. -/
def State.dxHead (s : State) (e : Nat) : Option (Nat × Nat) := if s.dxOn e then (s.dx e).queue.head? else none

def State.dxPop (s : State) (e : Nat) : State :=
  let d := s.dx e
  s.setDx e { d with queue := d.queue.tail }

/-- An entry that fails R201 is not acted on. -/
def State.dxRefuse (s : State) (e en : Nat) : State :=
  (s.setFld (FAB_DX_STAT_err e) 1).raise 0x4001 (unitDx e) (enTag en) 0

/-! ### Marks (R199) -/

def markKind (en : Nat) : Nat := bits en 28 2

/-- A mark's tick, length, tag, flags and reserved field must be 0 (R198). R201 names no refusal for a nonzero tick,
length or tag of a mark; the model takes each for a nonzero reserved field (DESIGN CHOICE, log entry 95). -/
def markBad (en : Nat) : Bool := bits en 0 28 != 0 || bits en 71 33 != 0 || bits en 106 22 != 0

/-- The head entry if it is a mark of a kind; it leaves the queue, refused where it is malformed. -/
def State.takeMark (s : State) (e kind : Nat) : Option (Nat × State) :=
  match s.dxHead e with
  | some (_, en) =>
    if enClass en = 2 ∧ markKind en = kind then
      let s := s.dxPop e
      if markBad en then some (0, s.dxRefuse e en) else some (en, s)
    else none
  | none => none

def State.markFrame (s : State) (e : Nat) : State :=
  match s.takeMark e 0 with
  | some (en, s) =>
    if en = 0 then s
    else
      let d := s.dx e
      s.setDx e { d with frame := d.frame + max (bits en 55 16) 1 }
  | none => s

/-- The engine goes on at `target`: what was queued after the jump is discarded. -/
def State.jumpTo (s : State) (e target : Nat) : State :=
  let d := s.dx e
  (s.setDx e { d with queue := [], sawEnd := false }).setFld (FAB_DX_POS_index e) target

def State.markJump (s : State) (e : Nat) : State :=
  match s.takeMark e 1 with
  | some (en, s) =>
    if en = 0 then s
    else
      let target := bits en 30 25
      let count := bits en 55 16
      if count = 0 then s.jumpTo e target
      else
        let d := s.dx e
        let lc := if d.active then d.lc else count - 1
        if 0 < lc then (s.setDx e { d with lc := lc - 1, active := true }).jumpTo e target
        else s.setDx e { d with lc := lc, active := false }
  | none => s

def State.markEnd (s : State) (e : Nat) : State :=
  match s.takeMark e 2 with
  | some (en, s) =>
    if en = 0 then s
    else
      let d := s.dx e
      (s.setDx e { d with stopped := true }).setFld (FAB_DX_STAT_done e) 1
  | none => s

/-! ### Sources (R204) -/

def State.srcAddr (s : State) (en : Nat) : Nat := s.fld FAB_SRC_WIN_base * 2 ^ 31 + enSrc en % 2 ^ 23 * 256

/-- Whether a departure's source range fails R204. -/
def State.srcBad (s : State) (en : Nat) : Bool :=
  if srcDevice en then
    enReduce en || (s.within (s.srcAddr en) (enLength en * 256)).isNone
  else
    bits (enSrc en) 16 7 != 0 || decide (65536 < srcUnit en + enLength en + (if enReduce en then escUnits (enR en) else 0))
      || (enReduce en && enLength en != mainFlits (pathNb (s.pathEntry (enPath en))) (enW en))

/-! ### Arming (R200, R201) -/

/-- Whether an entry fails the checks of R201. -/
def State.entryBad (s : State) (en : Nat) : Bool :=
  let c := enClass en
  let pe := s.pathEntry (enPath en)
  let goes := c == 0 || c == 3
  let armed := s.fab.deps.any fun d => d.tag == enTag en
  c == 2 || bit en 127
    || (c == 0 && (enGuard en == 3 || enMulti en))
    || (c == 1 && (enGuard en != 0 || enKeep en || bits en 71 9 != 0))
    || (c == 3 && (enGuard en != 0 || enKeep en || enMulti en || bits en 66 14 != 0))
    || (enReduce en && (enW en == 0 || decide (192 < enW en)))
    || (!enReduce en && (enW en != 0 || enR en != 0))
    || (c == 1 && enMulti en != decide (2 ≤ (outPorts en).length + b2n (enLocal en)))
    || (c == 1 && (enIn en == 31 || (enJoin en && enJoinPort en == 31)) && !armed)
    || (goes && pathSpacing pe == 2 && decide (15 ≤ pathHop pe 0 ∧ pathHop pe 0 ≤ 30))
    || (goes && enTick en % pathSpacing pe != 0)
    || (c == 0 && s.srcBad en)
    || (goes && !pathValid pe)

/-- Whether this module may send departures at all: not while its slice is stopped (R410), and not while it is
fenced, but for slice 0 (R280). -/
def State.mayDepart (s : State) : Bool :=
  s.fld TOPO_SLICE_state != 2 && (!s.flag TOPO_FENCE_fenced || s.fld TOPO_SLICE_id == 0)

/-- A departure or bundle entry is armed; a stopped slice's is discarded unsent (R410). -/
def State.armDeparture (s : State) (e idx en sf due : Nat) : State :=
  if s.fld TOPO_SLICE_state = 2 then s
  else
    let d : ArmedDep := { tag := enTag en, entry := en, dx := e, idx := idx, due := due, frame := sf }
    let s := s.modFab fun f => { f with deps := f.deps ++ [d] }
    if enClass en = 3 then
      s.modFab fun f => { f with bqSlots := smSet (fun _ => 0) f.bqSlots (enBundle en) (enLength en) }
    else if srcDevice en && inCompanion (s.srcAddr en) then
      (s.fetch (.source e idx) (s.srcAddr en) (enLength en * 256) (enTag en) .clean).1
    else s

/-- The least reduce unit that no entry holds (R216). -/
def State.freeRu (s : State) : Option Nat :=
  (List.range 8).find? fun n => !(s.fab.trans.any fun t => t.ru == some n)

/-- A transit entry is armed; a join claims a unit or is not acted on (R216). -/
def State.armTransit (s : State) (e en due : Nat) : State :=
  let ru := if enJoin en then s.freeRu else none
  if enJoin en && ru.isNone then s.raise 0x4013 (unitDx e) (enTag en) 0
  else
    let t : ArmedTr := { tag := enTag en, entry := en, dx := e, due := due, frame := due / 65536, ru := ru,
                         num := s.fab.nextTr }
    let s := s.modFab fun f => { f with trans := f.trans ++ [t], nextTr := f.nextTr + 1 }
    let s := s.setIf (enMulti en) TOPO_SLICE_branch_seen 1
    let s := s.examine (enIn en)
    if enJoin en then s.examine (enJoinPort en) else s

/-- An entry: its engine, its index and its 128 bits. -/
abbrev DxEntry := Nat × Nat × Nat

/-- The entries at the head of engine `e`'s queue that are to be armed by now: as far as the first mark, and the first
whose due tick less 256 is still to come. -/
def State.armable (s : State) (e : Nat) : List DxEntry :=
  if s.dxOn e then
    ((s.dx e).queue.takeWhile fun q =>
      enClass q.2 != 2 && decide (s.dueOf (s.dx e).frame q.2 ≤ s.time.tick + 256)).map fun q => (e, q)
  else []

/-- An entry leaves its queue to be armed; a due tick below the one before it is recorded. -/
def State.takeOff (s : State) (x : DxEntry) : State :=
  let (e, idx, en) := x
  let d := s.dx e
  let due := s.dueOf d.frame en
  let n := if d.aheadAt = s.time.tick then d.ahead else 0
  let back := match d.lastDue with | some l => decide (due < l) | none => false
  let s := s.setDx e { d with queue := d.queue.erase (idx, en), lastDue := some due, ahead := n + 1
                              aheadAt := s.time.tick }
  if back then s.raise 0x4002 (unitDx e) (enTag en) 0 else s

/-- One entry is checked and armed. -/
def State.armEntry (s : State) (x : DxEntry) : State :=
  let (e, idx, en) := x
  let sf := (s.dx e).frame
  if s.entryBad en then s.dxRefuse e en
  else if enClass en = 1 then s.armTransit e en (s.dueOf sf en)
  else s.armDeparture e idx en sf (s.dueOf sf en)

/-- What is armed in this tick: the departure and bundle entries of every engine, in engine order, and then the transit
entries, in engine order. -/
def State.armTick (s : State) : State :=
  let l := (List.range 16).flatMap s.armable
  let s := l.foldl State.takeOff s
  let s := (l.filter fun x => enClass x.2.2 != 1).foldl State.armEntry s
  (l.filter fun x => enClass x.2.2 == 1).foldl State.armEntry s

/-- The engine removes its head entry at its due tick less 256 and arms it. Every engine's entries of that tick are armed
with it, so that R200's order holds; the commands that bring those entries in the same tick then find them armed
(log entry 100). -/
def State.entryArm (s : State) (e : Nat) : State :=
  let d := s.dx e
  if d.aheadAt = s.time.tick ∧ 0 < d.ahead then s.setDx e { d with ahead := d.ahead - 1 }
  else match s.dxHead e with
    | none => s
    | some (_, en) =>
      if enClass en = 2 then (if markKind en = 3 then (s.dxPop e).dxRefuse e en else s)
      else
        let s := (s.toTick (s.dueOf d.frame en - 256)).armTick
        s.setDx e { s.dx e with ahead := (s.dx e).ahead - 1 }

/-! ### Readiness (R206) -/

/-- Every unit in `[u, u + n)` is filled. -/
def State.allFilled (s : State) (u n : Nat) : Bool := (List.range n).all fun k => s.filled (u + k)

/-- The source of a departure: ready, with its bytes; not ready; or poisoned. -/
inductive Source where
  | ready (bs : List Byte)
  | waits
  | poison (dev : Nat)
  deriving DecidableEq, Repr

/-- What a departure's source holds now (R204, R206, R314). -/
def State.source (s : State) (d : ArmedDep) (ecc : Ecc) : State × Source :=
  let en := d.entry
  let n := enLength en
  if srcDevice en then
    match s.fetch (.source d.dx d.idx) (s.srcAddr en) (256 * n) d.tag ecc with
    | (t, .got (.data bs)) => (t, .ready bs)
    | (t, .got (.poison dev)) => (t, .poison dev)
    | (t, _) => (t, .waits)
  else
    let u := srcUnit en
    let esc := escUnits (s.escTally en)
    if s.allFilled u (n + esc) then (s, .ready (s.stageRead (256 * u) (256 * (n + esc)))) else (s, .waits)

/-- The conditions of R206 beside the source. -/
def State.depMay (s : State) (d : ArmedDep) : Bool :=
  (enGuard d.entry == 0 || enClass d.entry == 3 || s.flag FAB_DISPATCH_STAT_guard_valid)
    && decide (s.fab.flights.length < 32768) && (enClass d.entry != 3 || s.fab.bqClosed)

/-! ### HOLD for late transfers (R181) -/

/-- The first port of a departure: 31 for a tree path. -/
def State.depPort (s : State) (d : ArmedDep) : Nat := pathHop (s.pathEntry (enPath d.entry)) 0

/-- The first links of a departure: those of its path, or of the transit entry that takes a tree path's flits here. -/
def State.depLinks (s : State) (d : ArmedDep) : List Nat :=
  if s.depPort d < 31 then [s.depPort d]
  else (s.fab.trans.filter fun t => t.tag == d.tag
      && (enIn t.entry == 31 || (enJoin t.entry && enJoinPort t.entry == 31))).flatMap fun t => outPorts t.entry

/-- Flits a departure not yet sent will need. -/
def State.depFlits (s : State) (d : ArmedDep) : Nat :=
  let en := d.entry
  if d.overflow then escUnits (pathNb (s.pathEntry (enPath en)))
  else enLength en + (if enClass en = 0 then escUnits (s.escTally en) else 0)

/-- A late departure that waits to be sent. -/
def ArmedDep.isLate (d : ArmedDep) : Bool := d.late && !d.sent && !d.overflow

/-- A transfer that is late, counted until its last flit has left: not ready in time, contested, or held for an overflow
frame (R180, R208, R210, R228). -/
def ArmedDep.lateNow (d : ArmedDep) : Bool := d.late || d.contested || d.overflow

/-- Whether an armed transit entry is one of a running slice: of another slice, which the module does not see stop, or
of this module's own while its state is 1 (R283). -/
def State.liveTransit (s : State) (t : ArmedTr) : Bool :=
  s.forOther t.entry || (t.slice != 0 && t.slice != s.fld TOPO_SLICE_id) || s.fld TOPO_SLICE_state == 1

/-- A departure that waits to be sent late now: in a slip frame also one held for an overflow frame (R210). -/
def State.waitsLate (s : State) (d : ArmedDep) : Bool :=
  d.isLate || (d.overflow && !d.sent && s.time.slipFrame)

/-- Slots of port `p` left in the frame that late flits of slice `slice` may take. -/
def State.lateSlots (s : State) (p slice : Nat) : Nat :=
  let w := slotTicks p
  let k0 := ceilDiv s.inFrame w
  let base := s.frame * 65536
  let taken (k : Nat) : Bool := (s.port p).txS.any fun o => !o.late && o.slot == base + k * w
  ((List.range (65536 / w - k0)).filter fun j =>
    !taken (k0 + j) && (s.recovery p (k0 + j) || (s.time.slipFrame && s.slotOpen p slice (k0 + j)))).length

/-- HOLD where the late transfers on a link need more flits than slots are left: once per link per frame. -/
def State.checkHold (s : State) (p : Nat) : State :=
  if 31 ≤ p || s.time.holdLinks.contains p then s
  else
    let mine := s.fab.deps.filter fun d => s.waitsLate d && (s.depLinks d).contains p
    let lates := (s.port p).txS.filter (·.late)
    let need := lates.length + (mine.map s.depFlits).foldl (· + ·) 0
    if need = 0 then s
    else if s.lateSlots p (s.fld TOPO_SLICE_id) < need then
      -- the first by departure tick or planned tick
      let who := mine.map (fun d => (claimOf d.due d.idx, d.tag)) ++ lates.map (fun o => (o.claim, o.flit.tag))
      let tag := (who.foldl (fun (b : Option (Nat × Nat)) x =>
        match b with | some y => some (if x.1 < y.1 then x else y) | none => some x) none).elim 0 (·.2)
      let s := (s.modTime fun t => { t with holdLinks := p :: t.holdLinks }).raise 0x3020 (unitPort p) tag 0
      s.raiseHold tag
    else s

/-- The check of R181 on every link. The model makes it at each command that can change what is late or moves time through
the frame (log entry 101). -/
def State.checkHolds (s : State) : State := iter 31 (fun p t => t.checkHold p) s

/-- The origin's decision comes at tick 57,344 of the frame (R182), after the HOLDs that the ticks before it call for. -/
def State.slipDecision (s : State) : State := ((s.toTick (s.nextAt 57344 65536)).checkHolds).takeDecision

/-! ### Sending (R207 to R210, R213) -/

def State.setDep (s : State) (d : ArmedDep) : State :=
  s.modFab fun f => { f with deps := updFirst (fun u => u.dx == d.dx && u.idx == d.idx && u.due == d.due)
                               (fun _ => d) f.deps }

/-- A flit to send: index, form, e, last and payload. -/
structure Piece where
  idx : Nat
  form : Nat := 0
  e : Nat := 0
  last : Bool := false
  payload : List Byte
  deriving DecidableEq, Repr

/-- The pieces of a normal transfer: its main flits, then its escape flits. -/
def pieces (main e form : Nat) (bs : List Byte) : List Piece :=
  let n := ceilDiv bs.length 256
  (List.range n).map fun k =>
    { idx := k, form := form, e := if k + 1 = main then e else 0, last := k + 1 == main,
      payload := (bs.drop (256 * k)).take 256 }

/-- The transfer is in flight (R220). -/
def State.flightStart (s : State) (d : ArmedDep) (own : Bool) : State :=
  let s := s.modFab fun f => { f with flights := f.flights ++ [{ tag := d.tag, own := own }] }
  let n := s.fab.flights.length
  s.setIf (decide (s.fld FAB_INFLIGHT_peak < n)) FAB_INFLIGHT_peak n

/-- The flits of a departure leave: planned in their slots, or late; a tree path's enter this module's crossbar. -/
def State.launch (s : State) (d : ArmedDep) (ps : List Piece) (late : Bool) : State :=
  let en := d.entry
  let path := enPath en
  let pe := s.pathEntry path
  let p := pathHop pe 0
  let tree := pathTree pe
  let now := s.time.tick
  let mk (x : Piece) : RawFlit := mkSFlit (s.fld TOPO_SLICE_id) d.tag path (if tree then 0 else 1) x.idx x.form
    (enAc en) (enW en) (enR en) x.e x.last x.payload
  let tick0 := if late then max now d.due else d.due
  let end0 := match ps.getLast? with | some x => x.idx | none => 0
  let d := { d with sent := true, late := d.late || late
                    leftAt := if tree then some (tick0 + end0 * pathSpacing pe) else none }
  let s := ((s.setDep d).flightStart d tree).trace 3 d.tag (unitDx d.dx) 0
  if tree then
    ps.foldl (fun t x =>
      let tk := tick0 + x.idx * pathSpacing pe
      match t.takeFlit 31 0 tk (mk x) with
      | some t => t
      | none => t.modFab fun f => { f with own := f.own ++ [(tk, mk x)] }) s
  else
    ps.foldl (fun t x =>
      let contested := t.fab.deps.any fun u => u.dx == d.dx && u.idx == d.idx && u.due == d.due && u.contested
      t.queueOut p { flit := mk x, slot := if late then d.due else d.due + x.idx * pathSpacing pe,
                     late := late || contested, final := x.idx == end0, rank := d.dx + 1
                     claim := claimOf d.due d.idx }) s

/-- The count flit and the selected records of a bundle (R223). -/
def State.bundlePieces (s : State) (d : ArmedDep) : List Piece :=
  let b := enBundle d.entry
  let recs := s.fab.bqSel.filter fun r => s.fld (FAB_EXPERT_bundle r.1) == b
  let bs := padTo 256 (leBytes 4 recs.length ++ leBytes 4 d.frame) ++ recs.flatMap (·.2)
  pieces (ceilDiv bs.length 256) 0 3 bs

/-- Whether a guarded departure's condition fails (R209). -/
def State.guardFails (s : State) (en : Nat) : Bool :=
  enClass en == 0 && ((enGuard en == 1 && !s.flag FAB_DISPATCH_STAT_guard_value)
    || (enGuard en == 2 && s.flag FAB_DISPATCH_STAT_guard_value))

/-- A transfer in overflow form from its staged blocks (R210). A malformed staged block becomes a block of zeros with every
invalid bit set (DESIGN CHOICE, log entry 97). -/
def overflowBytes (nb w : Nat) (bs : List Byte) : List Byte :=
  let bl := blockLenOf w
  let f := mainFlits nb w * 256
  let us := (List.range nb).map fun b => unpackBlock ((bs.drop (b * bl)).take bl) false
  ((List.range nb).flatMap fun b =>
    let u := us.getD b { bad := true }
    let j := ((us.take b).filter (·.announces)).length
    if u.announces then padTo 776 ((bs.drop (f + 776 * j)).take 776)
    else if u.bad then leBytes 776 (blockHeader 192 true false false true false + (2 ^ 32 - 1) * 2 ^ 32)
    else leBytes 776 (blockHeader 192 true u.ovf u.under false false + fieldBits 192 u.vals * 2 ^ 64))

/-- A departure that is ready leaves: void, held for an overflow frame, or with its data. -/
def State.depSend (s : State) (d : ArmedDep) (bs : List Byte) (late : Bool) : State :=
  let en := d.entry
  if enClass en = 3 then s.launch d (s.bundlePieces d) late
  else if s.guardFails en then s.launch d [{ idx := 0, form := 2, last := true, payload := [] }] late
  else
    let e := s.escTally en
    if enReduce en && Nat.blt (enR en) e then (s.setDep { d with overflow := true }).raiseHold d.tag
    else s.launch d (pieces (enLength en) e 0 bs) late

/-- A departure tries to leave: none where it is not ready. One whose guard fails sends no data and needs no source. -/
def State.depTry (s : State) (d : ArmedDep) (ecc : Ecc) (late : Bool) : State × Bool :=
  let s := s.treeDone
  if !s.depMay d then (s, false)
  else if enClass d.entry = 3 then (s.depSend d [] late, true)
  else if s.guardFails d.entry then (s.depSend d [] late, true)
  else match s.source d ecc with
    | (t, .ready bs) => (t.depSend d bs late, true)
    | (t, .waits) => (t, false)
    | (t, .poison dev) => ((t.dropDep d).raiseStop 0x6021 (unitDx d.dx) d.tag dev, true)

/-- A departure comes due: it leaves if it is ready, else it is late (R180, R206). -/
def State.departureDue (s : State) (e tag : Nat) (ecc : Ecc) : State :=
  match s.fab.deps.find? (fun d => d.dx == e && d.tag == tag && !d.sent && !d.late && !d.overflow) with
  | none => s
  | some d =>
    let ovf := decide (d.due < s.time.tick)
    let s := s.toTick d.due
    if !s.mayDepart then s.dropDep d
    else
      let slow (s : State) : State × ArmedDep :=
        let d := { d with late := true }
        ((s.setDep d).count TIME_LATE_CNT_count 1, d)
      if ovf then
        let (s, d) := slow s
        (s.depTry d ecc true).1.checkHolds
      else match s.depTry d ecc false with
        | (t, true) => t.checkHolds
        | (t, false) => (slow t).1.checkHolds

/-- Departures by their due tick, those of one tick in table order. -/
def insertDue (d : ArmedDep) : List ArmedDep → List ArmedDep
  | [] => [d]
  | a :: l => if claimOf d.due d.idx < claimOf a.due a.idx then d :: a :: l else a :: insertDue d l

/-- The late departure of port `p` with the earliest departure tick that is ready leaves (R180). -/
def State.lateDeparture (s : State) (p : Nat) : State :=
  let sorted := (s.fab.deps.filter fun d => d.isLate && s.depPort d == p).foldl (fun l d => insertDue d l) []
  if !s.mayDepart then s
  else (sorted.foldl (fun (acc : State × Bool) d =>
    if acc.2 then acc else acc.1.depTry d .clean true) (s, false)).1.checkHolds

/-- A transfer held for an overflow frame leaves in a slip frame (R210). -/
def State.overflowSend (s : State) (tag : Nat) : State :=
  match s.fab.deps.find? (fun d => d.tag == tag && d.overflow && !d.sent) with
  | some d =>
    if !s.time.slipFrame || !s.mayDepart || !s.depMay d then s
    else
      let en := d.entry
      let n := enLength en + escUnits (s.escTally en)
      let bs := overflowBytes (pathNb (s.pathEntry (enPath en))) (enW en) (s.stageRead (256 * srcUnit en) (256 * n))
      (s.launch d (pieces (ceilDiv bs.length 256) 0 1 bs) true).checkHolds
  | none => s

/-! ### The token queue (R221, R222, R224) -/

def State.lanes (s : State) : Nat := ringSize (s.fld FAB_BUNDLE_CTL_lanes) 256
def State.recUnits (s : State) : Nat := ringSize (s.fld FAB_BUNDLE_CTL_rec) 16
def State.qbase (s : State) : Nat := s.fld FAB_BUNDLE_AREA_qbase
def State.laneUnits (s : State) : Nat := s.fld FAB_BUNDLE_AREA_lane_units
/-- First unit of the count area, the map area and the defer area. -/
def State.countUnit (s : State) : Nat := s.qbase + s.lanes * s.laneUnits
def State.mapUnit (s : State) : Nat := s.countUnit + 16
def State.deferUnit (s : State) : Nat := s.mapUnit + 16

/-- The records of a lane up to its filled terminator; none where it holds none. -/
def State.laneRecs (s : State) (u left : Nat) : Nat → Option (List (List Byte))
  | 0 => none
  | n + 1 =>
    let r := s.recUnits
    if left < r || !s.allFilled u r then none
    else
      let bs := s.stageRead (256 * u) (256 * r)
      if leField bs 0 4 = 0xFFFFFFFF then some []
      else (s.laneRecs (u + r) (left - r) n).map fun l => bs :: l

/-- Insertion by ascending token index, after equal ones. -/
def insertTok (bs : List Byte) : List (List Byte) → List (List Byte)
  | [] => [bs]
  | a :: l => if leField bs 0 4 < leField a 0 4 then bs :: a :: l else a :: insertTok bs l

def sortTok (l : List (List Byte)) : List (List Byte) := l.foldl (fun acc b => insertTok b acc) []

/-- The expert of a record. -/
def recExpert (bs : List Byte) : Nat := leField bs 4 2 % 1024

/-- Selection: for each expert the first `cap` records; the rest overflow (R222). -/
def State.selectRecs (s : State) (l : List (List Byte)) : List (List Byte) × List (List Byte) :=
  let r := l.foldl (fun (acc : SMap Nat × List (List Byte) × List (List Byte)) b =>
    let e := recExpert b
    let n := smGet (fun _ => 0) acc.1 e
    if n < s.fld (FAB_EXPERT_cap e) then (smSet (fun _ => 0) acc.1 e (n + 1), acc.2.1 ++ [b], acc.2.2)
    else (acc.1, acc.2.1, acc.2.2 ++ [b])) ([], [], [])
  r.2

/-- Overflow records are kept for the next frame as far as the defer area holds them, or dropped. -/
def State.deferRecs (s : State) (ovf : List (List Byte)) : State :=
  if s.flag FAB_BUNDLE_CTL_drop then
    (s.modFab fun f => { f with bqDefer := [] }).count FAB_BUNDLE_STAT_dropped ovf.length
  else
    let keep := ovf.take (s.fld FAB_BUNDLE_AUX_defer_units / s.recUnits)
    let s := s.modFab fun f => { f with bqDefer := keep.map fun b => (recExpert b, b) }
    let s := (s.stageWrite (256 * s.deferUnit) keep.flatten).count FAB_BUNDLE_STAT_deferred keep.length
    let n := ovf.length - keep.length
    if n = 0 then s else (s.count FAB_BUNDLE_STAT_dropped n).raise 0x4041 0 0 0

/-- The token queue closes once every lane holds a filled terminator. -/
def State.bundleClose (s : State) : State :=
  if s.laneUnits = 0 then s
  else
    let ls := (List.range s.lanes).map fun p => s.laneRecs (s.qbase + p * s.laneUnits) s.laneUnits (s.laneUnits + 1)
    if ls.all (·.isSome) then
      let all := sortTok (s.fab.bqDefer.map (·.2)) ++ sortTok (ls.filterMap id).flatten
      let (sel, ovf) := s.selectRecs all
      let s := s.deferRecs ovf
      let count := sel.foldl (fun m b => smSet (fun _ => 0) m (recExpert b) (smGet (fun _ => 0) m (recExpert b) + 1))
        ([] : SMap Nat)
      let s := s.modFab fun f =>
        { f with bqClosed := true, bqSel := sel.map fun b => (recExpert b, b), bqCount := count }
      s.setFill s.qbase (s.lanes * s.laneUnits) false
    else s

/-- The map in the map area: a bundle and a capacity for each expert. -/
def State.mapWords (s : State) : List Nat :=
  let bs := s.stageRead (256 * s.mapUnit) 4096
  (chunks 4 1024 bs).map leNat

/-- Whether a map leaves some bundle short of slots (R223, R224). -/
def State.mapShort (s : State) (ws : List Nat) : Bool :=
  s.fab.bqSlots.any fun b =>
    let caps := (ws.filter fun w => w % 1024 == b.1).map fun w => bits w 16 8
    decide (b.2 < 1 + s.recUnits * caps.foldl (· + ·) 0)

/-- What FD does with the token queue at a frame boundary (R224, R228). -/
def State.bundleBoundary (s : State) : State :=
  let s := s.fab.expertPend.foldl (fun t e => t.setReg (FAB_EXPERT e.1) (BitVec.ofNat 32 e.2)) s
  let s := s.modFab fun f => { f with expertPend := [] }
  if s.laneUnits = 0 then s
  else
    let counts := (List.range 1024).flatMap fun e => leBytes 4 (smGet (fun _ => 0) s.fab.bqCount e)
    let s := s.stageWrite (256 * s.countUnit) counts
    let s := s.modFab fun f => { f with bqCount := [], bqClosed := f.bqClosed && s.time.slipFrame }
    if s.flag FAB_BUNDLE_CTL_balance && s.allFilled s.mapUnit 16 then
      let ws := s.mapWords
      if s.mapShort ws then (s.setFld FAB_BUNDLE_MAPST_refused 1).raise 0x4040 0 0 0
      else
        let s := ws.zipIdx.foldl (fun t w => t.setReg (FAB_EXPERT w.2) (BitVec.ofNat 32 (w.1 &&& 0x00FF03FF))) s
        (s.setFill s.mapUnit 16 false).setFld FAB_BUNDLE_MAPST_committed 1
    else s

/-- FAB_BUNDLE_CTL, FAB_BUNDLE_AREA or FAB_BUNDLE_AUX is written, or refused where an area would not fit (R221). -/
def State.bundleWrite (s : State) (a mask v : Nat) : State :=
  let t := s.setReg a (BitVec.ofNat 32 (v &&& mask))
  if 65536 < t.deferUnit + t.fld FAB_BUNDLE_AUX_defer_units then s.raise 0x4040 0 0 0 else t

/-! ### The path table (R202, R203, R463) -/

/-- FAB_PATH_SEL: the entry is loaded into the window. -/
def State.pathSelect (s : State) (v : Nat) : State :=
  let i := v % 65536
  let e := s.pathEntry i
  iter 8 (fun k t => t.setFld (FAB_PATH_DATA_word k) (bits e (32 * k) 32)) (s.setFld FAB_PATH_SEL_index i)

def State.setPath (s : State) (i e : Nat) : State :=
  s.modFab fun f => { f with path := smSet (fun _ => 0) f.path i e }

/-- A commit or a bulk load that is refused. -/
def State.pathRefuse (s : State) (aux : Nat) : State := (s.setFld FAB_PATH_STAT_refused 1).raise 0x4003 0 0 aux

/-- FAB_PATH_CTL.commit. -/
def State.pathCommit (s : State) : State :=
  if s.fab.pathLoad.isSome then s.pathRefuse 0
  else
    let e := (List.range 8).foldr (fun k acc => (s.reg (FAB_PATH_DATA k)).toNat + 2 ^ 32 * acc) 0
    s.setPath (s.fld FAB_PATH_SEL_index) e

/-- FAB_PATH_CTL.load. -/
def State.pathBulk (s : State) : State :=
  if s.fab.pathLoad.isSome || s.fld FAB_DISPATCH_CTL_enable != 0 then s.pathRefuse 0
  else
    let a := s.fld FAB_PATH_LOAD_addr * 64
    (s.modFab fun f => { f with pathLoad := some a }).setFld FAB_PATH_STAT_loading 1

/-- How many entries of the image at `a` can be read: the region's, up to poison (R463). -/
def State.pathGood (s : State) (a : Nat) (companion : List Byte) : Nat :=
  let fit := match s.region a with
    | some (_, _, hi) => min 65536 ((hi - a) / 32)
    | none => 0
  if inCompanion a then min fit (companion.length / 32)
  else (s.poison.filter fun u => decide (a ≤ u.1 + (unitSize a - 1) ∧ u.1 < a + 2 ^ 21)).foldl
    (fun n u => min n ((u.1 - a) / 32)) fit

/-- The bulk load ends: with its last entry, or at the entry whose read failed. -/
def State.pathLoadDone (s : State) (fail : Option Nat) (companion : List Byte) : State :=
  match s.fab.pathLoad with
  | none => s
  | some a =>
    let n := min (s.pathGood a companion) (fail.getD 65536)
    let bs := if inCompanion a then companion
      else match s.devGet 0 a (32 * n) 0 .clean with
        | (_, .data bs) => bs
        | _ => []
    let s := ((chunks 32 n bs).zipIdx).foldl (fun t e => t.setPath e.2 (leNat e.1)) s
    let s := (s.modFab fun f => { f with pathLoad := none }).setFld FAB_PATH_STAT_loading 0
    let s := if n < 65536 then s.pathRefuse n else s
    s.xPump

/-! ### The line (R238) -/

/-- What follows from the S flit that left: the last flit of a departure frees its source, the last flit of a result
its unit. -/
def State.sLeft (s : State) (o : OutFlit) : State :=
  if o.rank = 0 then (if o.inPort = 31 then s.freeUnit o.flit.tag else s)
  else if o.final then
    match s.fab.deps.find? (fun d => d.sent && d.tag == o.flit.tag && d.dx + 1 == o.rank) with
    | some d => s.depDone d
    | none => s
  else s

/-- The transmitter of a port sends what is due when the line is free. -/
def State.lineFree (s : State) (p : Nat) : State :=
  let st := s.fld (LINK_STAT_state p)
  if st = 4 then s.initSend p
  else if st = 5 then
    match (s.probeRetry p).transmit p with
    | (t, some o) => (t.sLeft o).checkHold p
    | (t, none) => t.checkHold p
  else (s.markLate p).checkHold p

/-! ### The commands -/

def execSlipDecision (s : State) : Out := .next s.slipDecision

def execDxEntryRead (engine : Fin 16) (ecc : Ecc) (s : State) : Out := .next (s.dxRead engine ecc)
def execMarkFrame (engine : Fin 16) (s : State) : Out := .next (s.markFrame engine)
def execMarkJump (engine : Fin 16) (s : State) : Out := .next (s.markJump engine)
def execMarkEnd (engine : Fin 16) (s : State) : Out := .next (s.markEnd engine)
def execEntryArm (engine : Fin 16) (s : State) : Out := .next (s.entryArm engine)
def execDepartureDue (engine : Fin 16) (tag : BitVec 24) (ecc : Ecc) (s : State) : Out :=
  .next (s.departureDue engine tag.toNat ecc)
def execOverflowSend (tag : BitVec 24) (s : State) : Out := .next (s.overflowSend tag.toNat)
def execLateDeparture (port : Fin 32) (s : State) : Out := .next (s.lateDeparture port)
def execPathLoadDone (fail : Option (BitVec 16)) (companion : List Byte) (s : State) : Out :=
  .next (s.pathLoadDone (fail.map (·.toNat)) companion)
def execBundleQueueClose (s : State) : Out := .next s.bundleClose
def execFlitTransmit (port : Port) (s : State) : Out := .next (s.lineFree port)

end Sys2Proof.Machine
end

