-- ==== Sys2Proof/Machine/AgentMem.lean ====
section
/-! DEFINITION. Accesses of agents and X requests to device memory (R305, R373, R374), refresh and scrubbing (R311,
R315), the depot's partition (R317 to R319) and the stager (R320 to R322). -/

namespace Sys2Proof.Machine

/-! ### Who may do what (R370, R373, R395) -/

/-- Agent DBG reaches the module only through the IEEE 1687 network, and not once DBG_LOCK is blown (R395). -/
def State.dbgReach (s : State) : Bool := s.boot.jtag.ir == 0x20 && !s.boot.dbgLock

/-- Whether the standby domains run: the standby switch is closed, and the STANDBY step did not fail (R381, R438). -/
def State.alive (s : State) : Bool := s.flag PWR_STAT_standby && !s.boot.silent

/-- Whether an agent can reach the module at all. -/
def State.reaches (s : State) (agent : Nat) : Bool := s.alive && (agent != 4 || s.dbgReach)

/-- Whether an agent is refused writes: it does not own the module. X requests are not agents (R374). -/
def State.nonOwner (s : State) (agent : Nat) : Bool := agent != 0 && s.fld GEN_OWN_STAT_owner != agent

/-- A write of a non-owner is counted, and recorded at most once per frame per agent (R373). -/
def State.ownRefuse (s : State) (agent : Nat) : State :=
  let f : Fld := ⟨GEN_OWN_REFUSED, 8 * ((agent - 1) % 4), 8⟩
  let s := s.count f 1
  if s.latch.own7001.any (fun e => e.1 == agent && e.2 == s.frame + 1) then s
  else (s.modLatch fun l => { l with own7001 := alSet l.own7001 agent (s.frame + 1) }).raise 0x7001 0 0 0

/-! ### The forms of an access (R305) -/

/-- Whether `[a, a + n)` is an access of one of the two forms, in one region. -/
def State.accessOk (s : State) (a n : Nat) : Bool :=
  (s.within a n).isSome
    && (((n == 4 || n == 8) && a % n == 0) || (a % 64 == 0 && n % 64 == 0 && decide (0 < n ∧ n ≤ 4096)))

/-- Whether a write of this form is refused as well: the schedule window of the depot is read-only (R319). -/
def State.writeOk (s : State) (a n : Nat) : Bool := s.accessOk a n && !s.touchesSched a n

/-- A refused access is recorded with the device it was to, where it was to one (R324): the depot's bytes outside both
of its parts are still the depot's. -/
def State.refuseAt (s : State) (a : Nat) : State :=
  let dev : Bool := match s.region a with
    | some (.sheetWin, _, _) => false
    | some (.compA, _, _) => false
    | some (.compB, _, _) => false
    | some _ => true
    | none => decide (0x030000000000 ≤ a ∧ a < 0x030010000000)
  if dev then s.raise 0x6010 (unitDev (s.devOf a)) 0 (s.devOf a) else s.raise 0x6010 0 0 0

/-- What an access came to. -/
inductive AccRes where
  | done (bs : List Byte)
  | poison
  /-- refused for ownership, or for its address, alignment or length -/
  | notOwner
  | refused
  /-- gone out through a companion window: its answer comes later -/
  | away
  deriving DecidableEq, Repr

/-- The status of R347 and R369. -/
def AccRes.status : AccRes → Nat
  | .done _ => 0
  | .notOwner => 1
  | .refused => 2
  | .poison => 3
  | .away => 3

/-- An access that goes out through a companion window in one request (R354). -/
def State.goAway (s : State) (a n : Nat) (data : List Byte) (write : Bool) (whom : AwayTo) : State × AccRes :=
  match s.compRange a n with
  | (p, none) => (s.raise 0x7020 (unitWiora p) 0 p, .refused)
  | (p, some b) =>
    let k := s.wiora.nextAway
    let s := s.modWiora fun w => { w with aways := w.aways ++ [(k, whom)], nextAway := k + 1 }
    let part := n == 4 || n == 8
    let op := if write then (if part then 6 else 5) else (if part then 4 else 3)
    let bs := if write && part then padTo 64 (List.replicate (b % 64) 0 ++ data) else data
    (s.wRequest p (.away k) op b (if part then 1 else n / 64) (if part then b % 64 / 4 else 0) (b2n (n == 8)) bs, .away)

/-- A read by an agent, or by an X request (agent 0). -/
def State.agentRead (s : State) (agent a n : Nat) (ecc : Ecc) (whom : AwayTo) : State × AccRes :=
  if !s.accessOk a n then (s.refuseAt a, .refused)
  else if inCompanion a then s.goAway a n [] false whom
  else match s.devGet agent a n 0 ecc with
    | (t, .data bs) => (t, .done bs)
    | (t, _) => (t, .poison)

/-- The poisoned unit of which a write would leave part standing, if there is one (R314). -/
def State.partPoison (s : State) (a n : Nat) : Option Nat :=
  (unitsOf a n).find? fun u => s.isPoison u && !((coveredUnits a n).contains u)

/-- A write by an agent, or by an X request. -/
def State.agentWrite (s : State) (agent a : Nat) (bs : List Byte) (whom : AwayTo) : State × AccRes :=
  let n := bs.length
  if !s.writeOk a n then (s.refuseAt a, .refused)
  else if s.nonOwner agent then (s.ownRefuse agent, .notOwner)
  else if inCompanion a then s.goAway a n bs true whom
  else match s.partPoison a n with
    | some u => (s.raise 0x6022 (unitDev (s.devOf u)) 0 (s.devOf u), .refused)
    | none => (s.devPut agent a 0 bs, .done [])

/-- An access of either kind, its answer kept (R305, R369). -/
def State.memAccess (s : State) (agent a : Nat) (req : MemOp) (ecc : Ecc) (whom : AwayTo) : State :=
  if !s.reaches agent then s
  else match req with
    | .read n =>
      (match s.agentRead agent a n ecc whom with
       | (t, .done bs) => t.answer 0 bs
       | (t, .refused) => t.answer 2 (List.replicate n 0xFF)
       | (t, r) => t.answer r.status [])
    | .write bs =>
      (match s.agentWrite agent a bs whom with
       | (t, r) => t.answer r.status [])

/-! ### Refresh (R311) -/

/-- The ticks of a frame at which a device's refresh windows begin, and their length. -/
def State.refreshAt (s : State) (d : Nat) : List Nat × Nat :=
  let hot := s.flag (MEM_DEV_hot d)
  let base := if d < 8 then 512 * d else 512 * (d - 8) + 256
  let more := if d < 8 then 2048 + 512 * d else 2304 + 512 * (d - 8)
  ((List.range 16).flatMap (fun k => (4096 * k + base) :: (if hot then [(4096 * k + more) % 65536] else [])),
    if d < 8 then 384 else 512)

/-- A device begins its next refresh window. -/
def State.refreshBegin (s : State) (d : Nat) : State :=
  let (ts, len) := s.refreshAt d
  let waits := ts.map fun t => (t + 65536 - s.inFrame) % 65536
  let s := s.pass (waits.foldl min 65536)
  s.modLoad fun l => { l with refresh := smSet (fun _ => 0) l.refresh d (s.time.elapsed + len) }

/-! ### Scrubbing (R315) -/

/-- The MRDIMMs installed in ascending order, and the rank of channel `c` among them. -/
def State.dimmRank (s : State) (c : Nat) : Option Nat :=
  if s.fld MEM_STAT_tier = 2 then some c
  else if s.fld MEM_STAT_tier = 1 ∧ c % 2 = 0 then some (c / 2) else none

/-- The device address of scrub unit `u` of device `d`, the units it has, and the size of one. -/
def State.scrubUnit (s : State) (d u : Nat) : Option (Nat × Nat × Nat) :=
  if d < 8 then some (d * 48 * 2 ^ 30 + 64 * u, 48 * 2 ^ 30 / 64, 64)
  else if d = 16 then some (0x030000000000 + 8 * u, 2 ^ 28 / 8, 8)
  else (s.dimmRank (d - 8)).map fun k =>
    let n := if s.fld MEM_STAT_tier = 2 then 8 else 4
    let x := 64 * u
    (0x100000000000 + (x / 4096 * n + k) * 4096 + x % 4096, s.fld MEM_STAT_cap * 2 ^ 30 / 64, 64)

/-- A device reads and checks its next unit, at the first multiple of the interval at which it has read none: several
devices scrub in one slot. -/
def State.memScrub (s : State) (d : Nat) (ecc : Ecc) : State :=
  if !s.flag MEM_SCRUB_enable then s
  else
    let u := smGet (fun _ => 0) s.load.scrub d
    match s.scrubUnit d u with
    | none => s
    | some (a, n, k) =>
      let m := ringSize (s.fld MEM_SCRUB_interval) 65536
      let s := s.toTick (if smGet (fun _ => none) s.load.scrubAt d = some s.time.elapsed then s.nextAfter 0 m else s.nextAt 0 m)
      let s := s.modLoad fun l => { l with scrubAt := smSet (fun _ => none) l.scrubAt d (some s.time.elapsed) }
      let s := (s.memGet a k 0 ecc).1
      s.modLoad fun l => { l with scrub := smSet (fun _ => 0) l.scrub d (if u + 1 < n then u + 1 else 0) }

/-! ### The depot's partition (R317, R318) -/

/-- MEM_DEPOT_PART is written, or refused. -/
def State.depotPart (s : State) (v : Nat) : State :=
  let sb := bits v 0 8
  let gb := bits v 8 8
  let gl := bits v 16 9
  if decide (256 < sb + 1 ∨ 256 < gb + gl ∨ (sb < gb + gl ∧ gb < sb + 1)) || s.fld FAB_DISPATCH_CTL_enable != 0
      || s.fld MEM_STAGE_TAIL_tail != s.fld MEM_STAGE_HEAD_head || s.load.stage.isSome then
    (s.setFld MEM_DEPOT_STAT_refused 1).raise 0x6030 (unitDev 16) 0 16
  else s.setReg MEM_DEPOT_PART (BitVec.ofNat 32 (v &&& 0x01FFFFFF))

/-! ### The stager (R320 to R322) -/

/-- Whether a ring tail may move from `old` to `v` with its head at `head`: neither back nor past head + size
(R162, R320, R328). -/
def tailOk (old head size v : Nat) : Bool := decide (subMod 32 v old < 2 ^ 31 ∧ subMod 32 v head ≤ size)

def State.stageSize (s : State) : Nat := ringSize (s.fld MEM_STAGE_RING_size) 65536

/-- MEM_STAGE_TAIL is written, or refused. -/
def State.stageTail (s : State) (v : Nat) : State :=
  if tailOk (s.fld MEM_STAGE_TAIL_tail) (s.fld MEM_STAGE_HEAD_head) s.stageSize v then
    s.setFld MEM_STAGE_TAIL_tail v
  else s.raise 0x6031 unitStager 0 0

/-- MEM_STAGE_RING is written: its base only while tail equals head (R325). -/
def State.stageRing (s : State) (v : Nat) : State :=
  let s := if s.fld MEM_STAGE_TAIL_tail = s.fld MEM_STAGE_HEAD_head then s.setFld MEM_STAGE_RING_base (bits v 5 43) else s
  s.setFld MEM_STAGE_RING_size (bits v 48 16)

/-- The device address of stage descriptor `t`. -/
def State.stageAddr (s : State) (t : Nat) : Nat := s.fld MEM_STAGE_RING_base * 32 + 32 * (t % s.stageSize)

/-- The schedule frame nearest the present one whose low 32 bits are `lo`. -/
def State.nearFrame (s : State) (lo : Nat) : Nat :=
  ((s.schedFrame : Int) + sInt 32 (subMod 32 lo s.schedFrame)).toNat

/-- The due tick of a stage descriptor (R322). -/
def State.stageDue (s : State) (d : List Byte) : Nat := s.dueOf (s.nearFrame (leField d 16 4)) (leField d 20 2)

/-- Bytes that a descriptor moves. -/
def stageLen (d : List Byte) : Nat := ringSize (leField d 10 3 % 2 ^ 20) 0x100000 * 256

/-- Whether a descriptor is refused (R322). -/
def State.stageBad (s : State) (d : List Byte) : Bool :=
  let src := leField d 0 6
  let dst := leField d 6 4 % 2 ^ 28
  let n := stageLen d
  let gb := s.fld MEM_DEPOT_PART_stage_base * 2 ^ 20
  let gl := s.fld MEM_DEPOT_PART_stage_size * 2 ^ 20
  leField d 6 4 / 2 ^ 28 != 0 || leField d 10 3 / 2 ^ 20 != 0 || leField d 13 1 != 0 || leField d 14 2 / 4096 != 0
    || leField d 25 7 != 0 || src % 256 != 0 || dst % 256 != 0 || s.within src n != some .ddr
    || !decide (gb ≤ dst ∧ dst + n ≤ gb + gl)

/-- The stager is done with its head descriptor. -/
def State.stageNext (s : State) : State :=
  ((s.modLoad fun l => { l with stage := none }).setFld MEM_STAGE_STAT_busy 0).setFld MEM_STAGE_HEAD_head
    (s.fld MEM_STAGE_HEAD_head + 1)

def State.stageRefuse (s : State) (code tag aux : Nat) : State :=
  ((s.setFld MEM_STAGE_STAT_err 1).raise code unitStager tag aux).stageNext

/-- The head descriptor begins once it is due, or is refused. -/
def State.stageStart (s : State) (ecc : Ecc) : State :=
  let head := s.fld MEM_STAGE_HEAD_head
  if s.load.stage.isSome || s.fld MEM_STAGE_TAIL_tail == head then s
  else match s.fetch .stageRing (s.stageAddr head) 32 0 ecc with
    | (t, .got (.data d)) =>
      let t := t.toTick (t.stageDue d)
      let tag := leField d 22 3
      let t := t.setFld MEM_STAGE_STAT_tag tag
      if t.stageBad d then t.stageRefuse 0x6032 tag 0
      else (t.modLoad fun l => { l with stage := some d }).setFld MEM_STAGE_STAT_busy 1
    | (t, .got (.poison d)) => t.stageRefuse 0x6021 0 d
    | (t, .got .down) => t.stageRefuse 0x6021 0 0
    | (t, .wait) => t

/-- The copy is complete: its bytes are in the depot, poison where the source held poison, and its counter advances
(R314, R322). -/
def State.stageDone (s : State) (ecc : Ecc) : State :=
  match s.load.stage with
  | none => s
  | some d =>
    let src := leField d 0 6
    let dst := 0x030000000000 + leField d 6 4 % 2 ^ 28
    let n := stageLen d
    let tag := leField d 22 3
    let s := (s.waitRefresh src n).memEcc src n tag ecc
    let bad := (unitsOf src n).filter s.isPoison
    let s := s.memPut dst tag (s.memRead src n)
    let s := match bad.getLast? with
      | none => s
      | some b =>
        let mark (t : State) (u : Nat) : State := iter 8 (fun k t => t.setPoison (dst + (u - src) + 8 * k) true) t
        let s := bad.foldl mark s
        (s.eccLast b (s.devOf b) 1).raise 0x6021 unitStager tag (s.devOf b)
    (s.acAdd (leField d 14 2 % 4096) 1 tag).stageNext

/-! ### The commands -/

def whoNo : Option Agent → Nat
  | some a => agentNo a
  | none => 0

def execAgentMemoryAccess (who : Option Agent) (addr : BitVec 48) (req : MemOp) (ecc : Ecc) (s : State) : Out :=
  .next (s.memAccess (whoNo who) addr.toNat req ecc .plain)
/-- An access to a sheet's window (R125, R126). -/
def execSheetWindowAccess (who : Option Agent) (sheet : Sheet) (off : BitVec 22) (req : MemOp) (ecc : Ecc)
    (s : State) : Out :=
  .next (s.memAccess (whoNo who) (winBase + sheet * winSize + off.toNat) req ecc .plain)
def execRefreshWindow (dev : Fin 16) (s : State) : Out := .next (s.refreshBegin dev)
def execMemoryScrubRead (dev : Fin 17) (ecc : Ecc) (s : State) : Out := .next (s.memScrub dev ecc)
def execStageCopyStart (ecc : Ecc) (s : State) : Out := .next (s.stageStart ecc)
def execStageCopyDone (ecc : Ecc) (s : State) : Out := .next (s.stageDone ecc)

end Sys2Proof.Machine
end

