-- ==== Sys2Proof/Machine/XReceive.lean ====
section
/-! DEFINITION. Residual traffic received (R225 to R227, R257 to R259, R374) and fault packets from children (R403 to
R405). -/

namespace Sys2Proof.Machine

/-! ### Acknowledgements and windows (R226, R227) -/

/-- The flits of a packet are put on the line again. -/
def State.xResend (s : State) (o : XOut) : State :=
  let fs := o.pkt.cut s.lcoord (s.xackFor o.dest) (s.xin o.dest).echo
  s.modPort o.port fun q => { q with txX := q.txX ++ fs.map (fun f => ({ flit := f } : OutFlit)) }

/-- A window halves on an echoed mark, once per window of acknowledged flits. -/
def State.xEcho (s : State) (c : Nat) (echo : Bool) : State :=
  let w := s.xwin c
  if echo && !w.halved then s.setXwin c { w with window := max 4 (w.window / 2), halved := true } else s

/-- Each full window of acknowledged flits, of at most `n`, ends: without a mark in it the window grows by one. What
was acknowledged beyond it belongs to the next window. -/
def XWin.turn : Nat → XWin → XWin
  | 0, w => w
  | n + 1, w =>
    if w.window ≤ w.acked then
      let k := if w.halved then w.window else min 256 (w.window + 1)
      XWin.turn n { w with window := k, acked := w.acked - w.window, halved := false }
    else w

/-- `n` flits acknowledged. -/
def XWin.grow (w : XWin) (n : Nat) : XWin :=
  { w with inflight := w.inflight - n, acked := w.acked + n }.turn (w.acked + n)

/-- An acknowledgement goes back alone on the port a packet came in on; which path index it names is a free value. -/
def State.xAckSend (s : State) (c port : Nat) : State :=
  let (path, s) := s.draw 16
  let x := s.xin c
  let f := ackFlit s.lcoord path (s.xwin c).next (subMod 16 x.expect 1) x.echo
  (s.setXin c { x with echo := false }).modPort port fun q => { q with txX := q.txX ++ [({ flit := f } : OutFlit)] }

/-- Number `a` was received in order at `c`: everything up to it is acknowledged. An acknowledgement that comes alone
names a discarded packet where it acknowledges nothing new and repeats the last one, or acknowledges more than
responses: a request that is accepted is acknowledged by its response. Everything from the expected number on is then
sent again (R226; which acknowledgements name a discard is the model's choice, log entry 104). -/
def State.xAcked (s : State) (c a : Nat) (alone : Bool) : State :=
  let w := s.xwin c
  let hit (o : XOut) : Bool := o.dest == c && !o.acked && decide (subMod 16 a o.pkt.xseq < 32768)
  let new := s.x.out.filter hit
  let flits := (new.map fun o => o.pkt.flits).foldl (· + ·) 0
  let w' := { w with last := a }.grow flits
  let now := s.time.elapsed
  let s := s.setXwin c w'
  let mark (o : XOut) : XOut := if hit o then { o with acked := true } else o
  let stays (o : XOut) : Bool := !(o.acked && (o.who == .response || o.who == .filler))
  let tok (t : XTok) : XTok :=
    if t.src == c && new.any (fun o => o.who == .response && o.pkt.xseq == t.reply.xseq) then { t with ackedAt := some now }
    else t
  let s := s.modX fun x => { x with out := (x.out.map mark).filter stays, toks := x.toks.map tok }
  if alone && (if new.isEmpty then a == w.last else new.any fun o => o.who != .response) then
    (s.x.out.filter fun o => o.dest == c && !o.acked).foldl (fun t o => t.xResend o) s
  else s

/-! ### Responses sent (R236, R259, R374) -/

/-- A response goes back on the port its request came in on; which path index it names is a free value. -/
def State.xRespond (s : State) (c port : Nat) (req : XPacket) (op status : Nat) (data : List Byte) : State :=
  let w := s.xwin c
  let (path, s) := (s.setXwin c { w with next := (w.next + 1) % 65536 }).draw 16
  let pkt : XPacket := { op := op, status := status, len := data.length, data := data, xseq := w.next,
                         token := req.token, path := path }
  let keep (t : XTok) : Bool := t.src == c && some t.token == req.token
  let s := s.modX fun x => { x with toks := x.toks.map fun t => if keep t then { t with reply := pkt } else t }
  s.xStart { dest := c, port := port, pkt := pkt, who := .response, sentAt := s.time.elapsed }

/-- The answer of an access that an X request made: a read's data, or none. -/
def State.xAnswer (s : State) (c port : Nat) (req : XPacket) (r : AccRes) : State :=
  let data := match r with | .done bs => bs | _ => []
  s.xRespond c port req (if req.op = 1 then 0x81 else 0x82) 0 (if req.op = 1 then data else [])

/-! ### Fault records from other modules (R403 to R405, R408) -/

/-- Whether a message is a fault packet: whole records, and address bytes of 0. -/
def XPacket.isFault (k : XPacket) : Bool :=
  k.op == 3 && k.addr == 0 && k.len % 32 == 0 && decide (32 ≤ k.len ∧ k.len ≤ 224)

/-- A record received from a child: the origin logs it, and every module with a parent sends it on. -/
def State.takeRec (s : State) (r : FaultRec) : State :=
  let r := { r with flags := r.flags ||| 4 }
  let s := if s.flag TOPO_ORIGIN_self then ((s.logRec r).noteStop r).raiseIbi 1 else s
  if s.hasParent then s.sendUp r else s

/-! ### Requests received -/

/-- A message is taken: fault records, or a message kept for the program. -/
def State.xMessage (s : State) (k : XPacket) : State :=
  if k.isFault then ((chunks 32 (k.len / 32) k.data).map recOf).foldl (fun t r => t.takeRec r) s
  else s.modX fun x => { x with inbox := x.inbox ++ [k] }

/-- An accepted request is performed and answered. -/
def State.xPerform (s : State) (c port : Nat) (k : XPacket) (ecc : Ecc) : State :=
  if k.op = 1 then
    match s.agentRead 0 k.addr k.len ecc (.x c port k) with
    | (t, .away) => t
    | (t, r) => t.xAnswer c port k r
  else if k.op = 2 then
    match s.agentWrite 0 k.addr (padTo k.len k.data) (.x c port k) with
    | (t, .away) => t
    | (t, r) => t.xAnswer c port k r
  else if k.op = 3 then (s.xMessage k).xRespond c port k 0x83 0 []
  else s

/-- A request that carries a token is held with it; when 4,096 are held it is told to retry (R259). -/
def State.xTokened (s : State) (c port : Nat) (k : XPacket) (ecc : Ecc) : State :=
  match k.token with
  | none => s.xPerform c port k ecc
  | some t =>
    if 4096 ≤ s.x.toks.length then s.xRespond c port k (0x80 + k.op) 2 []
    else
      let e : XTok := { src := c, token := t, reply := {}, port := port, at0 := s.time.elapsed }
      (s.modX fun x => { x with toks := x.toks ++ [e] }).xPerform c port k ecc

/-! ### Responses received -/

/-- A response completes the request whose token it carries; status retry sends it again with the same token. -/
def State.xComplete (s : State) (c : Nat) (k : XPacket) : State :=
  let hit (o : XOut) : Bool :=
    o.dest == c && k.token.isSome && o.pkt.token == k.token && o.who != .response && o.who != .filler
  match s.x.out.find? hit with
  | none => s
  | some o =>
    let s := s.modX fun x => { x with out := x.out.filter fun e => e != o }
    if k.status = 2 then
      let w := s.xwin c
      (s.setXwin c { w with next := (w.next + 1) % 65536 }).xStart { o with pkt := { o.pkt with xseq := w.next }, acked := false }
    else match o.who with
      | .loader slot num off attempt =>
        s.loadHear slot num off attempt (if k.op = 0x81 ∧ k.len ≠ 0 then some k.data else none)
      | _ => s

/-! ### A packet at its destination (R226) -/

/-- The pair a request's token names, if it is held. -/
def State.xHeld (s : State) (c : Nat) (k : XPacket) : Option XTok :=
  if k.op < 0x80 then s.x.toks.find? fun t => t.src == c && k.token == some t.token else none

/-- A packet from source `c` is taken, in the order of R226. A response that is accepted, and a packet that comes before
its turn, are acknowledged alone; a request is acknowledged by its response. -/
def State.xTake (s : State) (c port : Nat) (k : XPacket) (ecc : Ecc) : State :=
  let x := s.xin c
  match s.xHeld c k with
  | some t =>
    if t.reply.op = 0 then s
    else s.xResend { dest := c, port := port, pkt := t.reply, who := .response, sentAt := s.time.elapsed }
  | none =>
    if k.xseq = x.expect then
      let s := s.setXin c { x with expect := (x.expect + 1) % 65536 }
      if 0x80 ≤ k.op then (s.xComplete c k).xAckSend c port else s.xTokened c port k ecc
    else if k.op = 1 ∧ subMod 16 x.expect k.xseq ≤ 32768 then s.xPerform c port k ecc
    else
      let s := s.count FAB_X_STAT_seq 1
      if subMod 16 k.xseq x.expect < 32768 then s.xAckSend c port else s

/-- The echo and the acknowledgement a flit carries: the mark belongs to the window the flits were sent in. -/
def State.xHeader (s : State) (c : Nat) (f : RawFlit) : State :=
  let s := s.xEcho c f.echo
  if f.xackValid then s.xAcked c f.xack f.ackOnly else s

/-- A response says by its token which request it answers, and so under which coordinate the module that a route leads
to sends its flits: the pair is kept under that one from here on (R226, R282). -/
def State.xLearn (s : State) (c : Nat) (k : XPacket) : State :=
  let hit (o : XOut) : Bool := k.token.isSome && o.pkt.token == k.token && o.who != .response && o.who != .filler
  match s.x.out.find? hit with
  | some o =>
    if k.op < 0x80 ∨ o.dest = c then s
    else
      let d := o.dest
      let name (e : XOut) : XOut := if e.dest == d then { e with dest := c } else e
      let s := s.setXwin c (s.xwin d)
      s.modX fun x =>
        { x with logical := smSet id (x.logical.map fun e => if e.2 == d then (e.1, c) else e) d c
                 out := x.out.map name, wait := x.wait.map name, win := x.win.filter fun e => e.1 != d }
  | none => s

/-! ### Flits (R225, R227, R236) -/

/-- The X flits of a port's pool that nobody has taken. -/
def PortSt.xWaiting (q : PortSt) : List PoolFlit := q.pool.filter fun e => e.waiting && e.flit.cls == 1

/-- The port an X flit leaves on here; 31 where it is at its destination. -/
def State.xHop (s : State) (f : RawFlit) : Nat := pathHop (s.pathEntry f.path) f.hop

/-- The flits of one packet among those waiting, from its first to its last, once all are in. -/
def wholePacket (f : RawFlit) (l : List PoolFlit) : Option (List PoolFlit) :=
  let same := l.filter fun e => e.flit.xsource == f.xsource && e.flit.xseq == f.xseq
  match same.findIdx? (fun e => e.flit.lastX) with
  | some i => some (same.take (i + 1))
  | none => none

/-- A flit in transit goes to its out-port, marked where the pool is crowded. -/
def State.xForward (s : State) (p : Nat) (e : PoolFlit) : State :=
  let q := s.port p
  let full := decide (s.fld FAB_X_CFG_mark < q.poolCount 1 false + q.poolCount 1 true)
  let f := e.flit.setH 168 4 ((e.flit.hop + 1) % 16)
  let f := if full then f.setH 29 1 1 else f
  let s := if full then s.count FAB_X_STAT_marked 1 else s
  let s := (s.poolTake p e.id 1).countOther f 1
  s.modPort (s.xHop e.flit) fun q => { q with txX := q.txX ++ [{ flit := f, inPort := p, poolId := e.id }] }

/-- A whole packet at its destination. -/
def State.xDeliver (s : State) (p : Nat) (es : List PoolFlit) (ecc : Ecc) : State :=
  match es with
  | [] => s
  | e :: _ =>
    let c := e.flit.xsource
    let fs := es.map (·.flit)
    let s := es.foldl (fun t e => t.poolFree p e.id) s
    let s := s.xLearn c (packetOf fs)
    let s := if fs.any RawFlit.mark then s.setXin c { s.xin c with echo := true } else s
    ((s.xHeader c e.flit).xTake c p (packetOf fs) ecc).xPump

/-- What the first X flit that can be acted on leads to. `fault` picks fault packets; else everything but them. -/
def State.xStep (s : State) (p : Nat) (ecc : Ecc) (fault : Bool) : List PoolFlit → State
  | [] => s
  | e :: l =>
    let h := s.xHop e.flit
    -- a flit that names a tree path goes no further (R202)
    if pathTree (s.pathEntry e.flit.path) then (if fault then s.xStep p ecc fault l else s.poolFree p e.id)
    else if h ≠ 31 then (if fault then s.xStep p ecc fault l else s.xForward p e)
    else if !e.flit.first then
      -- a flit whose first flit is not here belongs to no packet
      if (s.port p).xWaiting.any fun u => u.flit.first && u.flit.xsource == e.flit.xsource && u.flit.xseq == e.flit.xseq
      then s.xStep p ecc fault l
      else if fault then s.xStep p ecc fault l
      else if e.flit.ackOnly then ((s.poolFree p e.id).xHeader e.flit.xsource e.flit).xPump
      else s.poolFree p e.id
    else match wholePacket e.flit (e :: l) with
      | some es =>
        if (packetOf (es.map (·.flit))).isFault = fault then s.xDeliver p es ecc else s.xStep p ecc fault l
      | none => s.xStep p ecc fault l

/-- X flits wait while a bulk path load runs (R463). -/
def State.xReceive (s : State) (p : Nat) (ecc : Ecc) (fault : Bool) : State :=
  if s.fab.pathLoad.isSome then s else s.xStep p ecc fault (s.port p).xWaiting

/-! ### Timers (R257, R259) -/

/-- No response came within the grace of the first-hop port and two frames: lost-link. -/
def State.xTimeout (s : State) (n : Nat) : State :=
  let hit (o : XOut) : Bool := o.pkt.xseq == n && o.who != .response && o.who != .filler
  match s.x.out.find? hit with
  | some o => (s.toElapsed (o.sentAt + s.fld (LINK_CFG_grace o.port) * 1280 + 131072)).xLost o
  | none => s

/-- A pair is dropped two frames after its response was acknowledged, or after 1,024 frames. -/
def State.tokenExpire (s : State) (c t : Nat) : State :=
  match s.x.toks.find? (fun e => e.src == c && e.token == t) with
  | some e =>
    let s := s.toElapsed (match e.ackedAt with | some a => a + 131072 | none => e.at0 + 1024 * 65536)
    s.modX fun x => { x with toks := x.toks.filter fun e => !(e.src == c && e.token == t) }
  | none => s

/-! ### Merge windows (R405) -/

/-- The window of a pending entry ends: its later reports go up as one count. -/
def State.mergeExpire (s : State) (n : Nat) : State :=
  match s.fault.merge.find? (fun e => e.slot == n) with
  | none => s
  | some e =>
    let s := s.toElapsed (e.at0 + 65536)
    let s := s.modFault fun f => { f with merge := f.merge.filter fun u => u.slot != n }
    if e.extra = 0 then s
    else s.sendParent { e.entry with count := min e.extra 65535, flags := e.entry.flags ||| 8 }

/-! ### The commands -/

def execXPacketReceive (port : Port) (ecc : Ecc) (s : State) : Out := .next (s.xReceive port ecc false)
def execXRequestTimeout (xseq : BitVec 16) (s : State) : Out := .next (s.xTimeout xseq.toNat)
def execTokenExpire (source : BitVec 17) (token : BitVec 15) (s : State) : Out :=
  .next (s.tokenExpire source.toNat token.toNat)
def execFaultPacketReceive (port : Port) (s : State) : Out := .next (s.xReceive port .clean true)
def execMergeWindowExpire (entry : Fin 64) (s : State) : Out := .next (s.mergeExpire entry)

end Sys2Proof.Machine
end

