-- ==== Sys2Proof/Machine/Loader.lean ====
section
/-! DEFINITION. The loader (R326 to R333, R340 to R342): descriptors, reads, responses, digests and attempts. -/

namespace Sys2Proof.Machine

/-! ### Descriptors (R329) -/

def ldDst (d : List Byte) : Nat := leField d 0 6
/-- bytes of the shard -/
def ldLen (d : List Byte) : Nat := ringSize (leField d 6 3 % 2 ^ 20) 0x100000 * 4096
/-- source kind of the primary and of the alternate: 0 none, 1 host, 2 neighbour -/
def ldKind (d : List Byte) (alt : Bool) : Nat := bits (leField d 9 1) (if alt then 2 else 0) 2
def ldAc (d : List Byte) : Nat := leField d 10 2 % 4096
def ldTag (d : List Byte) : Nat := leField d 12 3
def ldAddr (d : List Byte) (alt : Bool) : Nat := leField d (if alt then 24 else 16) 6
def ldPath (d : List Byte) (alt : Bool) : Nat := leField d (if alt then 30 else 22) 2
def ldDigest (d : List Byte) : List Byte := (d.drop 32).take 32

/-- Whether a source is not one the loader can take (R330). -/
def State.srcRefused (s : State) (d : List Byte) (alt : Bool) : Bool :=
  let k := ldKind d alt
  let a := ldAddr d alt
  let n := ldLen d
  k == 3 || (k == 1 && !(s.within a n == some .compA || s.within a n == some .compB))
    || (k == 2 && !pathValid (s.pathEntry (ldPath d alt))) || (k != 0 && a % 64 != 0)

/-- The descriptors in progress, by lane. -/
def State.lanesBusy (s : State) : List (Nat × LoadSlot) :=
  s.load.slots.filterMap fun e => e.2.map fun x => (e.1, x)

/-- Whether a descriptor is refused (R330). -/
def State.loadBad (s : State) (d : List Byte) : Bool :=
  let dst := ldDst d
  let n := ldLen d
  leField d 6 3 / 2 ^ 20 != 0 || leField d 9 1 / 16 != 0 || leField d 10 2 / 4096 != 0 || leField d 15 1 != 0
    || ldKind d false == 0 || (ldKind d true == 0 && (ldAddr d true != 0 || ldPath d true != 0))
    || dst % 4096 != 0 || !(s.within dst n == some .hbm || s.within dst n == some .ddr)
    || s.srcRefused d false || s.srcRefused d true
    || s.lanesBusy.any fun e => decide (dst < ldDst e.2.desc + ldLen e.2.desc ∧ ldDst e.2.desc < dst + n)

/-! ### Lanes -/

def State.setLane (s : State) (k : Nat) (x : Option LoadSlot) : State :=
  s.modLoad fun l => { l with slots := smSet (fun _ => none) l.slots k x }

/-- Auxiliary data of R342. -/
def loadAux (attempt reason : Nat) : Nat := attempt % 4 + 16 * reason

/-- A descriptor is finished: outcome 0 verified, 1 refused, 2 failed. -/
def State.loadFinish (s : State) (tag outcome attempts : Nat) : State :=
  let s := (s.setFld MEM_LOAD_LAST_tag tag).setFld MEM_LOAD_LAST_outcome outcome
  (s.setFld MEM_LOAD_LAST_attempts attempts).setFld MEM_LOAD_DONE_done (s.fld MEM_LOAD_DONE_done + 1)

/-- A shard fault (R333, R341): its record carries the reason for which the last attempt failed (R342); a refused
descriptor had no attempt, and its record carries reason 0, which is the model's choice. -/
def State.shardFault (s : State) (tag outcome attempts reason : Nat) : State :=
  let s := s.raise 0x6051 unitLoader tag (loadAux attempts reason)
  ((s.count MEM_LOAD_STAT_failed 1).setFld MEM_LOAD_STAT_fault 1).loadFinish tag outcome attempts

/-! ### Reads (R331) -/

/-- One 4 KiB read of lane `k` is sent on the source of its attempt. -/
def State.loadRead (s : State) (k : Nat) (x : LoadSlot) : State :=
  let alt := x.attempt != 1 && ldKind x.desc true != 0
  let off := x.next
  let a := ldAddr x.desc alt + off
  let s := s.setLane k (some { x with next := off + 4096, flight := x.flight ++ [off] })
  if ldKind x.desc alt = 2 then
    match s.xRequest (ldPath x.desc alt) 1 a 4096 [] (.loader k x.num off x.attempt) with
    | some t => t
    | none => s.loadHear k x.num off x.attempt none
  else match s.compRange a 4096 with
    | (p, none) => (s.raise 0x7020 (unitWiora p) (ldTag x.desc) p).loadHear k x.num off x.attempt none
    | (p, some b) => s.wRequest p (.loader k x.num off x.attempt) 3 b 64 0 0 []

/-- Reads are sent up to 16 in flight. -/
def State.loadSend (s : State) (k : Nat) : State :=
  iter 16 (fun _ t =>
    match t.lane k with
    | some x => if x.flight.length < 16 ∧ x.next < ldLen x.desc then t.loadRead k x else t
    | none => t) s

/-! ### Attempts (R333) -/

/-- What is outstanding of lane `k` is abandoned: answers that have come, and reads that are still held. The answers
to reads that have been sent are discarded as they come (`State.loadWants`). -/
def State.loadAbandon (s : State) (k : Nat) : State :=
  let mine (w : WWho) : Bool := match w with | .loader j _ _ _ => j == k | _ => false
  let s := s.modLoad fun l => { l with inbox := l.inbox.filter fun a => a.slot != k }
  iter 2 (fun p t => t.modWport p fun q =>
    { q with reqs := q.reqs.filter fun r => !(mine r.who && (r.answer.isSome || r.held.isSome)) }) s

/-- An attempt fails: the next one begins, or the shard does not come. -/
def State.loadFail (s : State) (k reason : Nat) : State :=
  match s.lane k with
  | none => s
  | some x =>
    let tag := ldTag x.desc
    let s := (s.raise 0x6050 unitLoader tag (loadAux x.attempt reason)).loadAbandon k
    if x.attempt < 3 then
      let y : LoadSlot := { num := x.num, desc := x.desc, attempt := x.attempt + 1, since := s.time.elapsed }
      ((s.setLane k (some y)).count MEM_LOAD_STAT_retries 1).loadSend k
    else (s.setLane k none).shardFault tag 2 3 reason

/-- Every unit is written: the digest decides (R327). -/
def State.loadCheck (s : State) (k : Nat) (x : LoadSlot) : State :=
  let n := ldLen x.desc / 4096
  if x.got.length < n then s
  else if shake256 32 (x.got.flatMap (·.2)) = ldDigest x.desc then
    let tag := ldTag x.desc
    let s := ((s.setLane k none).loadAbandon k).acAdd (ldAc x.desc) 1 tag
    (s.setFld MEM_LOAD_LAST_verified (s.fld MEM_LOAD_LAST_verified + 1)).loadFinish tag 0 x.attempt
  else s.loadFail k 0

/-! ### The commands' effects -/

/-- The loader takes its next descriptor (R328). -/
def State.loadBegin (s : State) (ecc : Ecc) : State :=
  let head := s.fld MEM_LOAD_HEAD_head
  let lane := (List.range 64).find? fun k => (s.lane k).isNone
  match lane with
  | none => s
  | some k =>
    if s.fld MEM_LOAD_TAIL_tail = head then s
    else
      let a := s.fld MEM_LOAD_RING_base * 64 + 64 * (head % ringSize (s.fld MEM_LOAD_RING_size) 65536)
      match s.fetch .loadRing a 64 0 ecc with
      | (t, .wait) => t
      | (t, .got (.data d)) =>
        let t := t.setFld MEM_LOAD_HEAD_head (head + 1)
        if t.loadBad d then (t.raise 0x6052 unitLoader (ldTag d) 0).shardFault (ldTag d) 1 0 0
        else (t.setLane k (some { num := head, desc := d, since := t.time.elapsed })).loadSend k
      | (t, .got g) =>
        let d := match g with | .poison d => d | _ => 0
        ((t.setFld MEM_LOAD_HEAD_head (head + 1)).raise 0x6021 unitLoader 0 d).shardFault 0 1 0 0

/-- The answer to a read of lane `k` at offset `off`, if it has come: its data, or none; it is consumed. -/
def State.loadAnswer (s : State) (k num off attempt : Nat) : Option (Option (List Byte) × State) :=
  let hit (a : LoadAnswer) : Bool := a.slot == k && a.num == num && a.off == off && a.attempt == attempt
  match s.load.inbox.find? hit with
  | some a => some (a.data, s.modLoad fun l => { l with inbox := l.inbox.filter fun a => !hit a })
  | none =>
    let mine (r : WReq) : Bool := decide (r.who = .loader k num off attempt) && r.answer.isSome
    (List.range 2).findSome? fun p =>
      ((s.wport p).reqs.find? mine).map fun r =>
        let (st, bs) := r.answer.getD (0, [])
        (if statusData st then some bs else none,
          s.modWport p fun q => { q with reqs := q.reqs.filter fun r => !mine r })

/-- A response to a loader read is checked, written and absorbed (R331, R332). -/
def State.loadResponse (s : State) (k off : Nat) (ecc : Ecc) : State :=
  match s.lane k with
  | none => s
  | some x =>
    if !x.flight.contains off then s
    else match s.loadAnswer k x.num off x.attempt with
      | none => s
      | some (none, s) => s.loadFail k 2
      | some (some bs, s) =>
        if bs.length ≠ 4096 then (s.raise 0x6053 unitLoader (ldTag x.desc) (loadAux x.attempt 3)).loadFail k 3
        else
          let a := ldDst x.desc + off
          let s := (s.memEcc a 4096 (ldTag x.desc) ecc).memPut a (ldTag x.desc) bs
          let x := { x with flight := x.flight.filter (· != off), got := smSet (fun _ => []) x.got off bs }
          ((s.setLane k (some x)).loadSend k).loadCheck k x

/-- An attempt has lasted its limit. -/
def State.loadTimeout (s : State) (k : Nat) : State :=
  match s.lane k with
  | none => s
  | some x => (s.toElapsed (x.since + ringSize (s.fld MEM_LOAD_CFG_timeout) 65536 * 1280000)).loadFail k 1

/-- MEM_LOAD_TAIL is written, or refused. -/
def State.loadTail (s : State) (v : Nat) : State :=
  if tailOk (s.fld MEM_LOAD_TAIL_tail) (s.fld MEM_LOAD_HEAD_head) (ringSize (s.fld MEM_LOAD_RING_size) 65536) v then
    s.setFld MEM_LOAD_TAIL_tail v
  else s.raise 0x6054 unitLoader 0 0

/-- MEM_LOAD_RING is written, while tail, head and done are equal. -/
def State.loadRing (s : State) (v : Nat) : State :=
  let t := s.fld MEM_LOAD_TAIL_tail
  if t = s.fld MEM_LOAD_HEAD_head ∧ t = s.fld MEM_LOAD_DONE_done then
    s.setReg64 MEM_LOAD_RING (v &&& 0xFFFFFFFFFFFFFFC0)
  else s

/-! ### The commands -/

def execLoadDescriptorBegin (ecc : Ecc) (s : State) : Out := .next (s.loadBegin ecc)
def execLoadResponse (slot : Fin 64) (offset : BitVec 32) (ecc : Ecc) (s : State) : Out :=
  .next (s.loadResponse slot offset.toNat ecc)
def execLoadAttemptTimeout (slot : Fin 64) (s : State) : Out := .next (s.loadTimeout slot)

end Sys2Proof.Machine
end

