-- ==== Sys2Proof/Machine/Wiora.lean ====
section
/-! DEFINITION. The Wiora ports: reception, training, grace and flush (R344 to R354), cached lines, pace lines and
batches (R358 to R364), interrupts (R367) and ownership (R370 to R372). -/

namespace Sys2Proof.Machine

/-! ### Answers owed to others -/

/-- RdData for a companion's read: its length is the request's, one line for a partial read, and it has its data slots
whatever its status (R348, R356). -/
def State.wReplyData (s : State) (p : Nat) (m : WMsg) (status : Nat) (data : List Byte) : State :=
  if m.old then s
  else
    let r : WMsg := { cls := 4, op := 1, txid := m.txid, len := if m.op = 4 then 1 else m.len, line := m.line,
                      status := status }
    s.wSend p { r with data := padTo (64 * r.lines) data }

/-- Cmp for a companion's write. -/
def State.wReplyCmp (s : State) (p : Nat) (m : WMsg) (status : Nat) : State :=
  if m.old then s
  else s.wSend p { cls := 3, op := 1, txid := m.txid, len := m.len, line := m.line, status := status }

/-- Whether a request is partial (R348). -/
def WMsg.isPart (m : WMsg) : Bool := m.op == 4 || m.op == 6

/-- The first byte a request names in the port's space, and its bytes (R347). -/
def WMsg.span (m : WMsg) : Nat × Nat :=
  if m.isPart then (m.line * 64 + 4 * m.word, if m.size = 1 then 8 else 4) else (m.line * 64, m.lines * 64)

/-- The answer to a companion's access of either kind: the bytes of a partial read stand at their place in the
slot (R349). -/
def State.wReply (s : State) (p : Nat) (m : WMsg) (status : Nat) (data : List Byte) : State :=
  if m.op = 5 ∨ m.op = 6 then s.wReplyCmp p m status
  else if m.op = 4 then s.wReplyData p m status (padTo 64 (List.replicate (4 * m.word) 0 ++ data))
  else s.wReplyData p m status data

/-- The answer to a refused access: a read's data are all ones (R305). -/
def State.wRefuse (s : State) (p : Nat) (m : WMsg) : State := s.wReply p m 2 (List.replicate m.span.2 0xFF)

/-! ### Answers on the management bus (R368, R369) -/

/-- The packet error code of SMBus 3.2: a CRC-8 with polynomial x^8 + x^2 + x + 1 (PRESUMED, log entry 107). -/
def crc8 (bs : List Byte) : Byte :=
  let turn (c : Byte) (_ : Nat) : Byte := if c.msb then (c <<< 1) ^^^ 7 else c <<< 1
  bs.foldl (fun (c : Byte) b => (List.range 8).foldl turn (c ^^^ b)) 0

/-- The address the management port answers at: the dynamic one where one is assigned, else the static one. -/
def State.mgmtAt (s : State) : Nat :=
  if s.flag WLINK_MGMT_i3c then s.fld WLINK_MGMT_dynamic else 0x58 + Config.straps.toNat

/-- The answer of the next read transaction: the status byte, the data, and a PEC where WLINK_MGMT.pec is 1. -/
def State.mgmtAnswer (s : State) (status : Nat) (data : List Byte) : State :=
  if s.flag WLINK_MGMT_pec then
    s.answer status (data ++ [crc8 (BitVec.ofNat 8 (2 * s.mgmtAt + 1) :: BitVec.ofNat 8 status :: data)])
  else s.answer status data

/-- An access that went out through a companion window has its answer; 15 stands for a link that went down. -/
def State.awayDone (s : State) (k status : Nat) (data : List Byte) : State :=
  let t := s.modWiora fun w => { w with aways := w.aways.filter fun e => e.1 != k }
  let st := if status = 1 ∨ status = 3 then status else if statusData status then 0 else 2
  match s.wiora.aways.find? (fun e => e.1 == k) with
  | none => s
  | some (_, .plain) => t.answer st (if st = 0 then data else [])
  | some (_, .mgmt) => t.mgmtAnswer (if st = 3 then 2 else st) (if st = 0 then data else [])
  | some (_, .x src port pkt) =>
    t.xAnswer src port pkt (if st = 0 then .done data else if st = 3 then .poison else .refused)
  | some (_, .wiora port msg) => if st = 2 then t.wRefuse port msg else t.wReply port msg st data

/-- A fabric delivery whose companion write was lost with the link: the transfer is not complete here (R353). -/
def State.deliverLost (s : State) (tag : Nat) : State :=
  let s := s.modWport 0 fun q => { q with reqs := q.reqs.filter fun r => !decide (r.who = .deliver tag) }
  let s := s.modWport 1 fun q => { q with reqs := q.reqs.filter fun r => !decide (r.who = .deliver tag) }
  match s.fab.trans.find? (fun t => t.tag == tag && t.waitW) with
  | some t =>
    let t := { t with localDone := true, waitW := false, lost := true }
    (s.setTr t).settle t
  | none => s

/-! ### Interrupts (R367) -/

/-- An Int goes out now: a 4-byte write of the value. It goes out through the window its address lies in. -/
def State.intSend (s : State) (p : Nat) : State :=
  let s := s.modWport p fun q => { q with intDue := false, intAt := some s.time.elapsed }
  let a := s.fld (WLINK_INT_addr p) * 4
  match inCompanion a, (s.compRange a 4) with
  | true, (o, some b) =>
    let v := leBytes 4 (s.fld (WLINK_INT_CFG_value p))
    s.wRequest o .int 9 b 1 (b % 64 / 4) 0 (padTo 64 (List.replicate (b % 64) 0 ++ v))
  | true, (o, none) => s.raise 0x7020 (unitWiora o) 0 o
  | _, _ => s

/-- An event line was acknowledged: an Int is sent, or is due when the gap ends. -/
def State.intEvent (s : State) (p : Nat) : State :=
  if !s.flag (WLINK_INT_CFG_enable p) then s
  else match (s.wport p).intAt with
    | some t =>
      if s.time.elapsed < t + s.fld (WLINK_INT_CFG_gap p) then s.modWport p fun q => { q with intDue := true }
      else s.intSend p
    | none => s.intSend p

/-- The gap ends: an Int that fell due is sent, if Ints are still enabled. -/
def State.intGap (s : State) (p : Nat) : State :=
  match (s.wport p).intDue, (s.wport p).intAt with
  | true, some t =>
    let s := s.toElapsed (t + s.fld (WLINK_INT_CFG_gap p))
    if s.flag (WLINK_INT_CFG_enable p) then s.intSend p else s.modWport p fun q => { q with intDue := false }
  | _, _ => s

/-! ### Cached lines (R358 to R360, R366) -/

/-- Buffered events are written as far as may be, and a line refused for its address is recorded (R354); a batch that waits for room in the buffer ends (R363). -/
def State.evGo (s : State) (p : Nat) : State :=
  let s := s.evPump p
  let s := match (s.wport p).evBad with
    | some o => (s.modWport p fun q => { q with evBad := none }).raise 0x7020 (unitWiora o) 0 o
    | none => s
  if s.wiora.ending then s.batchEnd else s

/-- The pace line, where it is in use and lies in the port's own window: its companion byte address, none where the
sum reaches 2^52 (R354). -/
def State.paceLine (s : State) (p : Nat) : Option (Option Nat) :=
  let a := s.fld (WLINK_PACE_addr p) * 64
  if s.flag (WLINK_PACE_enable p) && inCompanion a && portOfAddr a == p then some (s.compRange a 64).2 else none

/-- The pace line is read, unless it is held or already being read; where its companion address reaches 2^52 it is
not, and fault 0x7020 is recorded (R354). -/
def State.paceAsk (s : State) (p : Nat) : State :=
  match s.paceLine p with
  | none => s
  | some none => s.raise 0x7020 (unitWiora p) 0 p
  | some (some b) =>
    let q := s.wport p
    if q.paceS = some b || q.reqs.any (fun r => decide (r.who = .pace) && r.op == 1 && r.addr == b) then s
    else s.wRequest p .pace 1 b 1 0 0 []

/-- The counts of a pace line are checked and taken (R360). -/
def State.paceTake (s : State) (p : Nat) (line : List Byte) : State :=
  let q := s.wport p
  let p' := leField line 0 8
  let c' := leField line 8 8
  let ring := ringSize (s.fld WLINK_BQ_HDR_size) 65536
  let s := if subMod 64 p' q.p ≤ ring then
      let n := subMod 64 p' q.p
      let s := s.modWport p fun q => { q with p := p' }
      if n = 0 then s else s.acAdd (s.fld WLINK_BQ_CFG_pub_ac) n 0
    else s.raise 0x7030 (unitWiora p) 0 p
  if subMod 64 c' q.c ≤ subMod 64 q.prod q.c then (s.modWport p fun q => { q with c := c' }).evGo p
  else s.raise 0x7032 (unitWiora p) 0 p

/-- A line given up clean (R358). -/
def State.wEvict (s : State) (p : Nat) (who : WWho) (b : Nat) : State := s.wRequest p who 8 b 1 0 0 []

/-- The answer to a read of the pace line: a line that was snooped meanwhile is used and read again (R359). The line of
an address that WLINK_PACE no longer names, or that is no longer in use, is not used, and is given up. -/
def State.paceData (s : State) (p : Nat) (r : WReq) (status : Nat) (line : List Byte) : State :=
  if !statusData status then s
  else if s.paceLine p ≠ some (some r.addr) then
    if 4 ≤ status ∧ !r.snooped then s.wEvict p .pace r.addr else s
  else
    let s := s.paceTake p line
    if r.snooped then s.paceAsk p
    else if 4 ≤ status then s.modWport p fun q => { q with paceS := some r.addr } else s

/-- The answer on port `o` to a read of a line of port `p`'s ring: the line is held in E where it was granted and not
snooped meanwhile, and given up where the ring no longer wants it. -/
def State.evData (s : State) (o p : Nat) (r : WReq) (status : Nat) : State :=
  if status = 5 ∧ !r.snooped then
    if s.evWants p (o, r.addr) then (s.modWport p fun q => { q with evE := q.evE ++ [(o, r.addr)] }).evGo p
    else s.wEvict o (.evLine p) r.addr
  else s.evGo p

/-- The message of a dirty line of port `p` at `b` that has not left yet: its WbE waits for credits, or for a
transaction identity. -/
def State.dirtyLine (s : State) (p b : Nat) : Option WMsg :=
  let q := s.wport p
  let hit (m : WMsg) : Bool := m.cls == 1 && m.op == 7 && m.addr == b
  match q.tx.find? hit with
  | some m => some m
  | none => (q.reqs.find? fun r => r.op == 7 && r.addr == b && r.held.isSome).bind (·.held)

/-- The line of a snoop that finds it dirty: the write back that has not left yet is given up for the SnpDat, which
carries its data (DESIGN CHOICE: R358 gives the answer, and not what becomes of that WbE). -/
def State.undirty (s : State) (p b : Nat) : State :=
  (s.modWport p fun q =>
    { q with
      tx := q.tx.filter fun m => !(m.cls == 1 && m.op == 7 && m.addr == b)
      reqs := q.reqs.filter fun r => !(r.op == 7 && r.addr == b && (r.held.isSome || q.tx.any fun m =>
        m.cls == 1 && m.op == 7 && m.addr == b && m.txid == r.txid)) }).wUnhold p

/-- A snoop of a line: it becomes I, and a pace line is read again (R358, R359). -/
def State.snoop (s : State) (p : Nat) (m : WMsg) : State :=
  let b := m.addr
  let mark (r : WReq) : WReq :=
    if r.addr == b && (r.op == 1 || r.op == 2) && r.answer.isNone && r.held.isNone then { r with snooped := true } else r
  let pace := (s.wport p).paceS == some b
  let dirty := s.dirtyLine p b
  let s := s.modWport p fun q =>
    { q with reqs := q.reqs.map mark, paceS := if q.paceS == some b then none else q.paceS }
  let s := iter 2 (fun r t => t.modWport r fun q => { q with evE := q.evE.filter (· != (p, b)) }) s
  let s := if dirty.isSome then s.undirty p b else s
  let s := if m.old then s else match dirty with
    | some d => s.wSend p { cls := 4, op := 2, txid := m.txid, len := 1, line := m.line, lineHi := m.lineHi, data := d.data }
    | none => s.wSend p { cls := 3, op := 2, txid := m.txid, len := m.len, line := m.line, lineHi := m.lineHi }
  if pace then s.paceAsk p else s

/-- WLINK_PACE is written: a line of the old address is given up, and the new one is read. -/
def State.paceWrite (s : State) (p v : Nat) : State :=
  let s := match (s.wport p).paceS with
    | some b => (s.modWport p fun q => { q with paceS := none }).wEvict p .pace b
    | none => s
  (s.setReg64 (WLINK_PACE p) (v &&& 0xFFFFFFFFFFC1)).paceAsk p

/-- WLINK_EVR is written: lines held are given up and the producer becomes 0 (R377). -/
def State.evrWrite (s : State) (p v : Nat) : State :=
  let ls := (s.wport p).evE
  let s := ls.foldl (fun t l => t.wEvict l.1 (.evLine p) l.2) s
  let s := s.modWport p fun q => { q with evE := [], prod := 0 }
  ((s.setReg64 (WLINK_EVR p) (v &&& 0xFFFFFFFFFFFFFFC1)).evAhead p).evGo p

/-! ### The batch queue (R361, R362) -/

/-- The queue stops (R362). -/
def State.batchStop (s : State) : State :=
  ((s.modWiora fun w => { w with reading := false }).setFld WLINK_BQ_STAT_stopped 1).raise 0x7033 0 0 0

/-- The 32 entries of a header's overlay slot map. -/
def slotMap (d : List Byte) : List Nat := (List.range 32).map fun k => leField d (32 + 2 * k) 2

/-- Whether header `k` passes its check. -/
def headerOk (d : List Byte) (k : Nat) : Bool :=
  leField d 0 8 == k % 2 ^ 64 && leField d 10 6 == 0 && leField d 96 32 == 0
    && (slotMap d).all fun e => e / 1024 % 32 == 0

/-- The header is in: the batch opens, or the queue stops. -/
def State.batchTake (s : State) (d : List Byte) : State :=
  if headerOk d s.wiora.next then
    let s := s.modWiora fun w => { w with reading := false, slots := slotMap d, cookie := leField d 24 8, resolve := [] }
    (s.setFld WLINK_BQ_STAT_open 1).acAdd (s.fld WLINK_BQ_CFG_open_ac) 1 0
  else s.batchStop

/-- The next batch is opened where one is published and none is open. -/
def State.batchOpen (s : State) (ecc : Ecc) : State :=
  let ac := s.fld WLINK_BQ_CFG_pub_ac
  let go (s : State) : State :=
    let k := s.wiora.next
    let a := s.fld WLINK_BQ_HDR_base * 128 + 128 * (k % ringSize (s.fld WLINK_BQ_HDR_size) 65536)
    if (s.within a 128).isNone then s.batchStop
    else match s.fetch .batch a 128 0 ecc with
      | (t, .got (.data d)) => t.batchTake d
      | (t, .got _) => t.batchStop
      | (t, .wait) => t
  if s.wiora.reading then go s
  else if !s.flag WLINK_BQ_CFG_enable || s.flag WLINK_BQ_STAT_open || s.flag WLINK_BQ_STAT_stopped || s.ac ac == 0 then s
  else go ((s.setFld (FAB_AC_count ac) (s.ac ac - 1)).modWiora fun w => { w with reading := true })

/-! ### Training (R352) -/

/-- Port `p` enters a training state: 0 DETECT, 1 EQUALIZE, 2 ALIGN, 3 INIT. -/
def State.wEnter (s : State) (p st : Nat) (retrain : Bool) : State :=
  (s.modWport p fun q => { q with since := s.time.elapsed, retrain := retrain }).setFld (WLINK_STAT_state p) st

/-- The port leaves ACTIVE: its traffic is held for the grace (R353). -/
def State.wLeave (s : State) (p : Nat) : State :=
  match (s.wport p).graceAt with
  | some _ => s
  | none =>
    let t := s.time.elapsed + s.fld (WLINK_CFG_grace p) * 1280
    (s.modWport p fun q => { q with graceAt := some t }).setFld (WLINK_STAT_grace p) 1

/-- A retrain: an ACTIVE port goes back to EQUALIZE, and one that starts it tells its peer by op PAUSE. A port that is
still training begins EQUALIZE anew, with the timer of the training it is in. -/
def State.wRetrain (s : State) (p : Nat) (own : Bool) : State :=
  let st := s.fld (WLINK_STAT_state p)
  if st = 0 then s
  else if s.wactive p then
    let s := if own then s.modWport p fun q => q.putOp 2 else s
    ((s.count (WLINK_ERR_retrains p) 1).wLeave p).wEnter p 1 true
  else (s.count (WLINK_ERR_retrains p) 1).wEnter p 1 (s.wport p).retrain

/-- A protocol error (R351). -/
def State.wProto (s : State) (p : Nat) : State := (s.raise 0x7050 (unitWiora p) 0 p).wRetrain p true

/-- A request is answered, and the answer waits for the one who sent it: it gives its identity back. -/
def State.wKeep (s : State) (p t status : Nat) (data : List Byte) : State :=
  s.modWport p fun q =>
    let keep (e : WReq) : WReq :=
      if e.txid == t then { e with txid := 1024 + q.nHeld, answer := some (status, data), held := none } else e
    { q with reqs := q.reqs.map keep, nHeld := q.nHeld + 1 }

/-- What the flush of a port does to one outstanding request, sent or held (R353). -/
def State.wDown (s : State) (p : Nat) (r : WReq) : State :=
  let drop (s : State) : State := s.modWport p fun q => q.dropReq r.txid
  if r.answer.isSome then s
  else match r.who with
    | .pace => drop s
    | .evLine _ => drop s
    | .int => drop s
    | .evWrite ring =>
      ((drop s).modWport ring fun q => { q with dropped := q.dropped + 1 }).raiseBit (WLINK_EVR_STAT_dropped ring)
    | .deliver tag => (drop s).deliverLost tag
    | .away k => (drop s).awayDone k linkDownStatus []
    | _ => s.wKeep p r.txid linkDownStatus []

/-- The port is flushed and trains from DETECT with fresh set (R353). Companion requests received whole stay to be
performed; every other message received goes. -/
def State.wFlush (s : State) (p : Nat) : State :=
  let s := (s.setFld (WLINK_STAT_flushed p) 1).raise 0x7053 (unitWiora p) 0 p
  let s := s.modWport p fun q => { q with
    tx := [], replay := [], next := 0, acked := 1023, expect := 0, stalls := 0, nakDue := false, cc := 0
    sent := {}, seen := {}, freed := {}, graceAt := none, fresh := true, paceS := none, owe := 0
    rx := (q.rx.filter fun e => e.1 == 0 && e.2.cls == 1).map fun e => (0, { e.2 with old := true }) }
  let s := iter 2 (fun k t => t.modWport k fun q => { q with evE := q.evE.filter fun l => l.1 != p }) s
  let s := (s.wport p).reqs.foldl (fun t r => t.wDown p r) s
  let s := (s.setFld (WLINK_STAT_grace p) 0).setFld (WLINK_STAT_width p) 0
  s.wEnter p 0 false

/-- Grace expires. -/
def State.wGrace (s : State) (p : Nat) : State :=
  match (s.wport p).graceAt with
  | some t => (s.toElapsed t).wFlush p
  | none => s

/-- Whether a port may train: it is enabled and domain 22 is up (R352, R441). -/
def State.wMay (s : State) (p : Nat) : Bool := s.flag (WLINK_CTL_enable p) && s.domUp 22

/-- A training timer expires (R352). -/
def State.wStateTimeout (s : State) (p : Nat) : State :=
  let q := s.wport p
  let st := s.fld (WLINK_STAT_state p)
  let full (s : State) : State :=
    if q.retrain then s.wEnter p 0 false else (s.raise 0x7051 (unitWiora p) 0 p).wEnter p 0 false
  if !s.wMay p then s
  else if st = 0 then (s.toElapsed (q.since + 1280000)).wEnter p 0 false
  else if st = 1 then full (s.toElapsed (q.since + (if q.retrain then 30720 else 128000000)))
  else if st = 2 then full (s.toElapsed (q.since + 12800))
  else if st = 3 then
    let s := s.toElapsed (q.since + 2560)
    if q.tries < 3 then
      ((s.modWport p fun q => { q with tries := q.tries + 1 }).count (WLINK_ERR_retrains p) 1).wEnter p 1 true
    else (s.modWport p fun q => { q with tries := 0 }).wEnter p 0 false
  else s

/-- The width an equalisation gives: 3 x16, 1 x8 low, 2 x8 high, 0 none (R345). -/
def wWidth (force low high : Bool) : Nat :=
  if low && high && !force then 3 else if low then 1 else if high then 2 else 0

/-- The lanes both sides have. -/
def wCommon (a b : Nat) : Nat := if a = 3 then b else if b = 3 then a else if a = b then a else 0

/-- The port is ACTIVE: its grace ends, held flits are replayed, a narrower or slower port is degraded. -/
def State.wActivate (s : State) (p width : Nat) (half : Bool) : State :=
  let s := s.modWport p fun q =>
    { q.resend with graceAt := none, fresh := false, tries := 0, retrain := false, ackAt := s.time.elapsed, stalls := 0 }
  let s := ((s.setFld (WLINK_STAT_state p) 4).setFld (WLINK_STAT_grace p) 0).setFld (WLINK_STAT_width p) width
  let low := width != 3 || half
  let s := (s.setFld (WLINK_STAT_half p) (b2n half)).setFld (WLINK_STAT_degraded p) (b2n low)
  let s := if low then s.raise 0x7052 (unitWiora p) 0 p else s
  (((s.wPump p).paceAsk p).evAhead p).evGo p

/-- Whether freed counts that came free more than was sent (R350). -/
def WPortSt.countError (q : WPortSt) (cc frh frd : Nat) : Bool :=
  let h := q.seen.h.getD cc 0
  decide (subMod 12 (q.sent.h.getD cc 0) h < subMod 12 frh h) || decide (subMod 12 q.sent.d q.seen.d < subMod 12 frd q.seen.d)

/-- The freed counts of INIT are taken (R350, R352). -/
def WPortSt.takeInit (q : WPortSt) (identity : Nat) (fr : List Nat) (frd : Nat) : WPortSt :=
  { q with peerId := identity, seen := { h := fr, d := frd } }

/-- Four INIT flits each way (R251, R352, R353): with fresh set on either side the sequence and the counts start at 0,
and a side without it is flushed first; else the peer's expected number must lie in the window, and its freed counts
free no more than was sent. -/
def State.wInit (s : State) (p width : Nat) (half fresh : Bool) (identity : Nat) (fr : List Nat) (frd expect : Nat) :
    State :=
  let w := wCommon (s.fld (WLINK_STAT_width p)) width
  let half := half || s.flag (WLINK_CTL_half_rate p)
  let q := s.wport p
  if w = 0 then s
  else if q.fresh then (s.modWport p fun q => { q with peerId := identity }).wActivate p w half
  else if fresh then ((s.wFlush p).modWport p fun q => { q with peerId := identity }).wActivate p w half
  else if (List.range 4).any fun c => q.countError c (fr.getD c 0) frd then s.wProto p
  else
    let a := subMod 10 expect 1
    if subMod 10 a q.acked ≤ subMod 10 (subMod 10 q.next 1) q.acked then
      let n := subMod 10 a q.acked
      (s.modWport p fun q => { q.takeInit identity fr frd with replay := q.replay.drop n, acked := a }).wActivate p w half
    else (s.raise 0x7050 (unitWiora p) 0 p).wFlush p

/-- A training state completes. -/
def State.wTrained (s : State) (p : Nat) (r : WTrain) : State :=
  let st := s.fld (WLINK_STAT_state p)
  if !s.wMay p then s
  else match r with
    | .detected => if st = 0 then s.wEnter p 1 false else s
    | .equalized low high =>
      let w := wWidth (s.flag (WLINK_CTL_width_max p)) low high
      if st = 1 ∧ w ≠ 0 then (s.setFld (WLINK_STAT_width p) w).wEnter p 2 (s.wport p).retrain else s
    | .locked => if st = 2 then s.wEnter p 3 (s.wport p).retrain else s
    | .initialised identity width half fresh freed slots expect =>
      if st = 3 then
        s.wInit p width.toNat half fresh identity.toNat (freed.toList.map (·.toNat)) slots.toNat expect.toNat
      else s

/-- WLINK_CTL is written: `old` its value before, `v` the value written (R345, R352, R377). -/
def State.wCtl (s : State) (p old v : Nat) : State :=
  let s := s.setReg (WLINK_CTL p) (BitVec.ofNat 32 (v &&& 0xD))
  if !bit v 0 then
    let s := if s.wactive p then s.wLeave p else s
    (s.setFld (WLINK_STAT_width p) 0).wEnter p 0 false
  else if !bit old 0 then s.wEnter p 0 false
  else if bit v 1 || bit old 2 != bit v 2 || bit old 3 != bit v 3 then s.wRetrain p true
  else s

/-- WLINK_CFG is written, or refused for its grace. -/
def State.wCfg (s : State) (p v : Nat) : State :=
  if 1 ≤ v % 2 ^ 14 ∧ v % 2 ^ 14 ≤ 16000 then s.setReg (WLINK_CFG p) (BitVec.ofNat 32 (v % 2 ^ 14))
  else s.raise 0x7054 (unitWiora p) 0 p

/-! ### Reception (R346 to R351) -/

/-- The headers of a flit, empty positions left out. -/
def wHeaders (f : WFlit) : List WMsg :=
  ((List.range 4).map fun i => msgOf (leField f.payload (11 * i) 11)).filter fun m => m.cls != 0

/-- Whether a header has a reserved class or op (R347, R348). -/
def WMsg.reserved (m : WMsg) : Bool :=
  if m.cls = 1 then !decide (1 ≤ m.op ∧ m.op ≤ 9)
  else if m.cls ≤ 4 then !decide (1 ≤ m.op ∧ m.op ≤ 2) else true

/-- A data slot belongs to the oldest message still short of one (R349). -/
def takeSlot (bs : List Byte) : List (Nat × WMsg) → List (Nat × WMsg)
  | [] => []
  | (0, m) :: l => (0, m) :: takeSlot bs l
  | (k + 1, m) :: l => (k, { m with data := m.data ++ bs }) :: l

/-- Data slots in use: received, or announced by a header received. -/
def slotsHeld (l : List (Nat × WMsg)) : Nat := (l.map fun e => e.2.slots).foldl (· + ·) 0

/-- Whether the messages of a flit pass the receiver's room (R350). -/
def WPortSt.roomError (q : WPortSt) (ms : List WMsg) : Bool :=
  let full (c : Nat) : Bool :=
    decide (256 < ((q.rx.filter fun e => e.2.cls == c).length + (ms.filter fun m => m.cls == c).length))
  [1, 2, 3, 4].any full || decide (1024 < slotsHeld q.rx + (ms.map WMsg.slots).foldl (· + ·) 0)

/-- NAK: the receiver asks for everything after the last flit it accepted. -/
def State.wNak (s : State) (p : Nat) : State := s.modWport p fun q => { q.putOp 1 with nakDue := true }

/-- A replay from the oldest held flit. -/
def State.wReplay (s : State) (p : Nat) : State :=
  if (s.wport p).replay.isEmpty then s else (s.modWport p WPortSt.resend).count (WLINK_ERR_replays p) 1

/-- The messages and slots of an accepted flit. -/
def State.wTake (s : State) (p : Nat) (f : WFlit) : State :=
  let pay := padTo 236 f.payload
  let new := (wHeaders f).map fun m => (m.slots, m)
  let fill (l : List (Nat × WMsg)) (i : Nat) : List (Nat × WMsg) := takeSlot ((pay.drop (44 + 64 * i)).take 64) l
  s.modWport p fun q =>
    { q with rx := (List.range 3).foldl fill (q.rx ++ new), expect := (q.expect + 1) % 1024, nakDue := false
             owe := max q.owe 1 }

/-- Whether a flit is empty: it carries nothing, no message received is short of data slots, or it carries an op. -/
def WPortSt.isEmpty (q : WPortSt) (f : WFlit) : Bool :=
  f.payload.all (· == 0) && (bits f.hdr.toNat 20 2 != 0 || q.rx.all fun e => e.1 == 0)

/-- A flit whose FEC and CRC pass. An empty one takes no number. Only a flit in its turn is held to the room there
is: a flit that came before is discarded. -/
def State.wGood (s : State) (p : Nat) (f : WFlit) : State :=
  let q := s.wport p
  let h := f.hdr.toNat
  let ack := bits h 10 10
  let op := bits h 20 2
  let cc := bits h 22 2
  let ms := wHeaders f
  let turn := bits h 0 10 == q.expect
  if op = 3 || ms.any WMsg.reserved || q.countError cc (bits h 24 12) (bits h 36 12)
      || decide (subMod 10 (subMod 10 q.next 1) q.acked < subMod 10 ack q.acked) || (turn && q.roomError ms) then s.wProto p
  else
    let n := subMod 10 ack q.acked
    let now := s.time.elapsed
    let s := s.modWport p fun q => { q with seen := { h := q.seen.h.set cc (bits h 24 12), d := bits h 36 12 } }
    let s := if n = 0 then s else s.modWport p fun q =>
      { q with replay := q.replay.drop n, acked := ack, ackAt := now, stalls := 0 }
    let s := if op = 1 then s.wReplay p else s
    if op = 2 then s.wRetrain p false
    else
      let s :=
        if q.isEmpty f then s
        else if turn then s.wTake p f
        else if q.nakDue then s else s.wNak p
      s.wPump p

/-- A flit arrives on an ACTIVE port. -/
def State.wReceive (s : State) (p : Nat) (f : WFlit) (fec : WFec) : State :=
  if !s.wactive p then s
  else match fec with
    | .bad => (s.count (WLINK_ERR_crc p) 1).wNak p
    | .ok => s.wGood p f

/-- The ack has not advanced for 2,560 ticks: a replay; eight in a row are a protocol error (R351). -/
def State.wReplayTimeout (s : State) (p : Nat) : State :=
  let q := s.wport p
  if s.wactive p ∧ q.replay ≠ [] then
    let s := s.toElapsed (q.ackAt + 2560)
    let n := q.stalls + 1
    let s := (s.modWport p fun q => { q with ackAt := s.time.elapsed, stalls := if n < 8 then n else 0 }).wReplay p
    if n < 8 then s else s.wProto p
  else s

/-- The oldest message of a class, if it is whole and has one of the ops: it is consumed and its credits are freed. -/
def State.popMsg (s : State) (p cls : Nat) (ops : List Nat) : Option (WMsg × State) :=
  match (s.wport p).rx.find? fun e => e.2.cls == cls with
  | some (0, m) =>
    if ops.contains m.op then
      let i := cls - 1
      let free (c : WCred) : WCred := if m.old then c else
        { h := c.h.set i ((c.h.getD i 0 + 1) % 4096), d := (c.d + m.slots) % 4096 }
      some (m, s.modWport p fun q =>
        { q with rx := q.rx.eraseP fun e => e.2.cls == cls, freed := free q.freed, owe := if m.old then q.owe else 4 })
    else none
  | _ => none

/-! ### Device windows (R355) -/

def State.dwinSpan (s : State) (p k : Nat) : Nat × Nat := (s.fld (WLINK_DWIN_base p k), s.fld (WLINK_DWIN_size p k))

/-- Whether the 128 bits of a window break R355. A window that is not valid breaks nothing. -/
def State.dwinBad (s : State) (p k v : Nat) : Bool :=
  let size := bits v 16 16
  let base := bits v 32 16
  let dev := bits v 64 48
  let meets (j : Nat) : Bool :=
    let (b, n) := s.dwinSpan p j
    j != k && s.flag (WLINK_DWIN_valid p j) && decide (base < b + n ∧ b < base + size)
  bit v 0 && (decide (size < 1 ∨ 2048 < size ∨ base < 1 ∨ 65536 < base + size) || dev % 2 ^ 30 != 0
    || (s.within dev (size * 2 ^ 30)).isNone || (List.range 8).any meets)

/-- The four words of a window take effect together, or are refused. -/
def State.dwinCommit (s : State) (p k v : Nat) : State :=
  if s.dwinBad p k v then s.raise 0x7023 (unitWiora p) 0 p
  else
    let a := WLINK_DWIN p k
    (s.setReg64 a (v &&& 0x0000FFFFFFFF0001)).setReg64 (a + 8) (bits v 64 48)

/-- The device address of an address above the control space in port `p`'s space, and the end of its window. -/
def State.dwinOf (s : State) (p a : Nat) : Option (Nat × Nat) :=
  (List.range 8).findSome? fun k =>
    let (b, n) := s.dwinSpan p k
    if s.flag (WLINK_DWIN_valid p k) && decide (b * 2 ^ 30 ≤ a ∧ a < (b + n) * 2 ^ 30) then
      some (s.fld (WLINK_DWIN_dev p k) + (a - b * 2 ^ 30), (b + n) * 2 ^ 30)
    else none

/-! ### Ownership (R370 to R372) -/

/-- The owner becomes `agent`, 0 for none: a change is counted and told to the management bus (R371). -/
def State.setOwner (s : State) (agent : Nat) : State :=
  if s.fld GEN_OWN_STAT_owner = agent then s
  else
    let s := (s.setFld GEN_OWN_STAT_owner agent).setFld GEN_OWN_STAT_epoch (s.fld GEN_OWN_STAT_epoch + 1)
    s.raiseIbi 2

/-- The lease starts: GEN_OWN_CFG.lease seconds from now. -/
def State.leaseStart (s : State) : State :=
  s.modOwn fun o => { o with leaseAt := s.time.elapsed + s.fld GEN_OWN_CFG_lease * 1280000000 }

/-- Whether an ownership command is accepted. -/
def State.ownOk (s : State) (agent op target : Nat) : Bool :=
  let owner := s.fld GEN_OWN_STAT_owner
  let offer := s.fld GEN_OWN_STAT_offer
  if op = 1 then owner == 0
  else if op = 2 ∨ op = 3 then owner == agent
  else if op = 4 then owner == agent && decide (1 ≤ target ∧ target ≤ 4) && target != agent
  else if op = 5 then offer == agent
  else if op = 6 then owner == agent && offer != 0
  else false

/-- The lease has run out: no owner, and no offer. -/
def State.leaseLapse (s : State) : State := ((s.setOwner 0).setFld GEN_OWN_STAT_offer 0).raise 0x7010 0 0 0

/-- The lease is checked after the commands of its tick (R372): a command that comes later finds no owner. -/
def State.leaseCheck (s : State) : State :=
  if s.fld GEN_OWN_STAT_owner != 0 && Nat.blt s.own.leaseAt s.time.elapsed then s.leaseLapse else s

/-- Whether an agent's ownership command reaches the module: a companion's comes over its port (R371). -/
def State.ownReaches (s : State) (agent : Nat) : Bool :=
  s.reaches agent && (!(agent == 1 || agent == 2) || s.wactive (agent - 1))

/-- An ownership command of an agent. One of DBG is refused once DBG_LOCK is blown (R395). -/
def State.ownCmd (s : State) (agent op target : Nat) : State :=
  if agent == 4 && s.boot.dbgLock && s.alive then s.raise 0x7011 0 0 (agent + 16 * op)
  else if !s.ownReaches agent then s
  else
  let s := s.leaseCheck
  if !s.ownOk agent op target then s.raise 0x7011 0 0 (agent + 16 * op)
  else if op = 1 then (s.setOwner agent).leaseStart
  else if op = 2 then s.leaseStart
  else if op = 3 then s.setOwner 0
  else if op = 4 then s.setFld GEN_OWN_STAT_offer target
  else if op = 5 then ((s.setFld GEN_OWN_STAT_offer 0).setOwner agent).leaseStart
  else s.setFld GEN_OWN_STAT_offer 0

/-- The lease runs out. -/
def State.leaseExpire (s : State) : State :=
  if s.fld GEN_OWN_STAT_owner = 0 then s
  else (s.toElapsed s.own.leaseAt).leaseLapse

/-- GEN_OWN_CFG is written, or refused. -/
def State.ownCfg (s : State) (v : Nat) : State :=
  if 1 ≤ v % 64 ∧ v % 64 ≤ 60 then s.setFld GEN_OWN_CFG_lease (v % 64) else s.raise 0x7012 0 0 0

/-! ### The commands -/

def execWioraFlitReceive (wport : WPort) (flit : WFlit) (fec : WFec) (s : State) : Out :=
  .next (s.wReceive wport flit fec)
def execWioraReplayTimeout (wport : WPort) (s : State) : Out := .next (s.wReplayTimeout wport)
def execWioraStateTimeout (wport : WPort) (s : State) : Out := .next (s.wStateTimeout wport)
def execWioraTrainDone (wport : WPort) (result : WTrain) (s : State) : Out := .next (s.wTrained wport result)
def execWioraGraceExpire (wport : WPort) (s : State) : Out := .next (s.wGrace wport)
/-- Loss of a lane starts a retrain (R352). -/
def execWioraLaneLoss (wport : WPort) (_lane : Fin 16) (s : State) : Out := .next (s.wRetrain wport true)
def execBatchOpen (ecc : Ecc) (s : State) : Out := .next (s.batchOpen ecc)
def execIntGapExpire (wport : WPort) (s : State) : Out := .next (s.intGap wport)
def execOwnClaim (agent : Agent) (s : State) : Out := .next (s.ownCmd (agentNo agent) 1 0)
def execOwnRenew (agent : Agent) (s : State) : Out := .next (s.ownCmd (agentNo agent) 2 0)
def execOwnRelease (agent : Agent) (s : State) : Out := .next (s.ownCmd (agentNo agent) 3 0)
def execOwnOffer (agent : Agent) (target : BitVec 3) (s : State) : Out :=
  .next (s.ownCmd (agentNo agent) 4 target.toNat)
def execOwnAccept (agent : Agent) (s : State) : Out := .next (s.ownCmd (agentNo agent) 5 0)
def execOwnWithdraw (agent : Agent) (s : State) : Out := .next (s.ownCmd (agentNo agent) 6 0)
def execLeaseExpire (s : State) : Out := .next s.leaseExpire

end Sys2Proof.Machine
end

