-- ==== Sys2Proof/Machine/Power.lean ====
section
/-! DEFINITION. Slack monitors and bank governors (R175 to R178), the input (R438 to R440), power domains (R441 to
R444), the thermal limiter and the critical limits (R445 to R448) and SYNC (R449). -/

namespace Sys2Proof.Machine

/-! ### Slack and plan rate (R172, R174, R175) -/

/-- TIME_SCHED_CTL.plan is written, or refused above 61,440. -/
def State.planWrite (s : State) (v : Nat) : State :=
  if v % 65536 ≤ 61440 then s.setFld TIME_SCHED_CTL_plan (v % 65536) else s.raise 0x3001 0 0 0

/-- P of R175. -/
def State.planSteps (s : State) : Nat := s.fld TIME_SCHED_CTL_plan * 25 / 128

/-- Steps chain `c` of sheet `i` completed in the window. -/
def chainOf (x : PeriodSample) (i c : Nat) : Nat := (x.chains.toList.getD (4 * i + c) 0).toNat

/-- The least of the four counts and the chain it belongs to; the first chain where several are least. -/
def leastChain (x : PeriodSample) (i : Nat) : Nat × Nat :=
  [1, 2, 3].foldl (fun m c => if chainOf x i c < m.1 then (chainOf x i c, c) else m) (chainOf x i 0, 0)

/-- A sheet latches its slack. -/
def State.latchSlack (s : State) (x : PeriodSample) (i : Nat) : State :=
  let (n, c) := leastChain x i
  let slack : Int := (n : Int) - s.planSteps
  let s := iter 4 (fun c t => t.setFld (SHEET_SLACK_C_count i c) (chainOf x i c)) s
  let s := (s.setFld (SHEET_SLACK_slack i) (uNat 16 slack)).setFld (SHEET_SLACK_chain i) c
  if slack < 0 then (s.setFld (SHEET_SLACK_neg i) 1).count (SHEET_SLACK_NEG_CNT_count i) 1 else s

/-- A crossing's eye margin falls below one tap (R172): recorded once. -/
def State.lowMargin (s : State) (c m : Nat) : State :=
  let s := s.setFld (TIME_XING_margin c) m
  if m < 1 ∧ s.flag (TIME_XING_aligned c) then
    let s := s.setFld (TIME_XING_low_margin c) 1
    if s.time.xing.contains c then s
    else (s.modTime fun t => { t with xing := t.xing ++ [c] }).raise 0x3011 (unitXing c) 0 c
  else s

/-! ### Power domains (R441 to R444) -/

/-- The domain a sensor lies in. -/
def sensorDom (k : Nat) : Nat :=
  if k < 16 then k else if k = 16 then 24 else if k < 21 then 16 else if k = 21 then 23
  else if k < 26 then 19 else if k < 30 then 20 else 23

/-- Domain `j` comes up, or goes down: the readings of its sensors are then no longer valid (R382). -/
def State.setDom (s : State) (j : Nat) (on : Bool) : State :=
  let s := s.setFld PWR_DOM_STAT_on (putBits (s.fld PWR_DOM_STAT_on) j 1 (b2n on))
  if on then s
  else ((List.range 33).filter fun k => sensorDom k == j).foldl (fun t k => t.setFld (PWR_TEMP_valid k) 0) s

/-- The domains of `l` lose power. -/
def State.domsDown (s : State) (l : List Nat) : State := l.foldl (fun t j => t.setDom j false) s

/-- The domains of the POWER step in their order (R441), without those marked in PWR_DOM_OFF (R444). -/
def State.powerOrder (s : State) : List Nat :=
  ([16, 19, 20, 21, 17, 18] ++ List.range 16).filter fun j =>
    !(j == 18 && s.flag PWR_DOM_OFF_global) && !(j == 21 && s.flag PWR_DOM_OFF_ddr)

/-- The first of `l` is enabled now; each other one after the one before it (R442). -/
def State.bringUp (s : State) (l : List Nat) : State :=
  s.modPwr fun p => { p with bring := l, bringAt := s.time.elapsed }

/-- The sheets of bank `n` (R102). -/
def bankSheets (n : Nat) : List Nat :=
  (List.range 20).map fun k => n / 8 * 160 + k / 2 * 16 + n % 8 * 2 + k % 2

/-- The domain being enabled reports power good: the next one is enabled. -/
def State.powerGood (s : State) : State :=
  match s.pwr.bring with
  | [] => s
  | j :: l =>
    let s := s.setDom j true
    let s := if j < 16 then s.startBank j else s
    s.bringUp l

/-- The domain being enabled did not report power good within 3 ms. -/
def State.pgTimeout (s : State) : State :=
  match s.pwr.bring with
  | [] => s
  | j :: _ =>
    let s := s.toElapsed (s.pwr.bringAt + 3840000)
    let s := s.setFld PWR_DOM_FAIL_fail (s.fld PWR_DOM_FAIL_fail ||| 2 ^ j)
    (s.raise 0x9010 0 0 j).modPwr fun p => { p with bring := [] }

/-- PWR_DOM_OFF is written, or refused (R444). -/
def State.domOff (s : State) (v : Nat) : State :=
  let step := s.fld BOOT_STAT_step
  if (step = 1 ∨ step = 2) ∧ v &&& 0x240000 = v then s.setReg PWR_DOM_OFF (BitVec.ofNat 32 v)
  else s.raise 0x9011 0 0 0

/-! ### The input (R438 to R440) -/

/-- The main switch opens: domains 0 to 21 lose power, and every fabric port goes to OFF. It stays open until a module
reset or a power-up (R439, R448). -/
def State.mainOpen (s : State) : State :=
  let s := (s.domsDown (List.range 22)).setFld PWR_STAT_main 0
  let off (p : Nat) (t : State) : State :=
    if t.fld (LINK_STAT_state p) = 0 then t
    else
      let t := if t.fld (LINK_STAT_state p) = 5 then t.leaveActive p else t
      ((t.linkEnter p 0).setFld (LINK_STAT_retraining p) 0).setFld (LINK_STAT_lanes p) 0
  (iter 31 off s).modPwr fun p => { p with tripped := true, bring := [] }

/-- Both switches open: only the cartouche's own supply is left. -/
def State.bothOpen (s : State) : State :=
  let s := s.mainOpen.domsDown [22, 23, 24]
  let off (p : Nat) (t : State) : State := (t.setFld (WLINK_STAT_width p) 0).wEnter p 0 false
  ((iter 2 off s).setFld PWR_STAT_standby 0).modPwr fun p => { p with opened := true }

/-- The input leaves its limits. -/
def State.inputFail (s : State) (f : Fld) (code : Nat) : State :=
  if s.pwr.opened then s.modPwr fun p => { p with inputBad := true }
  else (((s.setFld f 1).raise code 0 0 0).bothOpen).modPwr fun p => { p with inputBad := true }

/-- The overcurrent trip: the main switch opens and stays open until a module reset (R439). -/
def State.overcurrent (s : State) : State :=
  if s.flag PWR_STAT_main then ((s.setFld PWR_STAT_overcurrent 1).raise 0x9003 0 0 0).mainOpen else s

/-- PWR_IN_CFG is written, or refused (R455). -/
def State.powerCap (s : State) (v : Nat) : State :=
  let n := v % 2048
  if 500 ≤ n ∧ n ≤ 1700 then s.setFld PWR_IN_CFG_cap n else s.raise 0x9012 0 0 0

/-! ### Temperature (R445 to R448) -/

/-- A sensor is read: it is valid where its domain is up. -/
def State.readSensor (s : State) (k : Nat) (v : BitVec 8) : State :=
  (s.setFld (PWR_TEMP_temp k) v.toNat).setFld (PWR_TEMP_valid k) (b2n (s.domUp (sensorDom k)))

/-- The signed reading of a sensor. -/
def State.temp (s : State) (k : Nat) : Int := sInt 8 (s.fld (PWR_TEMP_temp k))

/-- The stacks beside a die, as sensor numbers (00_scope, R312). -/
def dieStacks (die : Nat) : List Nat := (List.range 4).map fun k => 22 + 4 * die + k

/-- Whether a die's banks were taken down at a critical temperature. -/
def State.dieDown (s : State) (die : Nat) : Bool :=
  if die = 0 then s.flag PWR_THERM_STAT_cd0_down else s.flag PWR_THERM_STAT_cd1_down

/-- The unit of a bank or stack sensor (R400). -/
def sensorUnit (k : Nat) : Nat := if k < 16 then unitBank k else unitDev (k - 22)

/-- The eight banks of a die are taken down because of a sensor, and its engines halt; those still to be enabled stay
down (R447). -/
def State.takeDown (s : State) (die k : Nat) : State :=
  if s.dieDown die then s
  else
    let s := s.domsDown ((List.range 8).map (8 * die + ·))
    let s := s.setFld (if die = 0 then PWR_THERM_STAT_cd0_down else PWR_THERM_STAT_cd1_down) 1
    let s := iter 160 (fun i t => t.setFld (SHEET_STATUS_halted (160 * die + i)) 15) s
    let left := s.pwr.bring.filter fun j => !decide (8 * die ≤ j ∧ j < 8 * die + 8)
    let s := if left = s.pwr.bring then s else s.bringUp left
    (s.modPwr fun p => { p with down := p.down ++ [(die, k)] }).raiseHalt 0x9032 (sensorUnit k) 0 0

/-- A bank or stack sensor against its critical value: 110 and 105 degrees. -/
def State.checkCritical (s : State) (k : Nat) : State :=
  if !s.flag (PWR_TEMP_valid k) then s
  else if k < 16 then (if 110 ≤ s.temp k then s.takeDown (k / 8) k else s)
  else if 105 ≤ s.temp k then s.takeDown ((k - 22) / 4) k else s

/-- An FD sensor at or above 115 degrees: the main switch opens until a module reset (R448). -/
def State.checkFd (s : State) (k : Nat) : State :=
  if s.flag (PWR_TEMP_valid k) && decide (115 ≤ s.temp k) && s.flag PWR_STAT_main then
    ((s.setFld PWR_STAT_fd_critical 1).raise 0x9033 0 0 (k - 16)).mainOpen
  else s

/-- The coolant inlet above 40 degrees: recorded once per hour. -/
def State.checkInlet (s : State) : State :=
  let due := match s.pwr.warm with | none => true | some t => decide (t + 3600 * 1280000000 ≤ s.time.elapsed)
  if due && decide (40 < s.temp 30) then
    (s.modPwr fun p => { p with warm := some s.time.elapsed }).raise 0x9030 0 0 0
  else s

/-! ### The limiter (R446) -/

/-- Consecutive samples below a throttle-off value; two are enough. -/
def coolNext (below : Bool) (n : Nat) : Nat := if below then min (n + 1) 2 else 0

/-- Whether a bank must be throttled. -/
def State.bankHot (s : State) (n : Nat) : Bool :=
  (s.flag (PWR_TEMP_valid n) && decide ((s.fld PWR_THERM_CFG_die_on : Int) ≤ s.temp n))
    || (dieStacks (n / 8)).any (fun k => s.flag (PWR_TEMP_valid k) && decide ((s.fld PWR_THERM_CFG_hbm_on : Int) ≤ s.temp k))
    || s.flag PWR_THERM_STAT_capped

/-- Whether every sensor concerned has been cool for two samples. -/
def State.bankCool (s : State) (n : Nat) : Bool :=
  decide (2 ≤ smGet (fun _ => 0) s.pwr.coolBank n) && decide (2 ≤ s.pwr.coolPower)
    && (dieStacks (n / 8)).all fun k => !s.flag (PWR_TEMP_valid k) || decide (2 ≤ smGet (fun _ => 0) s.pwr.coolStack k)

/-- The limiter for one bank. -/
def State.limit (s : State) (n : Nat) : State :=
  let below := !s.flag (PWR_TEMP_valid n) || decide (s.temp n < (s.fld PWR_THERM_CFG_die_off : Int))
  let s := s.modPwr fun p =>
    { p with coolBank := smSet (fun _ => 0) p.coolBank n (coolNext below (smGet (fun _ => 0) p.coolBank n)) }
  if s.bankHot n then
    if s.flag (PWR_GOV_STAT_throttle n) then s else (s.setFld (PWR_GOV_STAT_throttle n) 1).raise 0x9031 (unitBank n) 0 0
  else if s.bankCool n then s.setFld (PWR_GOV_STAT_throttle n) 0
  else s

/-! ### The governor (R176 to R178) -/

/-- The least slack of a bank's sheets. -/
def State.bankSlack (s : State) (n : Nat) : Int :=
  (bankSheets n).foldl (fun m i => min m (sInt 16 (s.fld (SHEET_SLACK_slack i)))) 32767

/-- The code a bank moves to. -/
def State.govNext (s : State) (n : Nat) (slack : Int) : Int :=
  let v : Int := s.fld (PWR_GOV_STAT_code n)
  let t := sInt 16 (s.fld (PWR_GOV_TGT_target n))
  let w :=
    if s.flag (PWR_GOV_CTL_fixed n) || s.fld TIME_SCHED_CTL_plan == 0 then (s.fld (PWR_GOV_CTL_vstart n) : Int)
    else if s.flag (PWR_GOV_STAT_throttle n) then v - 1
    else if slack < t then v + 1
    else if t + s.fld (PWR_GOV_TGT_hyst n) < slack then v - 1
    else v
  min (max w (s.fld (PWR_GOV_CTL_vmin n))) (s.fld (PWR_GOV_CTL_vmax n))

/-- The governor of a bank that is up. -/
def State.govern (s : State) (n : Nat) : State :=
  if !s.domUp n then s
  else
    let slack := s.bankSlack n
    let v := (s.govNext n slack).toNat
    let s := (s.setCode n v).setFld (PWR_GOV_STAT_slack n) (uNat 16 slack)
    if slack < 0 then
      let s := s.count (PWR_GOV_NEG_CNT_count n) 1
      if smGet (fun _ => 0) s.time.neg3030 n = s.frame + 1 then s
      else (s.modTime fun t => { t with neg3030 := smSet (fun _ => 0) t.neg3030 n (s.frame + 1) }).raise
        0x3030 (unitBank n) 0 0
    else s

/-- A governor register is written, or refused for its codes (R177). -/
def State.govWrite (s : State) (n : Nat) (ctl : Bool) (v : Nat) : State :=
  if ctl then
    let vmin := bits v 0 6
    let vmax := bits v 8 6
    let start := bits v 16 6
    if vmin ≤ start ∧ start ≤ vmax ∧ vmax ≤ 60 then s.setReg (PWR_GOV_CTL n) (BitVec.ofNat 32 (v &&& 0x013F3F3F))
    else s.raise 0x9020 (unitBank n) 0 0
  else s.setReg (PWR_GOV_TGT n) (BitVec.ofNat 32 v)

/-- The end of a governor period: sensors and slack are sampled, the critical limits and the limiter act, then the
governors. -/
def State.period (s : State) (x : PeriodSample) : State :=
  let s := if s.time.period < s.time.tick / 12800 then s else s.toTick (s.nextAfter 0 12800)
  let s := s.modTime fun t => { t with period := t.tick / 12800 }
  let s := x.temps.toList.zipIdx.foldl (fun t e => t.readSensor e.2 e.1) s
  let s := ((s.readSensor 30 x.inlet).readSensor 31 x.outlet).readSensor 32 x.board
  let s := (s.setFld PWR_IN_STAT_volts x.volts.toNat).setFld PWR_IN_STAT_amps x.amps.toNat
  let s := iter 320 (fun i t => if t.sheetUp i then t.latchSlack x i else t) s
  let s := iter 16 (fun k t => t.checkCritical k) s
  let s := iter 6 (fun k t => t.checkFd (16 + k)) s
  let s := s.checkInlet
  let ovf := decide (s.fld PWR_IN_CFG_cap * 1000 < x.power.toNat)
  let s := (s.setFld PWR_THERM_STAT_capped (b2n ovf)).modPwr fun p => { p with coolPower := coolNext (!ovf) p.coolPower }
  let s := iter 16 (fun n t => t.limit n) s
  iter 16 (fun n t => t.govern n) s

/-! ### SYNC (R449) -/

/-- SYNC goes high 16 +- 1 ticks after this boundary: which of the three is a free value. -/
def State.syncRise (s : State) : State :=
  let (v, s) := s.draw 2
  s.modPwr fun p => { p with syncAt := some (s.time.elapsed + 15 + v % 3) }

/-- The level of SYNC. -/
def State.syncHigh (s : State) : Bool :=
  match s.pwr.syncAt with
  | none => false
  | some t => decide (t ≤ s.time.elapsed)
      && ((s.flag PWR_SYNC_CTL_frame_en && decide (s.time.elapsed < t + 1024))
        || (s.flag PWR_SYNC_CTL_twin_en && s.flag FAULT_TWIN_STAT_diverged))

/-- PWR_OK: the main switch is closed and every domain not skipped is up (R451). -/
def State.pwrOk (s : State) : Bool := s.flag PWR_STAT_main && s.powerOrder.all s.domUp

/-- THERM_N is low while a bank is throttled or was taken down (R451). -/
def State.thermLow (s : State) : Bool :=
  (List.range 16).any (fun n => s.flag (PWR_GOV_STAT_throttle n)) || s.dieDown 0 || s.dieDown 1

/-- PWR_SYNC_CTL is written, or refused. -/
def State.syncWrite (s : State) (v : Nat) : State :=
  let bad := (bit v 0 && bit v 1) || (bit v 0 && s.flag PWR_SYNC_CTL_twin_en) || (bit v 1 && s.flag PWR_SYNC_CTL_frame_en)
  if bad then (s.setFld PWR_SYNC_CTL_refused 1).raise 0x9040 0 0 0
  else
    let s := if bit v 2 then s.setFld PWR_SYNC_CTL_refused 0 else s
    let s := (s.setFld PWR_SYNC_CTL_frame_en (b2n (bit v 0))).setFld PWR_SYNC_CTL_twin_en (b2n (bit v 1))
    if bit v 0 || bit v 1 then s else s.modPwr fun p => { p with syncAt := none }

/-! ### The commands -/

def execCrossingLowMargin (crossing : Fin 15) (margin : BitVec 3) (s : State) : Out :=
  .next (s.lowMargin crossing margin.toNat)
def execGovernorPeriod (sample : PeriodSample) (s : State) : Out := .next (s.period sample)
def execInputUndervoltage (s : State) : Out := .next (s.inputFail PWR_STAT_undervolt 0x9001)
def execInputOvervoltage (s : State) : Out := .next (s.inputFail PWR_STAT_overvolt 0x9002)
def execOvercurrentTrip (s : State) : Out := .next s.overcurrent
/-- MATE_N opens on removal: both switches open (R440). -/
def execMateOpen (s : State) : Out :=
  .next ((if s.pwr.opened then s else s.bothOpen).modPwr fun p => { p with mate := false })

end Sys2Proof.Machine
end

