-- ==== Sys2Proof/Machine/Frame.lean ====
section
/-! DEFINITION. The frame boundary (R187) and what happens at it: SLIP (R183), twin comparison (R416), circular waits
and starvation (R164, R165), stops (R410, R411), waypoints (R190), refresh (R312) and SYNC (R449). -/

namespace Sys2Proof.Machine

/-! ### Step 1: SLIP (R183, R186) -/

/-- Whether the register at an address is an enabled comparator of a sheet whose source is the time counter, and the
sheet and the number of it. -/
def timeCmp (a : Nat) (w : Word) : Option (Nat × Nat) :=
  let o := a % 0x10000
  if inSheetBlock a && decide (0x280 ≤ o ∧ o < 0x2A0) && w.getLsbD 0 && !w.getLsbD 1 then some (sheetOf a, (o - 0x280) / 4)
  else none

/-- Every enabled time comparator moves one frame on. -/
def State.moveCmps (s : State) : State :=
  (s.csr.filterMap fun e => timeCmp e.1 e.2).foldl (fun t x =>
    t.setFld (SHEET_CMP_VAL_value x.1 x.2) ((t.fld (SHEET_CMP_VAL_value x.1 x.2) + 65536) % 2 ^ 64)) s

/-- A SLIP is applied at the boundary that ends schedule frame `k`. -/
def State.applySlip (s : State) (k : Nat) (loadOnly : Bool) : State :=
  let s := s.modTime fun t =>
    { t with slips := t.slips + 1, slipAt := t.slipAt ++ [(sInt 48 (k + 1)).toNat], slipFrame := true
             loadOnly := loadOnly
             consec := if loadOnly then t.consec else t.consec + 1 }
  s.moveCmps.trace 5 0 0 0

/-- The SLIPs named for this boundary; without one the run of slip frames ends. -/
def State.boundarySlip (s : State) (k : Nat) : State :=
  let due := s.time.orders.filter fun o => decide (o.1 ≤ s.frame) && !o.2.1
  let s := s.modTime fun t => { t with orders := t.orders.filter fun o => o.2.1 || decide (s.frame < o.1) }
  match due with
  | [] => s.modTime fun t => { t with slipFrame := false, loadOnly := false, consec := 0 }
  | o :: _ => s.applySlip k (due.all fun u => u.2.2.1 || u.1 != o.1)

/-! ### Step 2: twin digests (R416) -/

/-- The dies differ in frame `e`: every sheet stops. -/
def State.diverge (s : State) (e : TwinFrame) : State :=
  let s := iter 320 (fun i t => (t.setFld (SHEET_CTL_run i) 0).setFld (SHEET_STATUS_halted i) 15) s
  let s := s.setFld FAULT_TWIN_STAT_diverged 1
  let r := { s.mkRec 0x1050 0 0 (e.d0 ^^^ e.d1) 3 with frame := e.frame % 2 ^ 32 }
  let s := s.emit r
  if s.flag PWR_SYNC_CTL_twin_en then s.syncRise else s

/-- Two digests of a pending frame are compared: an equal frame is freed; the first that differs stops the dies, and stays
pending, compared (R416). -/
def State.twinFrame (s : State) (e : TwinFrame) : State :=
  if e.d0 = e.d1 then s.modFault fun f => { f with twin := f.twin.filter fun u => u.frame != e.frame }
  else
    let first := !s.fault.twin.any (·.differs)
    let s := s.modFault fun f =>
      { f with twin := updFirst (fun u => u.frame == e.frame) (fun u => { u with differs := true }) f.twin }
    if first then s.diverge e else s

/-- The pending frames whose words have all retired on both dies are compared, oldest first (R416); the registers hold
the number and the digests of the last one compared. One that was found to differ is not compared again. -/
def State.twinCompare : List TwinFrame → State → State
  | [], s => s
  | e :: l, s =>
    if e.open0 ≠ 0 ∨ e.open1 ≠ 0 ∨ e.differs = true then State.twinCompare l s
    else
      let s := (s.setReg64 FAULT_TWIN_DIG_0 e.d0).setReg64 FAULT_TWIN_DIG_1 e.d1
      State.twinCompare l ((s.setFld FAULT_TWIN_STAT_frame (e.frame % 2 ^ 24)).twinFrame e)

def State.boundaryTwin (s : State) : State := State.twinCompare s.fault.twin s

/-! ### Step 3: circular waits and starvation (R164, R165, R337) -/

/-- Whether a wait is satisfied or waits on the sheet's own flags and counters. -/
def State.localWait (s : State) (i : Nat) (w : Nat × Nat) : Bool :=
  let k := selKind w.1
  s.waitHolds i w || (decide (1 ≤ k ∧ k ≤ 4)) || (k == 5 && s.flag (SHEET_CMP_CTL_source i (selArg w.1 % 8)))

/-- Whether the head control load waits for room in its ring (R157, R162). -/
def State.roomWait (s : State) (i : Nat) : Bool :=
  match s.running i 3 2 with
  | none => false
  | some w =>
    let q := w.f 255 2
    w.iter == 0 && decide (max (s.fld (SHEET_Q_RING_size i q)) 1 <
      subMod 32 (s.fld (SHEET_Q_TAIL_tail i q)) (s.fld (SHEET_Q_HEAD_head i q)) + w.memSide.len / 64 * w.rep)

/-- The waiting heads of a sheet: engine, tag and whether each of its unsatisfied waits is local. -/
def State.waiters (s : State) (i : Nat) : List (Nat × Nat × Bool) :=
  (List.range 4).filterMap fun e =>
    match s.head i e with
    | none => none
    | some w =>
      if s.halted i e then none
      else if w.phase = .waiting then some (e, w.tag, s.localWait i w.waitA && s.localWait i w.waitB)
      else if e = 3 ∧ s.roomWait i then some (e, w.tag, true)
      else none

/-- A sheet is examined for a local circular wait. -/
def State.checkCirc (s : State) (i : Nat) : State :=
  let x := s.sheet i
  let ws := s.waiters i
  match ws with
  | [] => s
  | (e, tag, _) :: rest =>
    if x.moved || x.circ || !ws.all (fun w => w.2.2) then s
    else
      let (e2, tag2) := match rest with | (e2, tag2, _) :: _ => (e2, tag2) | [] => (e, tag)
      let s := (s.modSheet i fun x => { x with circ := true }).setFld (SHEET_WAIT_STAT_circ i) 1
      s.raise 0x2020 (unitSheet i) tag (tag2 + e * 2 ^ 24 + e2 * 2 ^ 26)

/-- A head word's wait on an arrival counter is counted: `starve` is 1 once the frame in which it began is over, and
one more for each whole frame counted. -/
def State.checkStarve (s : State) (i e : Nat) (counts : Bool) : State :=
  match s.head i e with
  | none => s
  | some w =>
    if w.phase ≠ .waiting ∨ s.halted i e then s
    else match s.arrivalWaits w with
      | [] => s
      | n :: ns =>
        if !counts || (n :: ns).any s.loaderNames then s.setHead i e { w with starve := max w.starve 1 }
        else
          let w := { w with starve := w.starve + 1 }
          if !w.starved && decide (ringSize (s.fld (SHEET_WAIT_CFG_starve_frames i)) 256 < w.starve) then
            ((s.setHead i e { w with starved := true }).setFld (SHEET_WAIT_STAT_starve i) 1).raise
              0x2021 (unitSheet i) w.tag n
          else s.setHead i e w

/-- The sheets with words are examined, those that ended the frame stopped left out. -/
def State.boundarySheets (s : State) (wasSlip : Bool) : State :=
  let is := s.sheets.map (·.1)
  let one (t : State) (i : Nat) : State :=
    let counts := !wasSlip && t.flag (SHEET_CTL_run i)
    iter 4 (fun e u => u.checkStarve i e counts) (if counts then t.checkCirc i else t)
  let s := is.foldl one s
  is.foldl (fun t i => t.modSheet i fun x => { x with circ := x.circ && !x.moved, moved := false }) s

/-! ### Step 4: stops (R410, R411) -/

/-- The slice stops here: departures that have not begun to leave, late and held ones among them, are discarded (R410). -/
def State.applyStop (s : State) (code subject : Nat) : State :=
  let id := s.fld TOPO_SLICE_id
  let s := (s.setFld TOPO_SLICE_state 2).modFab fun f => { f with deps := f.deps.filter (·.sent) }
  let s := iter 320 (fun i t => if t.flag (SHEET_CTL_run i) then t.setFld (SHEET_CTL_run i) 0 else t) s
  let s := s.setReg64 FAULT_STOP (code % 2 ^ 16 + subject % 2 ^ 17 * 2 ^ 16 + id * 2 ^ 48)
  (s.setFld FAULT_STAT_stopped 1).trace 5 0 0 0

def State.boundaryStop (s : State) : State :=
  let due := s.time.orders.filter fun o => decide (o.1 ≤ s.frame) && o.2.1
  let own := s.time.stopNext
  let s := s.modTime fun t =>
    { t with orders := t.orders.filter (fun o => decide (s.frame < o.1)), stopNext := none }
  match due, own with
  | o :: _, _ => s.applyStop o.2.2.2.1 o.2.2.2.2
  | [], some (code, subject) => s.applyStop code subject
  | [], none => s

/-! ### Step 5: waypoints (R190) -/

def State.boundaryWaypoint (s : State) (k : Nat) (wasSlip : Bool) : State :=
  if !s.flag TIME_WP_CTL_enable then s
  else
    let c := s.fld TIME_WP_CNT_ctr
    let n := ringSize (s.fld TIME_WP_CNT_count) 65536
    let s := if n ≤ s.ac c then
        (s.setFld (FAB_AC_count c) (s.ac c - n)).setFld TIME_WP_HELD_waypoint (s.fld TIME_WP_HELD_waypoint + 1)
      else s
    let len := ringSize (s.fld TIME_WP_CTL_interval) 256
    if !wasSlip && decide (0 < sInt 48 k) && k % len == 0 && decide (s.fld TIME_WP_HELD_waypoint + 1 < k / len) then s.raise 0x3050 0 0 0 else s

/-! ### Step 6: the frame begins -/

/-- The guard latch clears at the boundary that ends the schedule frame after its decision (R209). -/
def State.boundaryGuard (s : State) (k : Nat) (wasSlip : Bool) : State :=
  match s.fab.guardClear with
  | some f =>
    if f ≤ k ∧ !wasSlip then
      ((s.modFab fun b => { b with guardClear := none }).setFld FAB_DISPATCH_STAT_guard_valid 0).setFld
        FAB_DISPATCH_STAT_guard_value 0
    else s
  | none => s

/-- The refresh of device `d` follows its temperature (R312), that of an installed MRDIMM of a disabled tier too. A device
that is not there has no sensor. -/
def State.refreshTemp (s : State) (d : Nat) (v : BitVec 8) : State :=
  let here := if d < 8 then s.domUp (if d < 4 then 19 else 20) else s.domUp 21 && bit s.load.dimms (d - 8)
  let t := v.toInt
  let s := if d < 8 then s.readSensor (22 + d) v else s
  let hot := s.flag (MEM_DEV_hot d)
  if !here then s
  else if !hot && decide ((s.fld MEM_CFG_hot_on : Int) ≤ t) then
    (s.setFld (MEM_DEV_hot d) 1).raise 0x6040 (unitDev d) 0 d
  else if hot && decide (t < (s.fld MEM_CFG_hot_off : Int)) then
    (s.setFld (MEM_DEV_hot d) 0).raise 0x6040 (unitDev d) 0 d
  else s

/-- A stack's sample counts for the limiter, and against its critical value (R446, R447). -/
def State.stackTemp (s : State) (d : Nat) : State :=
  let k := 22 + d
  let below := !s.flag (PWR_TEMP_valid k) || decide (s.temp k < (s.fld PWR_THERM_CFG_hbm_off : Int))
  let s := s.modPwr fun p =>
    { p with coolStack := smSet (fun _ => 0) p.coolStack k (coolNext below (smGet (fun _ => 0) p.coolStack k)) }
  s.checkCritical k

/-- The temperatures of the stacks and MRDIMMs, read once per frame. -/
def State.boundaryTemps (s : State) (temps : Vector (BitVec 8) 16) : State :=
  let s := temps.toList.zipIdx.foldl (fun t e => t.refreshTemp e.2 e.1) s
  iter 8 (fun d t => t.stackTemp d) s

/-- What of the frame just ended is done with: planned flits that found no entry, and the HOLDs of the frame. -/
def State.boundaryClear (s : State) : State :=
  let s := iter 32 (fun p t => t.dropUntaken p) s
  let s := (s.modFab fun f => { f with abandoned := [] }).modTime fun t => { t with holdLinks := [] }
  s.setFld TIME_SLIP_STAT_hold_pending 0

/-! ### The boundary -/

/-- Everything the module does at the boundary that begins the present frame. -/
def State.boundary (s : State) (temps : Vector (BitVec 8) 16) : State :=
  let wasSlip := s.time.slipFrame
  let k := (s.schedFrame + 2 ^ 48 - 1) % 2 ^ 48
  let s := s.modTime fun t => { t with boundary := s.frame }
  let s := (s.boundarySlip k).boundaryTwin
  let s := (s.boundarySheets wasSlip).boundaryStop
  let s := s.applyFence.applyLcoord
  let s := s.boundaryWaypoint k wasSlip
  let s := ((s.treeDone.bundleBoundary.boundaryGuard k wasSlip).boundaryClear).boundaryTemps temps
  if s.flag PWR_SYNC_CTL_frame_en then s.syncRise else s

/-- The rest of the frame passes: what its last ticks call for is raised before the boundary (R181). -/
def State.endFrame (s : State) : State :=
  let e := (s.frame + 1) * 65536
  ((s.toTick (e - 1)).checkHolds).toTick e

/-- Time moves to the next boundary, unless one is still to be acted on. -/
def State.frameBoundary (s : State) (temps : Vector (BitVec 8) 16) : State :=
  (if s.time.boundary < s.frame then s else s.endFrame).boundary temps

def execFrameBoundary (temps : Vector (BitVec 8) 16) (s : State) : Out := .next (s.frameBoundary temps)

end Sys2Proof.Machine
end

