-- ==== Sys2Proof/Machine/Xmss.lean ====
section
/-! DEFINITION. The signatures of NIST SP 800-208 that the spec names (R384, R392, R394, R428): XMSS-SHAKE256_20_256 and
XMSS^MT-SHAKE256_40/2_256. The spec names the schemes and gives the lengths of their signatures; what they compute is
taken from the standard (PRESUMED, log entry 106). -/

namespace Sys2Proof.Machine

/-- `n` bytes of a number, the most significant first. -/
def beBytes (n v : Nat) : List Byte := (leBytes n v).reverse

def beNat (bs : List Byte) : Nat := leNat bs.reverse

/-- Two strings of bytes, bit by bit. -/
def xorBytes (a b : List Byte) : List Byte := List.zipWith (fun x y => x ^^^ y) a b

/-! ### Keyed functions -/

/-- The functions F, H, H_msg, PRF and PRF_keygen are SHAKE256 of a 32-byte number `k` 0 to 4, a key and a message. -/
def xmssHash (k : Nat) (key m : List Byte) : List Byte := shake256 32 (beBytes 32 k ++ key ++ m)

/-- The address of a hash: layer, tree, kind (0 a one-time key, 1 its L-tree, 2 the hash tree), three words of the
kind, and which key or mask is asked for. -/
structure XAddr where
  layer : Nat := 0
  tree : Nat := 0
  kind : Nat := 0
  a : Nat := 0
  b : Nat := 0
  c : Nat := 0
  part : Nat := 0
  deriving DecidableEq, Repr

def XAddr.bytes (x : XAddr) : List Byte :=
  beBytes 4 x.layer ++ beBytes 8 x.tree ++ beBytes 4 x.kind ++ beBytes 4 x.a ++ beBytes 4 x.b ++ beBytes 4 x.c
    ++ beBytes 4 x.part

/-- Key or mask `k` of a hash under the public seed. -/
def xmssKey (seed : List Byte) (x : XAddr) (k : Nat) : List Byte := xmssHash 3 seed { x with part := k }.bytes

/-- Two nodes hashed into their parent. -/
def xmssNode (seed : List Byte) (x : XAddr) (l r : List Byte) : List Byte :=
  xmssHash 1 (xmssKey seed x 0) (xorBytes l (xmssKey seed x 1) ++ xorBytes r (xmssKey seed x 2))

/-! ### One-time signatures (WOTS+, n 32, w 16, 67 chains) -/

/-- One step of a chain: its `c` word holds the position. -/
def wotsStep (seed : List Byte) (x : XAddr) (v : List Byte) : List Byte :=
  xmssHash 0 (xmssKey seed x 0) (xorBytes v (xmssKey seed x 1))

/-- `n` steps of a chain from position `i`. -/
def wotsChain (seed : List Byte) (x : XAddr) (i n : Nat) (v : List Byte) : List Byte :=
  (List.range n).foldl (fun (u : List Byte) k => wotsStep seed { x with c := i + k } u) v

/-- The 67 digits of a 32-byte message: its 64 digits of four bits, then the three of their checksum. -/
def wotsDigits (m : List Byte) : List Nat :=
  let ds := (m.take 32).flatMap fun b => [b.toNat / 16, b.toNat % 16]
  let sum := (ds.map fun d => 15 - d).foldl (· + ·) 0
  ds ++ [sum / 256 % 16, sum / 16 % 16, sum % 16]

/-- The public key that a one-time signature leads to: each chain to its end. -/
def wotsEnds (seed : List Byte) (x : XAddr) (m sig : List Byte) : List (List Byte) :=
  (wotsDigits m).zipIdx.map fun e =>
    wotsChain seed { x with b := e.2 } e.1 (15 - e.1) ((sig.drop (32 * e.2)).take 32)

/-- One level of an L-tree: pairs are hashed, and an odd node goes up as it is. -/
def lTreeLevel (seed : List Byte) (x : XAddr) : Nat → List (List Byte) → List (List Byte)
  | i, l :: r :: ns => xmssNode seed { x with c := i } l r :: lTreeLevel seed x (i + 1) ns
  | _, ns => ns

/-- The leaf of a one-time public key: its L-tree has seven levels. -/
def lTree (seed : List Byte) (x : XAddr) (ns : List (List Byte)) : List Byte :=
  ((List.range 7).foldl (fun (u : List (List Byte)) k => lTreeLevel seed { x with b := k } 0 u) ns).headD []

/-! ### Trees of height 20 -/

/-- The root that a one-time signature and its authentication path lead to, for leaf `i` of a tree. -/
def xmssRoot (seed : List Byte) (layer tree i : Nat) (m sig auth : List Byte) : List Byte :=
  let at_ : XAddr := { layer := layer, tree := tree }
  let leaf := lTree seed { at_ with kind := 1, a := i } (wotsEnds seed { at_ with a := i } m sig)
  (List.range 20).foldl (fun (v : List Byte) k =>
    let u := (auth.drop (32 * k)).take 32
    let x : XAddr := { at_ with kind := 2, b := k, c := i / 2 ^ (k + 1) }
    if i / 2 ^ k % 2 = 0 then xmssNode seed x v u else xmssNode seed x u v) leaf

/-- Whether an XMSS^MT signature of height 40 in two layers verifies under a root and a public seed. -/
def xmssMtOk (root seed m sig : List Byte) : Bool :=
  let i := beNat (sig.take 5)
  let r := (sig.drop 5).take 32
  let d := xmssHash 2 (r ++ root ++ beBytes 32 i) m
  let part (k : Nat) : List Byte × List Byte :=
    let o := 37 + 2784 * k
    ((sig.drop o).take 2144, (sig.drop (o + 2144)).take 640)
  let low := xmssRoot seed 0 (i / 2 ^ 20) (i % 2 ^ 20) d (part 0).1 (part 0).2
  let top := xmssRoot seed 1 0 (i / 2 ^ 20) low (part 1).1 (part 1).2
  decide (sig.length = 5605 ∧ i < 2 ^ 40 ∧ top = root)

/-! ### Signing (XMSS, height 20) -/

/-- The three parts of an XMSS private key, and its root. -/
structure XKey where
  secret : List Byte
  prf : List Byte
  seed : List Byte
  root : List Byte
  deriving DecidableEq, Repr

/-- The start of chain `j` of one-time key `i`. -/
def XKey.start (k : XKey) (i j : Nat) : List Byte :=
  xmssHash 4 k.secret (k.seed ++ ({ a := i, b := j } : XAddr).bytes)

/-- Leaf `i` of the key's tree. -/
def XKey.leaf (k : XKey) (i : Nat) : List Byte :=
  lTree k.seed { kind := 1, a := i }
    ((List.range 67).map fun j => wotsChain k.seed { a := i, b := j } 0 15 (k.start i j))

/-- Node `i` of the tree at a height. -/
def XKey.node (k : XKey) : Nat → Nat → List Byte
  | 0, i => k.leaf i
  | h + 1, i => xmssNode k.seed { kind := 2, b := h, c := i } (k.node h (2 * i)) (k.node h (2 * i + 1))

/-- The signature of a message with index `i`: index, randomizer, one-time signature and authentication path, 2,820
bytes. -/
def XKey.sign (k : XKey) (i : Nat) (m : List Byte) : List Byte :=
  let r := xmssHash 3 k.prf (beBytes 32 i)
  let d := xmssHash 2 (r ++ k.root ++ beBytes 32 i) m
  let one := (wotsDigits d).zipIdx.flatMap fun e => wotsChain k.seed { a := i, b := e.2 } 0 e.1 (k.start i e.2)
  let sib (h : Nat) : Nat := if i / 2 ^ h % 2 = 0 then i / 2 ^ h + 1 else i / 2 ^ h - 1
  beBytes 4 i ++ r ++ one ++ (List.range 20).flatMap fun h => k.node h (sib h)

end Sys2Proof.Machine
end

