-- ==== Sys2Proof/Machine/Boot.lean ====
section
/-! DEFINITION. Resets (R379, R380), the boot sequence (R381 to R383), the firmware image (R384 to R388), fuses (R389 to
R391), attestation (R392 to R394) and the debug test access port (R395). -/

namespace Sys2Proof.Machine

/-! ### Fuses (R389, R390) -/

/-- The fuse count: the index of the first fuse that senses unblown. -/
def State.fuseCount (s : State) : Nat := ((List.range 64).find? fun i => !bit s.boot.rb i).getD 64

/-- A fault of management and boot. -/
def State.raiseBoot (s : State) (code aux : Nat) : State := s.raise code unitMgmt 0 aux

/-- Requests whose answers nobody waits for any more. -/
def State.orphan (s : State) (gone : WWho → Bool) : State :=
  iter 2 (fun p t => t.modWport p fun q =>
    { q with reqs := (q.reqs.filter fun r => !(gone r.who && r.answer.isSome)).map fun r =>
        if gone r.who then { r with who := .int } else r }) s

/-! ### The image (R384 to R388) -/

/-- Bytes of the image buffer. -/
def State.imgRead (s : State) (o n : Nat) : List Byte := smRead zeroByte s.boot.img o n

def State.imgWrite (s : State) (o : Nat) (bs : List Byte) : State :=
  s.modBoot fun b => { b with img := smWrite zeroByte b.img o bs }

/-- The size of the image buffer. -/
def imgSize : Nat := 1114112

/-- The length of the body a header announces. -/
def bodyLen (h : List Byte) : Nat := ringSize (leField h 12 2) 16384 * 64

/-- Whether every field of a header holds an allowed value (R384, R386). -/
def imageOk (h : List Byte) : Bool :=
  let entry (o : Nat) : Bool := decide (leField h o 4 < bodyLen h) && leField h o 4 % 2 == 0
  leField h 0 4 == 0x4656434E && leField h 4 2 == 1 && leField h 6 2 == 0x0B50 && leField h 8 1 == 0xB0
    && decide (leField h 9 1 ≤ 64) && decide (leField h 10 1 < 2) && leField h 11 1 == 0
    && decide (leField h 12 2 ≤ 16384) && leField h 14 2 == 0
    && entry 16 && (if leField h 10 1 = 1 then entry 20 else leField h 20 4 == 0) && leField h 32 32 == 0

/-! ### Steps (R381 to R383) -/

/-- The survey and training that a step begins with (R381). -/
def State.beginStep (s : State) (j : Nat) : State :=
  let s := s.modBoot fun b => { b with since := s.time.elapsed }
  if j = 2 then iter 2 (fun p t => if t.wactive p then t else t.wEnter p 0 false) s
  else if j = 3 then s.modBoot fun b => { b with xferHdr := false }
  else if j = 4 then
    -- a main switch that opened by itself closes after a module reset alone (R439, R448)
    if s.pwr.tripped then s
    else
      let s := s.setFld PWR_STAT_main 1
      s.bringUp s.powerOrder
  else if j = 5 then iter 15 (fun c t => t.setReg (TIME_XING c) 0) (s.modTime fun t => { t with xing := [] })
  else if j = 6 then s.setFld TIME_DOM_STAT_set 0
  else if j = 7 then s.modBoot fun b => { b with memPhase := 1, memRate := min (s.fld MEM_CFG_hbm_rate) 2 }
  else if j = 8 then
    iter 31 (fun p t =>
      if t.flag (LINK_CTL_enable p) && t.portMay p && t.fld (LINK_STAT_state p) == 0 then
        (t.linkEnter p 1).setFld (LINK_STAT_retraining p) 0
      else t) s
  else if j = 9 then s.surveyStart
  else s

/-- EXTEST, CLAMP and HIGHZ act as BYPASS past WAIT (R395). -/
def JtagSt.leave (t : JtagSt) : JtagSt := if t.drive = 0 then t else { t with ir := 0xFF, drive := 0 }

/-- The module comes to a step: it waits there where the step's hold bit is set (R383). -/
def State.enterStep (s : State) (j : Nat) : State :=
  let s := if 3 ≤ j then s.modBoot fun b => { b with jtag := b.jtag.leave } else s
  let s := (s.setFld BOOT_STAT_step j).modBoot fun b => { b with since := s.time.elapsed }
  if decide (4 ≤ j ∧ j ≤ 9) && bit (s.fld BOOT_CTL_hold) (j - 4) then s.setFld BOOT_STAT_held 1
  else s.beginStep j

/-- A step fails with "not ready". -/
def State.stepFail (s : State) : State := s.setFld BOOT_STAT_failed 1

/-- The sequence is in progress: no hold, no failure, and power. -/
def State.booting (s : State) : Bool := s.alive && !s.flag BOOT_STAT_held && !s.flag BOOT_STAT_failed

/-! ### VERIFY (R385 to R388) -/

/-- Back to WAIT: the image buffer is cleared. -/
def State.backToWait (s : State) : State :=
  let s := (s.orphan fun w => decide (w = .boot)).modBoot fun b => { b with img := [], xfer := none, xferHdr := false }
  (s.setFld BOOT_IMG_INFO_valid 0).enterStep 2

/-- A check or the transfer fails (R387). -/
def State.verifyFail (s : State) (code err : Nat) : State :=
  ((s.raiseBoot code 0).setFld BOOT_STAT_error err).backToWait

/-- The image passes: digest, information, and the cores start (R386, R388). -/
def State.verifyPass (s : State) (h msg : List Byte) : State :=
  let d := shake256 32 msg
  let s := iter 8 (fun k t => t.setReg (BOOT_IMG_DIGEST k) (BitVec.ofNat 32 (leField d (4 * k) 4))) s
  let two := leField h 10 1
  let s := s.setReg BOOT_IMG_INFO
    (BitVec.ofNat 32 (leField h 9 1 % 128 + two % 2 * 2 ^ 7 + bodyLen h / 64 % 2 ^ 15 * 2 ^ 8 + 2 ^ 31))
  let es := leField h 16 4 :: (if two = 1 then [leField h 20 4] else [])
  let run (b : BootSt) : BootSt :=
    { b with core := msg.drop 64, entries := es, machine := es.map fun _ => true, xfer := none, xferHdr := false }
  (s.modBoot run).enterStep 4

/-- Whether the signature of an image verifies under the vendor root key (R384). -/
def imageSigned (msg sig : List Byte) : Bool :=
  let key := leBytes 64 Config.vendorKey.toNat
  xmssMtOk (key.take 32) (key.drop 32) msg sig

/-- The three checks, in order, on the image as it lies in the buffer (R386). -/
def State.verify (s : State) : State :=
  let h := s.imgRead 0 64
  let n := 64 + bodyLen h
  if !imageOk h then s.verifyFail 0x8001 1
  else if leField h 9 1 < s.fuseCount then s.verifyFail 0x8003 2
  else
    let msg := s.imgRead 0 n
    if imageSigned msg (s.imgRead n 5605) then s.verifyPass h msg else s.verifyFail 0x8002 3

/-- Part of the image is read over Wiora: into the buffer at `o`, or the transfer fails. -/
def State.imageRead (s : State) (a o n : Nat) (next : State → State) : State :=
  match s.compFetch .boot a n 0 with
  | (t, .got (.data d)) => next (t.imgWrite o d)
  | (t, .got _) => t.verifyFail 0x8004 4
  | (t, .wait) => t

/-- The transfer from the companion of port `p`: the header, then the body and the signature (R385). -/
def State.transfer (s : State) (p : Nat) : State :=
  let a := s.fld BOOT_IMG_ADDR_addr * 64
  let body (s : State) : State :=
    let n := bodyLen (s.imgRead 0 64) + 5605
    if (s.within a (64 + n)).isSome then s.imageRead (a + 64) 64 n State.verify else s.verifyFail 0x8004 4
  if 2 ≤ p ∨ !inCompanion a ∨ portOfAddr a ≠ p then s.verifyFail 0x8004 4
  else if (s.compAddr a).2.isNone then (s.raise 0x7020 (unitWiora p) 0 p).verifyFail 0x8004 4
  else if s.boot.xferHdr then body s
  else s.imageRead a 0 64 fun t => body (t.modBoot fun b => { b with xferHdr := true })

/-- VERIFY goes on. -/
def State.verifyStep (s : State) : State :=
  match s.boot.xfer with
  | none => s.verify
  | some p => s.transfer p

/-- VERIFY begins; source 0 is the buffer, 1 and 2 the companions of WA and WB. -/
def State.startVerify (s : State) : State :=
  let src := s.fld BOOT_CTL_src
  (s.modBoot fun b => { b with xfer := if src = 0 then none else some (src - 1), goWait := false }).enterStep 3

/-- go: taken in WAIT alone; RESET_N held low keeps the module there (R386, R452). -/
def State.go (s : State) : State :=
  if s.fld BOOT_STAT_step ≠ 2 then s.raiseBoot 0x8010 0
  else if s.pwr.resetLow then s.modBoot fun b => { b with goWait := true }
  else s.startVerify

/-! ### ALIGN (R171) -/

/-- A crossing takes the tap at the centre of its open eye; which of two middle taps is a free value. -/
def State.alignOne (s : State) (c : Nat) (e : Eye) : State :=
  let n : Nat := e.taps
  if n < 2 then (s.raise 0x3010 (unitXing c) 0 c).stepFail
  else
    let (b, s) := if n % 2 = 0 then s.draw 1 else (0, s)
    let tap := (e.first.val + (n - 1) / 2 + b) % 8
    ((s.setFld (TIME_XING_tap c) tap).setFld (TIME_XING_margin c) e.margin.toNat).setFld (TIME_XING_aligned c) 1

def State.align (s : State) (eyes : Vector Eye 15) : State :=
  let s := eyes.toList.zipIdx.foldl (fun t e => t.alignOne e.2 e.1) s
  if s.flag BOOT_STAT_failed then s else s.enterStep 6

/-! ### MEMORY (R309, R310) -/

/-- The next step of R310 begins: each has its own timer. -/
def State.memEnter (s : State) (k : Nat) : State :=
  s.modBoot fun b => { b with memPhase := k, since := s.time.elapsed }

/-- The rates training still tries, fastest first. -/
def State.hbmRates (s : State) : List Nat :=
  let r := s.boot.memRate
  if s.flag MEM_CFG_fallback then (List.range 3).filter fun k => decide (r ≤ k) else [r]

/-- Step 1: the stacks train at the first rate that all of them reach, the lower ones tried after it. -/
def State.trainHbm (s : State) (best : List Nat) : State :=
  let reach (r : Nat) : Bool := best.all fun b => decide (b ≤ r)
  match s.hbmRates.find? reach with
  | some r =>
    let s := (s.setFld MEM_STAT_hbm_ok 0xFF).setFld MEM_STAT_hbm_got r
    (if r = 0 then s else iter 8 (fun i t => t.raise 0x6004 (unitDev i) 0 i) s).memEnter 2
  | none =>
    let r := s.hbmRates.getLastD 2
    let one (t : State) (e : Nat × Nat) : State :=
      if e.1 ≤ r then t.setFld MEM_STAT_hbm_ok (t.fld MEM_STAT_hbm_ok ||| 2 ^ e.2)
      else t.raise 0x6001 (unitDev e.2) 0 e.2
    (best.zipIdx.foldl one s).stepFail

/-- The channels that hold an MRDIMM. -/
def populated (spd : List (Option Spd)) : List Nat := (List.range 8).filter fun c => ((spd.getD c none).isSome)

/-- Whether a population is legal: its channels, one supported capacity and one supported speed (R309). -/
def spdOk (spd : List (Option Spd)) : Bool :=
  let ds := spd.filterMap id
  (populated spd == [0, 2, 4, 6] || populated spd == List.range 8)
    && ds.all fun d => [32, 64, 128, 256].contains d.cap.toNat && decide (d.rate.val < 3)
      && ds.all fun e => decide (e = d)

/-- The tier is disabled, fault 0x6002 naming each of the channels `cs`, or none, and memory is cleared (R310). -/
def State.tierOff (s : State) (cs : List Nat) : State :=
  let s := if cs.isEmpty then s.raise 0x6002 0 0 0
    else cs.foldl (fun t c => t.raise 0x6002 (unitDev (8 + c)) 0 (8 + c)) s
  (s.setFld MEM_STAT_tier 3).memEnter 4

/-- Step 2: the MRDIMMs are read; the tier is absent, disabled, or goes on to training. -/
def State.findDdr (s : State) (spd : List (Option Spd)) : State :=
  let ch := populated spd
  if s.flag PWR_DOM_OFF_ddr || ch.isEmpty then (s.setFld MEM_STAT_tier 0).memEnter 4
  else
    let s := s.modLoad fun l => { l with dimms := ch.foldl (fun m c => m ||| 2 ^ c) 0 }
    if !spdOk spd then s.tierOff []
    else
      let cap : Nat := ((spd.filterMap id).head?.elim 0 fun d => d.cap.toNat)
      ((s.setFld MEM_STAT_tier (if ch.length = 4 then 1 else 2)).setFld MEM_STAT_cap cap).memEnter 3

/-- The channels that hold an MRDIMM. -/
def State.dimmChans (s : State) : List Nat := (List.range 8).filter fun c => bit s.load.dimms c

/-- Step 3: the MRDIMMs train, or the tier is disabled. -/
def State.trainDdr (s : State) (good : List Bool) : State :=
  let ok := s.dimmChans.filter fun c => good.getD c false
  let bad := s.dimmChans.filter fun c => !good.getD c false
  let s := s.setFld MEM_STAT_ddr_ok (ok.foldl (fun m c => m ||| 2 ^ c) 0)
  if bad.isEmpty then s.memEnter 4 else s.tierOff bad

/-- Step 4 is complete: every byte is zero. -/
def State.memClear (s : State) : State :=
  ({ s with mem := [], poison := [] }.setFld MEM_STAT_cleared 1).enterStep 8

/-- The step of R310 in progress reaches its own limit. Step 1 is tried again at the next lower rate, where MEM_CFG
allows it; at the last one no stack has trained, and each is named. -/
def State.memTimeout (s : State) : State :=
  let at_ (n : Nat) : State := s.toElapsed (s.boot.since + n)
  if s.boot.memPhase = 1 then
    let s := at_ 256000000
    if s.flag MEM_CFG_fallback && Nat.blt s.boot.memRate 2 then
      s.modBoot fun b => { b with memRate := b.memRate + 1, since := s.time.elapsed }
    else (iter 8 (fun i t => t.raise 0x6001 (unitDev i) 0 i) s).stepFail
  else if s.boot.memPhase = 2 then
    -- without domain 21 this step is passed over without fault (R444)
    if s.flag PWR_DOM_OFF_ddr then (s.setFld MEM_STAT_tier 0).memEnter 4 else (at_ 128000000).tierOff []
  else if s.boot.memPhase = 3 then (at_ 1280000000).tierOff s.dimmChans
  else ((at_ 6400000000).raise 0x6003 0 0 0).stepFail

/-! ### The sequence goes on -/

/-- Every port with enable set that has power is ACTIVE. -/
def State.linksUp (s : State) : Bool :=
  (List.range 31).all fun p => !s.flag (LINK_CTL_enable p) || !s.portMay p || s.fld (LINK_STAT_state p) == 5

/-- The step in progress completes, or goes on, with what it finds. -/
def State.bootAdvance (s : State) (r : BootResult) : State :=
  let step := s.fld BOOT_STAT_step
  if !s.booting then s
  else match r with
    | .eyes e => if step = 5 then s.align e else s
    | .hbm h => if step = 7 ∧ s.boot.memPhase = 1 then s.trainHbm (h.toList.map (·.val)) else s
    | .spd d => if step = 7 ∧ s.boot.memPhase = 2 then s.findDdr d.toList else s
    | .ddr g => if step = 7 ∧ s.boot.memPhase = 3 then s.trainDdr g.toList else s
    | .done =>
      if step = 1 then s.enterStep 2
      else if step = 3 then s.verifyStep
      else if step = 4 then (if s.pwrOk then s.enterStep 5 else s)
      else if step = 6 then (if s.flag TIME_DOM_STAT_set then s.enterStep 7 else s)
      else if step = 7 then (if s.boot.memPhase = 4 then s.memClear else s)
      else if step = 8 then (if s.linksUp then s.enterStep 9 else s)
      else if step = 9 then (if 2 ≤ s.fld TOPO_STAT_survey then s.enterStep 10 else s)
      else s

/-- The step in progress reaches its limit (R381). -/
def State.bootTimeout (s : State) : State :=
  let step := s.fld BOOT_STAT_step
  let by_ (n : Nat) : State := s.toElapsed (s.boot.since + n)
  if !s.booting then s
  else if step = 1 then (by_ 64000000).modBoot fun b => { b with silent := true }
  else if step = 3 then
    (if s.boot.xfer.isSome then (by_ 25600000).verifyFail 0x8004 4 else (by_ 25600000).backToWait)
  else if step = 4 then ((by_ 128000000).raiseBoot 0x8040 4).stepFail
  else if step = 5 then
    (iter 15 (fun c t => if t.flag (TIME_XING_aligned c) then t else t.raise 0x3010 (unitXing c) 0 c)
      (by_ 1280000)).stepFail
  else if step = 6 then ((by_ 12800000000).raise 0x3067 0 0 0).stepFail
  else if step = 7 then s.memTimeout
  else if step = 8 then (by_ 1280000000).enterStep 9
  else if step = 9 then s.surveyTimeout.enterStep 10
  else s

/-- resume ends a hold. -/
def State.resume (s : State) : State :=
  if s.flag BOOT_STAT_held then (s.setFld BOOT_STAT_held 0).beginStep (s.fld BOOT_STAT_step) else s

/-! ### Resets (R379, R380) -/

/-- The state after power-up (`k` 3) or a module reset (`k` 2), before its first step; `cause` is what PWR_STAT keeps. -/
def State.fresh (s : State) (k cause : Nat) : State :=
  let b := s.boot
  let t : State := { cart := s.cart, free := s.free, pending := s.pending, fab := { others := s.fab.others } }
  let t := t.modTime fun u => { u with elapsed := s.time.elapsed }
  let t := t.modBoot fun _ =>
    { since := s.time.elapsed, rb := b.rb, dbgLock := b.dbgLock, dbgUntil := b.dbgUntil, copyA := b.copyA
      copyB := b.copyB, lastReset := some (s.time.elapsed, k), jtag := if k = 3 then {} else b.jtag }
  let t := t.modPwr fun _ =>
    { inputBad := s.pwr.inputBad, mate := s.pwr.mate, resetLow := s.pwr.resetLow, warm := s.pwr.warm }
  t.setReg PWR_STAT (BitVec.ofNat 32 cause)

/-- Power-up: from STANDBY. -/
def State.powerUp (s : State) (cause : Nat) : State :=
  (s.fresh 3 (cause ||| 1)).modPwr fun p => { p with inputBad := false }

/-- Module reset: from WAIT. -/
def State.moduleReset (s : State) : State := (s.fresh 2 ((s.reg PWR_STAT).toNat % 32)).enterStep 2

/-- Whether who waits for an answer is in the part of the module that a warm reset takes down. -/
def WWho.lostWarm : WWho → Bool
  | .word _ _ => true
  | .source _ _ => true
  | .deliver _ => true
  | .loader _ _ _ _ => true
  | .boot => true
  | .stageRing => true
  | .loadRing => true
  | _ => false

def WWho.isWord : WWho → Bool
  | .word _ _ => true
  | _ => false

def AwayTo.isX : AwayTo → Bool
  | .x _ _ _ => true
  | _ => false

/-- A signature being formed is lost (R380). -/
def State.signingLost (s : State) : State :=
  match s.boot.signing with
  | some _ => (s.modBoot fun b => { b with signing := none }).setFld BOOT_ATT_STAT_state 0
  | none => s

/-- Warm reset: domains 0 to 21 go down with the registers and stores they hold, and VERIFY begins on the kept image
(R379, R443). -/
def State.warmReset (s : State) : State :=
  let s := (s.orphan WWho.lostWarm).signingLost.domsDown (List.range 22)
  let u := s.time
  let w := { s.wiora with resolve := [], aways := s.wiora.aways.filter fun e => !e.2.isX }
  let s : State := { s with
    csr := smClear 0x400000 0x3400000 s.csr, mem := [], poison := [], sheets := [], fab := { others := s.fab.others }, ports := [], x := {}
    load := {}, topo := {}, wiora := w
    time := { tick := u.tick, elapsed := u.elapsed, boundary := u.boundary, slips := u.slips, slipAt := u.slipAt
              neg3030 := u.neg3030, period := u.period } }
  let s := s.modFault fun f => { f with twin := [] }
  let s := (s.setFld PWR_THERM_STAT_cd0_down 0).setFld PWR_THERM_STAT_cd1_down 0
  let s := s.modPwr fun p => { p with bring := [], down := [] }
  let s := s.modBoot fun b => { b with
    core := [], entries := [], machine := [], xfer := none, goWait := false, lastReset := some (s.time.elapsed, 1) }
  (s.setReg BOOT_STAT 1).enterStep 3

/-- Whether a sensor reads below its throttle-off value. -/
def State.sensorCool (s : State) (k : Nat) : Bool :=
  decide (s.temp k < ((if k < 16 then s.fld PWR_THERM_CFG_die_off else s.fld PWR_THERM_CFG_hbm_off : Nat) : Int))

/-- The sensors that keep a die's banks down (R447). -/
def State.stillHot (s : State) (die : Nat) : List Nat :=
  (s.pwr.down.filter fun e => e.1 == die && !s.sensorCool e.2).map (·.2)

/-- Compute reset: the sheets are cleared and their banks go down and up again (R130, R379, R443, R447). -/
def State.computeReset (s : State) : State :=
  let s := (s.orphan WWho.isWord).signingLost.domsDown (List.range 16)
  let s : State := { s with csr := smClear 0x1000000 0x2A00000 s.csr, sheets := [] }
  let s := (s.modFault fun f => { f with twin := [] }).modWiora fun w => { w with resolve := [] }
  let s := (s.setReg64 FAULT_TWIN_DIG_0 0).setReg64 FAULT_TWIN_DIG_1 0
  let s := s.modFab fun f => { f with ovl := f.ovl.map fun e => (e.1, { e.2 with busy := 0 }) }
  let hot := s.stillHot 0 ++ s.stillHot 1
  let free (die : Nat) : Bool := (s.stillHot die).isEmpty
  let up := if s.pwr.tripped then [] else (List.range 16).filter fun n => free (n / 8)
  let s := (s.setIf (free 0) PWR_THERM_STAT_cd0_down 0).setIf (free 1) PWR_THERM_STAT_cd1_down 0
  let s := (s.modPwr fun p => { p with down := p.down.filter fun e => hot.contains e.2 }).bringUp up
  let s := hot.foldl (fun t k => t.raiseHalt 0x9032 (sensorUnit k) 0 0) s
  s.modBoot fun b => { b with lastReset := some (s.time.elapsed, 0) }

/-- A reset takes effect: 2 module, 1 warm, 0 compute. -/
def State.resetNow (s : State) (k : Nat) : State :=
  let s := s.modBoot fun b => { b with commit := none, waitReset := none }
  let s := s.setFld BOOT_ROLL_busy 0
  if k = 2 then s.moduleReset else if k = 1 then s.warmReset else s.computeReset

/-- A reset is requested: in one tick only the widest acts, and a fuse being programmed is completed first (R380). -/
def State.resetReq (s : State) (k : Nat) : State :=
  let narrower := match s.boot.lastReset with
    | some (t, k') => decide (t = s.time.elapsed ∧ k < k')
    | none => false
  if narrower then s
  else if k = 0 ∧ s.fld BOOT_STAT_step ≠ 10 then s.raiseBoot 0x8011 0
  else if s.boot.commit.isSome then
    s.modBoot fun b => { b with waitReset := some (max k (b.waitReset.getD 0)) }
  else (s.toElapsed s.boot.dbgUntil).resetNow k

/-- RESET_N is low: a module reset whoever owns the module, and no go while it stays low (R452). -/
def State.resetPin (s : State) : State :=
  if !s.alive || s.fld BOOT_STAT_step == 1 then s
  else (s.modPwr fun p => { p with resetLow := true }).resetReq 2

/-- RESET_N is released: a go that waited begins. -/
def State.resetRelease (s : State) : State :=
  let s := s.modPwr fun p => { p with resetLow := false }
  if s.boot.goWait && s.fld BOOT_STAT_step == 2 then s.startVerify else s

/-- Both switches close again once the input is within its limits and MATE_N is closed (R438 to R440). -/
def State.supplyBack (s : State) : State :=
  if s.pwr.opened && s.pwr.mate && !s.pwr.inputBad then s.powerUp ((s.reg PWR_STAT).toNat % 32) else s

/-- The domain being enabled reports power good; what the cartouche has still to record is recorded once FD runs
(R429). -/
def State.domainGood (s : State) : State :=
  let fd := s.pwr.bring.head? == some 16
  let s := s.powerGood
  if fd then (s.cart.owed.foldl (fun t e => t.raise e.1 unitCart 0 e.2) s).modCart fun c => { c with owed := [] } else s

/-- A domain did not report power good: the POWER step fails (R442). -/
def State.domainBad (s : State) : State :=
  let go := !s.pwr.bring.isEmpty
  let s := s.pgTimeout
  if go && s.fld BOOT_STAT_step == 4 then (s.raiseBoot 0x8040 4).stepFail else s

/-! ### Rollback and DBG_LOCK (R389, R391) -/

/-- A write of `v` with commit. -/
def State.rollCommit (s : State) (v : Nat) : State :=
  if v ≤ s.fuseCount then s
  else if s.fld BOOT_IMG_INFO_sv < v ∨ s.boot.commit.isSome ∨ s.fld BOOT_STAT_step < 4 then s.raiseBoot 0x8020 0
  else
    let s := (s.setFld BOOT_ROLL_value v).setFld BOOT_ROLL_busy 1
    s.modBoot fun b => { b with commit := some v, pulses := 0, fuseAt := s.time.elapsed }

/-- BOOT_ROLL is written. -/
def State.rollWrite (s : State) (v : Nat) : State :=
  if bit v 15 then s.rollCommit (bits v 8 7) else s.setFld BOOT_ROLL_value (bits v 8 7)

/-- The commit is over; a reset that waited takes effect. -/
def State.commitEnd (s : State) : State :=
  let w := s.boot.waitReset
  let s := (s.setFld BOOT_ROLL_busy 0).modBoot fun b => { b with commit := none, waitReset := none }
  match w with
  | some k => s.resetNow k
  | none => s

/-- A programming pulse ends, and the fuse senses blown or not. -/
def State.fuseDone (s : State) (blown : Bool) : State :=
  match s.boot.commit with
  | none => s
  | some v =>
    let s := s.toElapsed (s.boot.fuseAt + 128000)
    let i := s.fuseCount
    let n := s.boot.pulses + 1
    let s := s.modBoot fun b =>
      if blown then { b with rb := b.rb ||| 2 ^ i, pulses := 0, fuseAt := s.time.elapsed }
      else { b with pulses := n, fuseAt := s.time.elapsed }
    if !blown && decide (3 ≤ n) then (s.raiseBoot 0x8021 (i % 64)).commitEnd
    else if (s.boot.waitReset.isSome) || decide (v ≤ s.fuseCount) then s.commitEnd
    else s

/-- BOOT_FUSE is written by an agent with blow_dbg. -/
def State.dbgBlow (s : State) (confirm : Nat) : State :=
  if confirm ≠ 0xD5 ∨ s.fld GEN_OWN_STAT_owner = 4 ∨ s.fld BOOT_STAT_step < 4 then s.raiseBoot 0x8022 0
  else s.modBoot fun b => { b with dbgLock := true, dbgUntil := s.time.elapsed + 128000 }

/-! ### Attestation (R392 to R394) -/

/-- The CRC-32 of a copy, over N and the write count, four bytes each (R393). -/
def attCrc (next writes : Nat) : Nat := crc32 (leBytes 4 next ++ leBytes 4 writes)

def AttCopy.bad (c : AttCopy) : Bool := c.crc != attCrc c.next c.writes

/-- A copy as it is written. -/
def mkCopy (next writes : Nat) : AttCopy := { next := next, writes := writes, crc := attCrc next writes }

/-- A copy that no longer passes its CRC. -/
def AttCopy.spoil (c : AttCopy) : AttCopy := { c with crc := attCrc c.next c.writes ^^^ 1 }

/-- The copy of the boot-state store that is read: the larger write count among those whose CRC passes. -/
def BootSt.copy (b : BootSt) : Option AttCopy :=
  if b.copyA.bad then (if b.copyB.bad then none else some b.copyB)
  else if b.copyB.bad then some b.copyA
  else if b.copyA.writes < b.copyB.writes then some b.copyB else some b.copyA

/-- The next unused index, where the store can be read. -/
def BootSt.attNext (b : BootSt) : Nat := match b.copy with | some c => c.next | none => 0

/-- The 128 bytes of a report with index `n` (R392). -/
def State.report (s : State) (n : Nat) : List Byte :=
  let words (f : Nat → Nat) : List Byte := (List.range 8).flatMap fun k => leBytes 4 (s.reg (f k)).toNat
  leBytes 4 1 ++ leBytes 4 n ++ leBytes 8 Config.uid.toNat ++ words BOOT_ATT_NONCE ++ words BOOT_IMG_DIGEST
    ++ leBytes 1 (s.fld BOOT_IMG_INFO_sv) ++ leBytes 1 s.fuseCount
    ++ leBytes 1 (b2n s.boot.dbgLock + 2 * b2n Config.codeS) ++ leBytes 1 (s.fld BOOT_STAT_step)
    ++ leBytes 8 s.time.tick ++ leBytes 2 (s.fld GEN_OWN_STAT_epoch) ++ leBytes 1 (s.fld GEN_OWN_STAT_owner)
    ++ leBytes 33 0

def State.attRefuse (s : State) : State := (s.setFld BOOT_ATT_STAT_state 3).raiseBoot 0x8030 0

/-- A write of 1 to start. A store that could not be read has ended attestation. Both copies are written, A first, and
read back in this one step; no rule says what a read-back that differs would do. -/
def State.attest (s : State) : State :=
  if s.boot.signing.isSome || decide (s.fld BOOT_STAT_step ≤ 3) || s.flag BOOT_ATT_STAT_store_bad then s.attRefuse
  else
    match s.boot.copy with
    | none => (s.attRefuse.setFld BOOT_ATT_STAT_store_bad 1).raiseBoot 0x8032 0
    | some c =>
      if 2 ^ 20 ≤ c.next then s.attRefuse.raiseBoot 0x8031 0
      else
        let c' : AttCopy := mkCopy (c.next + 1) ((c.writes + 1) % 2 ^ 32)
        let r := s.report c.next
        (s.modBoot fun b => { b with copyA := c', copyB := c', signing := some (r, c.next), signAt := s.time.elapsed }).setFld
          BOOT_ATT_STAT_state 1

/-- The fuse key (R390): its secret seed, its PRF key, its public seed and its root. -/
def attKey : XKey :=
  { secret := leBytes 32 Config.attSecret.toNat, prf := leBytes 32 Config.attPrf.toNat
    seed := leBytes 32 Config.attSeed.toNat, root := leBytes 32 Config.attRoot.toNat }

/-- The signature is formed: report and signature are released. -/
def State.attestDone (s : State) : State :=
  match s.boot.signing with
  | none => s
  | some (r, n) =>
    (s.modBoot fun b => { b with signing := none, out := r ++ attKey.sign n r }).setFld BOOT_ATT_STAT_state 2

/-- The bytes of the module's certificate (R394). -/
def certByte (k : Nat) : Byte :=
  let body := leBytes 8 1 ++ leBytes 8 Config.uid.toNat ++ leBytes 2 0x0B50 ++ leBytes 1 0xB0 ++ leBytes 1 (b2n Config.codeS)
    ++ leBytes 32 Config.attRoot.toNat ++ leBytes 32 Config.attSeed.toNat ++ leBytes 44 0
  if k < 128 then body.getD k 0 else if k < 5733 then Config.certSign (k - 128) else 0

/-! ### The debug test access port (R395) -/

/-- An instruction is in the instruction register, and drives the pins or not. -/
def State.tap (s : State) (ir drive : Nat) : State :=
  if s.alive then s.modBoot fun b => { b with jtag := { b.jtag with ir := ir, drive := drive } } else s

/-- EXTEST, CLAMP and HIGHZ: accepted in STANDBY and WAIT alone. -/
def State.tapDrive (s : State) (ir drive : Nat) : State :=
  if s.fld BOOT_STAT_step ≤ 2 then s.tap ir drive else s.tap 0xFF 0

/-- The pins of the boundary register, in its order, which is the model's choice (log entry 108): the reference pins
REFCLK_A, REFCLK_B, PPS_A, PPS_B, TOD_A and TOD_B; SYNC, RESET_N, PWR_OK and THERM_N; the management pins I3C_SCL,
I3C_SDA and ADDR0 to ADDR2; the debug pins TCK, TMS, TDI, TDO and TRST_N. -/
def pinOrder : List String :=
  ["REFCLK_A", "REFCLK_B", "PPS_A", "PPS_B", "TOD_A", "TOD_B", "SYNC", "RESET_N", "PWR_OK", "THERM_N"]
    ++ ["I3C_SCL", "I3C_SDA", "ADDR0", "ADDR1", "ADDR2", "TCK", "TMS", "TDI", "TDO", "TRST_N"]

/-- SAMPLE/PRELOAD captures the pins, of which the module knows SYNC, reset, power, temperature and the straps, and what
stands at its other pins is a free value; so is what the test tool shifts in and it preloads, for which the command has
no operand. -/
def State.samplePins (s : State) : State :=
  if s.alive then
    let pins := [s.syncHigh, !s.pwr.resetLow, s.pwrOk, !s.thermLow]
    let (v, t) := s.draw 13
    let (data, t) := t.draw 20
    let free (o n : Nat) : List Bool := (List.range n).map fun k => bit v (o + k)
    let straps := (List.range 3).map fun k => bit Config.straps.toNat k
    (t.tap 0x01 0).modBoot fun b =>
      { b with jtag := { b.jtag with pins := free 0 6 ++ pins ++ free 6 2 ++ straps ++ free 8 5, latch := data } }
  else s

/-! ### The commands -/

/-- 50 V is applied: with MATE_N closed the switches close (R438, R440). -/
def execPowerUp (s : State) : Out := .next (if s.pwr.mate then s.powerUp 1 else s)
def execResetPin (s : State) : Out := .next s.resetPin
def execResetNRelease (s : State) : Out := .next s.resetRelease
def execBootStepAdvance (result : BootResult) (s : State) : Out := .next (s.bootAdvance result)
def execBootStepTimeout (s : State) : Out := .next s.bootTimeout
def execDomainPgTimeout (s : State) : Out := .next s.domainBad
def execDomainPowerGood (s : State) : Out := .next s.domainGood
def execFuseBlowDone (blown : Bool) (s : State) : Out := .next (s.fuseDone blown)
def execAttestDone (s : State) : Out := .next s.attestDone
/-- The input is within its limits again (R438, R439). -/
def execInputRecover (s : State) : Out :=
  .next (s.modPwr fun p => { p with inputBad := false }).supplyBack
/-- MATE_N closes (R440). -/
def execMateClose (s : State) : Out := .next (s.modPwr fun p => { p with mate := true }).supplyBack
def execExtest (s : State) : Out := .next (s.tapDrive 0x00 1)
def execClamp (s : State) : Out := .next (s.tapDrive 0x03 2)
def execHighz (s : State) : Out := .next (s.tapDrive 0x04 3)
def execSamplePreload (s : State) : Out := .next s.samplePins
/-- IDCODE reads GEN_IDCODE (R395, R397). -/
def execIdcode (s : State) : Out :=
  .next (if s.alive then (s.tap 0x02 0).answer 0 (leBytes 4 0x10B5094B) else s)
/-- IJTAG acts as BYPASS once DBG_LOCK is blown. -/
def execIjtag (s : State) : Out := .next (if s.boot.dbgLock then s.tap 0xFF 0 else s.tap 0x20 0)
def execBypass (s : State) : Out := .next (s.tap 0xFF 0)
def execTestLogicReset (s : State) : Out := .next (s.tap 0x02 0)

end Sys2Proof.Machine
end

