-- ==== Sys2Proof/Machine/Cart.lean ====
section
/-! DEFINITION. The cartouche: metering (R420 to R422), tenures and commands (R423 to R425), records and signatures
(R426 to R428), supply loss (R429), the window (R430), tampering and re-verification (R431 to R433). -/

namespace Sys2Proof.Machine

/-- A fault of the cartouche (R436). -/
def State.raiseCart (s : State) (code aux : Nat) : State := s.raise code unitCart 0 aux

/-- A fault that the cartouche meets while the module may be without power: it is recorded once FD runs (R429). -/
def State.oweCart (s : State) (code aux : Nat) : State :=
  if s.alive && s.domUp 16 then s.raiseCart code aux
  else s.modCart fun c => { c with owed := c.owed ++ [(code, aux)] }

/-! ### Metering (R421, R422) -/

/-- The cumulative total in whole mJ (R421). -/
def CartSt.total (c : CartSt) : Nat := c.acc / 64000000 % 2 ^ 64

/-- Whether a sample lies outside the rated conditions of R422. -/
def cartOut (mv ma : Nat) (temp : Int) : Bool :=
  !decide (2000 ≤ ma ∧ ma ≤ 40000 ∧ 44000 ≤ mv ∧ mv ≤ 56000 ∧ 10 ≤ temp ∧ temp ≤ 85)

/-- A quotient rounded one way or the other where it is not exact: the spec states no rounding of the means. -/
def State.meanOf (s : State) (sum n : Nat) : Nat × State :=
  if n = 0 ∨ sum % n = 0 then (sum / n, s)
  else
    let (b, s) := s.draw 1
    (sum / n + b, s)

/-- The means over the last 64 ms, 4,096 samples (R437). -/
def State.cartMeans (s : State) : State :=
  let l := s.cart.last
  let n := l.length
  let sum (f : Nat × Nat → Nat) : Nat := (l.map f).foldl (· + ·) 0
  let (w, s) := s.meanOf (sum fun x => x.1 * x.2) (1000 * n)
  let (v, s) := s.meanOf (sum fun x => x.1) n
  let (i, s) := s.meanOf (sum fun x => x.2) (10 * n)
  s.modCart fun c => { c with power := w % 2 ^ 32, mv := v % 2 ^ 16, ca := i % 2 ^ 16 }

/-! ### Records (R426 to R428) -/

/-- Whether a record written now cannot be signed: the indices are used up, or the state store is unreadable. -/
def CartSt.unsigned (c : CartSt) : Bool := decide (2 ^ 20 ≤ c.sigNext) || c.storeBad

/-- The bytes of a slot that follow the body: signature, state and zeros (R427). -/
def CartRec.slotByte (r : CartRec) (o : Nat) : Byte :=
  if o < 128 then r.body.getD o 0
  else if o < 2948 then r.sig.getD (o - 128) 0
  else if o = 2948 then BitVec.ofNat 8 r.st
  else 0

/-- The record in a slot. -/
def CartSt.slot (c : CartSt) (j : Nat) : Option CartRec := c.recs.find? fun r => r.num % 160 == j % 160

/-- The first 16 bytes of SHAKE256 of the slot of the record before `r`, bytes 0 to 2,947; zeros for record 0 (R426). -/
def CartSt.chain (c : CartSt) (r : Nat) : List Byte :=
  if r = 0 then List.replicate 16 0
  else match c.slot (r - 1) with
    | some p => shake256 16 ((List.range 2948).map p.slotByte)
    | none => shake256 16 (List.replicate 2948 0)

/-- The cartouche's own key: the root and the public seed are those of its certificate (R428). -/
def cartKey : XKey :=
  let cert (o : Nat) : List Byte := (List.range 32).map fun k => Config.cartCert (o + k)
  { secret := leBytes 32 Config.cartSecret.toNat, prf := leBytes 32 Config.cartPrf.toNat, root := cert 20, seed := cert 52 }

/-- The oldest record that awaits its signature is completed: signed, or final unsigned (R428). -/
def State.cartComplete (s : State) : State :=
  match s.cart.recs.find? fun r => r.st == 1 with
  | none => s
  | some r =>
    let c := s.cart
    let bad := c.unsigned
    let flags := r.body.getD 88 0 ||| (if bad then 4 else 0)
    let body := r.body.take 88 ++ [flags] ++ (r.body.drop 89).take 23 ++ c.chain r.num
    let r' : CartRec :=
      if bad then { r with body := body, sig := List.replicate 2820 0, st := 3 }
      else { r with body := body, sig := cartKey.sign c.sigNext body, st := 2 }
    let s := s.modCart fun c => { c with
      recs := c.recs.map fun e => if e.num = r.num then r' else e
      sigNext := if bad then c.sigNext else c.sigNext + 1 }
    if decide (2 ^ 20 ≤ c.sigNext) then s.oweCart 0xA010 0 else s

/-- The body of a record without its chain bytes: the interval from `c.start` to `fin` (R426). -/
def CartSt.body (c : CartSt) (kind num : Nat) (fin : CartMark) : List Byte :=
  let a := c.start
  let flits := (fin.flits - a.flits) % 2 ^ 64
  let flags := b2n Config.codeS + 2 * b2n c.verified + 4 * b2n c.unsigned + 8 * b2n (c.lossIn || kind == 3)
    + 16 * b2n c.moved + 32 * b2n (a.tamper != c.tamper)
  leBytes 1 1 ++ leBytes 1 kind ++ leBytes 2 c.slice ++ leBytes 4 num ++ leBytes 8 Config.cartId.toNat
    ++ leBytes 8 (c.pair.getD Config.uid).toNat ++ leBytes 8 a.tick ++ leBytes 8 fin.tick ++ leBytes 8 a.total
    ++ leBytes 8 fin.total ++ leBytes 8 a.samples ++ leBytes 8 fin.samples ++ leBytes 4 (c.outSamples / 64)
    ++ leBytes 8 flits ++ leBytes 4 (flits * 74 / 10000000) ++ leBytes 1 flags ++ leBytes 3 0 ++ leBytes 4 c.tamper
    ++ leBytes 4 c.ovf ++ leBytes 4 a.cmd ++ leBytes 4 fin.cmd ++ leBytes 4 c.losses ++ leBytes 16 0

/-- A record is written into its slot and the next interval begins where it ends, with slice `next` (R426, R427). -/
def State.cartRecord (s : State) (kind : Nat) (fin : CartMark) (next : Nat) : State :=
  let num := s.cart.written
  let s := match s.cart.slot num with
    | some r =>
      if r.collected then s
      else (s.modCart fun c => { c with ovf := c.ovf + 1 }).oweCart 0xA003 r.num
    | none => s
  let s := s.modCart fun c => { c with
    recs := (c.recs.filter fun r => r.num % 160 != num % 160) ++ [{ num := num, body := c.body kind num fin }]
    written := num + 1, start := { fin with tamper := c.tamper }, slice := next, outSamples := 0, lossIn := false }
  if s.cart.unsigned && (s.cart.recs.filter fun r => r.st == 1).length == 1 then s.cartComplete else s

/-! ### Commands (R423, R424) -/

/-- The signed records not yet collected. -/
def CartSt.ready (c : CartSt) : List CartRec := c.recs.filter fun r => r.st == 2 && !r.collected

/-- The `n` oldest records that `p` takes are marked collected. -/
def markRecs (p : CartRec → Bool) : Nat → List CartRec → List CartRec
  | 0, l => l
  | _, [] => []
  | n + 1, r :: l => if p r then { r with collected := true } :: markRecs p n l else r :: markRecs p (n + 1) l

/-- The result of a command, coded as CART_STAT.last_result; `out` says that R373 refused its write. -/
def State.cartResult (s : State) (op n slice : Nat) (out : Bool) : Nat :=
  let tenure := decide (s.cart.slice ≠ 0)
  if out then 5
  else if op = 1 then
    (if tenure then 1 else if slice = 0 ∨ slice = 0xFFFF then 2 else if s.fld BOOT_STAT_step ≠ 10 then 4 else 0)
  else if op = 2 then (if tenure then 0 else 1)
  else if 1 ≤ n ∧ n ≤ s.cart.ready.length then 0 else 3

/-- The 64 bytes of a log entry (R424). -/
def CartSt.logEntry (c : CartSt) (agent op n slice result tick : Nat) : List Byte :=
  leBytes 4 c.logged ++ leBytes 1 op ++ leBytes 1 agent ++ leBytes 1 result ++ leBytes 1 0 ++ leBytes 8 tick
    ++ leBytes 8 c.samples ++ leBytes 2 slice ++ leBytes 2 n ++ leBytes 36 0

/-- One command takes effect at a sample boundary: it is logged, and done or refused. -/
def State.cartCmd (s : State) (agent v : Nat) (out : Bool) : State :=
  let op := bits v 0 2
  let n := bits v 4 8
  let slice := bits v 16 16
  let r := s.cartResult op n slice out
  let c := s.cart
  let fin : CartMark :=
    { tick := s.time.tick, total := c.total, samples := c.samples, cmd := c.logged, flits := s.fab.others }
  let s := s.modCart fun c => { c with
    log := (c.log ++ [c.logEntry agent op n slice r s.time.tick]).drop (c.log.length + 1 - 256)
    logged := c.logged + 1, result := r }
  if r ≠ 0 then s.raiseCart 0xA001 (op + 16 * r)
  else if op = 1 then s.cartRecord 2 fin slice
  else if op = 2 then s.cartRecord 1 fin 0
  else s.modCart fun c => { c with
    recs := markRecs (fun r => r.st == 2 && !r.collected) n c.recs, collected := c.collected + n }

/-- CART_CMD is written: op 0 is no command; any other waits for the next sample boundary. -/
def State.cartWrite (s : State) (agent v : Nat) (out : Bool) : State :=
  if bits v 0 2 = 0 then s else s.modCart fun c => { c with pend := c.pend ++ [(agent, v, out)] }

/-- A sample: it is metered, and the commands that wait take effect. Below 40 V the cartouche takes none (R429). -/
def State.cartSample (s : State) (x : CartSample) : State :=
  let mv := x.mv.toNat
  let ma := x.ma.toNat
  if !s.cart.on || decide (mv < 40000) then s
  else
    let out := cartOut mv ma x.temp.toInt
    let waiting := s.cart.pend
    let s := s.modCart fun c => { c with
      acc := c.acc + mv * ma, samples := c.samples + 1, last := ((mv, ma) :: c.last).take 4096, temp := x.temp.toNat
      outNow := out, outSamples := c.outSamples + b2n out, pend := [] }
    waiting.foldl (fun t e => t.cartCmd e.1 e.2.1 e.2.2) s.cartMeans

/-! ### Supply, seal and window (R429 to R433) -/

/-- The input falls below 40 V: sampling stops. Commands that wait are lost with the supply. -/
def State.cartLoss (s : State) : State :=
  s.modCart fun c => { c with on := false, pend := [], last := [], power := 0, mv := 0, ca := 0, outNow := false }

/-- A different module identity than the one saved sets moved; a cartouche without one is paired (R432). -/
def State.cartPair (s : State) : State :=
  match s.cart.pair with
  | none => s.modCart fun c => { c with pair := some Config.uid }
  | some u => if u = Config.uid then s else (s.modCart fun c => { c with moved := true }).oweCart 0xA020 0

/-- The supply returns; `bad` says that neither state copy can be read (R429, R436). -/
def State.cartReturn (s : State) (bad : Bool) : State :=
  if s.cart.on then s
  else
    let s := s.modCart fun c => { c with on := true, losses := c.losses + 1, storeBad := c.storeBad || bad }
    let s := if bad then s.oweCart 0xA011 0 else s
    let c := s.cart
    let fin : CartMark := { total := c.total, samples := c.samples, flits := s.fab.others }
    let s := if c.slice = 0 then s.modCart fun c => { c with lossIn := true } else s.cartRecord 3 fin 0
    (s.oweCart 0xA002 0).cartPair

/-- The tamper count rises, and clears verified (R431, R433). -/
def State.cartTamper (s : State) : State :=
  (s.modCart fun c => { c with tamper := c.tamper + 1, verified := false }).oweCart 0xA020 0

/-- Re-verification at the service connector; the cartouche is paired with this module from then on (R432, R433). -/
def State.cartReverify (s : State) : State :=
  s.modCart fun c => { c with verified := true, moved := false, pair := some Config.uid }

/-- A read that the cartouche has not answered within 1 ms (R430). -/
def State.cartSilent (s : State) (agent n : Nat) : State :=
  if s.reaches agent then ((s.pass 1280000).raiseCart 0xA030 0).answer 0 (List.replicate n 0xFF) else s

/-! ### What the registers show (R437) -/

def CartSt.stat (c : CartSt) : Nat :=
  b2n (c.slice != 0) + 2 * b2n c.verified + 4 * b2n Config.codeS + 8 * b2n (decide (2 ^ 20 ≤ c.sigNext))
    + 16 * b2n c.storeBad + 32 * b2n c.moved + 64 * b2n (c.recs.any fun r => r.st == 1) + 128 * b2n c.outNow
    + c.result % 16 * 2 ^ 8 + c.temp % 256 * 2 ^ 12

/-- A byte of the cartouche's certificate: laid out as the module's, with the cartouche's identity and key, and the
type-approval number, zeros on NCV-2896-N (R394, R428). -/
def cartCertByte (k : Nat) : Byte :=
  let head := leBytes 8 1 ++ leBytes 8 Config.cartId.toNat ++ leBytes 2 0x0B50 ++ leBytes 1 0xB0 ++ leBytes 1 (b2n Config.codeS)
  if k < 20 then head.getD k 0
  else if k < 84 then Config.cartCert k
  else if k < 100 then (if Config.codeS then Config.cartCert k else 0)
  else if k < 128 then 0
  else if k < 5733 then Config.cartCert k
  else 0

/-- Byte `o` of log slot `j`: entry `j` modulo 256, the newest one. -/
def CartSt.logByte (c : CartSt) (j o : Nat) : Byte :=
  let first := c.logged - c.log.length
  match (List.range c.log.length).find? fun i => (first + i) % 256 == j with
  | some i => (c.log.getD i []).getD o 0
  | none => 0

/-- Byte `o` of record slot `j`. -/
def CartSt.recByte (c : CartSt) (j o : Nat) : Byte :=
  match c.slot j with
  | some r => r.slotByte o
  | none => 0

/-- The 32-bit register at a CART address. -/
def CartSt.view (c : CartSt) (a : Nat) : Nat :=
  let word (f : Nat → Byte) (k : Nat) : Nat := leNat ((List.range 4).map fun i => f (4 * k + i))
  if a = CART_ID then Config.cartId.toNat % 2 ^ 32
  else if a = CART_ID + 4 then Config.cartId.toNat / 2 ^ 32
  else if a = CART_STAT then c.stat
  else if a = CART_TOTAL then c.total % 2 ^ 32
  else if a = CART_TOTAL + 4 then c.total / 2 ^ 32
  else if a = CART_POWER then c.power
  else if a = CART_VI then c.mv + c.ca * 2 ^ 16
  else if a = CART_TENURE then c.slice
  else if a = CART_REC then c.written % 2 ^ 32
  else if a = CART_COLL then c.collected % 2 ^ 32
  else if a = CART_SIG then c.sigNext
  else if a = CART_TAMPER then c.tamper % 2 ^ 16 + c.losses % 2 ^ 16 * 2 ^ 16
  else if a = CART_LOGN then c.logged % 2 ^ 32
  else if CART_CERT 0 ≤ a ∧ a < CART_CERT 2048 then word cartCertByte ((a - CART_CERT 0) / 4)
  else if CART_LOG 0 ≤ a ∧ a < CART_LOG 4096 then
    let k := (a - CART_LOG 0) / 4
    word (c.logByte (k / 16)) (k % 16)
  else if CART_SLOT 0 ≤ a ∧ a < CART_SLOT 122880 then
    let k := (a - CART_SLOT 0) / 4
    word (c.recByte (4 * k / 3072)) (k % 768)
  else 0

/-! ### The commands -/

def execCartSample (sample : CartSample) (s : State) : Out := .next (s.cartSample sample)
/-- The cartouche has formed the next signature in record order (R428). -/
def execCartSignDone (s : State) : Out := .next (if s.cart.on then s.cartComplete else s)
def execCartSupplyLoss (s : State) : Out := .next s.cartLoss
def execCartSupplyReturn (bad : Bool) (s : State) : Out := .next (s.cartReturn bad)
def execTamperSwitch (s : State) : Out := .next s.cartTamper
def execCartReverify (s : State) : Out := .next s.cartReverify
def execCartReadTimeout (agent : Agent) (wide : Bool) (s : State) : Out :=
  .next (s.cartSilent (agentNo agent) (if wide then 8 else 4))

end Sys2Proof.Machine
end

