-- ==== Sys2Proof/Machine/CtrlSpace.lean ====
section
/-! DEFINITION. The control space (R7 to R10, R456 to R461): what a read of each register shows, what a write of it
does, and the checks every access passes first (R10, R382, R373, R460, R459). -/

namespace Sys2Proof.Machine

/-! ### Reads: sheets -/

/-- SHEET_ID of a sheet. -/
def sheetIdWord (i : Nat) : Nat :=
  i % 160 + i / 160 * 2 ^ 8 + i % 16 / 2 * 2 ^ 9 + i % 160 / 16 * 2 ^ 16 + i % 16 * 2 ^ 20

/-- Whether all four queues of a sheet are empty and so all its engines idle. -/
def State.sheetIdle (s : State) (i : Nat) : Bool := (List.range 4).all (s.engIdle i)

/-- The state of a queue: 0 empty, 1 head waiting, 2 executing, 3 halted. -/
def State.queueState (s : State) (i e : Nat) : Nat :=
  if s.halted i e then 3
  else match s.head i e with
    | none => 0
    | some w => if w.phase = .running ∨ w.phase = .done then 2 else 1

/-- A register of a sheet by its offset. -/
def State.sheetView (s : State) (i a : Nat) : Nat :=
  let w := (s.reg a).toNat
  if a = SHEET_ID i then sheetIdWord i
  else if a = SHEET_STATUS i then w / 4 * 4 + b2n (s.sheetIdle i) + 2 * b2n (!s.flag (SHEET_CTL_run i))
  else match (List.range 4).find? fun e => a == SHEET_Q_STAT i e || a == SHEET_Q_TAG i e with
    | some e =>
      if a = SHEET_Q_STAT i e then ((s.sheet i).queue e).length % 128 + 64 * 2 ^ 8 + s.queueState i e * 2 ^ 16
      else match s.head i e with
        | some w => w.tag
        | none => 0
    | none => w

/-! ### Reads: the other blocks -/

/-- Credits available to a sender in a class (R243, R262). -/
def creditLeft (n used : Nat) : Nat := n - used

def State.linkView (s : State) (p a : Nat) : Nat :=
  let q := s.port p
  if a = LINK_CRED_A p then
    creditLeft 512 (q.used 0 false) + creditLeft 96 (q.used 1 false) * 2 ^ 10 + creditLeft 32 (q.used 2 false) * 2 ^ 20
  else if a = LINK_CRED_B p then creditLeft 896 q.sharedUsed + q.pool.length % 2 ^ 11 * 2 ^ 16
  else (s.reg a).toNat

def State.fabView (s : State) (a : Nat) : Nat :=
  let w := (s.reg a).toNat
  if a = FAB_DISPATCH_STAT then putBits w 0 16 (s.fab.deps.filter ArmedDep.lateNow).length
  else if FAB_EXPERT 0 ≤ a ∧ a < FAB_EXPERT 1024 then smGet (fun _ => w) s.fab.expertPend ((a - FAB_EXPERT 0) / 4)
  else if a = FAB_INFLIGHT then putBits w 0 16 s.fab.flights.length
  else if a = FAB_OVL_STAT then putBits w 16 16 (s.fab.ovl.filter fun e => e.2.state == 2).length
  else match (List.range 16).find? fun e => a == FAB_DX_STAT e with
    | some e => putBits w 0 9 (s.dx e).queue.length
    | none => w

def State.timeView (s : State) (a : Nat) : Nat :=
  let w := (s.reg a).toNat
  if a = TIME_COUNT then s.time.tick % 2 ^ 32
  else if a = TIME_COUNT + 4 then s.time.tick / 2 ^ 32 % 2 ^ 32
  else if a = TIME_SCHED_FRAME then s.schedFrame % 2 ^ 32
  else if a = TIME_SCHED_FRAME + 4 then s.schedFrame / 2 ^ 32
  else if a = TIME_SLIP_STAT then w / 2 ^ 24 * 2 ^ 24 + min s.time.slips 0xFFFF + min s.time.consec 0xFF * 2 ^ 16
  else w

/-- Whether the head stage descriptor waits for its due tick. One in a companion window is known once its answer has
come. -/
def State.stageWaiting (s : State) : Bool :=
  let head := s.fld MEM_STAGE_HEAD_head
  let a := s.stageAddr head
  s.load.stage.isNone && s.fld MEM_STAGE_TAIL_tail != head
    && (match if inCompanion a then s.compPeek .stageRing a 32 else some (s.memRead a 32) with
      | some d => decide (s.time.tick < s.stageDue d)
      | none => false)

def State.memView (s : State) (a : Nat) : Nat :=
  let w := (s.reg a).toNat
  if a = MEM_STAGE_STAT then putBits w 1 1 (b2n s.stageWaiting)
  else if a = MEM_LOAD_STAT then putBits w 0 7 s.lanesBusy.length
  else w

def State.wlinkView (s : State) (a : Nat) : Nat :=
  let w := (s.reg a).toNat
  let ev (p : Nat) : Nat :=
    w / 2 ^ 24 * 2 ^ 24 + (s.wport p).prod % 2 ^ 16 + min (s.wport p).evBuf.length 255 * 2 ^ 16
  if a = WLINK_EVR_STAT 0 then ev 0
  else if a = WLINK_EVR_STAT 1 then ev 1
  else if a = WLINK_MGMT then putBits w 0 7 (0x58 + Config.straps.toNat)
  else w

/-- Byte `k` of BOOT_ATT_OUT and of BOOT_CERT, four at a time. -/
def wordOf (f : Nat → Byte) (k : Nat) : Nat := leNat ((List.range 4).map fun i => f (4 * k + i))

/-- Lease seconds left, rounded up (R376). -/
def State.leaseLeft (s : State) : Nat :=
  if s.fld GEN_OWN_STAT_owner = 0 then 0 else ceilDiv (s.own.leaseAt - s.time.elapsed) 1280000000

def State.bootView (s : State) (a : Nat) : Nat :=
  let w := (s.reg a).toNat
  if a = GEN_PART then w + b2n Config.codeS * 2 ^ 16
  else if a = GEN_UID then Config.uid.toNat % 2 ^ 32
  else if a = GEN_UID + 4 then Config.uid.toNat / 2 ^ 32
  else if a = GEN_OWN_STAT then putBits w 8 6 s.leaseLeft
  else if a = BOOT_ROLL then putBits w 0 7 s.fuseCount
  else if a = BOOT_FUSE then b2n s.boot.dbgLock
  else if a = BOOT_ATT_STAT then
    let n := s.boot.attNext
    putBits (putBits w 8 21 n) 2 1 (b2n (decide (2 ^ 20 ≤ n)))
  else if BOOT_ATT_OUT 0 ≤ a ∧ a < BOOT_ATT_OUT 1024 then
    wordOf (fun k => s.boot.out.getD k 0) ((a - BOOT_ATT_OUT 0) / 4)
  else if BOOT_CERT 0 ≤ a ∧ a < BOOT_CERT 2048 then wordOf certByte ((a - BOOT_CERT 0) / 4)
  else w

def State.pwrView (s : State) (a : Nat) : Nat :=
  let w := (s.reg a).toNat
  if a = PWR_THERM_STAT then
    putBits w 0 16 ((List.range 16).foldl (fun n k => n + s.fld (PWR_GOV_STAT_throttle k) * 2 ^ k) 0)
  -- domain 25 is the cartouche, on its own supply (R441)
  else if a = PWR_DOM_STAT then putBits w 25 1 (b2n s.cart.on)
  else w

/-- Word `j` of log slot `k`: the record at index `k` modulo 1,024 (R403). -/
def State.logWord (s : State) (k j : Nat) : Nat :=
  match s.fault.log.find? fun e => e.idx % 1024 == k with
  | some e => leField e.entry.bytes (4 * j) 4
  | none => 0

def State.faultView (s : State) (a : Nat) : Nat :=
  let w := (s.reg a).toNat
  if a = FAULT_STAT then putBits w 24 1 (b2n (s.fld FAULT_LOG_PROD_prod != s.fld FAULT_LOG_CONS_cons))
  else if a = FAULT_TWIN_STAT then putBits w 2 5 s.fault.twin.length
  else if FAULT_LOG 0 ≤ a ∧ a < FAULT_LOG 8192 then
    let k := (a - FAULT_LOG 0) / 4
    s.logWord (k / 8) (k % 8)
  else w

/-- What a read of the 32-bit register at a mapped address shows (R7, R8). -/
def State.view (s : State) (a : Nat) : Nat :=
  if a < 0x200000 then s.bootView a
  else if a < 0x300000 then s.pwrView a
  else if a < 0x400000 then s.timeView a
  else if a < 0x600000 then s.linkView ((a - 0x400000) / 0x10000) a
  else if a < 0x800000 then s.fabView a
  else if a = TOPO_STAT then putBits (s.reg a).toNat TOPO_STAT_transit_live.lo 1
      (b2n (s.fab.trans.any s.liveTransit))
  else if a = TOPO_LCOORD then putBits (s.reg a).toNat 0 17 (s.topo.lcoord.getD (s.reg a).toNat)
  else if inSheetBlock a then s.sheetView (sheetOf a) a
  else if a < 0x3000000 then (s.reg a).toNat
  else if a < 0x3400000 then s.memView a
  else if a < 0x3600000 then s.wlinkView a
  else if a < 0x3800000 then s.faultView a
  else if a < 0x3C00000 then s.cart.view a
  else if a = DBG_STAT then b2n s.boot.dbgLock + 2 * b2n s.dbgReach + 4 * b2n (s.boot.jtag.drive != 0)
  else (s.reg a).toNat

/-! ### Latched halves (R169, R459) -/

def State.latched (l : List (Nat × Nat × Word)) (agent a : Nat) : Option Word :=
  (l.find? fun e => e.1 == agent && e.2.1 == a).map (·.2.2)

/-- The lower half an agent wrote, kept until the register takes a new value. -/
def State.keepLow (s : State) (agent a : Nat) (w : Word) : State :=
  s.modLatch fun l => { l with low := (agent, a, w) :: l.low.filter fun e => !(e.1 == agent && e.2.1 == a) }

/-- A register took a new value: every half kept for it goes. -/
def State.dropLow (s : State) (as_ : List Nat) : State :=
  s.modLatch fun l => { l with low := l.low.filter fun e => !as_.contains e.2.1 }

def State.keepHigh (s : State) (agent a : Nat) (w : Word) : State :=
  s.modLatch fun l => { l with high := (agent, a, w) :: l.high.filter fun e => !(e.1 == agent && e.2.1 == a) }

def State.dropHigh (s : State) (agent a : Nat) : State :=
  s.modLatch fun l => { l with high := l.high.filter fun e => !(e.1 == agent && e.2.1 == a) }

/-! ### Writes: the general rule (R7, R8) -/

/-- The stored value of a register after a write by its masks: RW bits are set, W1C bits cleared. -/
def maskWrite (d : WordDesc) (old v : Nat) : Nat :=
  let n := (old &&& (0xFFFFFFFF - d.rw % 2 ^ 32)) ||| (v &&& d.rw)
  n &&& (0xFFFFFFFF - (v &&& d.w1c) % 2 ^ 32)

/-- A write of a register that has no rule of its own. -/
def State.plainWrite (s : State) (a v : Nat) : State :=
  match regLoc a with
  | some l => s.setReg a (BitVec.ofNat 32 (maskWrite l.desc (s.reg a).toNat v))
  | none => s

/-! ### Writes: registers with rules of their own -/

/-- BOOT_CTL: src and hold, then go and resume (R383, R386). -/
def State.bootCtl (s : State) (v : Nat) : State :=
  let s := s.plainWrite BOOT_CTL v
  let s := if bit v 0 then s.go else s
  if bit v 3 then s.resume else s

/-- BOOT_RESET: the widest kind written acts (R380). -/
def State.resetWrite (s : State) (v : Nat) : State :=
  if bit v 2 then s.resetReq 2 else if bit v 1 then s.resetReq 1 else if bit v 0 then s.resetReq 0 else s

def State.bootWrite (s : State) (a v : Nat) : State :=
  if a = GEN_OWN_CFG then s.ownCfg v
  else if a = BOOT_CTL then s.bootCtl v
  else if a = BOOT_ROLL then s.rollWrite v
  else if a = BOOT_RESET then s.resetWrite v
  else if a = BOOT_FUSE then (if bit v 16 then s.dbgBlow (bits v 8 8) else s)
  else if a = BOOT_ATT_CTL then (if bit v 0 then s.attest else s)
  else s.plainWrite a v

def State.pwrWrite (s : State) (a v : Nat) : State :=
  if a = PWR_IN_CFG then s.powerCap v
  else if a = PWR_DOM_OFF then s.domOff v
  else if a = PWR_SYNC_CTL then s.syncWrite v
  else if PWR_GOV_CTL 0 ≤ a ∧ a < PWR_GOV_CTL 16 ∧ a % 32 < 8 then
    s.govWrite ((a - PWR_GOV_CTL 0) / 32) (decide (a % 32 = 0)) v
  else s.plainWrite a v

/-- TIME_DOM_CTL: pref and revert, then switch and slew_now (R291, R295). -/
def State.domCtl (s : State) (v : Nat) : State :=
  let s := s.plainWrite TIME_DOM_CTL v
  let s := if bit v 2 then s.switchRequest else s
  if bit v 3 then s.slewNow else s

def State.timeWrite (s : State) (a v : Nat) : State :=
  if a = TIME_SCHED_CTL then s.planWrite v
  else if a = TIME_DOM_CTL then s.domCtl v
  else s.plainWrite a v

def State.linkWrite (s : State) (p a v : Nat) : State :=
  if a = LINK_CTL p then s.linkCtl p (s.reg a).toNat v
  else if a = LINK_CFG p then s.linkCfg p v
  else if a = LINK_TS_CTL p then
    let s := s.plainWrite a v
    if bit v 1 then s.tsClear p else s
  else s.plainWrite a v

/-- FAB_EXPERT_e: its cap now, its bundle at the next frame boundary (R228). -/
def State.expertWrite (s : State) (e v : Nat) : State :=
  let n := v &&& 0x00FF03FF
  (s.setFld (FAB_EXPERT_cap e) (bits n 16 8)).modFab fun f => { f with expertPend := smSet (fun _ => 2 ^ 32) f.expertPend e n }

def State.fabWrite (s : State) (a v : Nat) : State :=
  if a = FAB_DISPATCH_CTL then s.dispatchCtl v
  else if a = FAB_OVL_SEL then s.ovlSelect v
  else if a = FAB_OVL_CTL then (if bit v 0 then s.ovlCommit else s)
  else if a = FAB_PATH_SEL then s.pathSelect v
  else if a = FAB_PATH_CTL then
    let s := if bit v 0 then s.pathCommit else s
    if bit v 1 then s.pathBulk else s
  else if a = FAB_BUNDLE_CTL then s.bundleWrite a 0xFFF03 v
  else if a = FAB_BUNDLE_AREA then s.bundleWrite a 0xFFFFFFFF v
  else if a = FAB_BUNDLE_AUX then s.bundleWrite a 0xFFFF v
  else if FAB_EXPERT 0 ≤ a ∧ a < FAB_EXPERT 1024 then s.expertWrite ((a - FAB_EXPERT 0) / 4) v
  else s.plainWrite a v

def State.topoWrite (s : State) (a v : Nat) : State :=
  if a = TOPO_CTL then
    let s := if bit v 0 then s.surveyStart else s
    if bit v 1 then s.measureStart else s
  else if a = TOPO_LCOORD then s.lcoordWrite v
  else if a = TOPO_SLICE then s.sliceWrite v
  else if a = TOPO_ORIGIN then s.treeWrite a 0x8001FFFF v
  else if a = TOPO_TREE then s.treeWrite a 0x1F v
  else if a = TOPO_TREE_CHILD then s.treeWrite a 0x7FFFFFFF v
  else if a = TOPO_FENCE then (s.setIf (bit v 2) TOPO_FENCE_refused 0).fenceWrite (bit v 0)
  else s.plainWrite a v

/-- A register of one sheet (R46, R81, R137, R162, R163). -/
def State.sheetOne (s : State) (i a v : Nat) : State :=
  let o := a - sheetBase i
  if 0x8000 ≤ o ∧ o < 0x8800 then s.legendWrite i ((o - 0x8000) / 4) v
  else if a = SHEET_LEGEND_CTL i then s.legendCtl i v
  else if a = SHEET_SAFE_CTL i then s.safeCtl i (BitVec.ofNat 32 v)
  else if (0x8860 ≤ o ∧ o < 0x8870) ∨ (0x200 ≤ o ∧ o < 0x300) then s.holdWrite i a (BitVec.ofNat 32 v)
  else if 0x100 ≤ o ∧ o < 0x180 ∧ o % 32 = 0 then s.ringWrite i ((o - 0x100) / 32) v
  else if 0x100 ≤ o ∧ o < 0x180 ∧ o % 32 = 4 then s.tailWrite i ((o - 0x100) / 32) v
  else s.plainWrite a v

/-- A write in the SHEET blocks: in twin mode a CD0 sheet's goes to its twin as well (R414). -/
def State.sheetWrite (s : State) (i a v : Nat) : State :=
  if !s.twinOn then s.sheetOne i a v
  else (s.sheetOne i a v).sheetOne (i + 160) (a + 0x1000000) v

def State.memRegWrite (s : State) (a v : Nat) : State :=
  if a = MEM_DEPOT_PART then s.depotPart v
  else if a = MEM_STAGE_TAIL then s.stageTail v
  else if a = MEM_LOAD_TAIL then s.loadTail v
  else s.plainWrite a v

def State.wlinkWrite (s : State) (a v : Nat) : State :=
  let p := (a - 0x3400000) / 0x10000
  if WLINK_BQ_CFG ≤ a then
    if a = WLINK_BQ_CFG then (s.plainWrite a v).setFld WLINK_BQ_STAT_stopped 0
    else if a = WLINK_MGMT then
      (if s.flag WLINK_MGMT_ibi then s.plainWrite a v else (s.plainWrite a v).ibiPending)
    else s.plainWrite a v
  else if a = WLINK_CTL p then s.wCtl p (s.reg a).toNat v
  else if a = WLINK_CFG p then s.wCfg p v
  else s.plainWrite a v

/-- FAULT_TWIN_CTL: while the slice is idle and every sheet idle, or refused (R414). -/
def State.twinWrite (s : State) (on : Bool) : State :=
  if s.fld TOPO_SLICE_state = 0 ∧ (List.range 320).all s.sheetIdle = true then
    (s.setFld FAULT_TWIN_CTL_enable (b2n on)).setFld FAULT_TWIN_STAT_active (b2n on)
  else s.raise 0x1051 0 0 0

/-- FAULT_LOG_CONS: a write beyond prod is ignored (R419). -/
def State.consWrite (s : State) (v : Nat) : State :=
  if subMod 32 (s.fld FAULT_LOG_PROD_prod) v ≤ 1024 then s.setFld FAULT_LOG_CONS_cons v else s

def State.faultWrite (s : State) (a v : Nat) : State :=
  if a = FAULT_TWIN_CTL then s.twinWrite (bit v 0)
  else if a = FAULT_LOG_CONS then s.consWrite v
  else s.plainWrite a v

/-- A write of a 32-bit register by an agent that may write it. -/
def State.write32 (s : State) (agent a v : Nat) : State :=
  if a < 0x200000 then s.bootWrite a v
  else if a < 0x300000 then s.pwrWrite a v
  else if a < 0x400000 then s.timeWrite a v
  else if a < 0x600000 then s.linkWrite ((a - 0x400000) / 0x10000) a v
  else if a < 0x800000 then s.fabWrite a v
  else if a < 0x1000000 then s.topoWrite a v
  else if inSheetBlock a then s.sheetWrite (sheetOf a) a v
  else if a < 0x3000000 then s
  else if a < 0x3400000 then s.memRegWrite a v
  else if a < 0x3600000 then s.wlinkWrite a v
  else if a < 0x3800000 then s.faultWrite a v
  else if a = CART_CMD then s.cartWrite agent v false
  else s

/-! ### Writes of 64-bit registers (R459) -/

/-- Whether a trace ring lies wholly within HBM4 data or the mapped DDR5 tier (R417). -/
def State.traceOk (s : State) (v : Nat) : Bool :=
  let r := s.within (bits v 4 44 * 16) (ringSize (bits v 48 16) 65536 * 65536)
  r == some .hbm || r == some .ddr

/-- TIME_JOB_START: the slips since the start frame begin anew (R191). -/
def State.jobStartWrite (s : State) (v : Nat) : State :=
  (s.setReg64 TIME_JOB_START (v % 2 ^ 48)).modTime fun t => { t with slips := 0, slipAt := [] }

/-- Whether the check of a 64-bit register refuses a value: the register then keeps its value. -/
def State.refuses64 (s : State) (a v : Nat) : Bool :=
  if a = FAULT_TRACE_RING then !s.traceOk v
  else if a = MEM_STAGE_RING then s.fld MEM_STAGE_TAIL_tail != s.fld MEM_STAGE_HEAD_head
  else if a = MEM_LOAD_RING then
    s.fld MEM_LOAD_TAIL_tail != s.fld MEM_LOAD_HEAD_head || s.fld MEM_LOAD_TAIL_tail != s.fld MEM_LOAD_DONE_done
  else false

/-- A write of the 64 bits at `a`. -/
def State.write64 (s : State) (agent a v : Nat) : State :=
  let lo := v % 2 ^ 32
  let hi := v / 2 ^ 32 % 2 ^ 32
  if a = TIME_JOB_START then s.jobStartWrite v
  else if a = MEM_STAGE_RING then s.stageRing v
  else if a = MEM_LOAD_RING then s.loadRing v
  else if a = WLINK_PACE 0 ∨ a = WLINK_PACE 1 then s.paceWrite ((a - WLINK_PACE 0) / 0x10000) v
  else if a = WLINK_EVR 0 ∨ a = WLINK_EVR 1 then s.evrWrite ((a - WLINK_EVR 0) / 0x10000) v
  else if a = FAULT_TRACE_RING then
    if s.traceOk v then s.setReg64 a (v % 2 ^ 64 / 16 * 16) else s.raise 0x2040 0 0 0
  else (s.write32 agent a lo).write32 agent (a + 4) hi

/-- The lower half an upper-half write takes: the one the agent wrote, else the present value with its W1C and WO bits
as 0. -/
def State.lowFor (s : State) (agent a : Nat) : Nat :=
  match State.latched s.latch.low agent a with
  | some w => w.toNat
  | none =>
    let d := match regLoc a with | some l => l.desc.w1c ||| l.desc.wo | none => 0
    (s.reg a).toNat &&& (0xFFFFFFFF - d % 2 ^ 32)

/-- Word 3 of a register of four words is written: LINK_PERMIT_k or WLINK_DWIN_k (R277, R355). -/
def State.write128 (s : State) (agent b v : Nat) : State :=
  let e := s.lowFor agent b + s.lowFor agent (b + 4) * 2 ^ 32 + s.lowFor agent (b + 8) * 2 ^ 64 + v * 2 ^ 96
  if b < 0x600000 then
    let p := (b - 0x400000) / 0x10000
    let k := (b - LINK_PERMIT p 0) / 16
    let bad := s.permitBad p k e
    let s := s.permitCommit p k e
    if bad then s else s.dropLow [b, b + 4, b + 8]
  else
    let p := (b - 0x3400000) / 0x10000
    let k := (b - WLINK_DWIN p 0) / 16
    let bad := s.dwinBad p k e
    let s := s.dwinCommit p k e
    if bad then s else s.dropLow [b, b + 4, b + 8]

/-- A 32-bit write by an agent that may write: a half of a wider register, or a register. -/
def State.writeWord (s : State) (agent a v : Nat) : State :=
  match regLoc a with
  | none => s
  | some l =>
    let b := a - 4 * l.idx
    if l.words = 4 then
      if l.idx < 3 then s.keepLow agent a (BitVec.ofNat 32 v) else s.write128 agent b v
    else if l.words = 2 then
      if l.idx = 0 then s.keepLow agent a (BitVec.ofNat 32 v)
      else
        let x := s.lowFor agent b + v * 2 ^ 32
        let bad := s.refuses64 b x
        let s := s.write64 agent b x
        if bad then s else s.dropLow [b]
    else s.write32 agent a v

/-- A 64-bit write: a 64-bit register as a whole, or two registers, the lower address first. -/
def State.writeDouble (s : State) (agent a v : Nat) : State :=
  match regLoc a with
  | some l =>
    if l.words = 2 ∧ l.idx = 0 then
      let bad := s.refuses64 a v
      let s := s.write64 agent a v
      if bad then s else s.dropLow [a]
    else (s.writeWord agent a (v % 2 ^ 32)).writeWord agent (a + 4) (v / 2 ^ 32 % 2 ^ 32)
  | none => s

/-! ### The checks of an access -/

/-- Whether a block is mapped at this point of the boot sequence (R382). -/
def State.blockUp (s : State) (a : Nat) : Bool :=
  decide (5 ≤ s.fld BOOT_STAT_step) || decide (a < 0x300000) || decide (0x3400000 ≤ a)

/-- Whether the register word at an address is mapped (R10, R382, R456). -/
def State.mapped (s : State) (a : Nat) : Bool := (regLoc a).isSome && s.blockUp a

/-- Whether an access of a size is one the control space accepts (R9). -/
def sizeOk (a n : Nat) : Bool := (n == 4 || n == 8) && a % n == 0

/-- Whether every word of an access is mapped. -/
def State.allMapped (s : State) (a n : Nat) : Bool := s.mapped a && (n == 4 || s.mapped (a + 4))

/-- The fault of R10. -/
def State.badAccess (s : State) (agent a : Nat) : State := s.raise 0x7003 0 0 (a % 2 ^ 26 + agent % 8 * 2 ^ 28)

/-- What a write refused for ownership still does: a go is recorded as refused, and the cartouche sees its command
(R386, R424). -/
def State.refusedSeen (s : State) (agent a n v : Nat) : State :=
  if a = BOOT_CTL ∧ bit v 0 then s.raiseBoot 0x8010 0
  else if a = CART_CMD ∧ n = 4 then s.cartWrite agent v true
  else if a + 4 = CART_CMD ∧ n = 8 then s.cartWrite agent (v / 2 ^ 32) true
  else s

/-- A control-space write of `n` bytes by an agent: the state, and the status of R369. In twin mode a write to a CD1
sheet's registers is refused (R414). -/
def State.ctrlWrite (s : State) (agent a n v : Nat) : State × Nat :=
  if !sizeOk a n || !s.allMapped a n then (s.badAccess agent a, 2)
  else if a = GEN_OWN_CMD then (s.ownCmd agent (bits v 0 3) (bits v 4 3), 0)
  else if s.nonOwner agent then ((s.ownRefuse agent).refusedSeen agent a n v, 1)
  else if inSheetBlock a && !s.sheetUp (sheetOf a) then (s.bankDown agent (sheetOf a) 0, 0)
  else if inSheetBlock a && s.twinOn && decide (160 ≤ sheetOf a) then (s.raise 0x1051 (unitSheet (sheetOf a)) 0 0, 0)
  else (if n = 8 then s.writeDouble agent a v else s.writeWord agent a v, 0)

/-! ### Reads -/

/-- The RC fields of a register word return to their reset value. -/
def State.clearRc (s : State) (a : Nat) : State :=
  match regLoc a with
  | some l => s.setReg a (BitVec.ofNat 32
      (((s.reg a).toNat &&& (0xFFFFFFFF - l.desc.rc % 2 ^ 32)) ||| (l.desc.reset &&& l.desc.rc)))
  | none => s

/-- A 32-bit read by an agent, which clears RC fields where the agent owns the module (R7, R169, R373, R459). -/
def State.readWord (s : State) (agent a : Nat) : State × Nat :=
  let own := !s.nonOwner agent
  match regLoc a with
  | none => (s, 0)
  | some l =>
    let rc := l.desc.rc != 0
    if l.words = 2 ∧ l.idx = 1 ∧ (rc || a == TIME_COUNT + 4) = true then
      match State.latched s.latch.high agent a with
      | some w => (s.dropHigh agent a, w.toNat)
      | none => (s, s.view a)
    else
      let v := s.view a
      if a = TIME_COUNT then (s.keepHigh agent (a + 4) (BitVec.ofNat 32 (s.view (a + 4))), v)
      else if rc && own then
        if l.words = 2 then
          (((s.keepHigh agent (a + 4) (BitVec.ofNat 32 (s.view (a + 4)))).clearRc a).clearRc (a + 4), v)
        else (s.clearRc a, v)
      else (s, v)

/-- A 64-bit read: a 64-bit register in one access, or two registers. -/
def State.readDouble (s : State) (agent a : Nat) : State × Nat :=
  match regLoc a with
  | none => (s, 0)
  | some l =>
    if l.words = 2 ∧ l.idx = 0 then
      let v := s.view a + s.view (a + 4) * 2 ^ 32
      (if !s.nonOwner agent then (s.clearRc a).clearRc (a + 4) else s, v)
    else
      let (s, lo) := s.readWord agent a
      let (s, hi) := s.readWord agent (a + 4)
      (s, lo + hi * 2 ^ 32)

/-- A control-space read of `n` bytes by an agent: the state, its status and its bytes. R10 gives two answers to a read
that is misaligned, or of another size, and unmapped as well: the size and the alignment are looked at first, and it
returns all ones (DESIGN CHOICE, log entry 96). -/
def State.ctrlRead (s : State) (agent a n : Nat) : State × Nat × List Byte :=
  if !sizeOk a n then (s.badAccess agent a, 2, List.replicate n 0xFF)
  else if !s.allMapped a n then (s.badAccess agent a, 2, List.replicate n 0)
  else if inSheetBlock a && !s.sheetUp (sheetOf a) then (s.bankDown agent (sheetOf a) 0, 0, List.replicate n 0)
  else
    let (t, v) := if n = 8 then s.readDouble agent a else s.readWord agent a
    (t, 0, leBytes n v)

/-! ### Accesses as commands -/

/-- A control-space write by an agent that can reach the module: its status is the answer. -/
def State.access (s : State) (agent : Agent) (a n v : Nat) : State :=
  if s.reaches (agentNo agent) then
    let (t, st) := s.ctrlWrite (agentNo agent) a n v
    t.answer st []
  else s

/-- A control-space read by an agent. -/
def State.readAccess (s : State) (agent : Agent) (a n : Nat) : State :=
  if s.reaches (agentNo agent) then
    let (t, st, bs) := s.ctrlRead (agentNo agent) a n
    t.answer st bs
  else s

/-- A register with some of its bits replaced, as an agent writes it that leaves the others as they are. -/
def State.withBits (s : State) (a lo w v : Nat) : Nat := putBits (s.reg a).toNat lo w v

end Sys2Proof.Machine
end

