-- ==== Sys2Proof/Machine/Mgmt.lean ====
section
/-! DEFINITION. The management bus: the I3C commands (R368, R379), the management commands (R369) and the image write
(R385). -/

namespace Sys2Proof.Machine

/-- Whether the management port is served: the module is alive and the boot ROM or the firmware runs (R381). -/
def State.mgmtUp (s : State) : Bool := s.alive && decide (2 ≤ s.fld BOOT_STAT_step)

/-- A command of the management bus has its effect where the port is served. -/
def State.mgmt (s : State) (f : State → State) : State := if s.mgmtUp then f s else s

/-- Whether a dynamic address is assigned. -/
def State.i3c (s : State) : Bool := s.flag WLINK_MGMT_i3c

/-- A dynamic address is assigned, where none is. -/
def State.i3cAssign (s : State) (a : Nat) : State :=
  if s.i3c then s else ((s.setFld WLINK_MGMT_dynamic a).setFld WLINK_MGMT_i3c 1).ibiPending

/-- Whether the PEC of a management write is right, or none is asked for (R368): it covers the address byte and the
bytes of the write. -/
def State.pecOk (s : State) (bs : List Byte) (pec : Byte) : Bool :=
  !s.flag WLINK_MGMT_pec || crc8 (BitVec.ofNat 8 (2 * s.mgmtAt) :: bs) == pec

/-- A management write of the bytes `bs`: one whose PEC fails is not acknowledged and has no effect. -/
def State.mgmtCmd (s : State) (bs : List Byte) (pec : Byte) (f : State → State) : State :=
  s.mgmt fun t => if t.pecOk bs pec then f t else t

/-- The target answers a get command at its dynamic address. -/
def State.i3cGet (s : State) (bs : List Byte) : State := if s.i3c then s.answer 0 bs else s

/-- GETSTATUS: the spec gives no value of the two status bytes. -/
def State.i3cStatus (s : State) : State :=
  if s.i3c then
    let (v, t) := s.draw 16
    t.answer 0 (leBytes 2 v)
  else s

/-- A management read of the control space, its answer kept for the next read transaction: the status and the data of
R10. -/
def State.mgmtRead (s : State) (a n : Nat) : State :=
  let (t, st, bs) := s.ctrlRead 3 a n
  t.mgmtAnswer st bs

/-- A management write of the control space. -/
def State.mgmtWrite (s : State) (a n v : Nat) : State :=
  let (t, st) := s.ctrlWrite 3 a n v
  t.mgmtAnswer st []

/-- A management read of device memory: a refused one reads all ones (R305), poison is status 0x02 (R413), and an answer
that is still away leaves the port busy. -/
def State.mgmtMemRead (s : State) (a : Nat) (ecc : Ecc) : State :=
  match s.agentRead 3 a 8 ecc .mgmt with
  | (t, .done bs) => t.mgmtAnswer 0 bs
  | (t, .refused) => t.mgmtAnswer 2 (List.replicate 8 0xFF)
  | (t, .poison) => t.mgmtAnswer 2 []
  | (t, r) => t.mgmtAnswer r.status []

/-- A management write of device memory. -/
def State.mgmtMemWrite (s : State) (a : Nat) (bs : List Byte) : State :=
  match s.agentWrite 3 a bs .mgmt with
  | (t, r) => t.mgmtAnswer r.status []

/-- Image data written into the image buffer, or refused (R373, R385). -/
def State.mgmtImage (s : State) (o : Nat) (bs : List Byte) : State :=
  let n := bs.length
  if s.fld BOOT_STAT_step ≠ 2 ∨ n = 0 ∨ 256 < n ∨ imgSize < o + n then s.mgmtAnswer 2 []
  else if s.nonOwner 3 then (s.ownRefuse 3).mgmtAnswer 1 []
  else (s.imgWrite o bs).mgmtAnswer 0 []

/-- A management write that carries a command byte other than 0x01 to 0x06: image data with 0x10, and any other byte is
discarded with status 0x02 (R369, R385). The commands 0x01 to 0x06 are rows of their own. -/
def State.mgmtOther (s : State) (c o : Nat) (bs : List Byte) : State :=
  if c = 0x10 then s.mgmtImage o bs else if 1 ≤ c ∧ c ≤ 6 then s else s.mgmtAnswer 2 []

/-- The bytes of a management write: its command byte, its address and its data. -/
def mgmtBytes (c n a : Nat) (data : List Byte) : List Byte := leBytes 1 c ++ leBytes n a ++ data

/-! ### The commands -/

def execEntdaa (addr : BitVec 7) (s : State) : Out := .next (s.mgmt fun t => t.i3cAssign addr.toNat)
def execSetdasa (addr : BitVec 7) (s : State) : Out := .next (s.mgmt fun t => t.i3cAssign addr.toNat)
def execRstdaa (s : State) : Out :=
  .next (s.mgmt fun t => (t.setFld WLINK_MGMT_dynamic 0).setFld WLINK_MGMT_i3c 0)
/-- The 48-bit identity, its most significant byte first. -/
def execGetpid (s : State) : Out := .next (s.mgmt fun t => t.i3cGet (leBytes 6 Config.pid.toNat).reverse)
def execGetbcr (s : State) : Out := .next (s.mgmt fun t => t.i3cGet [0x06])
def execGetdcr (s : State) : Out := .next (s.mgmt fun t => t.i3cGet [0x00])
def execGetstatus (s : State) : Out := .next (s.mgmt State.i3cStatus)
/-- Enabled while a record is pending, the interrupt is raised at once (R403). -/
def execEnec (s : State) : Out := .next (s.mgmt fun t => (t.setFld WLINK_MGMT_ibi 1).ibiPending)
def execDisec (s : State) : Out := .next (s.mgmt fun t => t.setFld WLINK_MGMT_ibi 0)
/-- Defining bytes 0x01 and 0x02 act as a write of BOOT_RESET.module by MGMT (R379). -/
def execRstact (definingByte : BitVec 8) (s : State) : Out :=
  .next (s.mgmt fun t => if definingByte = 1 ∨ definingByte = 2 then t.mgmtWrite BOOT_RESET 4 4 else t)
def execMgmtCtrlRead32 (addr : Coded (BitVec 32)) (s : State) : Out :=
  .next (s.mgmtCmd (mgmtBytes 1 4 addr.val.toNat []) addr.pec fun t => t.mgmtRead addr.val.toNat 4)
def execMgmtCtrlWrite32 (addr : BitVec 32) (data : Coded Word) (s : State) : Out :=
  .next (s.mgmtCmd (mgmtBytes 2 4 addr.toNat (leBytes 4 data.val.toNat)) data.pec fun t =>
    t.mgmtWrite addr.toNat 4 data.val.toNat)
def execMgmtCtrlRead64 (addr : Coded (BitVec 32)) (s : State) : Out :=
  .next (s.mgmtCmd (mgmtBytes 3 4 addr.val.toNat []) addr.pec fun t => t.mgmtRead addr.val.toNat 8)
def execMgmtCtrlWrite64 (addr : BitVec 32) (data : Coded DWord) (s : State) : Out :=
  .next (s.mgmtCmd (mgmtBytes 4 4 addr.toNat (leBytes 8 data.val.toNat)) data.pec fun t =>
    t.mgmtWrite addr.toNat 8 data.val.toNat)
def execMgmtMemRead (addr : Coded (BitVec 48)) (ecc : Ecc) (s : State) : Out :=
  .next (s.mgmtCmd (mgmtBytes 5 6 addr.val.toNat []) addr.pec fun t => t.mgmtMemRead addr.val.toNat ecc)
def execMgmtMemWrite (addr : BitVec 48) (data : Coded DWord) (s : State) : Out :=
  .next (s.mgmtCmd (mgmtBytes 6 6 addr.toNat (leBytes 8 data.val.toNat)) data.pec fun t =>
    t.mgmtMemWrite addr.toNat (leBytes 8 data.val.toNat))
/-- Management command 0x10, and every command byte that no rule names: the table has no row of its own for those. -/
def execMgmtImageWrite (offset : ImageAt) (data : Coded (List Byte)) (s : State) : Out :=
  .next (s.mgmtCmd (mgmtBytes offset.command.toNat 4 offset.offset.toNat data.val) data.pec fun t =>
    t.mgmtOther offset.command.toNat offset.offset.toNat data.val)

end Sys2Proof.Machine
end

