-- ==== Sys2Proof/Machine/Regs.lean ====
section
/-! DEFINITION. The commands that are accesses of an agent to one register of the control space: each is the access the
row names, put through the checks and the effects of `State.access` (R7 to R10, R373, R382, R459, R460). A command
for one field of a register writes the register's other fields as they stand. -/

namespace Sys2Proof.Machine

/-- A write of one field of a 32-bit register that leaves its other fields as they are. -/
def State.accessFld (s : State) (agent : Agent) (f : Fld) (v : Nat) : State :=
  s.access agent f.addr 4 (s.withBits f.addr f.lo f.width v)

/-! ### Any register -/

/-- R7. -/
def execRegisterWrite (agent : Agent) (addr : BitVec 26) (size : Nat) (value : DWord) (s : State) : Out :=
  .next (s.access agent addr.toNat size value.toNat)
/-- R7, R459: a read, which clears an RC field for the owner. -/
def execRegisterReadClear (agent : Agent) (addr : BitVec 26) (size : Nat) (s : State) : Out :=
  .next (s.readAccess agent addr.toNat size)
/-- R169: a read of the low word keeps the high word for the agent's next read of it. -/
def execTimeCountRead (agent : Agent) (part : TimePart) (s : State) : Out :=
  .next (match part with
    | .low => s.readAccess agent TIME_COUNT 4
    | .high => s.readAccess agent (TIME_COUNT + 4) 4
    | .both => s.readAccess agent TIME_COUNT 8)

/-! ### Sheets -/

/-- R46. -/
def execLegendWindowWrite (agent : Agent) (sheet : Sheet) (k : Fin 512) (value : Word) (s : State) : Out :=
  .next (s.access agent (SHEET_LEGEND sheet k) 4 value.toNat)
/-- R46: restore is written 1, and bad is written 1 where it is to be cleared. -/
def execLegendRestore (agent : Agent) (sheet : Sheet) (clearBad : Bool) (s : State) : Out :=
  .next (s.access agent (SHEET_LEGEND_CTL sheet) 4 (1 + b2n clearBad * 2 ^ 31))
/-- R162. -/
def execQTailWrite (agent : Agent) (sheet : Sheet) (engine : Engine) (value : Word) (s : State) : Out :=
  .next (s.access agent (SHEET_Q_TAIL sheet (engNo engine)) 4 value.toNat)
/-- R163. -/
def execQRingWrite (agent : Agent) (sheet : Sheet) (engine : Engine) (value : Word) (s : State) : Out :=
  .next (s.access agent (SHEET_Q_RING sheet (engNo engine)) 4 value.toNat)
/-- R137, R166. -/
def execSheetSyncWrite (agent : Agent) (sheet : Sheet) (reg : SyncReg) (value : DWord) (s : State) : Out :=
  .next (match reg with
    | .flags => s.access agent (SHEET_FLAGS sheet) 8 value.toNat
    | .ct n => s.access agent (SHEET_CT sheet n) 4 (value.toNat % 2 ^ 32)
    | .cmpCtl m => s.access agent (SHEET_CMP_CTL sheet m) 4 (value.toNat % 2 ^ 32)
    | .cmpVal m => s.access agent (SHEET_CMP_VAL sheet m) 8 value.toNat)
/-- R131. -/
def execSheetRun (agent : Agent) (sheet : Sheet) (run : Bool) (s : State) : Out :=
  .next (s.accessFld agent (SHEET_CTL_run sheet) (b2n run))
/-- R76. -/
def execContourCfgWrite (agent : Agent) (sheet : Sheet) (bank : Fin 4) (value : Word) (s : State) : Out :=
  .next (s.access agent (SHEET_CONTOUR_CFG sheet bank) 4 value.toNat)
/-- R81. -/
def execContourClear (agent : Agent) (sheet : Sheet) (banks : BitVec 4) (s : State) : Out :=
  .next (s.accessFld agent (SHEET_SAFE_CTL_contour_clear sheet) banks.toNat)
/-- R81. -/
def execSatClear (agent : Agent) (sheet : Sheet) (counters : BitVec 4) (s : State) : Out :=
  .next (s.accessFld agent (SHEET_SAFE_CTL_sat_clear sheet) counters.toNat)

/-! ### The fabric -/

/-- R101. -/
def execOvlSelect (agent : Agent) (value : Word) (s : State) : Out := .next (s.access agent FAB_OVL_SEL 4 value.toNat)
/-- R101. -/
def execOvlCommit (agent : Agent) (s : State) : Out := .next (s.access agent FAB_OVL_CTL 4 1)
/-- R199. -/
def execDispatchEnable (agent : Agent) (value : Word) (s : State) : Out :=
  .next (s.access agent FAB_DISPATCH_CTL 4 value.toNat)
/-- R228. -/
def execPathSelect (agent : Agent) (value : Word) (s : State) : Out := .next (s.access agent FAB_PATH_SEL 4 value.toNat)
/-- R228. -/
def execPathCommit (agent : Agent) (s : State) : Out := .next (s.access agent FAB_PATH_CTL 4 1)
/-- R228, R463. -/
def execPathBulkLoad (agent : Agent) (s : State) : Out := .next (s.access agent FAB_PATH_CTL 4 2)
/-- R221, R228. -/
def execBundleAreaWrite (agent : Agent) (reg : BundleReg) (value : Word) (s : State) : Out :=
  .next (match reg with
    | .ctl => s.access agent FAB_BUNDLE_CTL 4 value.toNat
    | .area => s.access agent FAB_BUNDLE_AREA 4 value.toNat
    | .aux => s.access agent FAB_BUNDLE_AUX 4 value.toNat)

/-! ### The fabric ports -/

/-- R249. -/
def execLinkEnable (agent : Agent) (port : Port) (on : Bool) (s : State) : Out :=
  .next (s.accessFld agent (LINK_CTL_enable port) (b2n on))
/-- R252. -/
def execLinkRetrainCmd (agent : Agent) (port : Port) (s : State) : Out :=
  .next (s.accessFld agent (LINK_CTL_retrain port) 1)
/-- R253. -/
def execLinkWidthMax (agent : Agent) (port : Port) (on : Bool) (s : State) : Out :=
  .next (s.accessFld agent (LINK_CTL_width_max port) (b2n on))
/-- The module takes a control register's write from the agent: it reaches the module and owns it, and the register is
mapped (R10, R460). -/
def State.takesWrite (s : State) (agent : Agent) (a : Nat) : Bool :=
  s.reaches (agentNo agent) && !s.nonOwner (agentNo agent) && s.allMapped a 4

/-- R252, R254. half_rate retrains when it is written, so a write of the value it holds retrains too. -/
def execLinkHalfRate (agent : Agent) (port : Port) (on : Bool) (s : State) : Out :=
  let f := LINK_CTL_half_rate port
  let t := s.accessFld agent f (b2n on)
  .next (if s.takesWrite agent f.addr && s.flag f == on then t.linkRetrain port else t)
/-- R255, R261. -/
def execLinkCfgWrite (agent : Agent) (port : Port) (value : Word) (s : State) : Out :=
  .next (s.access agent (LINK_CFG port) 4 value.toNat)
/-- R277: word 3 of the entry is written, and its four words take effect together. -/
def execPermitCommit (agent : Agent) (port : Port) (k : Fin 1024) (value : Word) (s : State) : Out :=
  .next (s.access agent (LINK_PERMIT port k + 12) 4 value.toNat)

/-! ### Topology and slices -/

/-- R266. -/
def execSurveyStart (agent : Agent) (s : State) : Out := .next (s.access agent TOPO_CTL 4 1)
/-- R271. -/
def execCircuitMeasure (agent : Agent) (s : State) : Out := .next (s.access agent TOPO_CTL 4 2)
/-- R274, R285. -/
def execSliceRegWrite (agent : Agent) (reg : SliceReg) (value : Word) (s : State) : Out :=
  .next (match reg with
    | .slice => s.access agent TOPO_SLICE 4 value.toNat
    | .origin => s.access agent TOPO_ORIGIN 4 value.toNat
    | .tree => s.access agent TOPO_TREE 4 value.toNat
    | .child => s.access agent TOPO_TREE_CHILD 4 value.toNat)
/-- R279, R280. -/
def execFenceRequest (agent : Agent) (on : Bool) (s : State) : Out := .next (s.access agent TOPO_FENCE 4 (b2n on))
/-- R282. -/
def execLcoordWrite (agent : Agent) (value : Word) (s : State) : Out :=
  .next (s.access agent TOPO_LCOORD 4 value.toNat)

/-! ### Time -/

/-- R174. -/
def execPlanWrite (agent : Agent) (value : Word) (s : State) : Out := .next (s.access agent TIME_SCHED_CTL 4 value.toNat)
/-- R177, R193. -/
def execGovCfgWrite (agent : Agent) (bank : Fin 16) (reg : GovReg) (value : Word) (s : State) : Out :=
  .next (match reg with
    | .ctl => s.access agent (PWR_GOV_CTL bank) 4 value.toNat
    | .tgt => s.access agent (PWR_GOV_TGT bank) 4 value.toNat)
/-- R291. -/
def execDomainSwitchRequest (agent : Agent) (s : State) : Out := .next (s.accessFld agent TIME_DOM_CTL_switch 1)
/-- R295. -/
def execSlewNow (agent : Agent) (s : State) : Out := .next (s.accessFld agent TIME_DOM_CTL_slew_now 1)
/-- R299, R303. -/
def execTsClear (agent : Agent) (port : Port) (s : State) : Out := .next (s.accessFld agent (LINK_TS_CTL_clear port) 1)
/-- A PPS edge of a reference domain (R290, R294, R295): the counter is set while the boot sequence stands at its TIME
step, and steered once the module is ready. -/
def execPpsEdge (dom : Dom) (frac : BitVec 8) (s : State) : Out :=
  .next (s.ppsEdge (domNo dom) frac.toNat
    (s.fld BOOT_STAT_step == 6 && !s.flag BOOT_STAT_held && !s.flag BOOT_STAT_failed) (s.fld BOOT_STAT_step == 10))

/-! ### Memory -/

/-- R317, R318. -/
def execDepotPartWrite (agent : Agent) (value : Word) (s : State) : Out :=
  .next (s.access agent MEM_DEPOT_PART 4 value.toNat)
/-- R320. -/
def execStageTailWrite (agent : Agent) (value : Word) (s : State) : Out :=
  .next (s.access agent MEM_STAGE_TAIL 4 value.toNat)
/-- R328. -/
def execLoadTailWrite (agent : Agent) (value : Word) (s : State) : Out :=
  .next (s.access agent MEM_LOAD_TAIL 4 value.toNat)
/-- R328. -/
def execLoadRingWrite (agent : Agent) (value : DWord) (s : State) : Out :=
  .next (s.access agent MEM_LOAD_RING 8 value.toNat)

/-! ### Wiora, batches and ownership -/

/-- R352, R377. -/
def execWioraEnable (agent : Agent) (wport : WPort) (on : Bool) (s : State) : Out :=
  .next (s.accessFld agent (WLINK_CTL_enable wport) (b2n on))
/-- R352. -/
def execWioraRetrainCmd (agent : Agent) (wport : WPort) (s : State) : Out :=
  .next (s.accessFld agent (WLINK_CTL_retrain wport) 1)
/-- R345, R352. A write retrains, of the value the field holds too. -/
def execWioraWidthMax (agent : Agent) (wport : WPort) (on : Bool) (s : State) : Out :=
  let f := WLINK_CTL_width_max wport
  let t := s.accessFld agent f (b2n on)
  .next (if s.takesWrite agent f.addr && s.flag f == on then t.wRetrain wport true else t)
/-- R345, R352. A write retrains, of the value the field holds too. -/
def execWioraHalfRate (agent : Agent) (wport : WPort) (on : Bool) (s : State) : Out :=
  let f := WLINK_CTL_half_rate wport
  let t := s.accessFld agent f (b2n on)
  .next (if s.takesWrite agent f.addr && s.flag f == on then t.wRetrain wport true else t)
/-- R353, R377. -/
def execWioraCfgWrite (agent : Agent) (wport : WPort) (value : Word) (s : State) : Out :=
  .next (s.access agent (WLINK_CFG wport) 4 value.toNat)
/-- R355: word 3 of the window is written, and its four words take effect together. -/
def execDwinWrite (agent : Agent) (wport : WPort) (k : Fin 8) (value : Word) (s : State) : Out :=
  .next (s.access agent (WLINK_DWIN wport k + 12) 4 value.toNat)
/-- R377. -/
def execEvrWrite (agent : Agent) (wport : WPort) (value : DWord) (s : State) : Out :=
  .next (s.access agent (WLINK_EVR wport) 8 value.toNat)
/-- R362, R378. -/
def execBqCfgWrite (agent : Agent) (value : Word) (s : State) : Out :=
  .next (s.access agent WLINK_BQ_CFG 4 value.toNat)
/-- R371, R376. -/
def execOwnCfgWrite (agent : Agent) (value : Word) (s : State) : Out :=
  .next (s.access agent GEN_OWN_CFG 4 value.toNat)

/-! ### Boot and debug -/

/-- R379. -/
def execModuleReset (agent : Agent) (s : State) : Out := .next (s.access agent BOOT_RESET 4 4)
/-- R379. -/
def execWarmReset (agent : Agent) (s : State) : Out := .next (s.access agent BOOT_RESET 4 2)
/-- R379. -/
def execComputeReset (agent : Agent) (s : State) : Out := .next (s.access agent BOOT_RESET 4 1)
/-- R386: go is written 1 with src; hold is written as it stands. -/
def execBootGo (agent : Agent) (src : BitVec 2) (s : State) : Out :=
  .next (s.access agent BOOT_CTL 4 (putBits (s.withBits BOOT_CTL 0 1 1) 1 2 src.toNat))
/-- R383. -/
def execBootResume (agent : Agent) (s : State) : Out := .next (s.accessFld agent BOOT_CTL_resume 1)
/-- R389: v with commit. -/
def execRollbackCommit (agent : Agent) (value : BitVec 7) (s : State) : Out :=
  .next (s.access agent BOOT_ROLL 4 (value.toNat * 2 ^ 8 + 2 ^ 15))
/-- R391. -/
def execDbgLockBlow (agent : Agent) (confirm : BitVec 8) (s : State) : Out :=
  .next (s.access agent BOOT_FUSE 4 (confirm.toNat * 2 ^ 8 + 2 ^ 16))

/-- Whether a start of attestation reads the boot-state store: its write reaches the register, no signature is being
formed, and the image is verified (R392, R393). -/
def State.attReads (s : State) (agent : Nat) : Bool :=
  s.reaches agent && !s.nonOwner agent && s.boot.signing.isNone && decide (3 < s.fld BOOT_STAT_step)
    && !s.flag BOOT_ATT_STAT_store_bad

/-- R392, R393: `badA` and `badB` say whether a copy has come to fail its CRC when the store is read. -/
def execAttestStart (agent : Agent) (badA badB : Bool) (s : State) : Out :=
  let s := if s.attReads (agentNo agent) then
      s.modBoot fun b =>
        { b with copyA := if badA then b.copyA.spoil else b.copyA, copyB := if badB then b.copyB.spoil else b.copyB }
    else s
  .next (s.access agent BOOT_ATT_CTL 4 1)

/-! ### Faults, cartouche and power -/

/-- R414. -/
def execTwinEnable (agent : Agent) (on : Bool) (s : State) : Out := .next (s.access agent FAULT_TWIN_CTL 4 (b2n on))
/-- R417. -/
def execTraceRingWrite (agent : Agent) (value : DWord) (s : State) : Out :=
  .next (s.access agent FAULT_TRACE_RING 8 value.toNat)
/-- R423. -/
def execCartOpen (agent : Agent) (slice : BitVec 16) (s : State) : Out :=
  .next (s.access agent CART_CMD 4 (1 + slice.toNat * 2 ^ 16))
/-- R423. -/
def execCartClose (agent : Agent) (s : State) : Out := .next (s.access agent CART_CMD 4 2)
/-- R423, R427. -/
def execCartCollect (agent : Agent) (n : BitVec 8) (s : State) : Out :=
  .next (s.access agent CART_CMD 4 (3 + n.toNat * 2 ^ 4))
/-- R446, R455. -/
def execPowerCapWrite (agent : Agent) (value : Word) (s : State) : Out :=
  .next (s.access agent PWR_IN_CFG 4 value.toNat)
/-- R444. -/
def execDomOffWrite (agent : Agent) (value : Word) (s : State) : Out :=
  .next (s.access agent PWR_DOM_OFF 4 value.toNat)
/-- R449. -/
def execSyncCtlWrite (agent : Agent) (value : Word) (s : State) : Out :=
  .next (s.access agent PWR_SYNC_CTL 4 value.toNat)

end Sys2Proof.Machine
end

