-- ==== Sys2Proof/Machine/WRequest.lean ====
section
/-! DEFINITION. What the module does with the messages its companions send: requests (R355 to R357), snoops (R358,
R359), and the answers to its own requests (R348, R356). -/

namespace Sys2Proof.Machine

/-! ### Requests of a companion -/

/-- What the check of a request at its header finds (R355, R356). -/
inductive ReqTo where
  | control (a n : Nat)
  | device (a n : Nat)
  /-- an address that no window covers -/
  | unmapped
  /-- refused whole with fault 0x7020 -/
  | refused
  deriving DecidableEq, Repr

/-- Where a companion's request on port `p` goes. -/
def State.reqTo (s : State) (p : Nat) (m : WMsg) : ReqTo :=
  let (a, n) := m.span
  if m.lineHi ≠ 0 then .refused
  else if a < 2 ^ 26 then (if m.isPart then .control a n else .refused)
  else match s.dwinOf p a with
    | none => .unmapped
    | some (d, hi) =>
      if hi < a + n then .refused
      else match s.region d with
        | some (_, _, last) => if last < d + n then .refused else .device d n
        | none => .device d n

/-- A read request of the companion on port `p`: its answer goes back, now or when a companion answers (R356). The
control space answers a read it refuses with the data of R10, and any other refused read answers all ones (R305). -/
def State.wRead (s : State) (p : Nat) (m : WMsg) (ecc : Ecc) : State :=
  match s.reqTo p m with
  | .refused => (s.raise 0x7020 (unitWiora p) 0 p).wRefuse p m
  | .unmapped => (s.raise 0x6010 0 0 0).wRefuse p m
  | .control a n =>
    let (t, st, bs) := s.ctrlRead (p + 1) a n
    t.wReply p m st bs
  | .device a n =>
    match s.agentRead (p + 1) a n ecc (.wiora p m) with
    | (t, .away) => t
    | (t, .done bs) => t.wReply p m 0 bs
    | (t, .refused) => t.wRefuse p m
    | (t, r) => t.wReply p m r.status []

/-- The bytes a write request carries: those of a partial write stand at their place in the slot (R349). -/
def WMsg.payload (m : WMsg) : List Byte :=
  let n := m.span.2
  if m.isPart then padTo n (m.data.drop (4 * m.word)) else padTo n m.data

/-- A write request of the companion on port `p`. -/
def State.wWrite (s : State) (p : Nat) (m : WMsg) : State :=
  match s.reqTo p m with
  | .refused => (s.raise 0x7020 (unitWiora p) 0 p).wReply p m 2 []
  | .unmapped => (s.raise 0x6010 0 0 0).wReply p m 2 []
  | .control a n =>
    let (t, st) := s.ctrlWrite (p + 1) a n (leNat m.payload)
    t.wReply p m st []
  | .device a _ =>
    match s.agentWrite (p + 1) a m.payload (.wiora p m) with
    | (t, .away) => t
    | (t, r) => t.wReply p m r.status []

/-- The oldest request of port `p`, where it has one of the ops, put to `f`; the credits it frees go back. -/
def State.onMsg (s : State) (p cls : Nat) (ops : List Nat) (f : State → WMsg → State) : State :=
  match s.popMsg p cls ops with
  | some (m, t) => (f t m).wPump p
  | none => s

/-- A request with an op that only the module sends: refused with fault 0x7022, by RdData for a read and by Cmp for the
others (R348, R355). -/
def State.wForeign (s : State) (p : Nat) (m : WMsg) : State :=
  let s := s.raise 0x7022 (unitWiora p) 0 p
  if m.op = 1 ∨ m.op = 2 then s.wReplyData p m 2 (List.replicate (64 * m.lines) 0xFF) else s.wReplyCmp p m 2

/-! ### Answers to the module's requests -/

/-- The oldest request with transaction `t` that is not answered, of the reads or of the writes. -/
def WPortSt.openReq (q : WPortSt) (t : Nat) (write : Bool) : Option WReq :=
  q.reqs.find? fun r => r.txid == t && r.answer.isNone && (decide (5 ≤ r.op) == write)

/-- A read of the module is answered: by whom it was asked says what becomes of it. A loader read of an attempt that
has ended is discarded (R333, R340). -/
def State.wReadDone (s : State) (p : Nat) (r : WReq) (status : Nat) (data : List Byte) : State :=
  match r.who with
  | .pace => (s.wDropReq p r.txid).paceData p r status data
  | .evLine ring => (s.wDropReq p r.txid).evData p ring r status
  | .loader k num _ attempt =>
    if s.loadWants k num attempt then (s.wKeep p r.txid status data).wUnhold p else s.wDropReq p r.txid
  | .int => s.wDropReq p r.txid
  | .away k =>
    let bs := if r.op = 4 then (data.drop (r.addr % 64)).take (if r.size = 1 then 8 else 4) else data
    (s.wDropReq p r.txid).awayDone k status bs
  | _ => (s.wKeep p r.txid status data).wUnhold p

/-- RdData: one whose len differs from its request's is a response with no data; one that answers nothing is
discarded (R348, R356). -/
def State.wRdData (s : State) (p : Nat) (m : WMsg) : State :=
  if m.op = 2 then s
  else match (s.wport p).openReq m.txid false with
    | none => s
    | some r =>
      if m.lines ≠ ringSize (r.len % 64) 64 then (s.raise 0x7021 (unitWiora p) 0 p).wReadDone p r 2 []
      else s.wReadDone p r m.status m.data

/-- A write of the module is answered. -/
def State.wWriteDone (s : State) (p : Nat) (r : WReq) (status : Nat) : State :=
  match r.who with
  | .deliver tag => (s.wDropReq p r.txid).deliverAcked tag
  | .evWrite ring => (s.wDropReq p r.txid).intEvent ring
  | .pace => s.wDropReq p r.txid
  | .evLine _ => s.wDropReq p r.txid
  | .int => s.wDropReq p r.txid
  | .away k => (s.wDropReq p r.txid).awayDone k status []
  | _ => (s.wKeep p r.txid status []).wUnhold p

/-- Cmp. -/
def State.wCmp (s : State) (p : Nat) (m : WMsg) : State :=
  if m.op = 2 then s
  else match (s.wport p).openReq m.txid true with
    | none => s
    | some r => s.wWriteDone p r m.status

/-! ### The commands -/

/-- R355, R356. -/
def execRdncReceive (wport : WPort) (ecc : Ecc) (s : State) : Out :=
  .next (s.onMsg wport 1 [3] fun t m => t.wRead wport m ecc)
/-- R355, R356. -/
def execRdpReceive (wport : WPort) (ecc : Ecc) (s : State) : Out :=
  .next (s.onMsg wport 1 [4] fun t m => t.wRead wport m ecc)
/-- R356, R357. -/
def execWrncReceive (wport : WPort) (s : State) : Out := .next (s.onMsg wport 1 [5] fun t m => t.wWrite wport m)
/-- R356, R357. -/
def execWrpReceive (wport : WPort) (s : State) : Out := .next (s.onMsg wport 1 [6] fun t m => t.wWrite wport m)
/-- R348, R355. -/
def execRdsRdeFromCompanion (wport : WPort) (s : State) : Out :=
  .next (s.onMsg wport 1 [1, 2, 7, 8, 9] fun t m => t.wForeign wport m)
/-- R358, R359. -/
def execSnpinvReceive (wport : WPort) (s : State) : Out := .next (s.onMsg wport 2 [1] fun t m => t.snoop wport m)
/-- R358, R359. -/
def execSnpdataReceive (wport : WPort) (s : State) : Out := .next (s.onMsg wport 2 [2] fun t m => t.snoop wport m)
/-- R348, R356. -/
def execRddataReceive (wport : WPort) (s : State) : Out := .next (s.onMsg wport 4 [1, 2] fun t m => t.wRdData wport m)
/-- R348, R357, R367. -/
def execCmpReceive (wport : WPort) (s : State) : Out := .next (s.onMsg wport 3 [1, 2] fun t m => t.wCmp wport m)

end Sys2Proof.Machine
end

