-- ==== Sys2Proof/Machine/Dispatch.lean ====
section
/-! DEFINITION. The dispatch: one arm for each command of the table, each a call of its meaning. -/

namespace Sys2Proof.Machine

/-- The effect of a command on everything but the queue. -/
def exec (i : Instr) (s : State) : Host.Outcome State Fault Refusal :=
  match i with
  | .registerWrite agent addr size value => Sys2Proof.Machine.execRegisterWrite agent addr size value s
  | .registerReadClear agent addr size => Sys2Proof.Machine.execRegisterReadClear agent addr size s
  | .timeCountRead agent part => Sys2Proof.Machine.execTimeCountRead agent part s
  | .legendWindowWrite agent sheet k value => Sys2Proof.Machine.execLegendWindowWrite agent sheet k value s
  | .legendRestore agent sheet clearBad => Sys2Proof.Machine.execLegendRestore agent sheet clearBad s
  | .stepBoundary sheet lag => Sys2Proof.Machine.execStepBoundary sheet lag s
  | .wordFetch sheet engine ecc => Sys2Proof.Machine.execWordFetch sheet engine ecc s
  | .qTailWrite agent sheet engine value => Sys2Proof.Machine.execQTailWrite agent sheet engine value s
  | .qRingWrite agent sheet engine value => Sys2Proof.Machine.execQRingWrite agent sheet engine value s
  | .sheetSyncWrite agent sheet reg value => Sys2Proof.Machine.execSheetSyncWrite agent sheet reg value s
  | .sheetRun agent sheet run => Sys2Proof.Machine.execSheetRun agent sheet run s
  | .mxMatrix sheet ecc => Sys2Proof.Machine.execMxMatrix sheet ecc s
  | .tileLoad sheet ecc => Sys2Proof.Machine.execTileLoad sheet ecc s
  | .vxConvert sheet ecc => Sys2Proof.Machine.execVxConvert sheet ecc s
  | .contourCfgWrite agent sheet bank value => Sys2Proof.Machine.execContourCfgWrite agent sheet bank value s
  | .contourClear agent sheet banks => Sys2Proof.Machine.execContourClear agent sheet banks s
  | .satClear agent sheet counters => Sys2Proof.Machine.execSatClear agent sheet counters s
  | .vxOutlierAdd sheet ecc => Sys2Proof.Machine.execVxOutlierAdd sheet ecc s
  | .vxGuardReport sheet => Sys2Proof.Machine.execVxGuardReport sheet s
  | .vxGuardDecide sheet ecc => Sys2Proof.Machine.execVxGuardDecide sheet ecc s
  | .vxContourDrain sheet ecc => Sys2Proof.Machine.execVxContourDrain sheet ecc s
  | .vxMarkRead sheet ecc => Sys2Proof.Machine.execVxMarkRead sheet ecc s
  | .vxLoad sheet ecc => Sys2Proof.Machine.execVxLoad sheet ecc s
  | .vxStore sheet ecc => Sys2Proof.Machine.execVxStore sheet ecc s
  | .vxFma sheet ecc => Sys2Proof.Machine.execVxFma sheet ecc s
  | .vxAdd sheet ecc => Sys2Proof.Machine.execVxAdd sheet ecc s
  | .vxMul sheet ecc => Sys2Proof.Machine.execVxMul sheet ecc s
  | .vxMin sheet ecc => Sys2Proof.Machine.execVxMin sheet ecc s
  | .vxMax sheet ecc => Sys2Proof.Machine.execVxMax sheet ecc s
  | .vxCmpLt sheet ecc => Sys2Proof.Machine.execVxCmpLt sheet ecc s
  | .vxCmpLe sheet ecc => Sys2Proof.Machine.execVxCmpLe sheet ecc s
  | .vxCmpEq sheet ecc => Sys2Proof.Machine.execVxCmpEq sheet ecc s
  | .vxNarrowBf16 sheet ecc => Sys2Proof.Machine.execVxNarrowBf16 sheet ecc s
  | .vxWidenBf16 sheet ecc => Sys2Proof.Machine.execVxWidenBf16 sheet ecc s
  | .vxExp2 sheet ecc => Sys2Proof.Machine.execVxExp2 sheet ecc s
  | .vxLog2 sheet ecc => Sys2Proof.Machine.execVxLog2 sheet ecc s
  | .vxRcp sheet ecc => Sys2Proof.Machine.execVxRcp sheet ecc s
  | .vxRsqrt sheet ecc => Sys2Proof.Machine.execVxRsqrt sheet ecc s
  | .vxTanh sheet ecc => Sys2Proof.Machine.execVxTanh sheet ecc s
  | .vxErf sheet ecc => Sys2Proof.Machine.execVxErf sheet ecc s
  | .mvCopy sheet ecc => Sys2Proof.Machine.execMvCopy sheet ecc s
  | .mvReduce sheet ecc => Sys2Proof.Machine.execMvReduce sheet ecc s
  | .mvLegendLoad sheet ecc => Sys2Proof.Machine.execMvLegendLoad sheet ecc s
  | .stLoad sheet ecc => Sys2Proof.Machine.execStLoad sheet ecc s
  | .stStore sheet ecc => Sys2Proof.Machine.execStStore sheet ecc s
  | .stControlLoad sheet ecc => Sys2Proof.Machine.execStControlLoad sheet ecc s
  | .stOverlayLoad sheet ecc => Sys2Proof.Machine.execStOverlayLoad sheet ecc s
  | .ovlSelect agent value => Sys2Proof.Machine.execOvlSelect agent value s
  | .ovlCommit agent => Sys2Proof.Machine.execOvlCommit agent s
  | .sheetWindowAccess who sheet off req ecc => Sys2Proof.Machine.execSheetWindowAccess who sheet off req ecc s
  | .sheetScrubRead sheet ecc => Sys2Proof.Machine.execSheetScrubRead sheet ecc s
  | .sheetClearDone sheet => Sys2Proof.Machine.execSheetClearDone sheet s
  | .frameBoundary temps => Sys2Proof.Machine.execFrameBoundary temps s
  | .crossingLowMargin crossing margin => Sys2Proof.Machine.execCrossingLowMargin crossing margin s
  | .planWrite agent value => Sys2Proof.Machine.execPlanWrite agent value s
  | .governorPeriod sample => Sys2Proof.Machine.execGovernorPeriod sample s
  | .govCfgWrite agent bank reg value => Sys2Proof.Machine.execGovCfgWrite agent bank reg value s
  | .holdSymbol port => Sys2Proof.Machine.execHoldSymbol port s
  | .slipDecision => Sys2Proof.Machine.execSlipDecision s
  | .slipSymbol port => Sys2Proof.Machine.execSlipSymbol port s
  | .dxEntryRead engine ecc => Sys2Proof.Machine.execDxEntryRead engine ecc s
  | .dispatchEnable agent value => Sys2Proof.Machine.execDispatchEnable agent value s
  | .markFrame engine => Sys2Proof.Machine.execMarkFrame engine s
  | .markJump engine => Sys2Proof.Machine.execMarkJump engine s
  | .markEnd engine => Sys2Proof.Machine.execMarkEnd engine s
  | .entryArm engine => Sys2Proof.Machine.execEntryArm engine s
  | .departureDue engine tag ecc => Sys2Proof.Machine.execDepartureDue engine tag ecc s
  | .overflowSend tag => Sys2Proof.Machine.execOverflowSend tag s
  | .lateDeparture port => Sys2Proof.Machine.execLateDeparture port s
  | .sFlitReceive port => Sys2Proof.Machine.execSFlitReceive port s
  | .doneSymbol port => Sys2Proof.Machine.execDoneSymbol port s
  | .pathSelect agent value => Sys2Proof.Machine.execPathSelect agent value s
  | .pathCommit agent => Sys2Proof.Machine.execPathCommit agent s
  | .pathBulkLoad agent => Sys2Proof.Machine.execPathBulkLoad agent s
  | .pathLoadDone fail companion => Sys2Proof.Machine.execPathLoadDone fail companion s
  | .bundleAreaWrite agent reg value => Sys2Proof.Machine.execBundleAreaWrite agent reg value s
  | .bundleQueueClose => Sys2Proof.Machine.execBundleQueueClose s
  | .xPacketReceive port ecc => Sys2Proof.Machine.execXPacketReceive port ecc s
  | .xRequestTimeout xseq => Sys2Proof.Machine.execXRequestTimeout xseq s
  | .tokenExpire source token => Sys2Proof.Machine.execTokenExpire source token s
  | .flitTransmit port => Sys2Proof.Machine.execFlitTransmit port s
  | .linkFlitReceive port flit fec => Sys2Proof.Machine.execLinkFlitReceive port flit fec s
  | .nakRepeat port => Sys2Proof.Machine.execNakRepeat port s
  | .replayTimeout port => Sys2Proof.Machine.execReplayTimeout port s
  | .linkDetectTimeout port => Sys2Proof.Machine.execLinkDetectTimeout port s
  | .linkSignalDetected port lanes => Sys2Proof.Machine.execLinkSignalDetected port lanes s
  | .linkEqualizeDone port good => Sys2Proof.Machine.execLinkEqualizeDone port good s
  | .linkEqualizeTimeout port => Sys2Proof.Machine.execLinkEqualizeTimeout port s
  | .linkAlignDone port => Sys2Proof.Machine.execLinkAlignDone port s
  | .linkAlignTimeout port => Sys2Proof.Machine.execLinkAlignTimeout port s
  | .initRecordReceive port flit => Sys2Proof.Machine.execInitRecordReceive port flit s
  | .linkInitTimeout port => Sys2Proof.Machine.execLinkInitTimeout port s
  | .laneLoss port lane => Sys2Proof.Machine.execLaneLoss port lane s
  | .serLimitExceeded port lane count => Sys2Proof.Machine.execSerLimitExceeded port lane count s
  | .graceExpire port => Sys2Proof.Machine.execGraceExpire port s
  | .linkEnable agent port on => Sys2Proof.Machine.execLinkEnable agent port on s
  | .linkRetrainCmd agent port => Sys2Proof.Machine.execLinkRetrainCmd agent port s
  | .linkWidthMax agent port on => Sys2Proof.Machine.execLinkWidthMax agent port on s
  | .linkHalfRate agent port on => Sys2Proof.Machine.execLinkHalfRate agent port on s
  | .linkCfgWrite agent port value => Sys2Proof.Machine.execLinkCfgWrite agent port value s
  | .surveyStart agent => Sys2Proof.Machine.execSurveyStart agent s
  | .surveySend => Sys2Proof.Machine.execSurveySend s
  | .surveySymbol port => Sys2Proof.Machine.execSurveySymbol port s
  | .surveyTimeout => Sys2Proof.Machine.execSurveyTimeout s
  | .circuitMeasure agent => Sys2Proof.Machine.execCircuitMeasure agent s
  | .measureTimeout port => Sys2Proof.Machine.execMeasureTimeout port s
  | .sliceRegWrite agent reg value => Sys2Proof.Machine.execSliceRegWrite agent reg value s
  | .permitCommit agent port k value => Sys2Proof.Machine.execPermitCommit agent port k value s
  | .fenceRequest agent on => Sys2Proof.Machine.execFenceRequest agent on s
  | .fenceSymbol port => Sys2Proof.Machine.execFenceSymbol port s
  | .lcoordWrite agent value => Sys2Proof.Machine.execLcoordWrite agent value s
  | .refclkEdge dom => Sys2Proof.Machine.execRefclkEdge dom s
  | .refclkLoss dom => Sys2Proof.Machine.execRefclkLoss dom s
  | .domainAcqDone dom => Sys2Proof.Machine.execDomainAcqDone dom s
  | .ppsEdge dom frac => Sys2Proof.Machine.execPpsEdge dom frac s
  | .ppsTimeout dom => Sys2Proof.Machine.execPpsTimeout dom s
  | .todMessage dom bytes => Sys2Proof.Machine.execTodMessage dom bytes s
  | .domainSwitchRequest agent => Sys2Proof.Machine.execDomainSwitchRequest agent s
  | .domainRevert => Sys2Proof.Machine.execDomainRevert s
  | .holdoverLimit => Sys2Proof.Machine.execHoldoverLimit s
  | .servoStep => Sys2Proof.Machine.execServoStep s
  | .slewNow agent => Sys2Proof.Machine.execSlewNow agent s
  | .beaconSend port => Sys2Proof.Machine.execBeaconSend port s
  | .beaconSymbol port => Sys2Proof.Machine.execBeaconSymbol port s
  | .tsClear agent port => Sys2Proof.Machine.execTsClear agent port s
  | .agentMemoryAccess who addr req ecc => Sys2Proof.Machine.execAgentMemoryAccess who addr req ecc s
  | .refreshWindow dev => Sys2Proof.Machine.execRefreshWindow dev s
  | .memoryScrubRead dev ecc => Sys2Proof.Machine.execMemoryScrubRead dev ecc s
  | .depotPartWrite agent value => Sys2Proof.Machine.execDepotPartWrite agent value s
  | .stageTailWrite agent value => Sys2Proof.Machine.execStageTailWrite agent value s
  | .stageCopyStart ecc => Sys2Proof.Machine.execStageCopyStart ecc s
  | .stageCopyDone ecc => Sys2Proof.Machine.execStageCopyDone ecc s
  | .loadTailWrite agent value => Sys2Proof.Machine.execLoadTailWrite agent value s
  | .loadRingWrite agent value => Sys2Proof.Machine.execLoadRingWrite agent value s
  | .loadDescriptorBegin ecc => Sys2Proof.Machine.execLoadDescriptorBegin ecc s
  | .loadResponse slot offset ecc => Sys2Proof.Machine.execLoadResponse slot offset ecc s
  | .loadAttemptTimeout slot => Sys2Proof.Machine.execLoadAttemptTimeout slot s
  | .wioraFlitReceive wport flit fec => Sys2Proof.Machine.execWioraFlitReceive wport flit fec s
  | .wioraReplayTimeout wport => Sys2Proof.Machine.execWioraReplayTimeout wport s
  | .wioraStateTimeout wport => Sys2Proof.Machine.execWioraStateTimeout wport s
  | .wioraTrainDone wport result => Sys2Proof.Machine.execWioraTrainDone wport result s
  | .wioraGraceExpire wport => Sys2Proof.Machine.execWioraGraceExpire wport s
  | .wioraEnable agent wport on => Sys2Proof.Machine.execWioraEnable agent wport on s
  | .wioraRetrainCmd agent wport => Sys2Proof.Machine.execWioraRetrainCmd agent wport s
  | .wioraWidthMax agent wport on => Sys2Proof.Machine.execWioraWidthMax agent wport on s
  | .wioraHalfRate agent wport on => Sys2Proof.Machine.execWioraHalfRate agent wport on s
  | .wioraCfgWrite agent wport value => Sys2Proof.Machine.execWioraCfgWrite agent wport value s
  | .dwinWrite agent wport k value => Sys2Proof.Machine.execDwinWrite agent wport k value s
  | .evrWrite agent wport value => Sys2Proof.Machine.execEvrWrite agent wport value s
  | .rdncReceive wport ecc => Sys2Proof.Machine.execRdncReceive wport ecc s
  | .rdpReceive wport ecc => Sys2Proof.Machine.execRdpReceive wport ecc s
  | .wrncReceive wport => Sys2Proof.Machine.execWrncReceive wport s
  | .wrpReceive wport => Sys2Proof.Machine.execWrpReceive wport s
  | .rdsRdeFromCompanion wport => Sys2Proof.Machine.execRdsRdeFromCompanion wport s
  | .snpinvReceive wport => Sys2Proof.Machine.execSnpinvReceive wport s
  | .snpdataReceive wport => Sys2Proof.Machine.execSnpdataReceive wport s
  | .rddataReceive wport => Sys2Proof.Machine.execRddataReceive wport s
  | .cmpReceive wport => Sys2Proof.Machine.execCmpReceive wport s
  | .batchOpen ecc => Sys2Proof.Machine.execBatchOpen ecc s
  | .intGapExpire wport => Sys2Proof.Machine.execIntGapExpire wport s
  | .bqCfgWrite agent value => Sys2Proof.Machine.execBqCfgWrite agent value s
  | .entdaa addr => Sys2Proof.Machine.execEntdaa addr s
  | .setdasa addr => Sys2Proof.Machine.execSetdasa addr s
  | .rstdaa => Sys2Proof.Machine.execRstdaa s
  | .getpid => Sys2Proof.Machine.execGetpid s
  | .getbcr => Sys2Proof.Machine.execGetbcr s
  | .getdcr => Sys2Proof.Machine.execGetdcr s
  | .getstatus => Sys2Proof.Machine.execGetstatus s
  | .enec => Sys2Proof.Machine.execEnec s
  | .disec => Sys2Proof.Machine.execDisec s
  | .rstact definingByte => Sys2Proof.Machine.execRstact definingByte s
  | .mgmtCtrlRead32 addr => Sys2Proof.Machine.execMgmtCtrlRead32 addr s
  | .mgmtCtrlWrite32 addr data => Sys2Proof.Machine.execMgmtCtrlWrite32 addr data s
  | .mgmtCtrlRead64 addr => Sys2Proof.Machine.execMgmtCtrlRead64 addr s
  | .mgmtCtrlWrite64 addr data => Sys2Proof.Machine.execMgmtCtrlWrite64 addr data s
  | .mgmtMemRead addr ecc => Sys2Proof.Machine.execMgmtMemRead addr ecc s
  | .mgmtMemWrite addr data => Sys2Proof.Machine.execMgmtMemWrite addr data s
  | .mgmtImageWrite offset data => Sys2Proof.Machine.execMgmtImageWrite offset data s
  | .ownClaim agent => Sys2Proof.Machine.execOwnClaim agent s
  | .ownRenew agent => Sys2Proof.Machine.execOwnRenew agent s
  | .ownRelease agent => Sys2Proof.Machine.execOwnRelease agent s
  | .ownOffer agent target => Sys2Proof.Machine.execOwnOffer agent target s
  | .ownAccept agent => Sys2Proof.Machine.execOwnAccept agent s
  | .ownWithdraw agent => Sys2Proof.Machine.execOwnWithdraw agent s
  | .leaseExpire => Sys2Proof.Machine.execLeaseExpire s
  | .ownCfgWrite agent value => Sys2Proof.Machine.execOwnCfgWrite agent value s
  | .powerUp => Sys2Proof.Machine.execPowerUp s
  | .moduleReset agent => Sys2Proof.Machine.execModuleReset agent s
  | .warmReset agent => Sys2Proof.Machine.execWarmReset agent s
  | .computeReset agent => Sys2Proof.Machine.execComputeReset agent s
  | .resetPin => Sys2Proof.Machine.execResetPin s
  | .bootGo agent src => Sys2Proof.Machine.execBootGo agent src s
  | .bootStepAdvance result => Sys2Proof.Machine.execBootStepAdvance result s
  | .bootStepTimeout => Sys2Proof.Machine.execBootStepTimeout s
  | .bootResume agent => Sys2Proof.Machine.execBootResume agent s
  | .domainPgTimeout => Sys2Proof.Machine.execDomainPgTimeout s
  | .domOffWrite agent value => Sys2Proof.Machine.execDomOffWrite agent value s
  | .rollbackCommit agent value => Sys2Proof.Machine.execRollbackCommit agent value s
  | .fuseBlowDone blown => Sys2Proof.Machine.execFuseBlowDone blown s
  | .dbgLockBlow agent confirm => Sys2Proof.Machine.execDbgLockBlow agent confirm s
  | .attestStart agent badA badB => Sys2Proof.Machine.execAttestStart agent badA badB s
  | .attestDone => Sys2Proof.Machine.execAttestDone s
  | .extest => Sys2Proof.Machine.execExtest s
  | .samplePreload => Sys2Proof.Machine.execSamplePreload s
  | .idcode => Sys2Proof.Machine.execIdcode s
  | .clamp => Sys2Proof.Machine.execClamp s
  | .highz => Sys2Proof.Machine.execHighz s
  | .ijtag => Sys2Proof.Machine.execIjtag s
  | .bypass => Sys2Proof.Machine.execBypass s
  | .faultPacketReceive port => Sys2Proof.Machine.execFaultPacketReceive port s
  | .mergeWindowExpire entry => Sys2Proof.Machine.execMergeWindowExpire entry s
  | .twinEnable agent on => Sys2Proof.Machine.execTwinEnable agent on s
  | .traceRingWrite agent value => Sys2Proof.Machine.execTraceRingWrite agent value s
  | .cartOpen agent slice => Sys2Proof.Machine.execCartOpen agent slice s
  | .cartClose agent => Sys2Proof.Machine.execCartClose agent s
  | .cartCollect agent n => Sys2Proof.Machine.execCartCollect agent n s
  | .cartSample sample => Sys2Proof.Machine.execCartSample sample s
  | .cartSignDone => Sys2Proof.Machine.execCartSignDone s
  | .cartSupplyLoss => Sys2Proof.Machine.execCartSupplyLoss s
  | .cartSupplyReturn bad => Sys2Proof.Machine.execCartSupplyReturn bad s
  | .tamperSwitch => Sys2Proof.Machine.execTamperSwitch s
  | .cartReverify => Sys2Proof.Machine.execCartReverify s
  | .cartReadTimeout agent wide => Sys2Proof.Machine.execCartReadTimeout agent wide s
  | .inputUndervoltage => Sys2Proof.Machine.execInputUndervoltage s
  | .inputOvervoltage => Sys2Proof.Machine.execInputOvervoltage s
  | .inputRecover => Sys2Proof.Machine.execInputRecover s
  | .overcurrentTrip => Sys2Proof.Machine.execOvercurrentTrip s
  | .mateOpen => Sys2Proof.Machine.execMateOpen s
  | .mateClose => Sys2Proof.Machine.execMateClose s
  | .powerCapWrite agent value => Sys2Proof.Machine.execPowerCapWrite agent value s
  | .syncCtlWrite agent value => Sys2Proof.Machine.execSyncCtlWrite agent value s
  | .wioraLaneLoss wport lane => Sys2Proof.Machine.execWioraLaneLoss wport lane s
  | .domainPowerGood => Sys2Proof.Machine.execDomainPowerGood s
  | .testLogicReset => Sys2Proof.Machine.execTestLogicReset s
  | .resetNRelease => Sys2Proof.Machine.execResetNRelease s

end Sys2Proof.Machine
end

