-- ==== Sys2Proof/WellFormed.lean ====
section
/-! DEFINITION. Which commands a sender can form: the shapes of their operands. Whether the module accepts a command is
no question of its shape, and is decided by the command's meaning. -/

namespace Sys2Proof

/-- A flit carries 256 bytes of payload (R233). -/
def RawFlit.wf (f : RawFlit) : Bool := f.payload.length == 256

/-- A Wiora flit carries 236 bytes of payload (R346). -/
def WFlit.wf (f : WFlit) : Bool := f.payload.length == 236

/-- An access reads or writes some bytes. -/
def MemOp.wf : MemOp → Bool
  | .read n => decide (0 < n)
  | .write bs => decide (0 < bs.length)

/-- The values of a register access: an access of `n` bytes writes a value of `n` bytes. -/
def sizeFits (n v : Nat) : Bool := decide (0 < n) && decide (n ≤ 8) && decide (v < 2 ^ (8 * n))

/-- The value written to a flag, counter or comparator register fits its width (R166). -/
def SyncReg.fits (r : SyncReg) (v : Nat) : Bool :=
  match r with
  | .flags => true
  | .cmpVal _ => true
  | .ct _ => decide (v < 2 ^ 32)
  | .cmpCtl _ => decide (v < 2 ^ 32)

/-- Whether a sender can form the command. -/
def Instr.wf : Instr → Bool
  | .registerWrite _ _ n v => sizeFits n v.toNat
  | .registerReadClear _ _ n => sizeFits n 0
  | .sheetSyncWrite _ _ r v => r.fits v.toNat
  | .sheetWindowAccess _ _ _ r _ => r.wf
  | .agentMemoryAccess _ _ r _ => r.wf
  | .linkFlitReceive _ f _ => f.wf
  | .initRecordReceive _ f => f.wf
  | .wioraFlitReceive _ f _ => f.wf
  | .todMessage _ bs => decide (bs.length = 16)
  | .mgmtImageWrite _ bs => decide (1 ≤ bs.val.length)
  | _ => true

end Sys2Proof
end

