-- ==== Sys2Proof/Safety.lean ====
section
/-! DEFINITION. What the claims mean by a good state: memories in their canonical form, and a queue of commands that a
sender can form. -/

namespace Sys2Proof

open Sys2Proof.Machine

/-- Device memory and its poison marks are in canonical form (R304, R314). -/
def Memory.wf (s : State) : Bool := smWf zeroByte s.mem && smWf (fun _ => false) s.poison

/-- The registers are in canonical form (R7). -/
def Registers.wf (s : State) : Bool := smWf regReset s.csr

/-- An agent's write of `n` bytes at control-space address `a` is one the module takes from it: the agent reaches the
module and owns it, the size and alignment are right, the registers are mapped, and where they are a sheet's its bank is
up and it is no sheet of CD1 in twin mode (R9, R10, R373, R414, R460). -/
def Writable (s : State) (ag : Agent) (a n : Nat) : Prop :=
  s.reaches (agentNo ag) = true ∧ s.nonOwner (agentNo ag) = false ∧ sizeOk a n = true ∧ s.allMapped a n = true
    ∧ (inSheetBlock a = true → s.sheetUp (sheetOf a) = true ∧ (s.twinOn = true → sheetOf a < 160))

/-- The parts held by number are in canonical form: fabric ports, sheets, Wiora ports and dispatch engines. -/
def Parts.wf (s : State) : Bool :=
  smWf (fun _ => {}) s.ports && smWf (fun _ => {}) s.sheets && smWf (fun _ => {}) s.wiora.port
    && smWf (fun _ => {}) s.fab.dx

/-- Every command that waits is well formed. -/
def Queue.wf (s : State) : Bool := s.pending.all Instr.wf

/-- A state in which everything is in canonical form and every waiting command is well formed. -/
structure Sound (s : State) : Prop where
  regs : Registers.wf s = true
  mem : Memory.wf s = true
  parts : Parts.wf s = true
  queue : Queue.wf s = true

end Sys2Proof
end

