-- ==== Sys2Proof/Certificates/Slice0/Obligations.lean ====
section
/-! DEFINITION. The statements for the provers: what the spec's rules say of the module, as propositions about
`Sys2Proof.Machine.exec` and `Sys2Proof.Machine.step`. -/

open Sys2Proof Sys2Proof.Machine

/-- A step runs exactly the command at the front of the queue; with none a tick passes (the model's choice, log 1)
(R168, 00_scope The machine). With a command at the front of its queue the state steps as exec of that command on the
same state with the queue's rest. With no command waiting a step moves the tick count and the elapsed time on by one
and changes nothing else: that the block idles by a tick is the model's DESIGN CHOICE. -/
def Obligations.StepRunsTheFrontCommand : Prop :=
  ∀ s : State,
    (∀ (c : Instr) (q : List Instr), s.pending = c :: q → step s = exec c { s with pending := q })
    ∧ (s.pending = [] → step s = .next
        { s with time := { s.time with tick := s.time.tick + 1, elapsed := s.time.elapsed + 1 } })

/-- Every command keeps registers, memory and parts in canonical form and takes exactly one command from the queue
(R7, R126, R304, R314, chapter 19). From every sound state (the registers, the device memory, its poison marks, the
ports, the sheets, the Wiora ports and the dispatch engines each in canonical form, and every waiting command well
formed), a step that answers a next state answers a sound one, and its queue is the old queue without its front: no
command's effect adds, drops or reorders waiting commands. -/
def Obligations.EveryStepKeepsTheStateSound : Prop :=
  ∀ s t : State, Sound s → step s = .next t → Sound t ∧ t.pending = s.pending.tail

/-- Every command of the table completes: no fault and no refusal, in any state (00_scope The machine, R399, chapter
16). What goes wrong inside the module is a fault record, which is state; so for every command and every state there
is a next state. Clauses resting on a choice or an inference of the model: log entry 4. -/
def Obligations.NoCommandStopsTheBlock : Prop :=
  ∀ (c : Instr) (s : State), ∃ t, exec c s = .next t

/-- The state right after reset is sound, with nothing waiting and nothing listed in memory (R7, R304, chapter 19).
The invariant of every step holds at reset; the queue is empty and no byte of device memory and no poison mark is
listed. Clauses resting on a choice or an inference of the model: log entries 5, 9. -/
def Obligations.ResetStateIsSound : Prop :=
  Sound State.reset ∧ State.reset.pending = [] ∧ State.reset.mem = [] ∧ State.reset.poison = []

/-- The registers' values right after reset where chapter 19 gives a value that is not 0 (R40, R193, R262, R343, R457,
chapter 19). Right after reset, at the address chapter 19 gives, each of these registers reads the reset value of its
row, and each copy of a replicated register the same: the links of the 31 ports, the governors of the 16 banks, the
two Wiora ports, and the single registers of the other blocks. -/
def Obligations.ResetValuesOfTheRegisters : Prop :=
  let s := State.reset
  (∀ p < 31, s.reg (0x400000 + p * 0x10000) = 1 ∧ s.reg (0x400004 + p * 0x10000) = 0x00400064
      ∧ s.reg (0x400020 + p * 0x10000) = 0x00FFF000 ∧ s.reg (0x400024 + p * 0x10000) = 0x02018200
      ∧ s.reg (0x400028 + p * 0x10000) = 0x00000380 ∧ s.reg (0x401000 + p * 0x10000) = 1
      ∧ s.reg (0x400100 + p * 0x10000) = if 15 ≤ p then 1 else 0)
    ∧ (∀ n < 16, s.reg (0x201000 + n * 0x20) = 0x00383C00 ∧ s.reg (0x201004 + n * 0x20) = 0x00800100
      ∧ s.reg (0x201008 + n * 0x20) = 0x00000038)
    ∧ (∀ p < 2, s.reg (0x3400000 + p * 0x10000) = 1 ∧ s.reg (0x3400004 + p * 0x10000) = 0x64
      ∧ s.reg (0x3400038 + p * 0x10000) = 0x05000000)
    ∧ (s.reg GEN_OWN_CFG = 5 ∧ s.reg BOOT_CTL = 0x200 ∧ s.reg BOOT_STAT = 1 ∧ s.reg PWR_IN_CFG = 0x6A4
      ∧ s.reg PWR_STAT = 1 ∧ s.reg PWR_DOM_STAT = 0x03C00000 ∧ s.reg PWR_THERM_CFG = 0x5A5F5F64
      ∧ s.reg TIME_SLIP_CFG = 8 ∧ s.reg TIME_DOM_CFG = 0x6404 ∧ s.reg TIME_BCN_CFG = 0x3200
      ∧ s.reg FAB_X_CFG = 0x40 ∧ s.reg TOPO_CFG = 0x06400000 ∧ s.reg TOPO_TREE = 0x1F ∧ s.reg MEM_CFG = 0x00505504
      ∧ s.reg MEM_DEPOT_PART = 0x00FF00FF ∧ s.reg MEM_SCRUB = 0x04000001 ∧ s.reg MEM_LOAD_CFG = 0x7D0)
    ∧ (∀ i < 320, ∀ e < 4, s.reg (SHEET_Q_RING i e) = BitVec.ofNat 32 (0x200000 + 0x200 * e))
    ∧ (∀ i < 320, s.reg (SHEET_SCRUB i) = 1)

/-- A register field that is written holds the value, and no other field and nothing else changes (R7, R8, chapter
19). In a sound state a field of one register word, or of one 64-bit register, holds after a write the value written,
in its width; every other field that shares no bit with it reads as before; the state outside the registers is as it
was, and the state stays sound. -/
def Obligations.WritingAFieldWritesOnlyIt : Prop :=
  ∀ (s : State) (f g : Fld) (v : Nat), Sound s → g.lo + g.width ≤ 32 →
    (f.lo + f.width ≤ 64 → (s.setFld f v).fld f = v % 2 ^ f.width)
    ∧ (f.lo + f.width ≤ 32 → f.addr ≠ g.addr ∨ f.lo + f.width ≤ g.lo ∨ g.lo + g.width ≤ f.lo →
        (s.setFld f v).fld g = s.fld g)
    ∧ (32 < f.lo + f.width → f.addr ≠ g.addr → f.addr + 4 ≠ g.addr → (s.setFld f v).fld g = s.fld g)
    ∧ s.setFld f v = { s with csr := (s.setFld f v).csr }
    ∧ Sound (s.setFld f v)

/-- Unmapped, misaligned and wrongly sized control-space accesses have no effect but fault 0x7003 (R10). For an agent
that can reach the module: a write or read that is not an aligned access of 4 or 8 bytes, and one whose registers are
not all mapped, changes nothing but records fault 0x7003 with the byte address in auxiliary bits [25:0] and the agent
in bits [30:28]. A misaligned or wrongly sized read returns all ones, an unmapped one 0. Ownership plays no part:
nothing is asked of the owner. `st`, the answer's status, is left open. -/
def Obligations.AccessesThatFailTheMapChecks : Prop :=
  ∀ (s : State) (ag : Agent) (a : BitVec 26) (n : Nat) (v : DWord), s.reaches (agentNo ag) = true →
    let bad := s.raise 0x7003 0 0 (a.toNat + agentNo ag * 2 ^ 28)
    (¬ ((n = 4 ∨ n = 8) ∧ a.toNat % n = 0) →
      (∃ st, exec (.registerWrite ag a n v) s = .next (bad.answer st []))
      ∧ ∃ st, exec (.registerReadClear ag a n) s = .next (bad.answer st (List.replicate n 0xFF)))
    ∧ ((n = 4 ∨ n = 8) → a.toNat % n = 0 → s.allMapped a.toNat n = false →
      (∃ st, exec (.registerWrite ag a n v) s = .next (bad.answer st []))
      ∧ ∃ st, exec (.registerReadClear ag a n) s = .next (bad.answer st (List.replicate n 0)))

/-- Writes of a non-owner, writes to a sheet whose bank is down or which twin mode guards, and writes of an agent that
cannot reach the module (R370, R373, R414, R460, chapters 14 and 19). A write of a mapped register by an agent that
does not own the module has no effect: it counts in the agent's byte of GEN_OWN_REFUSED, records fault 0x7001 once per
frame for the agent, and answers status 1. A write by the owner to a sheet register whose bank is down records fault
0x7002 once per frame for the agent, and one to a sheet of CD1 in twin mode records 0x1051. An agent that cannot reach
the module changes nothing and gets no answer. Clauses resting on a choice or an inference of the model: log entries
11, 14. -/
def Obligations.RefusedRegisterWrites : Prop :=
  ∀ (s : State) (ag : Agent) (a : BitVec 26) (n : Nat) (v : DWord),
    (s.reaches (agentNo ag) = false → exec (.registerWrite ag a n v) s = .next s)
    ∧ (s.reaches (agentNo ag) = true → sizeOk a.toNat n = true → s.allMapped a.toNat n = true →
        a.toNat ≠ GEN_OWN_CMD →
        let told : List (Nat × Nat) → Bool := fun l => l.any fun e => e.1 == agentNo ag && e.2 == s.frame + 1
        (s.fld GEN_OWN_STAT_owner ≠ agentNo ag → a.toNat ≠ BOOT_CTL → a.toNat ≠ CART_CMD → a.toNat + 4 ≠ CART_CMD →
          let u := s.count ⟨GEN_OWN_REFUSED, 8 * ((agentNo ag - 1) % 4), 8⟩ 1
          (told s.latch.own7001 = true → exec (.registerWrite ag a n v) s = .next (u.answer 1 []))
          ∧ (told s.latch.own7001 = false → exec (.registerWrite ag a n v) s = .next
            (((u.modLatch fun l => { l with own7001 := alSet l.own7001 (agentNo ag) (u.frame + 1) }).raise
              0x7001 0 0 0).answer 1 [])))
        ∧ (s.fld GEN_OWN_STAT_owner = agentNo ag → inSheetBlock a.toNat = true → s.sheetUp (sheetOf a.toNat) = false →
          (told s.latch.bank7002 = true → exec (.registerWrite ag a n v) s = .next (s.answer 0 []))
          ∧ (told s.latch.bank7002 = false → exec (.registerWrite ag a n v) s = .next
            (((s.modLatch fun l => { l with bank7002 := alSet l.bank7002 (agentNo ag) (s.frame + 1) }).raise
              0x7002 (unitSheet (sheetOf a.toNat)) 0 0).answer 0 [])))
        ∧ (s.fld GEN_OWN_STAT_owner = agentNo ag → inSheetBlock a.toNat = true → s.sheetUp (sheetOf a.toNat) = true →
          s.twinOn = true → 160 ≤ sheetOf a.toNat → exec (.registerWrite ag a n v) s = .next
            ((s.raise 0x1051 (unitSheet (sheetOf a.toNat)) 0 0).answer 0 [])))

/-- A 32-bit write of a register without a rule of its own sets its RW bits, clears the W1C bits written 1, and leaves
all else (R7, R8, R9, chapter 19). For a register word of each block of the map that has no rule of its own, an
owner's aligned 32-bit write sets the RW fields to the value's bits and clears each W1C bit whose bit is written 1;
RO, RC and reserved bits keep their value, the other registers and the rest of the state are as before, and the access
answers status 0. Clauses resting on a choice or an inference of the model: log entry 11. -/
def Obligations.RegisterWritesFollowTheAccessTypes : Prop :=
  ∀ (s : State) (ag : Agent) (a : BitVec 26) (v : DWord) (d : WordDesc), Writable s ag a.toNat 4 →
    regLoc a.toNat = some ⟨d, 0, 1⟩ →
    a.toNat ∈ [PWR_THERM_CFG, PWR_DOM_FAIL, TIME_SLIP_CFG, TIME_SLIP_STAT, TIME_WP_CTL, TIME_DOM_CFG, TIME_BCN_CFG,
      LINK_PROTO 0, LINK_PERMIT_CTL 30, FAB_X_CFG, FAB_PATH_STAT, TOPO_CFG, MEM_CFG, MEM_SCRUB, MEM_LOAD_CFG,
      MEM_LOAD_STAT, WLINK_INT_CFG 1, FAULT_CFG, FAULT_STAT, FAULT_TRACE_CTL] →
    ∃ w : Word,
      (∀ i < 32, w.getLsbD i =
        (if d.w1c.testBit i && v.toNat.testBit i then false
         else if d.rw.testBit i then v.toNat.testBit i else (s.reg a.toNat).getLsbD i))
      ∧ exec (.registerWrite ag a 4 v) s = .next ((s.setReg a.toNat w).answer 0 [])

/-- The halves of a 64-bit register: the lower half waits for the agent's upper half (R9, R459, chapter 19). An
owner's 32-bit write of the lower half of a 64-bit register changes nothing but the half kept for that agent. A write
of the upper half takes both: the half kept, or the register's present value with its W1C and WO bits as 0; unless the
register's check refuses the value the halves kept for it go. Clauses resting on a choice or an inference of the
model: log entries 11, 12. -/
def Obligations.HalvesOfWiderRegisters : Prop :=
  ∀ (s : State) (ag : Agent) (a : BitVec 26) (v : DWord) (d : WordDesc), v.toNat < 2 ^ 32 →
    Writable s ag a.toNat 4 → a.toNat ≠ GEN_OWN_CMD →
    (regLoc a.toNat = some ⟨d, 0, 2⟩ → exec (.registerWrite ag a 4 v) s = .next
      ((s.keepLow (agentNo ag) a.toNat (BitVec.ofNat 32 v.toNat)).answer 0 []))
    ∧ (regLoc a.toNat = some ⟨d, 1, 2⟩ →
        let b := a.toNat - 4
        let x := s.lowFor (agentNo ag) b + v.toNat * 2 ^ 32
        (s.refuses64 b x = false → exec (.registerWrite ag a 4 v) s = .next
          (((s.write64 (agentNo ag) b x).dropLow [b]).answer 0 []))
        ∧ (s.refuses64 b x = true → exec (.registerWrite ag a 4 v) s = .next
          ((s.write64 (agentNo ag) b x).answer 0 [])))

/-- Reads of a register return its value, and clear RC fields for the owner alone (R7, R9, R373, R459, chapter 19). An
aligned 32-bit read of a mapped register returns the value it shows as four bytes, least significant first, with
status 0. Read by the owner, the RC fields of a 32-bit register return to their reset value; read by another agent,
nothing changes. The owner's read of the low half of a 64-bit RC register clears both halves and keeps the high one,
which the owner's next read of the high half returns and clears nothing further. Clauses resting on a choice or an
inference of the model: log entries 11, 12. -/
def Obligations.RegisterReadsAndTheirClears : Prop :=
  ∀ (s : State) (ag : Agent) (a : BitVec 26) (d : WordDesc), s.reaches (agentNo ag) = true →
    sizeOk a.toNat 4 = true → s.allMapped a.toNat 4 = true →
    (inSheetBlock a.toNat = true → s.sheetUp (sheetOf a.toNat) = true) → a.toNat ≠ TIME_COUNT → a.toNat ≠ TIME_COUNT + 4 →
    (regLoc a.toNat = some ⟨d, 0, 1⟩ →
      (d.rc = 0 ∨ s.fld GEN_OWN_STAT_owner ≠ agentNo ag → exec (.registerReadClear ag a 4) s = .next
        (s.answer 0 (leBytes 4 (s.view a.toNat))))
      ∧ (d.rc ≠ 0 → s.fld GEN_OWN_STAT_owner = agentNo ag → exec (.registerReadClear ag a 4) s = .next
        ((s.setReg a.toNat (BitVec.ofNat 32 (((s.reg a.toNat).toNat &&& (0xFFFFFFFF - d.rc % 2 ^ 32))
          ||| (d.reset &&& d.rc)))).answer 0 (leBytes 4 (s.view a.toNat)))))
    ∧ (regLoc a.toNat = some ⟨d, 0, 2⟩ → d.rc ≠ 0 → s.fld GEN_OWN_STAT_owner = agentNo ag →
        exec (.registerReadClear ag a 4) s = .next
          ((((s.keepHigh (agentNo ag) (a.toNat + 4) (BitVec.ofNat 32 (s.view (a.toNat + 4)))).clearRc a.toNat).clearRc
            (a.toNat + 4)).answer 0 (leBytes 4 (s.view a.toNat))))
    ∧ (regLoc a.toNat = some ⟨d, 1, 2⟩ → d.rc ≠ 0 →
        (∀ w, State.latched s.latch.high (agentNo ag) a.toNat = some w → exec (.registerReadClear ag a 4) s = .next
          ((s.dropHigh (agentNo ag) a.toNat).answer 0 (leBytes 4 w.toNat)))
        ∧ (State.latched s.latch.high (agentNo ag) a.toNat = none → exec (.registerReadClear ag a 4) s = .next
          (s.answer 0 (leBytes 4 (s.view a.toNat)))))

/-- TIME_COUNT is read coherently: at once, or low word first with the high word kept for the agent (R169). A 64-bit
read returns the eight bytes of one tick count. A 32-bit read of the low word returns its low 32 bits and keeps the
high 32 bits for the agent; the agent's next read of the high word returns the kept value and uses it up. The blocks
of the map from TIME on are mapped from the boot sequence's fifth step on. `st`, the answer's status, is left open. -/
def Obligations.TimeCountReadsAreCoherent : Prop :=
  ∀ (s : State) (ag : Agent), s.reaches (agentNo ag) = true → 5 ≤ s.fld BOOT_STAT_step → s.time.tick < 2 ^ 64 →
    let hi := s.time.tick / 2 ^ 32
    (s.fld GEN_OWN_STAT_owner ≠ agentNo ag → ∃ st, exec (.timeCountRead ag .both) s = .next
      (s.answer st (leBytes 8 s.time.tick)))
    ∧ (∃ t, exec (.timeCountRead ag .both) s = .next t ∧ t.resp.data = leBytes 8 s.time.tick)
    ∧ (∃ st, exec (.timeCountRead ag .low) s = .next
        ((s.keepHigh (agentNo ag) (TIME_COUNT + 4) (BitVec.ofNat 32 hi)).answer st (leBytes 4 s.time.tick)))
    ∧ (∀ w, State.latched s.latch.high (agentNo ag) (TIME_COUNT + 4) = some w →
        ∃ st, exec (.timeCountRead ag .high) s = .next
          ((s.dropHigh (agentNo ag) (TIME_COUNT + 4)).answer st (leBytes 4 w.toNat)))

/-- Ownership commands: accepted under their conditions with their effect, refused with fault 0x7011 otherwise (R370).
For an agent that reaches the module, whoever owns it, and after a lease that has run out is ended (`u`; the same
state where none has): claim is accepted with no owner, renew and release from the owner, offer from the owner to
another of the four agents, accept from the agent offered to, withdraw from the owner while an offer stands; their
effects are those of the table, and every refusal changes nothing but records fault 0x7011 with the agent and the op.
Written to GEN_OWN_CMD as a register the op and target act alike, without asking for ownership; any other op is
refused. `st`, the answer's status, is left open. -/
def Obligations.OwnershipCommandsFollowTheirTable : Prop :=
  ∀ (s : State) (ag : Agent), s.ownReaches (agentNo ag) = true → (ag = .dbg → s.boot.dbgLock = false) →
    let u := s.leaseCheck
    let g := agentNo ag
    let owner := u.fld GEN_OWN_STAT_owner
    let offer := u.fld GEN_OWN_STAT_offer
    let no : Nat → State := fun op => u.raise 0x7011 0 0 (g + 16 * op)
    (owner = 0 → exec (.ownClaim ag) s = .next (u.setOwner g).leaseStart)
    ∧ (owner ≠ 0 → exec (.ownClaim ag) s = .next (no 1))
    ∧ (owner = g → exec (.ownRenew ag) s = .next u.leaseStart
        ∧ exec (.ownRelease ag) s = .next (u.setOwner 0)
        ∧ (offer ≠ 0 → exec (.ownWithdraw ag) s = .next (u.setFld GEN_OWN_STAT_offer 0))
        ∧ (offer = 0 → exec (.ownWithdraw ag) s = .next (no 6))
        ∧ ∀ t : BitVec 3,
            (1 ≤ t.toNat ∧ t.toNat ≤ 4 ∧ t.toNat ≠ g →
              exec (.ownOffer ag t) s = .next (u.setFld GEN_OWN_STAT_offer t.toNat))
            ∧ (¬ (1 ≤ t.toNat ∧ t.toNat ≤ 4 ∧ t.toNat ≠ g) → exec (.ownOffer ag t) s = .next (no 4)))
    ∧ (owner ≠ g → exec (.ownRenew ag) s = .next (no 2) ∧ exec (.ownRelease ag) s = .next (no 3)
        ∧ exec (.ownWithdraw ag) s = .next (no 6) ∧ ∀ t, exec (.ownOffer ag t) s = .next (no 4))
    ∧ (offer = g → exec (.ownAccept ag) s = .next (((u.setFld GEN_OWN_STAT_offer 0).setOwner g).leaseStart))
    ∧ (offer ≠ g → exec (.ownAccept ag) s = .next (no 5))
    ∧ (s.allMapped GEN_OWN_CMD 4 = true → ∀ v : DWord,
        (∃ st, exec (.registerWrite ag (BitVec.ofNat 26 GEN_OWN_CMD) 4 v) s = .next
          ((s.ownCmd g (bits v.toNat 0 3) (bits v.toNat 4 3)).answer st []))
        ∧ (bits v.toNat 0 3 = 0 ∨ bits v.toNat 0 3 = 7 →
            s.ownCmd g (bits v.toNat 0 3) (bits v.toNat 4 3) = no (bits v.toNat 0 3)))

/-- A change of owner counts the epoch and raises the management IBI; a lease that runs out leaves no owner and no
offer (R371, R372, R395, chapter 14 Ownership). Setting another owner writes it, raises the epoch by one and raises
the management port's IBI 0x02; setting the same owner changes nothing. The lease runs the configured seconds from the
present time. When the owner's lease runs out time has come to its end, there is no owner, the offer is cleared and
fault 0x7010 is recorded; with no owner nothing happens. An ownership command finds the lease ended only after its
tick: a renew in that tick still holds. WA and WB reach it only through an ACTIVE port, and a command of DBG after
DBG_LOCK is refused. Clauses resting on a choice or an inference of the model: log entry 8. -/
def Obligations.OwnerChangesAndTheLease : Prop :=
  ∀ s : State,
    (∀ k, (s.fld GEN_OWN_STAT_owner = k → s.setOwner k = s)
      ∧ (s.fld GEN_OWN_STAT_owner ≠ k → s.setOwner k =
          ((s.setFld GEN_OWN_STAT_owner k).setFld GEN_OWN_STAT_epoch (s.fld GEN_OWN_STAT_epoch + 1)).raiseIbi 2))
    ∧ s.leaseStart.own.leaseAt = s.time.elapsed + s.fld GEN_OWN_CFG_lease * 1280000000
    ∧ (s.fld GEN_OWN_STAT_owner ≠ 0 → exec .leaseExpire s = .next
        ((((s.toElapsed s.own.leaseAt).setOwner 0).setFld GEN_OWN_STAT_offer 0).raise 0x7010 0 0 0))
    ∧ (s.fld GEN_OWN_STAT_owner = 0 → exec .leaseExpire s = .next s)
    ∧ (s.time.elapsed ≤ s.own.leaseAt ∨ s.fld GEN_OWN_STAT_owner = 0 → s.leaseCheck = s)
    ∧ (s.own.leaseAt < s.time.elapsed → s.fld GEN_OWN_STAT_owner ≠ 0 → s.leaseCheck =
        ((s.setOwner 0).setFld GEN_OWN_STAT_offer 0).raise 0x7010 0 0 0)
    ∧ (∀ ag : Agent, s.ownReaches (agentNo ag) = false → (ag = .dbg → s.boot.dbgLock = false ∨ s.alive = false) →
        exec (.ownRenew ag) s = .next s ∧ exec (.ownClaim ag) s = .next s)
    ∧ (s.alive = true → s.boot.dbgLock = true → exec (.ownClaim .dbg) s = .next (s.raise 0x7011 0 0 20)
        ∧ exec (.ownRenew .dbg) s = .next (s.raise 0x7011 0 0 36))

/-- The management port's I3C commands (R368, R379, R403, chapter 14 Management port). While the port is served:
ENTDAA and SETDASA assign the dynamic address where none is assigned and leave an assigned one; RSTDAA takes it away;
ENEC and DISEC switch the in-band interrupts; where an address or the enable comes while the log holds unread records
the IBI 0x01 is raised. With a dynamic address GETBCR answers 0x06, GETDCR 0x00, GETPID the six bytes of the identity
and GETSTATUS two bytes that the spec leaves open (a free value is drawn); without one nothing answers. RSTACT with
0x01 or 0x02 acts as the management agent's write of the module reset. Clauses resting on a choice or an inference of
the model: log entries 69, 70, 71. -/
def Obligations.ManagementBusAddressesAndFixedAnswers : Prop :=
  ∀ s : State, s.mgmtUp = true →
    let told : State → State := fun u =>
      if u.fld FAULT_LOG_PROD_prod ≠ u.fld FAULT_LOG_CONS_cons then u.raiseIbi 1 else u
    (∀ a : BitVec 7,
      (s.flag WLINK_MGMT_i3c = false →
        let u := (s.setFld WLINK_MGMT_dynamic a.toNat).setFld WLINK_MGMT_i3c 1
        exec (.entdaa a) s = .next (told u) ∧ exec (.setdasa a) s = .next (told u))
      ∧ (s.flag WLINK_MGMT_i3c = true → exec (.entdaa a) s = .next s ∧ exec (.setdasa a) s = .next s))
    ∧ exec .rstdaa s = .next ((s.setFld WLINK_MGMT_dynamic 0).setFld WLINK_MGMT_i3c 0)
    ∧ exec .enec s = .next (told (s.setFld WLINK_MGMT_ibi 1))
    ∧ exec .disec s = .next (s.setFld WLINK_MGMT_ibi 0)
    ∧ (s.flag WLINK_MGMT_i3c = true →
        exec .getbcr s = .next (s.answer 0 [0x06]) ∧ exec .getdcr s = .next (s.answer 0 [0x00])
        ∧ exec .getpid s = .next (s.answer 0 (leBytes 6 Config.pid.toNat).reverse)
        ∧ ∃ v, exec .getstatus s = .next (({ s with free := s.free + 1 } : State).answer 0 (leBytes 2 v)))
    ∧ (s.flag WLINK_MGMT_i3c = false →
        exec .getbcr s = .next s ∧ exec .getdcr s = .next s ∧ exec .getpid s = .next s ∧ exec .getstatus s = .next s)
    ∧ (∀ b : BitVec 8,
        (b = 1 ∨ b = 2 → exec (.rstact b) s = .next
          ((s.ctrlWrite 3 BOOT_RESET 4 4).1.mgmtAnswer (s.ctrlWrite 3 BOOT_RESET 4 4).2 []))
        ∧ (b ≠ 1 → b ≠ 2 → exec (.rstact b) s = .next s))

/-- The management commands: control-space, device-memory and image accesses, and their packet error code (R10, R305,
R311, R368, R369, R373, R385, chapters 14 and 15). While the port is served, and where PEC is on only for a command
whose code is right (one whose code is wrong changes nothing): a control-space read by the owner of a mapped register
outside the sheets that has no RC field answers status 0 and its bytes; an access that the map refuses answers status
2, and a write by the non-owner status 1. A device-memory read or write at an address the map refuses changes nothing
but fault 0x6010 and answers status 2 (a read with all ones); poison answers status 2; a write of a non-owner is
refused with status 1. Image data of 1 to 256 bytes inside the image buffer is written during the WAIT step by the
owner and refused otherwise; a command byte that no rule names is answered with status 2. With PEC on every answer
ends with its code. Clauses resting on a choice or an inference of the model: log entries 11, 69, 72, 107. -/
def Obligations.ManagementAccessesAnswerWithStatus : Prop :=
  ∀ s : State, s.mgmtUp = true →
    let ok : List Byte → Byte → Bool := fun bs p => s.pecOk bs p
    (∀ (a : BitVec 32) (p : Byte),
      (sizeOk a.toNat 4 = false → ∀ d : Word,
        let bad := s.raise 0x7003 0 0 (a.toNat % 2 ^ 26 + 3 * 2 ^ 28)
        (ok (mgmtBytes 1 4 a.toNat []) p = true →
          exec (.mgmtCtrlRead32 ⟨a, p⟩) s = .next (bad.mgmtAnswer 2 (List.replicate 4 0xFF)))
        ∧ (ok (mgmtBytes 2 4 a.toNat (leBytes 4 d.toNat)) p = true →
          exec (.mgmtCtrlWrite32 a ⟨d, p⟩) s = .next (bad.mgmtAnswer 2 [])))
      ∧ (sizeOk a.toNat 8 = true → s.allMapped a.toNat 8 = false → ∀ d : DWord,
        let bad := s.raise 0x7003 0 0 (a.toNat % 2 ^ 26 + 3 * 2 ^ 28)
        (ok (mgmtBytes 3 4 a.toNat []) p = true →
          exec (.mgmtCtrlRead64 ⟨a, p⟩) s = .next (bad.mgmtAnswer 2 (List.replicate 8 0)))
        ∧ (ok (mgmtBytes 4 4 a.toNat (leBytes 8 d.toNat)) p = true →
          exec (.mgmtCtrlWrite64 a ⟨d, p⟩) s = .next (bad.mgmtAnswer 2 [])))
      ∧ (sizeOk a.toNat 4 = true → s.allMapped a.toNat 4 = true → inSheetBlock a.toNat = false →
        a.toNat ≠ TIME_COUNT → ∀ w : WordDesc, regLoc a.toNat = some ⟨w, 0, 1⟩ →
        (w.rc = 0 ∨ s.nonOwner 3 = true → ok (mgmtBytes 1 4 a.toNat []) p = true →
          exec (.mgmtCtrlRead32 ⟨a, p⟩) s = .next (s.mgmtAnswer 0 (leBytes 4 (s.view a.toNat))))
        ∧ (s.nonOwner 3 = false → a.toNat ≠ GEN_OWN_CMD → ∀ d : Word,
          ok (mgmtBytes 2 4 a.toNat (leBytes 4 d.toNat)) p = true →
          exec (.mgmtCtrlWrite32 a ⟨d, p⟩) s = .next ((s.write32 3 a.toNat d.toNat).mgmtAnswer 0 [])))
      ∧ (sizeOk a.toNat 8 = true → s.allMapped a.toNat 8 = true → inSheetBlock a.toNat = false →
        a.toNat ≠ TIME_COUNT → ∀ w : WordDesc, regLoc a.toNat = some ⟨w, 0, 2⟩ →
        (s.nonOwner 3 = true → ok (mgmtBytes 3 4 a.toNat []) p = true → exec (.mgmtCtrlRead64 ⟨a, p⟩) s = .next
          (s.mgmtAnswer 0 (leBytes 8 (s.view a.toNat + s.view (a.toNat + 4) * 2 ^ 32))))
        ∧ (s.nonOwner 3 = false → a.toNat ≠ GEN_OWN_CMD → ∀ d : DWord, s.refuses64 a.toNat d.toNat = false →
          ok (mgmtBytes 4 4 a.toNat (leBytes 8 d.toNat)) p = true →
          exec (.mgmtCtrlWrite64 a ⟨d, p⟩) s = .next
            (((s.write64 3 a.toNat d.toNat).dropLow [a.toNat]).mgmtAnswer 0 []))))
    ∧ (∀ (a : BitVec 48) (d : DWord) (ecc : Ecc) (p : Byte),
        (ok (mgmtBytes 5 6 a.toNat []) p = true →
          (s.accessOk a.toNat 8 = false →
            exec (.mgmtMemRead ⟨a, p⟩ ecc) s = .next ((s.refuseAt a.toNat).mgmtAnswer 2 (List.replicate 8 0xFF)))
          ∧ (s.accessOk a.toNat 8 = true → inCompanion a.toNat = false → ∀ t,
            (∀ bs, s.devGet 3 a.toNat 8 0 ecc = (t, .data bs) → exec (.mgmtMemRead ⟨a, p⟩ ecc) s = .next (t.mgmtAnswer 0 bs))
            ∧ (∀ d, s.devGet 3 a.toNat 8 0 ecc = (t, .poison d) → exec (.mgmtMemRead ⟨a, p⟩ ecc) s = .next (t.mgmtAnswer 2 []))))
        ∧ (ok (mgmtBytes 6 6 a.toNat (leBytes 8 d.toNat)) p = true →
          (s.accessOk a.toNat 8 = false → exec (.mgmtMemWrite a ⟨d, p⟩) s = .next ((s.refuseAt a.toNat).mgmtAnswer 2 []))
          ∧ (s.writeOk a.toNat 8 = true → s.nonOwner 3 = true →
            exec (.mgmtMemWrite a ⟨d, p⟩) s = .next ((s.ownRefuse 3).mgmtAnswer 1 []))
          ∧ (s.writeOk a.toNat 8 = true → s.nonOwner 3 = false → inCompanion a.toNat = false →
            s.partPoison a.toNat 8 = none →
            exec (.mgmtMemWrite a ⟨d, p⟩) s = .next
              ((s.devPut 3 a.toNat 0 (leBytes 8 d.toNat)).mgmtAnswer 0 []))))
    ∧ (∀ (o : BitVec 32) (bs : List Byte) (p : Byte), ok (mgmtBytes 0x10 4 o.toNat bs) p = true →
        let bad := s.fld BOOT_STAT_step ≠ 2 ∨ bs.length = 0 ∨ 256 < bs.length ∨ imgSize < o.toNat + bs.length
        (bad → exec (.mgmtImageWrite ⟨0x10, o⟩ ⟨bs, p⟩) s = .next (s.mgmtAnswer 2 []))
        ∧ (¬ bad → s.nonOwner 3 = true → exec (.mgmtImageWrite ⟨0x10, o⟩ ⟨bs, p⟩) s = .next ((s.ownRefuse 3).mgmtAnswer 1 []))
        ∧ (¬ bad → s.nonOwner 3 = false → exec (.mgmtImageWrite ⟨0x10, o⟩ ⟨bs, p⟩) s = .next
          ((s.modBoot fun b => { b with img := smWrite zeroByte b.img o.toNat bs }).mgmtAnswer 0 [])))
    ∧ (∀ (c : Byte) (o : BitVec 32) (bs : List Byte) (p : Byte),
        (c.toNat = 0 ∨ 6 < c.toNat ∧ c.toNat ≠ 0x10 → ok (mgmtBytes c.toNat 4 o.toNat bs) p = true →
          exec (.mgmtImageWrite ⟨c, o⟩ ⟨bs, p⟩) s = .next (s.mgmtAnswer 2 []))
        ∧ (ok (mgmtBytes c.toNat 4 o.toNat bs) p = false → exec (.mgmtImageWrite ⟨c, o⟩ ⟨bs, p⟩) s = .next s)
        ∧ (s.flag WLINK_MGMT_pec = false → ok bs p = true ∧ ∀ st, s.mgmtAnswer st bs = s.answer st bs)
        ∧ (s.flag WLINK_MGMT_pec = true → ∀ st, ∃ code, s.mgmtAnswer st bs = s.answer st (bs ++ [code])))

/-- The instructions of the test access port (R391, R395, R396, R397, chapter 15 Debug). While the module is alive:
IDCODE selects the identity register and reads 0x10B5094B; SAMPLE/PRELOAD captures the pins (four of them the module's
own state, the rest values of the board) and loads the cells that EXTEST drives with what is shifted in, which the
command has no operand for (a free value); EXTEST, CLAMP and HIGHZ drive the pins up to the second boot step and act
as BYPASS after it; IJTAG selects the internal network until DBG_LOCK is blown and acts as BYPASS from then on; BYPASS
and Test-Logic-Reset release the pins. A module that is not alive changes nothing. Clauses resting on a choice or an
inference of the model: log entries 84, 108. -/
def Obligations.TestPortInstructions : Prop :=
  ∀ s : State,
    let tap : Nat → Nat → State := fun ir drive =>
      s.modBoot fun b => { b with jtag := { b.jtag with ir := ir, drive := drive } }
    (s.alive = true →
      exec .idcode s = .next ((tap 0x02 0).answer 0 (leBytes 4 0x10B5094B))
      ∧ (∃ t before after shifted, exec .samplePreload s = .next t
          ∧ t = { (s.modBoot fun b => { b with jtag := { b.jtag with ir := 0x01, drive := 0, latch := shifted, pins :=
              before ++ [s.syncHigh, !s.pwr.resetLow, s.pwrOk, !s.thermLow] ++ after } }) with free := s.free + 2 }
          ∧ before.length = 6 ∧ after.length = 10 ∧ shifted < 2 ^ 20)
      ∧ exec .bypass s = .next (tap 0xFF 0)
      ∧ exec .testLogicReset s = .next (tap 0x02 0)
      ∧ (s.boot.dbgLock = false → exec .ijtag s = .next (tap 0x20 0))
      ∧ (s.boot.dbgLock = true → exec .ijtag s = .next (tap 0xFF 0))
      ∧ (s.fld BOOT_STAT_step ≤ 2 → exec .extest s = .next (tap 0x00 1) ∧ exec .clamp s = .next (tap 0x03 2)
          ∧ exec .highz s = .next (tap 0x04 3))
      ∧ (2 < s.fld BOOT_STAT_step → exec .extest s = .next (tap 0xFF 0) ∧ exec .clamp s = .next (tap 0xFF 0)
          ∧ exec .highz s = .next (tap 0xFF 0)))
    ∧ (s.alive = false → exec .idcode s = .next s ∧ exec .samplePreload s = .next s ∧ exec .bypass s = .next s
        ∧ exec .testLogicReset s = .next s ∧ exec .ijtag s = .next s ∧ exec .extest s = .next s
        ∧ exec .clamp s = .next s ∧ exec .highz s = .next s)

/-- The training commands of a fabric port move it through DETECT, EQUALIZE, ALIGN and INIT (R231, R249, R250, R252,
R253, chapter 09 Training). In DETECT an attempt that expires is counted and starts anew at the tick of its expiry,
and signal on the lanes of a legal width moves the port to EQUALIZE as full training. In EQUALIZE good lanes of a
legal width move it to ALIGN; in a retrain each lane that this width leaves out is marked, and the lanes kept for the
INIT record are the good ones, or of a port held to the degraded width those of that width; an expiry returns it to
DETECT, with fault 0x5001 where this was full training, after 500 ms, or after 24 us and without the fault where it
was a retrain. In ALIGN codeword lock moves it to INIT with the lock bits of its lanes and codewords counted anew; an
expiry after 10 us returns it to DETECT in the same two ways. In INIT an expiry after 2 us returns it to EQUALIZE as a
retrain for the first three times and then to DETECT. Each equation gives the whole next state, so nothing else
changes. Clauses resting on a choice or an inference of the model: log entry 8. -/
def Obligations.TrainingCommandsMoveThePort : Prop :=
  ∀ (s : State) (p : Port),
    (s.fld (LINK_STAT_state p) = 1 →
      (let u := s.toElapsed ((s.port p).since + 1280000)
       exec (.linkDetectTimeout p) s = .next
          ((u.count (LINK_STAT_attempts p) 1).modPort p fun q => { q with since := u.time.elapsed }))
      ∧ ∀ lanes, pickWidth p lanes.toNat false ≠ 0 →
          exec (.linkSignalDetected p lanes) s = .next ((s.linkEnter p 2).setFld (LINK_STAT_retraining p) 0))
    ∧ (s.fld (LINK_STAT_state p) = 2 →
      (∀ good, pickWidth p good.toNat (s.mustDegrade p) ≠ 0 →
          let w := pickWidth p good.toNat (s.mustDegrade p)
          exec (.linkEqualizeDone p good) s = .next
            (((if s.fld (LINK_STAT_retraining p) = 1 then iter (fullLanes p)
                (fun l t => if bit w l then t else t.setFld (LINK_LANE_failed p l) 1) s else s).modPort p
              fun q => { q with goodLanes := if s.mustDegrade p then w else good.toNat % 2 ^ fullLanes p }).linkEnter p 3))
      ∧ (s.fld (LINK_STAT_retraining p) = 0 →
          exec (.linkEqualizeTimeout p) s = .next
            (((s.toElapsed ((s.port p).since + 640000000)).raiseLink 0x5001 p 0).linkEnter p 1))
      ∧ (s.fld (LINK_STAT_retraining p) = 1 →
          exec (.linkEqualizeTimeout p) s = .next
            (((s.toElapsed ((s.port p).since + 30720)).setFld (LINK_STAT_retraining p) 0).linkEnter p 1)))
    ∧ (s.fld (LINK_STAT_state p) = 3 →
      (exec (.linkAlignDone p) s = .next
          ((iter (fullLanes p)
            (fun l t => t.setFld (LINK_LANE_lock p l) (b2n (bit (s.port p).goodLanes l)))
            (s.modPort p fun q => { q with rxBits := 0, badCw := none })).linkEnter p 4))
      ∧ (s.fld (LINK_STAT_retraining p) = 0 →
          exec (.linkAlignTimeout p) s = .next
            (((s.toElapsed ((s.port p).since + 12800)).raiseLink 0x5001 p 0).linkEnter p 1))
      ∧ (s.fld (LINK_STAT_retraining p) = 1 →
          exec (.linkAlignTimeout p) s = .next
            (((s.toElapsed ((s.port p).since + 12800)).setFld (LINK_STAT_retraining p) 0).linkEnter p 1)))
    ∧ (s.fld (LINK_STAT_state p) = 4 →
      ((s.port p).tries < 3 → exec (.linkInitTimeout p) s = .next
          ((((s.toElapsed ((s.port p).since + 2560)).modPort p fun q => { q with tries := (s.port p).tries + 1 }).linkEnter
            p 2).setFld (LINK_STAT_retraining p) 1))
      ∧ (3 ≤ (s.port p).tries → exec (.linkInitTimeout p) s = .next
          ((((s.toElapsed ((s.port p).since + 2560)).modPort p fun q => { q with tries := 0 }).linkEnter p 1).setFld
            (LINK_STAT_retraining p) 0)))

/-- NAK repeats, replay timeouts, lane triggers and the end of grace (R247, R248, R252, R255, R256, chapter 09
Sequence and replay). A NAK is owed again 256 ticks after the last one. On an ACTIVE port with held flits the ack that
has not advanced for 4,096 ticks starts a replay from the oldest held flit; the eighth replay in a row sets
LINK_PROTO.replay_limit, records 0x5011 and retrains. A lane that loses its lock, and a lane whose corrected symbols
in 1 ms exceed the limit, retrain the port; below the limit the count alone is kept. The end of grace flushes the
port. Clauses resting on a choice or an inference of the model: log entry 8. -/
def Obligations.LinkTimersAndLaneTriggers : Prop :=
  ∀ (s : State) (p : Port), Sound s →
    (∀ at0, (s.port p).nakAt = some at0 →
      exec (.nakRepeat p) s = .next ((s.toElapsed (at0 + 256)).modPort p
        fun q => { q with nakDue := true, nakAt := none }))
    ∧ (s.fld (LINK_STAT_state p) = 5 → (s.port p).replay ≠ [] →
        let u := s.toElapsed ((s.port p).ackAt + 4096)
        let r := ((u.modPort p fun q => { q with ackAt := u.time.elapsed }).modPort p
          fun q => { q with replayAt := some 0, replayFrom := (u.fld (LINK_SEQ_acked p) + 1) % 4096
                            stalls := (s.port p).stalls + 1 }).count (LINK_REPLAY_replays p) 1
        ((s.port p).stalls + 1 < 8 → exec (.replayTimeout p) s = .next r)
        ∧ (8 ≤ (s.port p).stalls + 1 → exec (.replayTimeout p) s = .next
            ((((r.modPort p fun q => { q with stalls := 0 }).setFld (LINK_PROTO_replay_limit p) 1).raiseLink 0x5011 p 0).linkRetrain
              p)))
    ∧ (∀ lane : Fin 8, lane.val < fullLanes p →
        exec (.laneLoss p lane) s = .next ((s.setFld (LINK_LANE_lock p lane) 0).linkRetrain p)
        ∧ ∀ n : BitVec 32,
          let u := s.setFld (LINK_LANE_ce_ms p lane) (min n.toNat 0xFFFF)
          (n.toNat ≤ u.fld (LINK_CFG_ser_limit p) * 1024 → exec (.serLimitExceeded p lane n) s = .next u)
          ∧ (u.fld (LINK_CFG_ser_limit p) * 1024 < n.toNat →
              exec (.serLimitExceeded p lane n) s = .next (u.linkRetrain p)))
    ∧ (∀ at0, (s.port p).graceAt = some at0 →
        exec (.graceExpire p) s = .next ((s.toElapsed at0).linkDown p))

/-- What an ACTIVE port does with a flit by its codewords, its CRC, its header and its sequence number (R231, R233,
R241, R242, R243, R245, R246, R247, chapter 09 Credits). Every flit is 2,304 bits of a stream of codewords of 5,140
message bits each. A codeword that cannot be corrected is counted once, and each flit with a bit in it fails; a flit
that fails so, or by its CRC, is counted and a NAK is owed: at once, but while one is out only when 256 ticks have
passed. A header that frees more than was sent is a credit protocol error, and an ack out of its window an ack
protocol error; its freed counts are taken. Otherwise the freed counts and the ack are taken; an idle flit does no
more; an S or X flit out of sequence has a NAK owed, one without room in the pool is an overrun, and one in sequence
with room that the permit table admits enters the pool as the last entry, the expected number advances and no NAK is
owed any more. Clauses resting on a choice or an inference of the model: log entries 41, 103, 113. -/
def Obligations.ActivePortReceivesFlits : Prop :=
  ∀ (s : State) (p : Port) (f : RawFlit), Sound s → s.fld (LINK_STAT_state p) = 5 →
    let n := (s.port p).rxBits
    let b := s.modPort p fun q => { q with rxBits := n + 2304 }
    let fails : State → State := fun v => (v.count (LINK_CRC_ERR_count p) 1).oweNak p
    (∀ v : State, ((v.port p).nakAt = none → v.oweNak p = v.modPort p fun q => { q with nakDue := true })
        ∧ ∀ t, (v.port p).nakAt = some t →
          (t + 256 ≤ v.time.elapsed → v.oweNak p = v.modPort p fun q => { q with nakDue := true })
          ∧ (v.time.elapsed < t + 256 → v.oweNak p = v))
    ∧ ((s.port p).badCw ≠ some ((n + 2303) / 5140) → exec (.linkFlitReceive p f .uncorrectable) s = .next
        (fails ((b.modPort p fun q => { q with badCw := some ((n + 2303) / 5140) }).count (LINK_FEC_UE_count p) 1)))
    ∧ ((s.port p).badCw = some ((n + 2303) / 5140) → exec (.linkFlitReceive p f .uncorrectable) s = .next (fails b))
    ∧ ((s.port p).badCw = some (n / 5140) ∨ f.crcOk = false → exec (.linkFlitReceive p f .clean) s = .next (fails b))
    ∧ ((s.port p).badCw ≠ some (n / 5140) → f.crcOk = true →
        ((s.port p).creditError f.freed = true → exec (.linkFlitReceive p f .clean) s = .next
          (((b.setFld (LINK_PROTO_credit p) 1).raiseLink 0x5012 p 0).linkRetrain p))
        ∧ ((s.port p).creditError f.freed = false →
          let t := b.modPort p fun q => { q with seen := f.freed }
          (ackInWindow f.ack (s.fld (LINK_SEQ_acked p)) (s.fld (LINK_SEQ_next p)) = false →
            exec (.linkFlitReceive p f .clean) s = .next
              (((t.setFld (LINK_PROTO_ack_window p) 1).raiseLink 0x5010 p 0).linkRetrain p))
          ∧ (ackInWindow f.ack (s.fld (LINK_SEQ_acked p)) (s.fld (LINK_SEQ_next p)) = true → f.op = 0 →
            let u := t.takeAck p f.ack
            (f.cls = 3 → exec (.linkFlitReceive p f .clean) s = .next u)
            ∧ (f.cls < 2 → f.seq ≠ (s.port p).expect → exec (.linkFlitReceive p f .clean) s = .next (u.oweNak p))
            ∧ (f.cls < 2 → f.seq = (s.port p).expect → (s.port p).poolRoom f.cls f.shared = false →
                exec (.linkFlitReceive p f .clean) s = .next
                  (((u.setFld (LINK_PROTO_overrun p) 1).raiseLink 0x5013 p 0).linkRetrain p))
            ∧ (f.cls < 2 → f.seq = (s.port p).expect → (s.port p).poolRoom f.cls f.shared = true →
                u.admitsIn p f.cls f.slice = true →
                exec (.linkFlitReceive p f .clean) s = .next
                  (u.modPort p fun q =>
                    { q with pool := q.pool ++ [{ id := q.nextId, flit := f, shared := f.shared, at0 := s.time.tick
                                                  stamp := s.shortStamp }]
                             nextId := q.nextId + 1, expect := (q.expect + 1) % 4096
                             nakDue := false, nakAt := none })))))

/-- What leaves on a port when its line is free, and what a good INIT record that comes in does (R181, R234, R238,
R239, R242, R245, R249, R250, R276, R300, chapter 09 Slots and transmission). In INIT an INIT record leaves. On a port
neither in INIT nor ACTIVE only what is late is marked and held to. On an ACTIVE port a replay in progress sends its
next held flit with its ack and freed fields refreshed; with 512 flits unacknowledged only an idle flit leaves; the S
flit that may start now takes a credit, leaves its queue and is the one sent; without one up to 16 symbols leave in a
C flit, then, with the X flits at the front that the permit table does not admit discarded, an X flit; with nothing to
send an idle flit leaves. In INIT the record of a good idle flit whose freed counts are in order (b is the state with
them taken), and that equals the one before raises the count of agreeing records, another starts it anew at 1; the
timestamps are taken, and the port is ACTIVE once four records came and four left in agreement. Clauses resting on a
choice or an inference of the model: log entries 31, 32, 113. -/
def Obligations.FreeLineSendsTheNextFlit : Prop :=
  ∀ (s : State) (p : Port),
    (s.fld (LINK_STAT_state p) = 4 → exec (.flitTransmit p) s = .next
      ((s.modPort p fun q =>
          { q with wire := some (s.stampFlit p
                     ((blankFlit 3 (s.initRecord p)).setH 0 12 (s.fld (LINK_SEQ_next p))) 0)
                   sentInit := q.sentInit + 1, bcnTx := some (q.bcnNo, s.shortStamp)
                   bcnNo := (q.bcnNo + 1) % 16 }).tryEstablish p))
    ∧ (s.fld (LINK_STAT_state p) ≠ 4 → s.fld (LINK_STAT_state p) ≠ 5 →
        exec (.flitTransmit p) s = .next ((s.markLate p).checkHold p))
    ∧ (s.fld (LINK_STAT_state p) = 5 →
        let u := ((s.probeRetry p).markLate p).dropDenied p
        (∀ i f, (u.port p).replayAt = some i → (u.port p).replay[i]? = some f →
          exec (.flitTransmit p) s = .next (((((u.modPort p fun q =>
              { q with wire := some (u.stampFlit p f (u.nextOp p))
                       replayAt := if i + 1 < q.replay.length then some (i + 1) else none }).count
            (LINK_REPLAY_flits p) 1).sentOp p (u.nextOp p))).checkHold p))
        ∧ ((u.port p).replayAt = none →
          (512 ≤ (u.port p).replay.length → exec (.flitTransmit p) s = .next ((u.putIdle p).checkHold p))
          ∧ ((u.port p).replay.length < 512 →
            (∀ o sh, u.pickS p = some o → (u.port p).credit 0 = some sh →
              let v := (u.modPort p fun q =>
                { q with txS := q.txS.erase o
                         lastSlot := some (u.time.tick - u.time.tick % slotTicks p)
                         slices := o.flit.slice :: (if q.sliceFrame = u.frame then q.slices else [])
                         sliceFrame := u.frame }).putNew p o.flit sh
              exec (.flitTransmit p) s = .next
                (((if o.inPort < 31 then v.poolSent o.inPort o.poolId else v).sLeft o).checkHold p))
            ∧ (u.pickS p = none →
              (∀ sh, (u.port p).txC ≠ [] → (u.port p).credit 2 = some sh →
                (∀ y ∈ (u.port p).txC, u.admitsOut p 2 (leField y 2 2) = true ∧ leField y 0 1 ≠ 5) →
                let ys := (u.port p).txC.take 16
                exec (.flitTransmit p) s = .next
                  (((u.modPort p fun q => { q with txC := q.txC.drop 16 }).putNew p
                    ((blankFlit 2 ys.flatten).setH 128 5 ys.length) sh).checkHold p))
              ∧ ((u.port p).txC = [] →
                let x := u.dropDeniedX p
                (∀ o rest sh, (x.port p).txX = o :: rest → (u.port p).credit 1 = some sh →
                  let v := (x.modPort p fun q => { q with txX := rest }).putNew p o.flit sh
                  exec (.flitTransmit p) s = .next
                    ((if o.inPort < 31 then v.poolSent o.inPort o.poolId else v).checkHold p))
                ∧ ((x.port p).txX = [] → exec (.flitTransmit p) s = .next ((x.putIdle p).checkHold p)))))))
    ∧ (∀ (f : RawFlit) (b : State), s.fld (LINK_STAT_state p) = 4 → f.crcOk = true → f.cls = 3 →
        (s.port p).badCw ≠ some ((s.port p).rxBits / 5140) →
        (s.modPort p fun q => { q with rxBits := q.rxBits + 2304 }).initFreed p f = (b, false) →
        let pay := padTo 256 f.payload
        exec (.initRecordReceive p f) s = .next
          (((b.modPort p fun q =>
              { q with good := if q.initRec = pay.take 16 then q.good + 1 else 1, initRec := pay.take 16 }).hearStamp p
            (leField pay 40 1 % 16) (leField pay 40 1 / 16) (leField pay 32 4) (leField pay 36 4)
            b.shortStamp).tryEstablish p))

/-- Writes of LINK_CTL, LINK_CFG and LINK_TS_CTL by an agent that may write them (R249, R252, R253, R254, R255, R262,
R303, chapter 09 Registers). Setting enable in OFF, where the port's domain is up and the boot sequence has come so
far, moves the port to DETECT; elsewhere it changes the register alone. Clearing it moves the port to OFF (from ACTIVE
the grace timer starts first). The retrain bit, a change of width_max and a write of half_rate, of the value it holds
too, retrain an enabled port; a write of width_max that does not change it leaves the port alone. A grace of 1 to
16,000 us is taken and any other refused with fault 0x5040 and the register kept. The clear bit of LINK_TS_CTL empties
the samples and every measured value of the port. The access answers status 0. `w` is what LINK_CTL keeps of a value:
bits 0, 2 and 3. Clauses resting on a choice or an inference of the model: log entries 11, 15, 42. -/
def Obligations.LinkRegisterWrites : Prop :=
  ∀ (s : State) (ag : Agent) (p : Port),
    let w : Nat → Word := fun v => BitVec.ofNat 32 (v % 16 - v / 2 % 2 * 2)
    (Writable s ag (LINK_CTL p) 4 →
      (let u := s.setReg (LINK_CTL p) (w (s.withBits (LINK_CTL p) 0 1 0))
       exec (.linkEnable ag p false) s = .next
        (((((if s.fld (LINK_STAT_state p) = 5 then u.leaveActive p else u).linkEnter p 0).setFld
          (LINK_STAT_retraining p) 0).setFld (LINK_STAT_lanes p) 0).answer 0 []))
      ∧ (s.fld (LINK_STAT_state p) = 0 → s.portMay p = true →
          exec (.linkEnable ag p true) s = .next
            (((s.setReg (LINK_CTL p) (w (s.withBits (LINK_CTL p) 0 1 1))).linkEnter p 1).answer 0 []))
      ∧ (s.fld (LINK_STAT_state p) ≠ 0 → s.flag (LINK_CTL_retrain p) = false →
          exec (.linkEnable ag p true) s = .next
            ((s.setReg (LINK_CTL p) (w (s.withBits (LINK_CTL p) 0 1 1))).answer 0 []))
      ∧ (s.fld (LINK_STAT_state p) ≠ 0 → s.flag (LINK_CTL_enable p) = true →
          exec (.linkRetrainCmd ag p) s = .next
            ((((s.setReg (LINK_CTL p) (w (s.withBits (LINK_CTL p) 1 1 1))).modPort p
              fun q => { q with widen := true }).linkRetrain p).answer 0 [])
          ∧ (s.flag (LINK_CTL_retrain p) = false → ∀ on : Bool,
            let a := s.setReg (LINK_CTL p) (w (s.withBits (LINK_CTL p) 2 1 (b2n on)))
            let b := s.setReg (LINK_CTL p) (w (s.withBits (LINK_CTL p) 3 1 (b2n on)))
            (s.flag (LINK_CTL_width_max p) = on → exec (.linkWidthMax ag p on) s = .next (a.answer 0 []))
            ∧ (s.flag (LINK_CTL_width_max p) ≠ on → exec (.linkWidthMax ag p on) s = .next
                (((a.modPort p fun q => { q with widen := true }).linkRetrain p).answer 0 []))
            ∧ (s.flag (LINK_CTL_half_rate p) = on → exec (.linkHalfRate ag p on) s = .next
                ((b.answer 0 []).linkRetrain p))
            ∧ (s.flag (LINK_CTL_half_rate p) ≠ on → exec (.linkHalfRate ag p on) s = .next
                ((b.linkRetrain p).answer 0 [])))))
    ∧ (Writable s ag (LINK_CFG p) 4 → ∀ v : Word,
        (1 ≤ v.toNat % 2 ^ 14 ∧ v.toNat % 2 ^ 14 ≤ 16000 → exec (.linkCfgWrite ag p v) s = .next
          ((s.setReg (LINK_CFG p) (v &&& 0x00FF7FFF)).answer 0 []))
        ∧ (v.toNat % 2 ^ 14 = 0 ∨ 16000 < v.toNat % 2 ^ 14 → exec (.linkCfgWrite ag p v) s = .next
          ((s.raiseLink 0x5040 p 0).answer 0 [])))
    ∧ (Writable s ag (LINK_TS_CTL p) 4 →
        let u := s.plainWrite (LINK_TS_CTL p) (s.withBits (LINK_TS_CTL p) 1 1 1)
        exec (.tsClear ag p) s = .next
          ((((((((u.modPort p fun q => { q with samples := [], apparent := none }).setFld
            (LINK_TS_OFFSET_value p) 0).setFld (LINK_TS_DELAY_value p) 0).setFld (LINK_TS_OFF_MIN_value p) 0).setFld
            (LINK_TS_OFF_MAX_value p) 0).setFld (LINK_TS_STAT_valid p) 0).setFld (LINK_TS_STAT_samples p) 0).answer 0 []))

/-- Writes of the Wiora Link registers by an agent that may write them (R345, R352, R353, R355, R362, R377, R378,
chapter 14 Registers). Clearing enable takes a port to DETECT with width 0 (from ACTIVE its grace timer starts),
setting it from 0 begins DETECT; on an enabled port the retrain bit and a write of width_max or half_rate retrain it,
also one of the value it holds. A grace of 1 to 16,000 us is taken and any other refused with fault 0x7054. Word 3 of
a device window makes its four words take effect together, or fault 0x7023 refuses a bad window and the old one
stands. A new event ring releases the lines held and asks for the lines of the new one ahead. A write of the batch
configuration clears the stopped flag. `w` is what WLINK_CTL keeps of a value: bits 0, 2 and 3. Clauses resting on a
choice or an inference of the model: log entries 11, 12, 15, 42, 65. -/
def Obligations.WioraRegisterWrites : Prop :=
  ∀ (s : State) (ag : Agent) (p : WPort),
    let w : Nat → Word := fun v => BitVec.ofNat 32 (v &&& 0xD)
    (Writable s ag (WLINK_CTL p) 4 →
      (let u := s.setReg (WLINK_CTL p) (w (s.withBits (WLINK_CTL p) 0 1 0))
       exec (.wioraEnable ag p false) s = .next
        ((((if s.wactive p then u.wLeave p else u).setFld (WLINK_STAT_width p) 0).wEnter p 0 false).answer 0 []))
      ∧ (s.flag (WLINK_CTL_enable p) = false → exec (.wioraEnable ag p true) s = .next
          (((s.setReg (WLINK_CTL p) (w (s.withBits (WLINK_CTL p) 0 1 1))).wEnter p 0 false).answer 0 []))
      ∧ (s.flag (WLINK_CTL_enable p) = true →
          exec (.wioraRetrainCmd ag p) s = .next
            (((s.setReg (WLINK_CTL p) (w (s.withBits (WLINK_CTL p) 1 1 1))).wRetrain p true).answer 0 [])
          ∧ (s.flag (WLINK_CTL_retrain p) = false → ∀ on : Bool,
            let a := s.setReg (WLINK_CTL p) (w (s.withBits (WLINK_CTL p) 2 1 (b2n on)))
            let b := s.setReg (WLINK_CTL p) (w (s.withBits (WLINK_CTL p) 3 1 (b2n on)))
            exec (.wioraWidthMax ag p on) s = .next
              (if s.flag (WLINK_CTL_width_max p) = on then (a.answer 0 []).wRetrain p true
                else (a.wRetrain p true).answer 0 [])
            ∧ exec (.wioraHalfRate ag p on) s = .next
              (if s.flag (WLINK_CTL_half_rate p) = on then (b.answer 0 []).wRetrain p true
                else (b.wRetrain p true).answer 0 []))))
    ∧ (Writable s ag (WLINK_CFG p) 4 → ∀ v : Word,
        (1 ≤ v.toNat % 2 ^ 14 ∧ v.toNat % 2 ^ 14 ≤ 16000 → exec (.wioraCfgWrite ag p v) s = .next
          ((s.setReg (WLINK_CFG p) (BitVec.ofNat 32 (v.toNat % 2 ^ 14))).answer 0 []))
        ∧ (v.toNat % 2 ^ 14 = 0 ∨ 16000 < v.toNat % 2 ^ 14 → exec (.wioraCfgWrite ag p v) s = .next
          ((s.raise 0x7054 (unitWiora p) 0 p).answer 0 [])))
    ∧ (∀ (k : Fin 8) (v : Word), Writable s ag (WLINK_DWIN p k + 12) 4 →
        let b := WLINK_DWIN p k
        let e := s.lowFor (agentNo ag) b + s.lowFor (agentNo ag) (b + 4) * 2 ^ 32
          + s.lowFor (agentNo ag) (b + 8) * 2 ^ 64 + v.toNat * 2 ^ 96
        (s.dwinBad p k e = true → exec (.dwinWrite ag p k v) s = .next
          ((s.raise 0x7023 (unitWiora p) 0 p).answer 0 []))
        ∧ (s.dwinBad p k e = false → exec (.dwinWrite ag p k v) s = .next
          ((((s.setReg64 b (e &&& 0x0000FFFFFFFF0001)).setReg64 (b + 8) (bits e 64 48)).dropLow
            [b, b + 4, b + 8]).answer 0 [])))
    ∧ (∀ v : DWord, Writable s ag (WLINK_EVR p) 8 →
        let u := ((s.wport p).evE.foldl (fun t b => t.wEvict b.1 (.evLine p) b.2) s).modWport p
          fun q => { q with evE := [], prod := 0 }
        exec (.evrWrite ag p v) s = .next
          (((((u.setReg64 (WLINK_EVR p) (v.toNat &&& 0xFFFFFFFFFFFFFFC1)).evAhead p).evGo p).dropLow
            [WLINK_EVR p]).answer 0 []))
    ∧ (∀ v : Word, Writable s ag WLINK_BQ_CFG 4 →
        exec (.bqCfgWrite ag v) s = .next
          (((s.plainWrite WLINK_BQ_CFG v.toNat).setFld WLINK_BQ_STAT_stopped 0).answer 0 []))

/-- Writes of a sheet's registers by an agent that may write them, outside twin mode (R46, R76, R81, R131, R137, R162,
R163, R166, chapters 02, 04, 05 and 06). A pair of legend entries is taken while MX is idle and both are legal, and is
refused with 0x1011 while MX has work or with 0x1010 naming the first illegal entry. Restore reloads the legend store
under the same idle rule, and clears bad where asked. A tail that neither runs backwards nor past the ring is taken,
another refused with 0x2031; a ring is placed where its queue is idle and empty and no other ring meets it, or refused
with 0x2030. Writes of flags, counters, comparators and contour configuration, and the clears of SHEET_SAFE_CTL, are
held for step 3 of the next frame boundary in the order they come. Each access answers status 0. Clauses resting on a
choice or an inference of the model: log entries 11, 15. -/
def Obligations.SheetRegisterWrites : Prop :=
  ∀ (s : State) (ag : Agent) (i : Sheet), s.twinOn = false →
    let hold : State → Nat → Word → State := fun t a v => t.modSheet i fun x => { x with pendW := x.pendW ++ [(a, v)] }
    (∀ (k : Fin 512) (v : Word), Writable s ag (SHEET_LEGEND i k) 4 →
      let lo := v.toNat % 65536
      let hi := v.toNat / 65536 % 65536
      (s.engIdle i 0 = false → exec (.legendWindowWrite ag i k v) s = .next
        ((s.raise 0x1011 (unitSheet i) 0 0).answer 0 []))
      ∧ (s.engIdle i 0 = true →
        (legendBad lo = true → exec (.legendWindowWrite ag i k v) s = .next
          ((s.legendRefuse i (2 * k / 16) (2 * k % 16) 0).answer 0 []))
        ∧ (legendBad lo = false → legendBad hi = true → exec (.legendWindowWrite ag i k v) s = .next
          ((s.legendRefuse i ((2 * k + 1) / 16) ((2 * k + 1) % 16) 0).answer 0 []))
        ∧ (legendBad lo = false → legendBad hi = false → exec (.legendWindowWrite ag i k v) s = .next
          ((s.setReg (SHEET_LEGEND i k) v).answer 0 []))))
    ∧ (Writable s ag (SHEET_LEGEND_CTL i) 4 → ∀ clearBad : Bool,
        let u := if clearBad then s.setFld (SHEET_LEGEND_CTL_bad i) 0 else s
        (s.engIdle i 0 = true → exec (.legendRestore ag i clearBad) s = .next
          (({ u with csr := smClear (SHEET_LEGEND i 0) (SHEET_LEGEND i 512) u.csr } : State).answer 0 []))
        ∧ (s.engIdle i 0 = false → exec (.legendRestore ag i clearBad) s = .next
          ((u.raise 0x1011 (unitSheet i) 0 0).answer 0 [])))
    ∧ (∀ (e : Engine) (v : Word),
        let n := engNo e
        (Writable s ag (SHEET_Q_TAIL i n) 4 →
          let bad := 2 ^ 31 ≤ subMod 32 v.toNat (s.fld (SHEET_Q_TAIL_tail i n))
            ∨ s.fld (SHEET_Q_RING_size i n) < subMod 32 v.toNat (s.fld (SHEET_Q_HEAD_head i n))
          (¬ bad → exec (.qTailWrite ag i e v) s = .next ((s.setFld (SHEET_Q_TAIL_tail i n) v.toNat).answer 0 []))
          ∧ (bad → exec (.qTailWrite ag i e v) s = .next ((s.raise 0x2031 (unitSheet i) 0 0).answer 0 [])))
        ∧ (Writable s ag (SHEET_Q_RING i n) 4 →
          let base := bits v.toNat 0 11
          let size := bits v.toNat 12 12
          let good := s.engIdle i n = true ∧ s.fld (SHEET_Q_HEAD_head i n) = s.fld (SHEET_Q_TAIL_tail i n)
            ∧ size ≠ 0 ∧ base + size ≤ 2048
            ∧ ∀ k < 4, k ≠ n → ringsMeet base size (s.fld (SHEET_Q_RING_base i k)) (s.fld (SHEET_Q_RING_size i k)) = false
          (good → exec (.qRingWrite ag i e v) s = .next
            (((s.setFld (SHEET_Q_RING_base i n) base).setFld (SHEET_Q_RING_size i n) size).answer 0 []))
          ∧ (¬ good → exec (.qRingWrite ag i e v) s = .next ((s.raise 0x2030 (unitSheet i) 0 0).answer 0 []))))
    ∧ (∀ v : DWord,
        let lo := BitVec.ofNat 32 v.toNat
        let hi := BitVec.ofNat 32 (v.toNat / 2 ^ 32)
        (Writable s ag (SHEET_FLAGS i) 8 → exec (.sheetSyncWrite ag i .flags v) s = .next
          (((hold (hold s (SHEET_FLAGS i) lo) (SHEET_FLAGS i + 4) hi).dropLow [SHEET_FLAGS i]).answer 0 []))
        ∧ (∀ n : Fin 16, Writable s ag (SHEET_CT i n) 4 → exec (.sheetSyncWrite ag i (.ct n) v) s = .next
          ((hold s (SHEET_CT i n) lo).answer 0 []))
        ∧ (∀ m : Fin 8, Writable s ag (SHEET_CMP_CTL i m) 4 → exec (.sheetSyncWrite ag i (.cmpCtl m) v) s = .next
          ((hold s (SHEET_CMP_CTL i m) lo).answer 0 []))
        ∧ (∀ m : Fin 8, Writable s ag (SHEET_CMP_VAL i m) 8 → exec (.sheetSyncWrite ag i (.cmpVal m) v) s = .next
          (((hold (hold s (SHEET_CMP_VAL i m) lo) (SHEET_CMP_VAL i m + 4) hi).dropLow [SHEET_CMP_VAL i m]).answer 0 [])))
    ∧ (Writable s ag (SHEET_CTL i) 4 → ∀ run : Bool,
        exec (.sheetRun ag i run) s = .next
          ((s.plainWrite (SHEET_CTL i) (s.withBits (SHEET_CTL i) 0 1 (b2n run))).answer 0 []))
    ∧ (∀ (b : Fin 4) (v : Word), Writable s ag (SHEET_CONTOUR_CFG i b) 4 →
        exec (.contourCfgWrite ag i b v) s = .next ((hold s (SHEET_CONTOUR_CFG i b) v).answer 0 []))
    ∧ (Writable s ag (SHEET_SAFE_CTL i) 4 → ∀ m : BitVec 4,
        let c := s.withBits (SHEET_SAFE_CTL i) 8 4 m.toNat
        let d := s.withBits (SHEET_SAFE_CTL i) 12 4 m.toNat
        let u : Nat → State := fun v => s.setFld (SHEET_SAFE_CTL_calib i) (bits v 0 1)
        (bits c 8 8 ≠ 0 → exec (.contourClear ag i m) s = .next
          ((hold (u c) (SHEET_SAFE_CTL i) (BitVec.ofNat 32 c)).answer 0 []))
        ∧ (bits c 8 8 = 0 → exec (.contourClear ag i m) s = .next ((u c).answer 0 []))
        ∧ (bits d 8 8 ≠ 0 → exec (.satClear ag i m) s = .next
          ((hold (u d) (SHEET_SAFE_CTL i) (BitVec.ofNat 32 d)).answer 0 []))
        ∧ (bits d 8 8 = 0 → exec (.satClear ag i m) s = .next ((u d).answer 0 [])))

/-- A step boundary: retirements, mesh increments, held register writes, then waits (R91, R135, R136, R137, R138,
R140, R173, chapters 04, 06 and 07). At a step boundary a sheet that is up samples the time counter, never backwards,
then retires in engine order the head words that are done, applies the mesh increments received, applies the register
writes held, and last checks new head words and evaluates waits in engine order. A sheet that is not up does nothing.
A flag wait asks for its flag set (or clear); a counter wait for at least its count, 0 meaning 65,536; an arrival wait
for at least its count of the arrivals that this sheet's boundaries have seen; consuming waits clear the flag or
subtract the count. Retiring sets or clears the flag of its signal, adds to a sheet counter, to a comparator (past
2^64 a free value) or to an arrival counter. -/
def Obligations.StepBoundariesRunInOrder : Prop :=
  ∀ (s : State) (i : Sheet) (lag : Lag),
    (s.sheetUp i = false → exec (.stepBoundary i lag) s = .next s)
    ∧ (s.sheetUp i = true →
        let a := iter 4 (fun e t => t.retire i e) (s.sample i lag)
        let b := (a.applyIncs i).applyWrites i
        exec (.stepBoundary i lag) s = .next (iter 4 (fun e t => t.evalHead i e) b))
    ∧ (Sound s → (s.sheet i).time ≤ ((s.sample i lag).sheet i).time)
    ∧ (∀ x < 64, ∀ c, s.waitHolds i (0x1000 + x, c) = s.flagN i x
        ∧ s.waitHolds i (0x2000 + x, c) = !s.flagN i x ∧ s.waitHolds i (0x3000 + x, c) = s.flagN i x
        ∧ s.consume i (0x1000 + x, c) = s ∧ s.consume i (0x2000 + x, c) = s
        ∧ s.consume i (0x3000 + x, c) = s.setFlagN i x false)
    ∧ (∀ x < 16, ∀ c,
        (s.waitHolds i (0x4000 + x, c) = true ↔ (if c = 0 then 65536 else c) ≤ s.ct i x)
        ∧ s.consume i (0x4000 + x, c) = s.setFld (SHEET_CT_count i x) (s.ct i x - (if c = 0 then 65536 else c)))
    ∧ (∀ x < 8, ∀ c, s.waitHolds i (0x5000 + x, c) = s.cmpTrue i x ∧ s.consume i (0x5000 + x, c) = s)
    ∧ (∀ x < 4096, ∀ c, (s.waitHolds i (0x8000 + x, c) = true ↔
          (if c = 0 then 65536 else c) ≤ s.ac x - s.acUnseen i x)
        ∧ s.consume i (0x8000 + x, c) = s)
    ∧ (∀ (w : QWord) (c : Nat),
        let n := if c = 0 then 65536 else c
        (∀ x < 64, (w.signal = (0x1000 + x, c) → s.applySignal i w = s.setFlagN i x true)
          ∧ (w.signal = (0x2000 + x, c) → s.applySignal i w = s.setFlagN i x false))
        ∧ (∀ x < 16, w.signal = (0x4000 + x, c) → s.applySignal i w = s.ctAdd i x n w.tag)
        ∧ (∀ x < 8, w.signal = (0x6000 + x, c) → 
            let v := s.fld (SHEET_CMP_VAL_value i x) + n
            (v < 2 ^ 64 → s.applySignal i w = s.setFld (SHEET_CMP_VAL_value i x) v)
            ∧ (2 ^ 64 ≤ v → ∃ y, s.applySignal i w =
                ({ s with free := s.free + 1 } : State).setFld (SHEET_CMP_VAL_value i x) y))
        ∧ (∀ x < 4096, w.signal = (0x8000 + x, c) →
            let t := s.digest i w.tag 2 x w.twin (leBytes 4 n)
            s.applySignal i w = if t.suppressed i then t else t.acRelease i x n w.tag))

/-- The next 64 bytes of an engine's ring enter its queue (R161, R162, R128, R414, chapters 05 and 06). A word is
fetched where the sheet is up, is not a suppressed twin, its head is not its tail and its queue has room: the 64 bytes
at slot base + head mod size of the control store, and the head moves on by one, on both dies in twin mode. A word
whose bytes hold an uncorrectable error halts the engine with 0x6112. Otherwise nothing changes. Clauses resting on a
choice or an inference of the model: log entries 21, 29, 93. -/
def Obligations.WordsAreFetchedFromTheirRing : Prop :=
  ∀ (s : State) (i : Sheet) (eng : Engine) (ecc : Ecc),
    let e := engNo eng
    let head := s.fld (SHEET_Q_HEAD_head i e)
    let size := max (s.fld (SHEET_Q_RING_size i e)) 1
    let off := 0x380000 + 64 * ((s.fld (SHEET_Q_RING_base i e) + head % size) % 2048)
    let can := s.sheetUp i = true ∧ s.suppressed i = false ∧ s.fld (SHEET_Q_TAIL_tail i e) ≠ head
      ∧ ((s.sheet i).queue e).length < 64
    (¬ can → exec (.wordFetch i eng ecc) s = .next s)
    ∧ (can →
        (∀ t x, s.sheetEcc i ecc (storeUnits off 64) = (t, some x) →
          exec (.wordFetch i eng ecc) s = .next (t.haltEngine i e 0x6112 0 0))
        ∧ (∀ t, s.sheetEcc i ecc (storeUnits off 64) = (t, none) →
          let w : QWord := { num := head, raw := leNat ((t.sheet i).read off 64) }
          let push : State → Nat → State := fun u j =>
            (u.modSheet j fun x => x.setQueue e (x.queue e ++ [w])).setFld (SHEET_Q_HEAD_head j e)
              ((head + 1) % 2 ^ 32)
          exec (.wordFetch i eng ecc) s = .next (if s.twinOn then push (push t i) (twinOf i) else push t i)))

/-- One iteration of each lane operation: 64 results into the destination register, and the flags of its lanes (R110,
R111, R112, R144, R151, chapters 05 and 06). For each of the 16 lane operations: where the head vector word executes
and is that operation, its registers numbered by the iteration's strides are read, each lane's result is written to
the destination register and no other, the flags nan_made and overflow are set where a lane says so, and one iteration
is complete. With an uncorrectable error read the engine halts instead; where the head word is not that operation the
command changes nothing. Clauses resting on a choice or an inference of the model: log entries 18, 21. -/
def Obligations.LaneOperationsWriteTheirRegister : Prop :=
  ∀ (s : State) (i : Sheet) (ecc : Ecc),
    let k : QWord → Nat := fun w => w.iter * w.f 196 4
    let va : QWord → Nat := fun w => vregOff (w.f 169 9 + k w)
    let vb : QWord → Nat := fun w => vregOff (w.f 178 9 + k w)
    let vc : QWord → Nat := fun w => vregOff (w.f 187 9 + k w)
    let made : State → Nat → (Nat → Nat → Nat → Lane) → QWord → State := fun t op f w =>
      let lane : Nat → Nat → Nat := fun v l => leField ((t.sheet i).read v 256) (4 * l) 4
      let ls := (List.range 64).map fun l =>
        f (lane (va w) l) (if op ≤ 7 then lane (vb w) l else 0) (if op = 0 then lane (vc w) l else 0)
      ((t.setVreg i (w.f 160 9 + k w) (ls.map (·.code))).laneFlags i ls).advance i 1 w
    let row : Instr → Nat → (Nat → Nat → Nat → Lane) → Prop := fun c op f =>
      (s.running i 1 0 = none → exec c s = .next s)
      ∧ ∀ w, s.running i 1 0 = some w →
        (w.f 200 8 ≠ op → exec c s = .next s)
        ∧ (w.f 200 8 = op →
            let units := storeUnits (va w) 256 ++ (if op ≤ 7 then storeUnits (vb w) 256 else [])
              ++ (if op = 0 then storeUnits (vc w) 256 else [])
            (∀ t, s.engEcc i 1 w ecc units = (t, false) → exec c s = .next t)
            ∧ (∀ t, s.engEcc i 1 w ecc units = (t, true) → exec c s = .next (made t op f w)))
    let at_ : QWord → Nat → Prop := fun w op => s.running i 1 0 = some w ∧ w.f 200 8 = op
    row (.vxFma i ecc) 0x00 fma32
    ∧ row (.vxAdd i ecc) 0x01 (fun a b _ => add32 a b)
    ∧ row (.vxMul i ecc) 0x02 (fun a b _ => mul32 a b)
    ∧ row (.vxMin i ecc) 0x03 (fun a b _ => minMax32 false a b)
    ∧ row (.vxMax i ecc) 0x04 (fun a b _ => minMax32 true a b)
    ∧ row (.vxCmpLt i ecc) 0x05 (fun a b _ => cmp32 (fun x y => decide (x < y)) a b)
    ∧ row (.vxCmpLe i ecc) 0x06 (fun a b _ => cmp32 (fun x y => decide (x ≤ y)) a b)
    ∧ row (.vxCmpEq i ecc) 0x07 (fun a b _ => cmp32 (fun x y => decide (x = y)) a b)
    ∧ row (.vxNarrowBf16 i ecc) 0x08 (fun a _ _ => narrowLane a)
    ∧ row (.vxWidenBf16 i ecc) 0x09 (fun a _ _ => { code := widenBf16 (a % 65536) })
    ∧ row (.vxExp2 i ecc) 0x10 (fun a _ _ => exp2Ref a)
    ∧ row (.vxLog2 i ecc) 0x11 (fun a _ _ => log2Ref a)
    ∧ row (.vxRcp i ecc) 0x12 (fun a _ _ => rcpRef a)
    ∧ row (.vxRsqrt i ecc) 0x13 (fun a _ _ => rsqrtRef a)
    ∧ row (.vxTanh i ecc) 0x14 (fun a _ _ => tanhRef a)
    ∧ row (.vxErf i ecc) 0x15 (fun a _ _ => erfRef a)
    ∧ (∀ w, at_ w 0x00 → exec (.vxFma i .clean) s = .next (made s 0x00 fma32 w))
    ∧ (∀ w, at_ w 0x01 → exec (.vxAdd i .clean) s = .next (made s 0x01 (fun a b _ => add32 a b) w))
    ∧ (∀ w, at_ w 0x02 → exec (.vxMul i .clean) s = .next (made s 0x02 (fun a b _ => mul32 a b) w))
    ∧ (∀ w, at_ w 0x03 → exec (.vxMin i .clean) s = .next (made s 0x03 (fun a b _ => minMax32 false a b) w))
    ∧ (∀ w, at_ w 0x04 → exec (.vxMax i .clean) s = .next (made s 0x04 (fun a b _ => minMax32 true a b) w))
    ∧ (∀ w, at_ w 0x05 → exec (.vxCmpLt i .clean) s = .next (made s 0x05 (fun a b _ => cmp32 (fun x y => decide (x < y)) a b) w))
    ∧ (∀ w, at_ w 0x06 → exec (.vxCmpLe i .clean) s = .next (made s 0x06 (fun a b _ => cmp32 (fun x y => decide (x ≤ y)) a b) w))
    ∧ (∀ w, at_ w 0x07 → exec (.vxCmpEq i .clean) s = .next (made s 0x07 (fun a b _ => cmp32 (fun x y => decide (x = y)) a b) w))
    ∧ (∀ w, at_ w 0x08 → exec (.vxNarrowBf16 i .clean) s = .next (made s 0x08 (fun a _ _ => narrowLane a) w))
    ∧ (∀ w, at_ w 0x09 → exec (.vxWidenBf16 i .clean) s = .next (made s 0x09 (fun a _ _ => { code := widenBf16 (a % 65536) }) w))
    ∧ (∀ w, at_ w 0x10 → exec (.vxExp2 i .clean) s = .next (made s 0x10 (fun a _ _ => exp2Ref a) w))
    ∧ (∀ w, at_ w 0x11 → exec (.vxLog2 i .clean) s = .next (made s 0x11 (fun a _ _ => log2Ref a) w))
    ∧ (∀ w, at_ w 0x12 → exec (.vxRcp i .clean) s = .next (made s 0x12 (fun a _ _ => rcpRef a) w))
    ∧ (∀ w, at_ w 0x13 → exec (.vxRsqrt i .clean) s = .next (made s 0x13 (fun a _ _ => rsqrtRef a) w))
    ∧ (∀ w, at_ w 0x14 → exec (.vxTanh i .clean) s = .next (made s 0x14 (fun a _ _ => tanhRef a) w))
    ∧ (∀ w, at_ w 0x15 → exec (.vxErf i .clean) s = .next (made s 0x15 (fun a _ _ => erfRef a) w))

/-- One iteration of a matrix word, of a tile load and of an outlier-add word (R28, R32, R34, R56, R88, R103, R104,
R105, R149, R153, chapters 03 and 05). A matrix word whose rows do not hold its datum halts with 0x1020 and sets
datum_err. With its tile in the latches and no error read, each of the 256 columns of its row becomes its former
entry, or a cleared one at the first visit of a clearing word, plus the exact sum of the products of the activation
vector with the column's weights under both block scales; zeroed products are counted, the step count grows, and one
iteration is complete. A tile load brings 2 KiB into the shadow latch. An outlier word adds its two records' residuals
times the weights of their rows. Clauses resting on a choice or an inference of the model: log entries 18, 19, 20, 21,
93. -/
def Obligations.MatrixAndOutlierWordsAddExactly : Prop :=
  ∀ (s : State) (i : Sheet) (ecc : Ecc),
    (s.running i 0 0 = none → exec (.mxMatrix i ecc) s = .next s)
    ∧ (s.running i 1 0x11 = none → exec (.vxOutlierAdd i ecc) s = .next s)
    ∧ (s.tileWord i = none → exec (.tileLoad i ecc) s = .next s)
    ∧ (∀ w, s.running i 0 0 = some w →
        let bad := w.iter = 0 ∧ w.f 283 1 = 0 ∧ ∃ r ∈ w.mxRows, (s.sheet i).rowDatum r w.mxDatum = false
        (bad → exec (.mxMatrix i ecc) s = .next
          ((s.setFld (SHEET_ACC_FLAGS_datum_err i) 1).haltEngine i 0 0x1020 w.tag 0))
        ∧ (¬ bad → (s.sheet i).takeTile w = none → exec (.mxMatrix i ecc) s = .next s)
        ∧ (¬ bad → ∀ tile x', (s.sheet i).takeTile w = some (tile, x') →
            let x := s.sheet i
            let side := if w.iter = 0 then x.read (w.f 160 22) (sideBytes (w.f 248 4) (w.f 256 2) (w.f 260 1)) else w.latch
            let o : WOperand := { wfmt := w.f 248 4, wscale := w.f 256 2, lmode := w.f 260 1, slot := w.f 261 6
                                  data := tile.data, side := side }
            let clear : Bool := w.f 283 1 == 1 && w.firstVisit w.iter
            ∀ t, s.engEcc i 0 w ecc (w.mxUnits w.iter o clear) = (t, true) →
              let parts : Nat → List Contribution := fun c =>
                columnParts (t.legend i) o (x.vector w w.iter).1 (x.vector w w.iter).2 (blockLen (w.f 258 2)) c
                  w.mxDatum.toInt
              let old : Nat → AccEntry := fun c =>
                if clear then AccEntry.clear w.mxDatum else x.entry (256 * w.mxRow w.iter + c)
              let new : Nat → AccEntry := fun c =>
                let p := Contribution.sum (parts c)
                (old c).add p.q p.ovf p.under p.inv
              let u := (t.modSheet i fun y => { y with active := x'.active, shadow := x'.shadow }).putEntries i
                ((List.range 256).map fun c => (256 * w.mxRow w.iter + c, old c, new c))
              let v := u.count (SHEET_UNDER_CNT_count i)
                (((List.range 256).map fun c => ((parts c).filter (·.toZero)).length).foldl (· + ·) 0)
              exec (.mxMatrix i ecc) s = .next ((v.setFld (SHEET_MX_STEPS_count i)
                ((v.fld (SHEET_MX_STEPS_count i) + mxSteps (w.f 248 4) (w.f 252 4)) % 2 ^ 64)).advance i 0
                  { w with latch := side })))
    ∧ (∀ w, s.tileWord i = some w →
        let fresh : Tile := { half := w.f 247 1, tile := w.f 240 7, wfmt := w.f 248 4, data := [], loaded := 0 }
        let tile := match (s.sheet i).shadow with
          | some u => if u.names w then u else fresh
          | none => fresh
        let off := halfBase tile.half + 2048 * (tile.tile + tile.loaded)
        (tile.complete = true → exec (.tileLoad i ecc) s = .next s)
        ∧ (tile.complete = false → ∀ t, s.engEcc i 0 w ecc (storeUnits off 2048) = (t, true) →
            exec (.tileLoad i ecc) s = .next (t.modSheet i fun x =>
              { x with shadow := some { tile with data := tile.data ++ x.read off 2048, loaded := tile.loaded + 1 }
                       moved := true })))
    ∧ (∀ w, s.running i 1 0x11 = some w →
        let x := s.sheet i
        let row := w.f 191 3
        let datum := BitVec.ofNat 10 (w.f 181 10)
        let bad := w.iter = 0 ∧ x.rowDatum row datum = false
        let wf := w.f 168 4
        let base := halfBase (w.f 167 1) + 2048 * w.f 160 7
        let side := if w.iter = 0 then x.read (w.f 80 22) (sideBytes wf (w.f 172 2) (w.f 174 1)) else w.latch
        let o : WOperand := { wfmt := wf, wscale := w.f 172 2, lmode := w.f 174 1, slot := w.f 175 6
                              data := x.read base (tileBytes wf), side := side }
        let off := ((w.agd 0).at w.iter).toNat
        let recs := (List.range 2).filterMap fun k => residualAt (x.read off 8) k
        let blk := (w.f 194 4 + w.iter) % (tileRows wf / 32)
        let units := storeUnits off 8 ++ (if w.iter = 0 then storeUnits (w.f 80 22) side.length else [])
          ++ recs.flatMap (fun r => weightUnits base wf (32 * blk + r.2)) ++ o.legendUnits ++ rowUnits row
        (bad → exec (.vxOutlierAdd i ecc) s = .next
          ((s.setFld (SHEET_ACC_FLAGS_datum_err i) 1).haltEngine i 1 0x1020 w.tag 0))
        ∧ (¬ bad → ∀ t, s.engEcc i 1 w ecc units = (t, true) →
            let before := (List.range 256).map fun c => (x.entry (256 * row + c), 0)
            let after := recs.foldl
              (fun es r => addResidual (t.legend i) o datum.toInt r.1 (32 * blk + r.2) es) before
            let u := t.putEntries i ((before.zip after).zipIdx.map fun e => (256 * row + e.2, e.1.1.1, e.1.2.1))
            exec (.vxOutlierAdd i ecc) s = .next ((u.count (SHEET_UNDER_CNT_count i)
              ((after.map (·.2)).foldl (· + ·) 0)).advance i 1 { w with latch := side })))

/-- One iteration of conversion, guard report, guard decide, contour drain, mark read, vector load and vector store
(R79, R80, R83, R90, R93, R94, R95, R150, R152, R153, R209, chapters 04 and 06). Conversion writes two blocks' codes,
scales and outlier records and counts what they did. Guard report puts the saturation count, which is cleared, into a
block's first entry and zeros into the rest. Guard decide takes the guard where a mark stands or the first entry is
above the limit: counted, flag and latch written, HOLD raised, unless calibrating. Contour drain adds and clears the
64 bins. Mark read writes 64 entries' datums and marks; vector load and store move a register, widening or narrowing
BF16 where asked. Where the head word is of another class the command changes nothing. Clauses resting on a choice or
an inference of the model: log entries 18, 21, 26, 27, 94. -/
def Obligations.ConversionGuardAndMarkWords : Prop :=
  ∀ (s : State) (i : Sheet) (ecc : Ecc),
    let acc : Nat → Nat → List (Nat × Nat) := fun n k => (List.range k).map fun j => (3, 0x3A0000 + 24 * (n + j))
    (s.running i 1 0x10 = none → exec (.vxConvert i ecc) s = .next s)
    ∧ (s.running i 1 0x19 = none → exec (.vxGuardReport i) s = .next s)
    ∧ (s.running i 1 0x1A = none → exec (.vxGuardDecide i ecc) s = .next s)
    ∧ (s.running i 1 0x18 = none → exec (.vxContourDrain i ecc) s = .next s)
    ∧ (s.running i 1 0x12 = none → exec (.vxMarkRead i ecc) s = .next s)
    ∧ (s.running i 1 1 = none → exec (.vxLoad i ecc) s = .next s)
    ∧ (s.running i 1 2 = none → exec (.vxStore i ecc) s = .next s)
    ∧ (∀ w t, s.running i 1 0x10 = some w → s.engEcc i 1 w ecc (acc (w.f 174 11 + 64 * w.iter) 64) = (t, true) →
        let es := (List.range 64).map fun j => (t.sheet i).entry (w.f 174 11 + 64 * w.iter + j)
        let bs := t.convBlocks i w w.iter es
        let u := t.convCounts i w bs
        let v := if w.f 168 3 = 0 then u
          else u.tally i (w.f 168 3 - 4) (es.map fun e => (e.inv, e.a.natAbs, e.d))
        exec (.vxConvert i ecc) s = .next
          (((w.convWrites w.iter bs).foldl (fun z p => z.modSheet i fun x => x.write p.1 p.2) v).advance i 1 w))
    ∧ (∀ w, s.running i 1 0x19 = some w →
        let n := s.fld (SHEET_SAT_count i (w.f 160 2))
        let u := s.setFld (SHEET_SAT_count i (w.f 160 2)) 0
        let first := 256 * w.f 162 3 + 32 * w.f 165 3
        exec (.vxGuardReport i) s = .next ((u.putEntries i ((List.range 32).map fun j =>
          let e : AccEntry := if j = 0 then { val := BitVec.ofNat 192 n } else {}
          (first + j, e, e))).advance i 1 w))
    ∧ (∀ w t, s.running i 1 0x1A = some w →
        let first := 256 * w.f 160 3 + 32 * w.f 163 3
        s.engEcc i 1 w ecc (acc first 32) = (t, true) →
        let marked : Bool := (List.range 32).any fun j =>
          let e := (t.sheet i).entry (first + j)
          e.ovf || e.under || e.inv
        let a := if marked then t.raise 0x1044 (unitSheet i) w.tag 0 else t
        let take : Bool := marked || decide (((t.sheet i).entry first).a > (w.f 172 32 : Nat))
        let calib := a.flag (SHEET_SAFE_CTL_calib i)
        let b := if take then
            a.count (if calib then SHEET_GUARD_CNT_would i else SHEET_GUARD_CNT_taken i) 1
          else a
        let g : Bool := take && !calib
        let c := (b.setFlagN i (w.f 166 6) g).guardLatch i w g
        let d := if g then
            let z := c.digest i w.tag 4 0 w.twin []
            if z.suppressed i then z else z.raiseHold w.tag
          else c
        exec (.vxGuardDecide i ecc) s = .next (d.advance i 1 w))
    ∧ (∀ w t, s.running i 1 0x18 = some w →
        let base := ((w.agd 0).at 0).toNat
        s.engEcc i 1 w ecc (storeUnits base 512) = (t, true) →
        exec (.vxContourDrain i ecc) s = .next
          ((iter 64 (fun k z => z.drainBin i (w.f 160 2) base k) t).advance i 1 w))
    ∧ (∀ w t, s.running i 1 0x12 = some w → s.engEcc i 1 w ecc (acc (w.f 169 11 + 64 * w.iter) 64) = (t, true) →
        exec (.vxMarkRead i ecc) s = .next ((t.setVreg i (w.f 160 9 + w.iter * w.f 180 4)
          ((List.range 64).map fun l => markWord ((t.sheet i).entry (w.f 169 11 + 64 * w.iter + l)))).advance i 1 w))
    ∧ (∀ w t, s.running i 1 1 = some w →
        let off := ((w.agd 0).at w.iter).toNat
        let v := w.f 160 9 + w.iter * w.f 170 4
        let half := w.f 169 1 = 1
        s.engEcc i 1 w ecc (storeUnits off (if half then 128 else 256)) = (t, true) →
        let bs := (t.sheet i).read off (if half then 128 else 256)
        exec (.vxLoad i ecc) s = .next ((t.setVreg i v ((List.range 64).map fun l =>
          if half then widenBf16 (leField bs (2 * l) 2) else leField bs (4 * l) 4)).advance i 1 w))
    ∧ (∀ w t, s.running i 1 2 = some w →
        let off := ((w.agd 0).at w.iter).toNat
        let v := w.f 160 9 + w.iter * w.f 170 4
        s.engEcc i 1 w ecc (storeUnits (vregOff v) 256) = (t, true) →
        let codes := (t.sheet i).vreg v
        let ls := codes.map narrowLane
        (w.f 169 1 = 1 → exec (.vxStore i ecc) s = .next (((t.laneFlags i ls).modSheet i fun x =>
          x.write off (ls.flatMap fun l => leBytes 2 l.code)).advance i 1 w))
        ∧ (w.f 169 1 ≠ 1 → exec (.vxStore i ecc) s = .next ((t.modSheet i fun x =>
          x.write off (codes.flatMap (leBytes 4))).advance i 1 w)))

/-- One iteration of a copy move, a reduce move and a legend load (R43, R45, R121, R122, R123, R154, R155, R205,
chapters 02, 05 and 06). What moves passes the egress buffer of its sheet and the ingress buffer of the one it goes
to, which keep its last 4,096 bytes. A copy move's bytes go to its destination sheet's window or into staging; a
reduce move packs its blocks of 32 entries and adds them at the destination, or marks the entries invalid where the
datums differ, or stages them with their escapes behind, where neither side's entries hold an error; the last
iteration counts the move as sent and puts its increment on the way. A legend load with an entry that is not valid
loads nothing and records it; else it loads one slot of 16 entries. A move to a sheet that is not up, and a legend
load while the matrix engine executes, wait. Clauses resting on a choice or an inference of the model: log entries 18,
21, 22, 23, 25, 112. -/
def Obligations.MoveWordsReachTheirDestination : Prop :=
  ∀ (s : State) (i : Sheet) (ecc : Ecc),
    (s.running i 2 0 = none → exec (.mvCopy i ecc) s = .next s)
    ∧ (s.running i 2 1 = none → exec (.mvReduce i ecc) s = .next s)
    ∧ (s.running i 2 2 = none → exec (.mvLegendLoad i ecc) s = .next s)
    ∧ (∀ w, s.running i 2 0 = some w →
        let dest := s.moveDest i w
        let len := countOf (w.f 194 16)
        let src := ((w.agd 0).at w.iter).toNat
        (w.f 169 1 = 0 → s.sheetUp dest = false → exec (.mvCopy i ecc) s = .next s)
        ∧ (∀ t, s.engEcc i 2 w ecc (storeUnits src len) = (t, true) →
            let bs := (t.sheet i).read src len
            (w.f 169 1 = 1 → exec (.mvCopy i ecc) s = .next
              ((((t.meshPass i none bs).moveStage i w (w.f 170 24 * 256 + w.iter * len) bs).moveEnd i w).advance i 2 w))
            ∧ (w.f 169 1 = 0 → s.sheetUp dest = true → exec (.mvCopy i ecc) s = .next
              ((((t.meshPass i (some dest) bs).modSheet dest fun x =>
                x.write ((w.agd 80).at w.iter).toNat bs).moveEnd i w).advance i 2 w))))
    ∧ (∀ (t : State) (bs : List Byte), t.meshPass i none bs =
        t.modSheet i fun x => { x with egress := (x.egress ++ bs).drop ((x.egress ++ bs).length - 4096) })
    ∧ (∀ w, s.running i 2 1 = some w →
        let dest := s.moveDest i w
        let len := countOf (w.f 194 16)
        let src := ((w.agd 0).at w.iter).toNat / 24
        let dst := ((w.agd 80).at w.iter).toNat / 24
        let n := 32 * len
        let units : Nat → List (Nat × Nat) := fun e => (List.range n).map fun j => (3, 0x3A0000 + 24 * (e + j))
        (w.f 169 1 = 0 → s.sheetUp dest = false → exec (.mvReduce i ecc) s = .next s)
        ∧ (∀ a t, s.engEcc i 2 w ecc (units src) = (a, true) → (w.f 169 1 = 1 → t = a) →
            (w.f 169 1 = 0 → a.sheetEcc dest (eccFrom n ecc) (units dst) = (t, none)) →
            let ps := (t.sheet i).packed src len (w.f 215 8)
            let k := (ps.filter (·.esc.isSome)).length
            let bytes := ps.flatMap fun p => p.main ++ p.esc.getD []
            let w' : QWord := { w with esc := w.esc + k }
            (w.f 169 1 = 1 → exec (.mvReduce i ecc) s = .next
              (((((t.meshPass i none bytes).count (SHEET_ESC_CNT_escaped i) k).reduceStage i w len ps).moveEnd i w).advance
                i 2 w'))
            ∧ (w.f 169 1 = 0 → s.sheetUp dest = true →
                let u := (t.meshPass i (some dest) bytes).count (SHEET_ESC_CNT_escaped i) k
                let mis := w.iter = 0 ∧ ((u.sheet dest).entry dst).datum ≠ ((t.sheet i).entry src).datum
                (mis →
                  let b : QWord := { w with bad := true }
                  exec (.mvReduce i ecc) s = .next ((((((u.setFld (SHEET_ACC_FLAGS_datum_err dest) 1).count
                    (SHEET_MESH_STAT_bad dest) 1).raise 0x1020 (unitSheet dest) w.tag 0).reduceAt dest dst w.tag true
                      ps).moveEnd i b).advance i 2 { b with esc := w.esc + k }))
                ∧ (¬ mis → exec (.mvReduce i ecc) s = .next
                  (((u.reduceAt dest dst w.tag w.bad ps).moveEnd i w).advance i 2 w')))))
    ∧ (∀ w, s.running i 2 2 = some w →
        let off : Nat → Nat := fun k => ((w.agd 0).at k).toNat
        let units := if w.iter = 0 then (List.range w.rep).flatMap fun k => storeUnits (off k) 32
          else storeUnits (off w.iter) 32
        (s.mxBusy i = true → exec (.mvLegendLoad i ecc) s = .next s)
        ∧ (s.mxBusy i = false → ∀ t, s.engEcc i 2 w ecc units = (t, true) →
            (∀ slot e, w.iter = 0 → (t.sheet i).badLegend w = some (slot, e) → exec (.mvLegendLoad i ecc) s = .next
              ((t.legendRefuse i slot e w.tag).advance i 2 { w with bad := true }))
            ∧ (w.bad = true → w.iter ≠ 0 → exec (.mvLegendLoad i ecc) s = .next (t.advance i 2 w))
            ∧ (w.bad = false → (w.iter = 0 → (t.sheet i).badLegend w = none) → exec (.mvLegendLoad i ecc) s = .next
              ((t.loadSlot i (w.f 223 6 + w.iter) ((t.sheet i).read (off w.iter) 32)).advance i 2 w))))

/-- One iteration of load, store, control load and overlay load; the sheet scrub and the end of a clear (R89, R97,
R98, R99, R107, R129, R130, R156, R157, R158, chapters 05 and 06). A load that would write a busy stream buffer half
waits, counted once per word; otherwise the bytes read go to the sheet's window, are tallied where the store's scales
hold no error, and one iteration is complete. A store's bytes go to device memory at its address, or to the companion
behind it; in calibration a store to a companion is dropped and counted. A control load waits for room in its ring and
then writes the words at the tail. An overlay load whose slot names no overlay is skipped, one whose entry is not
valid halts with 0x1042, one past its layers with 0x1043, and one whose descriptor is read goes on as a load. A scrub
read moves to the next unit at the multiple of 64 ticks that is now or comes next, once for each; clearing ends when
it is done. Clauses resting on a choice or an inference of the model: log entries 18, 21, 28, 29, 90, 91. -/
def Obligations.StoreEngineWordsMoveTheirBytes : Prop :=
  ∀ (s : State) (i : Sheet) (ecc : Ecc),
    let loads : Instr → QWord → MemSide → Prop := fun c w m =>
      let off := ((w.agd 0).at w.iter).toNat
      (∀ t, s.stallAt i w m.len = some t → exec c s = .next t)
      ∧ (s.stallAt i w m.len = none →
          (∀ t, s.loadBytes i w (m.g.at w.iter).toNat m.len off ecc = (t, none) → exec c s = .next t)
          ∧ (∀ v t bs, s.loadBytes i w (m.g.at w.iter).toNat m.len off ecc = (v, some bs) →
              v.engEcc i 3 w (eccFrom (if s.suppressed i then 0 else readUnits (m.g.at w.iter).toNat m.len) ecc)
                (w.tallyUnits m.len) = (t, true) →
              let u := if t.suppressed i then t else t.deliver i off bs
              exec c s = .next ((u.loadTally i w bs).advance i 3 w)))
    (s.running i 3 0 = none → exec (.stLoad i ecc) s = .next s)
    ∧ (s.running i 3 1 = none → exec (.stStore i ecc) s = .next s)
    ∧ (s.running i 3 2 = none → exec (.stControlLoad i ecc) s = .next s)
    ∧ (s.running i 3 3 = none → exec (.stOverlayLoad i ecc) s = .next s)
    ∧ (∀ w, s.running i 3 0 = some w → loads (.stLoad i ecc) w w.memSide)
    ∧ (∀ w, s.running i 3 1 = some w → w.part = [] →
        let a := (w.memSide.g.at w.iter).toNat
        let n := w.memSide.len
        let off := ((w.agd 0).at w.iter).toNat
        ∀ t, s.engEcc i 3 w ecc (storeUnits off n) = (t, true) →
          let bs := (t.sheet i).read off n
          let u := t.digest i w.tag 1 a w.twin bs
          (inCompanion a = true → t.flag (SHEET_SAFE_CTL_calib i) = true → exec (.stStore i ecc) s = .next
            ((t.count (SHEET_CALIB_DROP_count i) 1).advance i 3 w))
          ∧ (inCompanion a = false ∨ t.flag (SHEET_SAFE_CTL_calib i) = false →
              (u.suppressed i = true → exec (.stStore i ecc) s = .next (u.advance i 3 w))
              ∧ (u.suppressed i = false → inCompanion a = false → u.touchesSched a bs.length = false →
                  exec (.stStore i ecc) s = .next ((u.devPut 0 a w.tag bs).advance i 3 w))
              ∧ (u.suppressed i = false → inCompanion a = false → u.touchesSched a bs.length = true →
                  exec (.stStore i ecc) s = .next ((u.raise 0x6010 (unitSheet i) w.tag 16).advance i 3 w))
              ∧ (u.suppressed i = false → inCompanion a = true → exec (.stStore i ecc) s = .next
                  (u.storeOut i w a bs))))
    ∧ (∀ w, s.running i 3 2 = some w →
        let q := w.f 255 2
        let tail := s.fld (SHEET_Q_TAIL_tail i q)
        let size := max (s.fld (SHEET_Q_RING_size i q)) 1
        let per := w.memSide.len / 64
        let full := w.iter = 0 ∧ size < subMod 32 tail (s.fld (SHEET_Q_HEAD_head i q)) + per * w.rep
        let slot : Nat → Nat := fun k =>
          0x380000 + 64 * (s.fld (SHEET_Q_RING_base i q) + (tail + w.iter * per + k) % 2 ^ 32 % size)
        (full → exec (.stControlLoad i ecc) s = .next s)
        ∧ (¬ full → s.suppressed i = false → ∀ t bs,
            s.loadBytes i w (w.memSide.g.at w.iter).toNat w.memSide.len 0 ecc = (t, some bs) → t.suppressed i = false →
            exec (.stControlLoad i ecc) s = .next
              ((iter per (fun k u => u.deliver i (slot k) ((bs.drop (64 * k)).take 64)) t).advance i 3 w)))
    ∧ (∀ w, s.running i 3 3 = some w →
        let slot := s.wiora.slots.getD (w.f 257 5) 0
        let e := s.ovl (slot % 1024)
        let u := s.ovlResolve (slot % 1024)
        let a := e.descAddr + 64 * w.f 262 16 + 32 * w.f 278 1
        (w.latch ≠ [] → loads (.stOverlayLoad i ecc) w (descSide w.latch))
        ∧ (w.latch = [] →
            (bit slot 15 = false → exec (.stOverlayLoad i ecc) s = .next (s.setHead i 3 { w with phase := .skipped }))
            ∧ (bit slot 15 = true → e.state ≠ 2 → exec (.stOverlayLoad i ecc) s = .next
                (s.haltEngine i 3 0x1042 w.tag (slot % 1024)))
            ∧ (bit slot 15 = true → e.state = 2 → e.layers ≤ w.f 262 16 → exec (.stOverlayLoad i ecc) s = .next
                (s.haltEngine i 3 0x1043 w.tag (slot % 1024)))
            ∧ (bit slot 15 = true → e.state = 2 → w.f 262 16 < e.layers → ∀ t d,
                u.fetch (.word i 3) a 32 w.tag ecc = (t, .got (.data d)) →
                (t.ovlFault w d = none → exec (.stOverlayLoad i ecc) s = .next (t.setHead i 3 { w with latch := d }))
                ∧ (∀ code, t.ovlFault w d = some code → exec (.stOverlayLoad i ecc) s = .next
                    (t.haltEngine i 3 code w.tag 0)))))
    ∧ (s.sheetUp i = false ∨ s.flag (SHEET_SCRUB_enable i) = false → exec (.sheetScrubRead i ecc) s = .next s)
    ∧ (s.sheetUp i = true → s.flag (SHEET_SCRUB_enable i) = true →
        let z := s.toTick (if (s.sheet i).scrubAt = some s.time.elapsed then s.nextAfter 0 64 else s.nextAt 0 64)
        let a := z.modSheet i fun x => { x with scrubAt := some z.time.elapsed }
        let k := (a.sheet i).scrub
        ∀ b, a.sheetEcc i ecc (storeUnits (8 * k) 8) = (b, none) →
          (k + 1 < 475136 → exec (.sheetScrubRead i ecc) s = .next (b.modSheet i fun x => { x with scrub := k + 1 }))
          ∧ (475136 ≤ k + 1 → exec (.sheetScrubRead i ecc) s = .next
              ((b.modSheet i fun x => { x with scrub := 0 }).setFld (SHEET_SCRUB_passes i)
                ((b.fld (SHEET_SCRUB_passes i) + 1) % 2 ^ 24))))
    ∧ (s.sheetUp i = true → exec (.sheetClearDone i) s = .next (s.setFld (SHEET_STATUS_clearing i) 0))
    ∧ (s.sheetUp i = false → exec (.sheetClearDone i) s = .next s)

/-- A read or a write of device memory, and of a sheet's window, by an agent or by an X request (R125, R126, R305,
R311, R314, R319, R324, R370, R373, R374, chapters 12 and 14). An access that lies in one region and has one of the
two forms reads the bytes, with status 0, or with status 3 and no data where a unit of them is poisoned; a write by
the owner stores them at its address with status 0. Any other form, and a write into the schedule window of the depot,
is refused with status 2: recorded, and nothing is stored. A write by an agent that does not own the module is counted
and answered with status 1. A write that would leave part of a poisoned unit standing is refused with 0x6022. A
sheet's window is the same memory at its own address: inside one window that is up, a read outside the reserved
regions answers the bytes of the store, and a write outside them and the accumulator bank changes those bytes. Clauses
resting on a choice or an inference of the model: log entries 9, 11, 21, 53. -/
def Obligations.DeviceMemoryAccesses : Prop :=
  ∀ (s : State) (who : Option Agent) (addr : BitVec 48) (ecc : Ecc),
    let ag := whoNo who
    let a := addr.toNat
    let runs : MemOp → State → Prop := fun req t =>
      exec (.agentMemoryAccess who addr req ecc) s = .next t
      ∧ ∀ (i : Sheet) (off : BitVec 22), winBase + i * winSize + off.toNat = a →
          exec (.sheetWindowAccess who i off req ecc) s = .next t
    (s.reaches ag = false → ∀ req, runs req s)
    ∧ (s.reaches ag = true →
        (∀ n, s.accessOk a n = false → runs (.read n) ((s.refuseAt a).answer 2 (List.replicate n 0xFF)))
        ∧ (∀ n, s.accessOk a n = true → inCompanion a = false →
            (∀ t bs, s.devGet ag a n 0 ecc = (t, .data bs) → runs (.read n) (t.answer 0 bs))
            ∧ (∀ t d, s.devGet ag a n 0 ecc = (t, .poison d) → runs (.read n) (t.answer 3 [])))
        ∧ (∀ bs, s.writeOk a bs.length = false → runs (.write bs) ((s.refuseAt a).answer 2 []))
        ∧ (∀ bs, s.writeOk a bs.length = true → s.nonOwner ag = true → runs (.write bs) ((s.ownRefuse ag).answer 1 []))
        ∧ (∀ bs, s.writeOk a bs.length = true → s.nonOwner ag = false → inCompanion a = false →
            (s.partPoison a bs.length = none → runs (.write bs) ((s.devPut ag a 0 bs).answer 0 []))
            ∧ (∀ u, s.partPoison a bs.length = some u →
              runs (.write bs) ((s.raise 0x6022 (unitDev (s.devOf u)) 0 (s.devOf u)).answer 2 [])))
        ∧ (∀ n, s.accessOk a n = true → inCompanion a = false → inWindows a = false →
            (unitsOf a n).all (fun u => !(s.waitRefresh a n).isPoison u) = true →
            exec (.agentMemoryAccess who addr (.read n) .clean) s = .next
              ((s.waitRefresh a n).answer 0 ((s.waitRefresh a n).memRead a n)))
        ∧ (∀ (i : Sheet) (off : BitVec 22), s.sheetUp i = true →
            let o := off.toNat
            let w := winBase + i * winSize + o
            (∀ n, s.accessOk w n = true → o + n ≤ winSize → touches 5 o n = false →
              exec (.sheetWindowAccess who i off (.read n) .clean) s = .next (s.answer 0 ((s.sheet i).read o n)))
            ∧ (∀ bs, s.writeOk w bs.length = true → s.nonOwner ag = false → s.partPoison w bs.length = none →
              s.twinOn = false → o + bs.length ≤ winSize → touches 3 o bs.length = false → touches 5 o bs.length = false →
              exec (.sheetWindowAccess who i off (.write bs) ecc) s = .next
                ((s.modSheet i fun x => x.write o bs).answer 0 []))))

/-- Storing bytes in device memory changes those bytes and no other, and what is read back is what was stored (R305,
R306, R314, chapter 12). For a memory in its canonical form: after bytes are stored at an address, each of those
addresses reads as the byte stored there and every other address reads as before; the memory keeps its form. Storing
changes no register, no poison mark and no other part of the state. Clauses resting on a choice or an inference of the
model: log entry 9. -/
def Obligations.MemoryBytesAreWhatWasStored : Prop :=
  ∀ (s : State) (a : Nat) (bs : List Byte), Sound s →
    (∀ x, smGet zeroByte (s.memWrite a bs).mem x
      = if a ≤ x ∧ x < a + bs.length then bs.getD (x - a) 0 else smGet zeroByte s.mem x)
    ∧ (s.memWrite a bs).memRead a bs.length = bs
    ∧ Sound (s.memWrite a bs)
    ∧ s.memWrite a bs = { s with mem := (s.memWrite a bs).mem }

/-- Refresh windows, the memory scrub, and the stager's descriptors and copies (R311, R315, R320, R321, R322, chapter
12). A refresh window begins at the device's next tick of the frame for it and lasts 384 ticks for a stack and 512 for
an MRDIMM. The scrub reads one unit at the multiple of its interval that is now or comes next, once for each, and goes
on to the next, back to the first after the last. The stager reads the descriptor at its head, waits until it is due,
and begins the copy or refuses it with 0x6032; poison in the descriptor refuses it with 0x6021. A copy done has its
bytes in the depot, advances its arrival counter, and moves the head on by one. Clauses resting on a choice or an
inference of the model: log entries 8, 28, 50, 51, 53. -/
def Obligations.RefreshScrubAndStager : Prop :=
  ∀ (s : State) (ecc : Ecc),
    (∀ d : Fin 16,
        let u := s.pass (((s.refreshAt d).1.map fun t => (t + 65536 - s.inFrame) % 65536).foldl min 65536)
        (s.refreshAt d).2 = (if d.val < 8 then 384 else 512)
        ∧ exec (.refreshWindow d) s = .next (u.modLoad fun l =>
          { l with refresh := smSet (fun _ => 0) l.refresh d (u.time.elapsed + (s.refreshAt d).2) }))
    ∧ (∀ d : Fin 17,
        let u := smGet (fun _ => 0) s.load.scrub d
        (s.flag MEM_SCRUB_enable = false → exec (.memoryScrubRead d ecc) s = .next s)
        ∧ (s.scrubUnit d u = none → exec (.memoryScrubRead d ecc) s = .next s)
        ∧ (s.flag MEM_SCRUB_enable = true → ∀ a n k, s.scrubUnit d u = some (a, n, k) →
            let m := ringSize (s.fld MEM_SCRUB_interval) 65536
            let z := s.toTick (if smGet (fun _ => none) s.load.scrubAt d = some s.time.elapsed then s.nextAfter 0 m
              else s.nextAt 0 m)
            let t := z.modLoad fun l => { l with scrubAt := smSet (fun _ => none) l.scrubAt d (some z.time.elapsed) }
            exec (.memoryScrubRead d ecc) s = .next ((t.memGet a k 0 ecc).1.modLoad fun l =>
              { l with scrub := smSet (fun _ => 0) l.scrub d (if u + 1 < n then u + 1 else 0) })))
    ∧ (s.load.stage.isSome = true ∨ s.fld MEM_STAGE_TAIL_tail = s.fld MEM_STAGE_HEAD_head →
        exec (.stageCopyStart ecc) s = .next s)
    ∧ (s.load.stage = none → s.fld MEM_STAGE_TAIL_tail ≠ s.fld MEM_STAGE_HEAD_head →
        let a := s.stageAddr (s.fld MEM_STAGE_HEAD_head)
        (∀ t d, s.fetch .stageRing a 32 0 ecc = (t, .got (.data d)) →
          let u := (t.toTick (t.stageDue d)).setFld MEM_STAGE_STAT_tag (leField d 22 3)
          (u.stageBad d = true → exec (.stageCopyStart ecc) s = .next
            (((u.setFld MEM_STAGE_STAT_err 1).raise 0x6032 unitStager (leField d 22 3) 0).stageNext))
          ∧ (u.stageBad d = false → exec (.stageCopyStart ecc) s = .next
            ((u.modLoad fun l => { l with stage := some d }).setFld MEM_STAGE_STAT_busy 1)))
        ∧ (∀ t d, s.fetch .stageRing a 32 0 ecc = (t, .got (.poison d)) → exec (.stageCopyStart ecc) s = .next
            (((t.setFld MEM_STAGE_STAT_err 1).raise 0x6021 unitStager 0 d).stageNext)))
    ∧ (s.load.stage = none → exec (.stageCopyDone ecc) s = .next s)
    ∧ (∀ d, s.load.stage = some d →
        let src := leField d 0 6
        let dst := 0x030000000000 + leField d 6 4 % 2 ^ 28
        let tag := leField d 22 3
        let t := (s.waitRefresh src (stageLen d)).memEcc src (stageLen d) tag ecc
        (unitsOf src (stageLen d)).filter t.isPoison = [] →
        exec (.stageCopyDone ecc) s = .next (((t.memPut dst tag (t.memRead src (stageLen d))).acAdd
          (leField d 14 2 % 4096) 1 tag).stageNext))

/-- The loader takes descriptors, absorbs 4 KiB responses, checks the digest and retries (R326, R327, R328, R329,
R330, R331, R332, R333, R341, R342, chapter 13). With a lane free and its tail ahead of its head the loader takes the
descriptor at the head: one that is refused records 0x6052 and fails its shard; another takes the first free lane and
its reads are sent. A response of 4,096 bytes to a read in flight is stored at its place, and when the last is in the
digest decides: verified, the counter advances; else the attempt fails. A response without data or of another length,
and an attempt's time limit, fail the attempt with 0x6050 and its reason; the third failure is a shard fault 0x6051
with the last failure's reason. Clauses resting on a choice or an inference of the model: log entries 49, 50, 51. -/
def Obligations.LoaderDescriptorsAndAttempts : Prop :=
  ∀ (s : State) (ecc : Ecc),
    ((∀ k < 64, s.lane k ≠ none) ∨ s.fld MEM_LOAD_TAIL_tail = s.fld MEM_LOAD_HEAD_head →
        exec (.loadDescriptorBegin ecc) s = .next s)
    ∧ (∀ k < 64, s.lane k = none → (∀ j < k, s.lane j ≠ none) → s.fld MEM_LOAD_TAIL_tail ≠ s.fld MEM_LOAD_HEAD_head →
        let head := s.fld MEM_LOAD_HEAD_head
        let a := s.fld MEM_LOAD_RING_base * 64 + 64 * (head % ringSize (s.fld MEM_LOAD_RING_size) 65536)
        ∀ t d, s.fetch .loadRing a 64 0 ecc = (t, .got (.data d)) →
          let u := t.setFld MEM_LOAD_HEAD_head (head + 1)
          (u.loadBad d = true → exec (.loadDescriptorBegin ecc) s = .next
            ((u.raise 0x6052 unitLoader (ldTag d) 0).shardFault (ldTag d) 1 0 0))
          ∧ (u.loadBad d = false → exec (.loadDescriptorBegin ecc) s = .next
            ((u.setLane k (some { num := head, desc := d, since := u.time.elapsed })).loadSend k)))
    ∧ (∀ (k : Fin 64) (o : BitVec 32),
        (s.lane k = none → exec (.loadResponse k o ecc) s = .next s ∧ exec (.loadAttemptTimeout k) s = .next s)
        ∧ (∀ x, s.lane k = some x →
            (x.flight.contains o.toNat = false ∨ s.loadAnswer k x.num o.toNat x.attempt = none →
              exec (.loadResponse k o ecc) s = .next s)
            ∧ (x.flight.contains o.toNat = true →
                (∀ t, s.loadAnswer k x.num o.toNat x.attempt = some (none, t) →
                  exec (.loadResponse k o ecc) s = .next (t.loadFail k 2))
                ∧ (∀ t bs, s.loadAnswer k x.num o.toNat x.attempt = some (some bs, t) →
                    (bs.length ≠ 4096 → exec (.loadResponse k o ecc) s = .next
                      ((t.raise 0x6053 unitLoader (ldTag x.desc) (loadAux x.attempt 3)).loadFail k 3))
                    ∧ (bs.length = 4096 →
                        let a := ldDst x.desc + o.toNat
                        let y := { x with flight := x.flight.filter (· != o.toNat)
                                          got := smSet (fun _ => []) x.got o.toNat bs }
                        exec (.loadResponse k o ecc) s = .next
                          ((((((t.memEcc a 4096 (ldTag x.desc) ecc).memPut a (ldTag x.desc) bs).setLane k (some y)).loadSend
                            k).loadCheck k y)))))
            ∧ exec (.loadAttemptTimeout k) s = .next ((s.toElapsed (x.since
                + ringSize (s.fld MEM_LOAD_CFG_timeout) 65536 * 1280000)).loadFail k 1)))
    ∧ (∀ (k reason : Nat) (x : LoadSlot), s.lane k = some x →
        let u := (s.raise 0x6050 unitLoader (ldTag x.desc) (loadAux x.attempt reason)).loadAbandon k
        (x.attempt < 3 → s.loadFail k reason = ((u.setLane k (some { num := x.num, desc := x.desc, attempt := x.attempt + 1
                                                                     since := u.time.elapsed })).count
            MEM_LOAD_STAT_retries 1).loadSend k)
        ∧ (3 ≤ x.attempt → s.loadFail k reason = (u.setLane k none).shardFault (ldTag x.desc) 2 3 reason))

/-- HOLD, SLIP and STOP: what the symbols and the origin's decision do (R181, R182, R185, R186, R406, R407, R408,
chapters 07 and 16). A HOLD that arrives counts at the origin device of an active slice without a stop ordered, by its
load bit, and elsewhere goes up to the parent. The decision is taken at tick 57,344 of the frame, after every port has
been looked at for a HOLD of its own: outside the origin or an active slice nothing; a recorded stop is ordered first,
then for a HOLD a SLIP, or a STOP with 0x3040 once the run of slip frames has reached its limit, then for a load HOLD
alone a load-only SLIP. A SLIP or STOP that arrives goes on to the children and waits for its boundary; a late STOP is
applied at the next boundary, a late SLIP is not applied, records 0x3021 and stops the slice. Clauses resting on a
choice or an inference of the model: log entry 44. -/
def Obligations.HoldSlipAndStopSymbols : Prop :=
  ∀ (s : State) (p : Port),
    (∀ y u, s.popSymbol p 2 = some (y, u) →
      let load := bit (leField y 1 1) 0
      (u.flag TOPO_ORIGIN_self = false → exec (.holdSymbol p) s = .next
        (u.holdUp load (leField y 2 2) (leField y 4 6) (leField y 10 3)))
      ∧ (u.flag TOPO_ORIGIN_self = true →
        (u.fld TOPO_SLICE_state ≠ 1 ∨ u.stopOrdered = true → exec (.holdSymbol p) s = .next u)
        ∧ (u.fld TOPO_SLICE_state = 1 → u.stopOrdered = false → exec (.holdSymbol p) s = .next
          (u.modTime fun t => { t with gotHold := t.gotHold || !load, gotLoadHold := t.gotLoadHold || load }))))
    ∧ (let u := iter 31 (fun q t => t.checkHold q) (s.toTick (s.nextAt 57344 65536))
       let v := u.modTime fun t => { t with gotHold := false, gotLoadHold := false, stopRec := none }
       (u.flag TOPO_ORIGIN_self = false ∨ u.fld TOPO_SLICE_state ≠ 1 → exec .slipDecision s = .next u)
       ∧ (u.flag TOPO_ORIGIN_self = true → u.fld TOPO_SLICE_state = 1 →
          (∀ code subject, u.time.stopRec = some (code, subject) →
            exec .slipDecision s = .next (v.order true false code subject))
          ∧ (u.time.stopRec = none →
            let limit := ringSize (u.fld TIME_SLIP_CFG_max_consec) 256
            (u.time.gotHold = true → u.time.consec < limit →
              exec .slipDecision s = .next (v.order false false 0 0))
            ∧ (u.time.gotHold = true → limit ≤ u.time.consec →
              exec .slipDecision s = .next
                (((v.raise 0x3040 0 0 0).order true false 0x3040 (v.raise 0x3040 0 0 0).lcoord).modTime
                  fun t => { t with stopRec := none }))
            ∧ (u.time.gotHold = false → u.time.gotLoadHold = true →
              exec .slipDecision s = .next (v.order false true 0 0))
            ∧ (u.time.gotHold = false → u.time.gotLoadHold = false → exec .slipDecision s = .next v))))
    ∧ (∀ y u, s.popSymbol p 3 = some (y, u) →
        let t := u.children.foldl (fun t c => t.sendSymbol c y) u
        let k := leField y 1 1
        let f := leField y 4 6
        let code := leField y 10 2
        let subject := leField y 12 4 % 2 ^ 17
        (t.time.boundary < f → exec (.slipSymbol p) s = .next
          (t.modTime fun x => { x with orders := x.orders ++ [(f, bit k 0, bit k 1, code, subject)] }))
        ∧ (f ≤ t.time.boundary → bit k 0 = true → exec (.slipSymbol p) s = .next
          (t.modTime fun x => { x with stopNext := some (code, subject) }))
        ∧ (f ≤ t.time.boundary → bit k 0 = false →
          let m := (sInt 48 t.schedFrame - (t.frame - f : Nat)).toNat
          let o := t.fld TOPO_ORIGIN_coord
          let v := (t.modTime fun x => { x with slipAt := x.slipAt ++ [m] }).setFld TIME_SLIP_STAT_late_slip 1
          exec (.slipSymbol p) s = .next
            ((v.emit { v.mkRec 0x3021 0 0 0 1 with subject := o }).modTime
              fun x => { x with stopNext := some (0x3021, o) })))

/-- At a frame boundary the steps are taken in the spec's order, and what the first steps do (R183, R186, R187, R190,
R279, R281, R282, R410, R411, chapter 07 Frame boundary). Time moves to the next frame boundary, each port looked at
for a HOLD in the last tick before it, unless a boundary that has come is still to be acted on; then, in this order:
SLIP, the comparison of the twins' digests, circular waits and starvation, a stop, the fence and the logical
coordinate ordered, the waypoint, the token queue and the guard latch, the end of what the frame's arrivals left, the
temperatures, and SYNC. A SLIP named for the boundary counts one slip and one more in the run of slip frames and moves
every time comparator one frame on; without one the run ends. A stop clears the run bit of every sheet, discards the
departures not yet sent, stops the slice and latches code, subject and slice. A fence ordered is applied or, at a
branch point of an active slice, refused with 0x4120; a logical coordinate ordered is taken. With nothing ordered,
nothing armed and no sheet or port in use a boundary ends the run of slip frames and what the frame kept, and takes
the temperatures. Clauses resting on a choice or an inference of the model: log entries 8, 44, 75. -/
def Obligations.FrameBoundaryRunsItsSteps : Prop :=
  ∀ (s : State) (temps : Vector (BitVec 8) 16),
    (let e := (s.frame + 1) * 65536
     let u := if s.time.boundary < s.frame then s
       else (iter 31 (fun q t => t.checkHold q) (s.toTick (e - 1))).toTick e
     let slip := u.time.slipFrame
     let k := (u.schedFrame + 2 ^ 48 - 1) % 2 ^ 48
     let a := (((u.modTime fun t => { t with boundary := u.frame }).boundarySlip k).boundaryTwin).boundarySheets slip
     let b := (((a.boundaryStop.applyFence).applyLcoord).boundaryWaypoint k slip).treeDone.bundleBoundary
     let c := ((b.boundaryGuard k slip).boundaryClear).boundaryTemps temps
     exec (.frameBoundary temps) s = .next (if c.flag PWR_SYNC_CTL_frame_en then c.syncRise else c))
    ∧ (∀ k, s.time.orders = [] → s.boundarySlip k =
        (s.modTime fun t => { t with orders := [] }).modTime
          fun t => { t with slipFrame := false, loadOnly := false, consec := 0 })
    ∧ (∀ k l, s.applySlip k l =
        ((s.modTime fun t =>
          { t with slips := t.slips + 1, slipAt := t.slipAt ++ [(sInt 48 (k + 1)).toNat], slipFrame := true
                   loadOnly := l, consec := if l then t.consec else t.consec + 1 }).moveCmps).trace 5 0 0 0)
    ∧ (∀ f l c j, s.time.orders = [(f, true, l, c, j)] → f ≤ s.frame →
        s.boundaryStop = (s.modTime fun t => { t with orders := [], stopNext := none }).applyStop c j)
    ∧ (∀ c j, s.applyStop c j =
        ((((iter 320 (fun i t => if t.flag (SHEET_CTL_run i) then t.setFld (SHEET_CTL_run i) 0 else t)
          ((s.setFld TOPO_SLICE_state 2).modFab fun f => { f with deps := f.deps.filter (·.sent) })).setReg64 FAULT_STOP
          (c % 2 ^ 16 + j % 2 ^ 17 * 2 ^ 16 + s.fld TOPO_SLICE_id * 2 ^ 48)).setFld FAULT_STAT_stopped 1).trace 5 0 0 0))
    ∧ (s.topo.fence = none → s.applyFence = s)
    ∧ (s.topo.fence = some false → s.applyFence =
        (s.modTopo fun t => { t with fence := none }).setFld TOPO_FENCE_fenced 0)
    ∧ (∀ w, s.topo.lcoord = some w → s.applyLcoord =
        ((s.modTopo fun t => { t with lcoord := none }).setFld TOPO_LCOORD_coord w).setFld TOPO_LCOORD_pending 0)
    ∧ (s.time.boundary < s.frame → s.time.orders = [] → s.time.stopNext = none → s.fault.twin = [] → s.sheets = [] →
        s.topo.fence = none → s.topo.lcoord = none → s.flag TIME_WP_CTL_enable = false → s.fab.expertPend = [] →
        s.fab.deps = [] → s.laneUnits = 0 → s.fab.guardClear = none → s.ports = [] → s.fab.own = [] →
        let c := (((s.modTime fun t =>
          { t with boundary := s.frame, slipFrame := false, loadOnly := false, consec := 0, holdLinks := [] }).modFab
            fun f => { f with abandoned := [] }).setFld TIME_SLIP_STAT_hold_pending 0).boundaryTemps temps
        exec (.frameBoundary temps) s = .next (if c.flag PWR_SYNC_CTL_frame_en then c.syncRise else c))

/-- Writes of the fabric's overlay, path, dispatch and token-queue registers by an agent that may write them (R99,
R101, R199, R221, R228, R463, chapter 08 Registers, chapter 04). Selecting an overlay or path entry shows its words in
the data window. Committing an overlay entry writes it, unless the entry is active and busy (0x1041) or the new one
illegal (0x1040), which set the refused flag and leave the entry. Committing or bulk-loading the path store is refused
with 0x4003 while a bulk load runs, and a bulk load also while dispatch is enabled; a bulk load taken shows loading.
Enabling a dispatch engine that was off starts it at its base; during a bulk load no new engine is enabled and 0x4003
is recorded. A placement of the token queue that would pass the end of the staging store leaves the register and
records 0x4040. Clauses resting on a choice or an inference of the model: log entries 11, 15, 40, 92. -/
def Obligations.FabricRegisterWrites : Prop :=
  ∀ (s : State) (ag : Agent),
    (∀ v : Word, Writable s ag FAB_OVL_SEL 4 →
      let n := v.toNat % 1024
      exec (.ovlSelect ag v) s = .next
        ((iter 8 (fun k t => t.setFld (FAB_OVL_DATA_word k)
            (if k = 6 then (s.ovl n).busy % 65536 else (s.ovl n).word k)) (s.setFld FAB_OVL_SEL_entry n)).answer 0 []))
    ∧ (Writable s ag FAB_OVL_CTL 4 →
        let n := s.fld FAB_OVL_SEL_entry
        let old := s.ovl n
        let new : OvlEntry :=
          { w := (List.range 8).map fun k => if k = 6 then 0 else s.reg (FAB_OVL_DATA k), busy := old.busy }
        (old.state = 2 → old.busy ≠ 0 → exec (.ovlCommit ag) s = .next
          (((s.setFld FAB_OVL_STAT_refused 1).raise 0x1041 0 0 0).answer 0 []))
        ∧ (¬ (old.state = 2 ∧ old.busy ≠ 0) →
          (ovlIllegal new = true → exec (.ovlCommit ag) s = .next
            (((s.setFld FAB_OVL_STAT_refused 1).raise 0x1040 0 0 0).answer 0 []))
          ∧ (ovlIllegal new = false →
            let e : OvlEntry := if (∀ x ∈ new.w, x = 0) ∧ old.busy = 0 then {} else new
            exec (.ovlCommit ag) s = .next
              ((s.modFab fun f => { f with ovl := smSet (fun _ => {}) f.ovl n e }).answer 0 []))))
    ∧ (∀ v : Word, Writable s ag FAB_PATH_SEL 4 →
        let n := v.toNat % 65536
        exec (.pathSelect ag v) s = .next
          ((iter 8 (fun k t => t.setFld (FAB_PATH_DATA_word k) (bits (s.pathEntry n) (32 * k) 32))
            (s.setFld FAB_PATH_SEL_index n)).answer 0 []))
    ∧ (Writable s ag FAB_PATH_CTL 4 →
        let no := (s.setFld FAB_PATH_STAT_refused 1).raise 0x4003 0 0 0
        (s.fab.pathLoad.isSome = true → exec (.pathCommit ag) s = .next (no.answer 0 []))
        ∧ (s.fab.pathLoad = none →
            let e := (List.range 8).foldr (fun k acc => (s.reg (FAB_PATH_DATA k)).toNat + 2 ^ 32 * acc) 0
            exec (.pathCommit ag) s = .next ((s.setPath (s.fld FAB_PATH_SEL_index) e).answer 0 []))
        ∧ (s.fab.pathLoad.isSome = true ∨ s.fld FAB_DISPATCH_CTL_enable ≠ 0 →
            exec (.pathBulkLoad ag) s = .next (no.answer 0 []))
        ∧ (s.fab.pathLoad = none → s.fld FAB_DISPATCH_CTL_enable = 0 → exec (.pathBulkLoad ag) s = .next
          (((s.modFab fun f => { f with pathLoad := some (s.fld FAB_PATH_LOAD_addr * 64) }).setFld
            FAB_PATH_STAT_loading 1).answer 0 [])))
    ∧ (∀ v : Word, Writable s ag FAB_DISPATCH_CTL 4 →
        let old := s.fld FAB_DISPATCH_CTL_enable
        let new := v.toNat % 65536
        let run : State → Nat → State := fun u k =>
          (iter 16 (fun e t => if bit k e && !bit old e then t.dxStart e else t) u).setFld FAB_DISPATCH_CTL_enable k
        (s.fab.pathLoad = none ∨ new &&& old = new → exec (.dispatchEnable ag v) s = .next ((run s new).answer 0 []))
        ∧ (s.fab.pathLoad.isSome = true → new &&& old ≠ new → exec (.dispatchEnable ag v) s = .next
          ((run (s.raise 0x4003 0 0 0) (new &&& old)).answer 0 [])))
    ∧ (∀ (r : BundleReg) (v : Word),
        let am : Nat × Nat := match r with
          | .ctl => (FAB_BUNDLE_CTL, 0xFFF03)
          | .area => (FAB_BUNDLE_AREA, 0xFFFFFFFF)
          | .aux => (FAB_BUNDLE_AUX, 0xFFFF)
        Writable s ag am.1 4 →
        let t := s.setReg am.1 (BitVec.ofNat 32 (v.toNat &&& am.2))
        (t.deferUnit + t.fld FAB_BUNDLE_AUX_defer_units ≤ 65536 → exec (.bundleAreaWrite ag r v) s = .next
          (t.answer 0 []))
        ∧ (65536 < t.deferUnit + t.fld FAB_BUNDLE_AUX_defer_units → exec (.bundleAreaWrite ag r v) s = .next
          ((s.raise 0x4040 0 0 0).answer 0 [])))

/-- Reading a table entry, the frame, jump and end marks, and arming the head entry (R194, R195, R199, R200, R201,
R216, R314, R317, R410, chapter 08). An engine that runs, has not read an END and has room reads the entry at its
index through its window of the depot into its queue, and its index moves on by one mod 2^25; a poisoned entry is not
acted on: 0x6021 with a stop. A frame mark moves the schedule frame on by its count, at least 1; a jump goes to its
target, the counted one its count of times; an end stops the engine and sets done; a malformed mark is refused with
0x4001. Another head entry is armed at its due tick less 256, with every entry of any engine due by then, the
departures and bundles before the transits, and each so taken ahead costs its engine's next command; it is recorded
with 0x4002 where it lies before the one before, refused with 0x4001 where it fails its checks, and is held as a
departure or as a transit entry; a join takes the first free unit or is lost with 0x4013. Clauses resting on a choice
or an inference of the model: log entries 30, 38, 39, 95, 99, 100. -/
def Obligations.DispatchEnginesReadAndArm : Prop :=
  ∀ (s : State) (e : Fin 16) (ecc : Ecc),
    let d := s.dx e
    (s.dxOn e = false ∨ d.sawEnd = true ∨ 256 ≤ d.queue.length → exec (.dxEntryRead e ecc) s = .next s)
    ∧ (s.dxOn e = true → d.sawEnd = false → d.queue.length < 256 →
        let i := s.fld (FAB_DX_POS_index e)
        let u := s.setFld (FAB_DX_POS_index e) ((i + 1) % 2 ^ 25)
        let w := u.windowAddr e i
        (∀ t dv, u.memGet (0x005FE0000000 + 16 * i) 16 0 ecc = (t, .poison dv) → exec (.dxEntryRead e ecc) s = .next
          ((t.setFld (FAB_DX_STAT_err e) 1).raiseStop 0x6021 (unitDx e) 0 dv))
        ∧ (∀ t bs t' bs', u.memGet (0x005FE0000000 + 16 * i) 16 0 ecc = (t, .data bs) →
            (t.memPut w 0 bs).memGet w 16 0 (eccFrom 1 ecc) = (t', .data bs') →
            let en := leNat bs'
            exec (.dxEntryRead e ecc) s = .next (t'.setDx e { t'.dx e with
              queue := (t'.dx e).queue ++ [(i, en)], sawEnd := enClass en == 2 && bits en 28 2 == 2 })))
    ∧ (let noMark : Nat → Instr → Prop := fun kind c =>
        (s.dxHead e = none → exec c s = .next s)
        ∧ (∀ j en, s.dxHead e = some (j, en) → (enClass en ≠ 2 ∨ bits en 28 2 ≠ kind) → exec c s = .next s)
        ∧ (∀ j en, s.dxHead e = some (j, en) → enClass en = 2 → bits en 28 2 = kind → markBad en = true →
            exec c s = .next ((s.dxPop e).dxRefuse e en))
       noMark 0 (.markFrame e) ∧ noMark 1 (.markJump e) ∧ noMark 2 (.markEnd e))
    ∧ (∀ j en, s.dxHead e = some (j, en) → enClass en = 2 → markBad en = false →
        let u := s.dxPop e
        let x := u.dx e
        (bits en 28 2 = 0 → exec (.markFrame e) s = .next
          (u.setDx e { x with frame := x.frame + max (bits en 55 16) 1 }))
        ∧ (bits en 28 2 = 1 →
            let target := bits en 30 25
            let n := bits en 55 16
            let lc := if x.active then x.lc else n - 1
            (n = 0 → exec (.markJump e) s = .next (u.jumpTo e target))
            ∧ (n ≠ 0 → 0 < lc → exec (.markJump e) s = .next
                ((u.setDx e { x with lc := lc - 1, active := true }).jumpTo e target))
            ∧ (n ≠ 0 → lc = 0 → exec (.markJump e) s = .next (u.setDx e { x with lc := 0, active := false })))
        ∧ (bits en 28 2 = 2 → exec (.markEnd e) s = .next
            ((u.setDx e { x with stopped := true }).setFld (FAB_DX_STAT_done e) 1)))
    ∧ (d.aheadAt = s.time.tick → 0 < d.ahead → exec (.entryArm e) s = .next (s.setDx e { d with ahead := d.ahead - 1 }))
    ∧ (¬ (d.aheadAt = s.time.tick ∧ 0 < d.ahead) →
      (s.dxHead e = none → exec (.entryArm e) s = .next s)
      ∧ (∀ j en, s.dxHead e = some (j, en) → enClass en ≠ 2 →
        let u := s.toTick (s.dueOf d.frame en - 256)
        let done : State → State := fun t => t.setDx e { t.dx e with ahead := (t.dx e).ahead - 1 }
        (exec (.entryArm e) s = .next (done u.armTick))
        ∧ ((List.range 16).flatMap u.armable = [(e.val, j, en)] →
          let due := u.dueOf d.frame en
          let a := u.setDx e { d with queue := d.queue.erase (j, en), lastDue := some due
                                      ahead := (if d.aheadAt = u.time.tick then d.ahead else 0) + 1
                                      aheadAt := u.time.tick }
          let back := ∃ l, d.lastDue = some l ∧ due < l
          ∀ b : State, (back → b = a.raise 0x4002 (unitDx e) (enTag en) 0) → (¬ back → b = a) →
            let f := (b.dx e).frame
            (b.entryBad en = true → exec (.entryArm e) s = .next (done (b.dxRefuse e en)))
            ∧ (b.entryBad en = false → enClass en ≠ 1 →
                exec (.entryArm e) s = .next (done (b.armDeparture e j en f (b.dueOf f en))))
            ∧ (b.entryBad en = false → enClass en = 1 →
                exec (.entryArm e) s = .next (done (b.armTransit e en (b.dueOf f en))))
            ∧ (b.entryBad en = false → enClass en = 1 → enJoin en = true → b.freeRu = none →
                exec (.entryArm e) s = .next (done (b.raise 0x4013 (unitDx e) (enTag en) 0))))))
    ∧ (∀ u : State,
        let l := (List.range 16).flatMap u.armable
        u.armTick = (l.filter fun x => enClass x.2.2 == 1).foldl State.armEntry
          ((l.filter fun x => enClass x.2.2 != 1).foldl State.armEntry (l.foldl State.takeOff u)))

/-- A departure that comes due leaves, waits as late, or is discarded; late and overflow departures leave when they
may (R180, R181, R205, R206, R209, R210, R280, R410, R463, chapter 08). A departure is looked at once its due tick has
come. A stopped slice's and, fenced, another slice's is discarded. One whose staging is filled, or whose path was not
taken, is launched: at its tick in its planned slots; looked at after its tick it is late and counted first; one that
is not ready becomes late and is counted; HOLD is considered for every link. Of the late ones of a port the one with
the earliest departure tick that is ready leaves first. A transfer held for an overflow frame leaves in a slip frame
alone. A launch marks the departure sent, counts its flight and queues its flits on its path's first port. The image
of a path load is taken up to the first entry that cannot be read, recorded where that is not all, and the X traffic
that waited goes on. Clauses resting on a choice or an inference of the model: log entries 8, 31, 33, 38, 97, 101. -/
def Obligations.DeparturesLeaveInTheirSlotOrLate : Prop :=
  ∀ (s : State) (e : Fin 16) (tag : BitVec 24) (ecc : Ecc),
    let mine : ArmedDep → Bool := fun d => d.dx == e.val && d.tag == tag.toNat && !d.sent && !d.late && !d.overflow
    let ready : State → ArmedDep → Prop := fun v d => v.depMay d = true ∧ enClass d.entry ≠ 3
      ∧ v.guardFails d.entry = false ∧ srcDevice d.entry = false
      ∧ v.allFilled (srcUnit d.entry) (enLength d.entry + escUnits (v.escTally d.entry)) = true
      ∧ (enReduce d.entry = false ∨ v.escTally d.entry ≤ enR d.entry)
    let flits : State → ArmedDep → List Piece := fun v d => pieces (enLength d.entry) (v.escTally d.entry) 0
      (v.stageRead (256 * srcUnit d.entry) (256 * (enLength d.entry + escUnits (v.escTally d.entry))))
    (s.fab.deps.find? mine = none → exec (.departureDue e tag ecc) s = .next s)
    ∧ (∀ d, s.fab.deps.find? mine = some d →
        let u := s.toTick d.due
        let z := { d with late := true }
        let slow : State → State := fun t => (t.setDep z).count TIME_LATE_CNT_count 1
        (u.mayDepart = false → exec (.departureDue e tag ecc) s = .next (u.dropDep d))
        ∧ (u.mayDepart = true → d.due < s.time.tick →
            (exec (.departureDue e tag ecc) s = .next ((slow u).depTry z ecc true).1.checkHolds)
            ∧ (ready (slow u).treeDone z → exec (.departureDue e tag ecc) s = .next
                ((slow u).treeDone.launch z (flits (slow u).treeDone z) true).checkHolds))
        ∧ (u.mayDepart = true → s.time.tick ≤ d.due →
            (ready u.treeDone d → exec (.departureDue e tag ecc) s = .next
              (u.treeDone.launch d (flits u.treeDone d) false).checkHolds)
            ∧ (u.treeDone.depMay d = true → enClass d.entry ≠ 3 → u.treeDone.guardFails d.entry = true →
              exec (.departureDue e tag ecc) s = .next
                (u.treeDone.launch d [{ idx := 0, form := 2, last := true, payload := [] }] false).checkHolds)
            ∧ (u.treeDone.depMay d = false → exec (.departureDue e tag ecc) s = .next (slow u.treeDone).checkHolds)
            ∧ (∀ t, u.depTry d ecc false = (t, true) → exec (.departureDue e tag ecc) s = .next t.checkHolds)
            ∧ (∀ t, u.depTry d ecc false = (t, false) → exec (.departureDue e tag ecc) s = .next (slow t).checkHolds)))
    ∧ (∀ p : Fin 32,
        (s.mayDepart = false → exec (.lateDeparture p) s = .next s)
        ∧ (∀ d, s.mayDepart = true → s.fab.deps.filter (fun x => x.isLate && s.depPort x == p.val) = [d] →
            (exec (.lateDeparture p) s = .next (s.depTry d .clean true).1.checkHolds)
            ∧ (ready s.treeDone d → exec (.lateDeparture p) s = .next
                (s.treeDone.launch d (flits s.treeDone d) true).checkHolds)))
    ∧ (let isOver : ArmedDep → Bool := fun d => d.tag == tag.toNat && d.overflow && !d.sent
       (s.fab.deps.find? isOver = none ∨ s.time.slipFrame = false ∨ s.mayDepart = false →
         exec (.overflowSend tag) s = .next s)
       ∧ (∀ d, s.fab.deps.find? isOver = some d → s.depMay d = false → exec (.overflowSend tag) s = .next s)
       ∧ (∀ d, s.fab.deps.find? isOver = some d → s.time.slipFrame = true → s.mayDepart = true → s.depMay d = true →
           let n := enLength d.entry + escUnits (s.escTally d.entry)
           let bs := overflowBytes (pathNb (s.pathEntry (enPath d.entry))) (enW d.entry)
             (s.stageRead (256 * srcUnit d.entry) (256 * n))
           exec (.overflowSend tag) s = .next (s.launch d (pieces (ceilDiv bs.length 256) 0 1 bs) true).checkHolds))
    ∧ (∀ (d : ArmedDep) (bs : List Byte) (late : Bool), enClass d.entry ≠ 3 → s.guardFails d.entry = false →
        enReduce d.entry = true → enR d.entry < s.escTally d.entry →
        s.depSend d bs late = (s.setDep { d with overflow := true }).raiseHold d.tag)
    ∧ (∀ (d : ArmedDep) (x : Piece), pathTree (s.pathEntry (enPath d.entry)) = false →
        let t := ((s.setDep { d with sent := true, leftAt := none }).flightStart d false).trace 3 d.tag (unitDx d.dx) 0
        let again := t.fab.deps.any fun u => u.dx == d.dx && u.idx == d.idx && u.due == d.due && u.contested
        s.launch d [x] false = t.queueOut (pathHop (s.pathEntry (enPath d.entry)) 0)
          { flit := mkSFlit (s.fld TOPO_SLICE_id) d.tag (enPath d.entry) 1 x.idx x.form (enAc d.entry) (enW d.entry)
              (enR d.entry) x.e x.last x.payload
            slot := d.due + x.idx * pathSpacing (s.pathEntry (enPath d.entry)), late := again, final := true
            rank := d.dx + 1, claim := claimOf d.due d.idx })
    ∧ (∀ (fail : Option (BitVec 16)) (comp : List Byte),
        (s.fab.pathLoad = none → exec (.pathLoadDone fail comp) s = .next s)
        ∧ (∀ a, s.fab.pathLoad = some a →
            let n := min (s.pathGood a comp) ((fail.map (·.toNat)).getD 65536)
            ∀ bs, (inCompanion a = true → bs = comp) →
              (inCompanion a = false → ∃ t, s.devGet 0 a (32 * n) 0 .clean = (t, .data bs)) →
              let u := ((chunks 32 n bs).zipIdx).foldl (fun t x => t.setPath x.2 (leNat x.1)) s
              let v := (u.modFab fun f => { f with pathLoad := none }).setFld FAB_PATH_STAT_loading 0
              (n < 65536 → exec (.pathLoadDone fail comp) s = .next (v.pathRefuse n).xPump)
              ∧ (65536 ≤ n → exec (.pathLoadDone fail comp) s = .next v.xPump)))

/-- The token queue closes when every lane holds a filled terminator, and its records are chosen in order (R221, R222,
R223, R224, chapter 08). With no lane units set, or while a lane has no filled terminator, the queue stays open.
Otherwise the records kept from the frame before, then those of the lanes, each by ascending token index, are taken in
order; for each expert the first as many as its cap are chosen and counted, the others are deferred or dropped; the
queue is closed and the lanes' units are freed. No expert ever has more records chosen than its cap. Clauses resting
on a choice or an inference of the model: log entry 39. -/
def Obligations.TokenQueueClosesSorted : Prop :=
  ∀ s : State,
    let ls := (List.range s.lanes).map fun p => s.laneRecs (s.qbase + p * s.laneUnits) s.laneUnits (s.laneUnits + 1)
    (s.laneUnits = 0 ∨ (∃ l ∈ ls, l = none) → exec .bundleQueueClose s = .next s)
    ∧ (s.laneUnits ≠ 0 → (∀ l ∈ ls, l ≠ none) →
        let all := sortTok (s.fab.bqDefer.map (·.2)) ++ sortTok (ls.filterMap id).flatten
        let sel := (s.selectRecs all).1
        let u := s.deferRecs (s.selectRecs all).2
        let n := sel.foldl (fun m b => smSet (fun _ => 0) m (recExpert b) (smGet (fun _ => 0) m (recExpert b) + 1))
          ([] : SMap Nat)
        let v := u.modFab fun f => { f with bqClosed := true, bqSel := sel.map fun b => (recExpert b, b), bqCount := n }
        exec .bundleQueueClose s = .next (v.setFill v.qbase (v.lanes * v.laneUnits) false))
    ∧ (∀ l, (sortTok l).Perm l ∧ (sortTok l).Pairwise fun a b => leField a 0 4 ≤ leField b 0 4)
    ∧ (∀ l, ((s.selectRecs l).1 ++ (s.selectRecs l).2).Perm l)
    ∧ (∀ l e, ((s.selectRecs l).1.filter fun b => recExpert b == e).length ≤ s.fld (FAB_EXPERT_cap e))

/-- A waiting S flit is taken by the entry armed for it; a DONE symbol ends a wait (R211, R212, R213, R216, R219,
R220, chapter 08). The first S flit of the in-port, in order of arrival, that an armed entry takes is taken by it: a
flit that disagrees with the entry's form or route makes the entry bad with 0x4011 and is dropped, as is every later
flit of a bad entry; a flit of a join is held as its operand; another is forwarded to the entry's out-ports, 48 ticks
after its planned tick and its hop one on, and written to its local destination. With none taken nothing changes. A
DONE symbol at the head of the port's symbols ends the wait of the transit entry with its tag on that port and passes
on the lost bit, or else ends this module's own transfer in flight. Clauses resting on a choice or an inference of the
model: log entries 32, 34, 35, 36, 37, 41, 97, 98. -/
def Obligations.FlitsAreTakenByTheirEntry : Prop :=
  ∀ (s : State) (p : Port),
    ((∀ x ∈ (s.port p).pool, x.waiting = true → x.flit.cls = 0 → s.takeFlit p x.id x.at0 x.flit = none) →
      exec (.sFlitReceive p) s = .next s)
    ∧ (∀ pre x post, (s.port p).pool = pre ++ x :: post → x.waiting = true → x.flit.cls = 0 →
        (∀ y ∈ pre, y.waiting = true → y.flit.cls = 0 → s.takeFlit p y.id y.at0 y.flit = none) →
        (∀ t isB, s.findTr p x.flit.tag = some (t, isB) →
          exec (.sFlitReceive p) s = .next (s.takeBy t isB p x.id x.at0 x.flit))
        ∧ (s.findTr p x.flit.tag = none → s.fab.abandoned.contains (p.val, x.flit.tag) = true →
          exec (.sFlitReceive p) s = .next (s.dropFlit p x.id)))
    ∧ (∀ (t : ArmedTr) (isB : Bool) (id at0 : Nat) (f : RawFlit),
        let wrong := (enJoin t.entry = false ∧ (f.W ≠ enW t.entry ∨ f.r ≠ enR t.entry))
          ∨ routeBad t.entry (s.pathEntry f.path) f = true
        (t.bad = true → s.takeBy t isB p id at0 f = s.badFlit t isB p id at0 f)
        ∧ (t.bad = false → wrong →
            ∀ u b, s.failFlow { t with slice := f.slice } 0x4011 (unitPort p) = (u, b) →
              b.bad = true ∧ s.takeBy t isB p id at0 f = u.badFlit b isB p id at0 f)
        ∧ (t.bad = false → ¬ wrong → s.takeBy t isB p id at0 f
            = if enJoin t.entry then s.joinFlit t isB p id at0 f else s.plainFlit t p id at0 f))
    ∧ (∀ (t : ArmedTr) (id at0 : Nat) (f : RawFlit), enLocal t.entry = false →
        let g := if t.a.first.isNone then { t with waitDone := outPorts t.entry, localDone := true } else t
        let b := { g with slice := f.slice, a := t.a.take f at0 false }
        b.a.isDone = false → s.plainFlit t p id at0 f
          = ((s.poolTake p id (outPorts t.entry).length).forward b p id at0 f).setTr { b with allOut := false })
    ∧ (∀ (t : ArmedTr) (id at0 q : Nat) (f : RawFlit), outPorts t.entry = [q] →
        let planned := t.due + f.index * pathSpacing (s.pathEntry f.path)
        s.forward t p id at0 f = (s.countOther f 1).queueOut q
          { flit := f.setH 168 4 ((f.hop + 1) % 16), slot := planned + 48, late := decide (planned < at0)
            ready := at0 + 48, inPort := p, poolId := id, claim := claimOf (planned + 48) 0 })
    ∧ ((s.port p).symIn = [] → exec (.doneSymbol p) s = .next s)
    ∧ (∀ id y rest, (s.port p).symIn = (id, y) :: rest →
        (leField y 0 1 ≠ 1 → exec (.doneSymbol p) s = .next s)
        ∧ (leField y 0 1 = 1 →
            let u := (s.modPort p fun q => { q with symIn := rest }).freeC p id
            let tag := leField y 4 3
            (∀ t, u.fab.trans.find? (fun t => t.tag == tag && t.waitDone.contains p.val) = some t →
              let z := { t with waitDone := t.waitDone.filter (· != p.val), lost := t.lost || bit (leField y 1 1) 0 }
              exec (.doneSymbol p) s = .next ((u.setTr z).settle z))
            ∧ (u.fab.trans.find? (fun t => t.tag == tag && t.waitDone.contains p.val) = none →
              exec (.doneSymbol p) s = .next (u.modFab fun f =>
                { f with flights := f.flights.eraseP fun e => e.tag == tag && !e.own }))))

/-- X flits in transit, whole packets at their destination, fault packets, and the X timers (R202, R225, R226, R227,
R257, R259, R403, R405, R408, R463, chapters 08, 09 and 16). While a path load runs X flits wait. The first X flit
that waits is discarded where its path is a tree path; short of its destination it goes to its path's next port, its
hop one on, marked and counted where the pool is crowded. At its destination a packet is acted on once all its flits
are in: its pool entries are freed, its source is known by the coordinate given, its acknowledgement and echo are
heard. In order, a request is performed and answered, a response completes its request and is acknowledged; a
duplicate of a held request is answered again; out of order it is counted, and acknowledged if it came before its
turn. A flit that is an acknowledgement alone is heard and gone. A fault packet's records are logged at the origin and
sent on by a module with a parent. A request without response is lost at its limit, a held token is dropped at its
limit, and a merge window's end sends its later reports as one count. Clauses resting on a choice or an inference of
the model: log entries 55, 56, 57, 58, 59, 104. -/
def Obligations.XPacketsReachTheirDestination : Prop :=
  ∀ (s : State) (p : Port) (ecc : Ecc),
    (s.fab.pathLoad ≠ none ∨ (s.port p).xWaiting = [] →
      exec (.xPacketReceive p ecc) s = .next s ∧ exec (.faultPacketReceive p) s = .next s)
    ∧ (∀ x l, s.fab.pathLoad = none → (s.port p).xWaiting = x :: l → pathTree (s.pathEntry x.flit.path) = true →
        exec (.xPacketReceive p ecc) s = .next (s.poolFree p x.id))
    ∧ (∀ x l, s.fab.pathLoad = none → (s.port p).xWaiting = x :: l → pathTree (s.pathEntry x.flit.path) = false →
        (s.xHop x.flit ≠ 31 → exec (.xPacketReceive p ecc) s = .next (s.xForward p x))
        ∧ (s.xHop x.flit = 31 → x.flit.first = true → ∀ es, wholePacket x.flit (x :: l) = some es →
            let k := packetOf (es.map (·.flit))
            (k.isFault = false → exec (.xPacketReceive p ecc) s = .next (s.xDeliver p es ecc))
            ∧ (k.isFault = true → exec (.faultPacketReceive p) s = .next (s.xDeliver p es .clean)))
        ∧ (s.xHop x.flit = 31 → x.flit.ackOnly = true → (s.port p).xWaiting.any (fun u => u.flit.first
              && u.flit.xsource == x.flit.xsource && u.flit.xseq == x.flit.xseq) = false →
            exec (.xPacketReceive p ecc) s
              = .next (((s.poolFree p x.id).xHeader x.flit.xsource x.flit).xPump)))
    ∧ (∀ (x : PoolFlit) (l : List PoolFlit),
        let c := x.flit.xsource
        let u := (x :: l).foldl (fun t e => t.poolFree p e.id) s
        let u := u.xLearn c (packetOf ((x :: l).map (·.flit)))
        let v := if ((x :: l).map (·.flit)).any RawFlit.mark then u.setXin c { u.xin c with echo := true } else u
        s.xDeliver p (x :: l) ecc
          = ((v.xHeader c x.flit).xTake c p (packetOf ((x :: l).map (·.flit))) ecc).xPump)
    ∧ (∀ (c port : Nat) (k : XPacket),
        let next := s.setXin c { s.xin c with expect := ((s.xin c).expect + 1) % 65536 }
        (∀ t, s.xHeld c k = some t → s.xTake c port k ecc = if t.reply.op = 0 then s
          else s.xResend { dest := c, port := port, pkt := t.reply, who := .response, sentAt := s.time.elapsed })
        ∧ (s.xHeld c k = none → k.xseq = (s.xin c).expect →
            (0x80 ≤ k.op → s.xTake c port k ecc = (next.xComplete c k).xAckSend c port)
            ∧ (k.op < 0x80 → k.token = none → s.xTake c port k ecc = next.xPerform c port k ecc)
            ∧ (k.op < 0x80 → k.token ≠ none → 4096 ≤ next.x.toks.length →
                s.xTake c port k ecc = next.xRespond c port k (0x80 + k.op) 2 []))
        ∧ (s.xHeld c k = none → k.xseq ≠ (s.xin c).expect → k.op ≠ 1 →
            let u := s.count FAB_X_STAT_seq 1
            s.xTake c port k ecc
              = if subMod 16 k.xseq (s.xin c).expect < 32768 then u.xAckSend c port else u)
        ∧ (k.op = 1 → ∀ t bs, s.agentRead 0 k.addr k.len ecc (.x c port k) = (t, .done bs) →
            s.xPerform c port k ecc = t.xAnswer c port k (.done bs))
        ∧ (k.op = 3 → k.isFault = true → s.xPerform c port k ecc
            = ((((chunks 32 (k.len / 32) k.data).map recOf).foldl (fun t r => t.takeRec r) s).xRespond c port k 0x83 0 [])))
    ∧ (∀ r : FaultRec,
        let f : FaultRec := { r with flags := r.flags ||| 4 }
        let u := if s.flag TOPO_ORIGIN_self then ((s.logRec f).noteStop f).raiseIbi 1 else s
        s.takeRec r = if u.hasParent then u.sendUp f else u)
    ∧ (∀ n : BitVec 16,
        let hit : XOut → Bool := fun o => o.pkt.xseq == n.toNat && o.who != .response && o.who != .filler
        (s.x.out.find? hit = none → exec (.xRequestTimeout n) s = .next s)
        ∧ (∀ o, s.x.out.find? hit = some o → exec (.xRequestTimeout n) s = .next
            ((s.toElapsed (o.sentAt + s.fld (LINK_CFG_grace o.port) * 1280 + 131072)).xLost o)))
    ∧ (∀ (c : BitVec 17) (t : BitVec 15),
        let hit : XTok → Bool := fun e => e.src == c.toNat && e.token == t.toNat
        (s.x.toks.find? hit = none → exec (.tokenExpire c t) s = .next s)
        ∧ (∀ e, s.x.toks.find? hit = some e →
            let limit := match e.ackedAt with | some a => a + 131072 | none => e.at0 + 1024 * 65536
            exec (.tokenExpire c t) s = .next ((s.toElapsed limit).modX fun x =>
              { x with toks := x.toks.filter fun e => !hit e })))
    ∧ (∀ n : Fin 64,
        (s.fault.merge.find? (fun e => e.slot == n.val) = none → exec (.mergeWindowExpire n) s = .next s)
        ∧ (∀ e, s.fault.merge.find? (fun e => e.slot == n.val) = some e →
            let u := (s.toElapsed (e.at0 + 65536)).modFault fun f =>
              { f with merge := f.merge.filter fun v => v.slot != n.val }
            (e.extra = 0 → exec (.mergeWindowExpire n) s = .next u)
            ∧ (e.extra ≠ 0 → exec (.mergeWindowExpire n) s = .next
              (u.sendParent { e.entry with count := min e.extra 65535, flags := e.entry.flags ||| 8 }))))

/-- Writes of the permit tables and of the topology registers by an agent that may write them (R266, R271, R274, R277,
R279, R280, R282, R285, chapter 10). Word 3 of a permit entry makes its four words take effect together, an invalid
entry as all zeros, or fault 0x4112 refuses it and the old entry stands. A survey clears what was heard, what was
found right and the coordinate's valid bit, and starts at the present time. A measurement retrains every global port
with a recorded peer and times it. The slice register takes id, state and branch, an inactive slice that becomes
active setting its regulators to their start codes and their limit flags by them; a change of id while not idle, or
the id 0 or 0xFFFF made active, is refused with 0x4121, as is a write of the tree registers while the slice is not
idle. A fence and a logical coordinate wait for the next frame boundary, the fence at the origin sent to the children
as a symbol, the coordinate refused with 0x4122 while the slice is active. Clauses resting on a choice or an inference
of the model: log entries 11, 47, 48, 102. -/
def Obligations.TopologyRegisterWrites : Prop :=
  ∀ (s : State) (ag : Agent),
    (∀ (p : Port) (k : Fin 1024) (v : Word), Writable s ag (LINK_PERMIT p k + 12) 4 →
      let b := LINK_PERMIT p k
      let e := s.lowFor (agentNo ag) b + s.lowFor (agentNo ag) (b + 4) * 2 ^ 32
        + s.lowFor (agentNo ag) (b + 8) * 2 ^ 64 + v.toNat * 2 ^ 96
      let x := if bit e 31 then e else 0
      (s.permitBad p k e = true → exec (.permitCommit ag p k v) s = .next
        (((s.setFld (LINK_PERMIT_CTL_refused p) 1).raise 0x4112 (unitPort p) 0 0).answer 0 []))
      ∧ (s.permitBad p k e = false → exec (.permitCommit ag p k v) s = .next
        ((((s.setReg64 b x).setReg64 (b + 8) (x >>> 64)).dropLow [b, b + 4, b + 8]).answer 0 [])))
    ∧ (Writable s ag TOPO_CTL 4 →
        (exec (.surveyStart ag) s = .next
          (((((iter 31 (fun p t => ((t.setFld (TOPO_PORT_heard p) 0).setFld (TOPO_PORT_ok p) 0).modPort p
              fun q => { q with told4101 := false }) s).setFld TOPO_STAT_survey 1).setFld TOPO_STAT_cvalid 0).modTopo
            fun t => { t with surveyAt := s.time.elapsed, sentAt := none }).answer 0 []))
        ∧ exec (.circuitMeasure ag) s = .next (s.measureStart.answer 0 []))
    ∧ (∀ v : Word,
        let id := v.toNat % 65536
        let st := bits v.toNat 16 2
        let no := (s.raise 0x4121 0 0 0).answer 0 []
        (Writable s ag TOPO_SLICE 4 →
          let bad := (s.fld TOPO_SLICE_state ≠ 0 ∧ id ≠ s.fld TOPO_SLICE_id) ∨ (st = 1 ∧ (id = 0 ∨ id = 0xFFFF))
          let u := ((s.setFld TOPO_SLICE_id id).setFld TOPO_SLICE_state st).setFld TOPO_SLICE_branch (bits v.toNat 18 1)
          (bad → exec (.sliceRegWrite ag .slice v) s = .next no)
          ∧ (¬ bad → s.fld TOPO_SLICE_state = 1 ∨ st ≠ 1 → exec (.sliceRegWrite ag .slice v) s = .next (u.answer 0 []))
          ∧ (¬ bad → s.fld TOPO_SLICE_state ≠ 1 → st = 1 → exec (.sliceRegWrite ag .slice v) s = .next
            ((iter 16 (fun n t =>
                let c := t.fld (PWR_GOV_CTL_vstart n)
                let a := t.setFld (PWR_GOV_STAT_code n) c
                let b := a.setFld (PWR_GOV_STAT_at_ceiling n) (b2n (c == a.fld (PWR_GOV_CTL_vmax n)))
                b.setFld (PWR_GOV_STAT_at_floor n) (b2n (c == b.fld (PWR_GOV_CTL_vmin n))))
              (u.setFld TOPO_SLICE_branch_seen 0)).answer 0 [])))
        ∧ (∀ r : SliceReg, r ≠ .slice →
          let am : Nat × Nat := match r with
            | .origin => (TOPO_ORIGIN, 0x8001FFFF)
            | .tree => (TOPO_TREE, 0x1F)
            | _ => (TOPO_TREE_CHILD, 0x7FFFFFFF)
          Writable s ag am.1 4 →
          (s.fld TOPO_SLICE_state ≠ 0 → exec (.sliceRegWrite ag r v) s = .next no)
          ∧ (s.fld TOPO_SLICE_state = 0 → exec (.sliceRegWrite ag r v) s = .next
            ((s.setReg am.1 (BitVec.ofNat 32 (v.toNat &&& am.2))).answer 0 []))))
    ∧ (∀ on : Bool, Writable s ag TOPO_FENCE 4 →
        let u := (s.setFld TOPO_FENCE_req (b2n on)).modTopo fun t => { t with fence := some on }
        (u.flag TOPO_ORIGIN_self = false → exec (.fenceRequest ag on) s = .next (u.answer 0 []))
        ∧ (u.flag TOPO_ORIGIN_self = true → exec (.fenceRequest ag on) s = .next
          ((u.children.foldl (fun t c => t.sendSymbol c (fenceSymbol on (u.fld TOPO_SLICE_id) (u.fld TOPO_COORD_coord)))
            u).answer 0 [])))
    ∧ (∀ v : Word, Writable s ag TOPO_LCOORD 4 →
        (s.fld TOPO_SLICE_state = 1 → exec (.lcoordWrite ag v) s = .next ((s.raise 0x4122 0 0 0).answer 0 []))
        ∧ (s.fld TOPO_SLICE_state ≠ 1 → exec (.lcoordWrite ag v) s = .next
          (((s.modTopo fun t => { t with lcoord := some (v.toNat % 2 ^ 17), lwritten := true }).setFld
            TOPO_LCOORD_pending 1).answer 0 [])))

/-- Surveys, circuit measurement and fence symbols (R266, R267, R268, R269, R270, R271, R279, R281, chapter 10). Every
ACTIVE port that is surveying, newly up or measured after its retrain sends a SURVEY symbol, 12,800 ticks after the
last ones. The survey timer's end marks every row or column port not heard as missing with 0x4102, records 0x4103
where no coordinate was derived, and ends the survey as failed. A SURVEY symbol records its sender's port and
coordinate as the port's peer, derives the coordinate, checks every heard port once it is known, and completes the
survey where it can; on a measured port it lets the probes begin, with 0x4105 where the peer is another than the
recorded one. A measured port that does not become ACTIVE in time, and one whose eighth probe fails, ends its
measurement unmeasured with its fault; an earlier failed probe, after 64 slots without a beacon, is sent again. A
FENCE symbol goes on to the children and is taken for the next boundary where it names this module. -/
def Obligations.SurveyMeasurementAndFenceCommands : Prop :=
  ∀ (s : State) (p : Port),
    (∀ i, s.surveys i = true ↔ s.fld (LINK_STAT_state i) = 5 ∧ (s.fld TOPO_STAT_survey = 1 ∨ (s.port i).survey = true
        ∨ (s.port i).measuring = true ∧ (s.port i).measWait = false))
    ∧ ((∀ i < 31, s.surveys i = false) → exec .surveySend s = .next s)
    ∧ (∀ i < 31, s.surveys i = true → ∀ z : State, (s.topo.sentAt = none → z = s) →
        (∀ t, s.topo.sentAt = some t → z = s.toElapsed (t + 12800)) →
        exec .surveySend s = .next ((iter 31 (fun i t =>
          if t.surveys i then t.sendSymbol i (t.surveySymbol i) else t) z).modTopo
            fun t => { t with sentAt := some z.time.elapsed }))
    ∧ (s.fld TOPO_STAT_survey = 1 →
      let u := iter 15 (fun i t =>
          if t.flag (TOPO_PORT_heard i) then t
          else (t.setFld (TOPO_PORT_missing i) 1).raise 0x4102 (unitPort i) 0 i)
        (s.toElapsed (s.topo.surveyAt + ringSize (s.fld TOPO_CFG_timeout) 256 * 1280000))
      exec .surveyTimeout s = .next
        ((if u.flag TOPO_STAT_cvalid then u else u.raise 0x4103 0 0 0).setFld TOPO_STAT_survey 3))
    ∧ (s.fld TOPO_STAT_survey ≠ 1 → exec .surveyTimeout s = .next s)
    ∧ (∀ y u, s.popSymbol p 6 = some (y, u) →
        let w := leField y 12 4
        let h := ((((u.modPort p fun q =>
            { q with peerCv := bit (leField y 1 1) 0, survey := q.survey && !bit (leField y 1 1) 1 }).setFld
          (TOPO_PORT_heard p) 1).setFld (TOPO_PORT_peer_port p) (bits w 0 5)).setFld
          (TOPO_PORT_peer p) (mkCoord (bits w 5 10) (bits w 15 4) (bits w 19 3))).deriveCoord
        let t := (if h.flag TOPO_STAT_cvalid then iter 31 (fun i t => t.checkPort i) h else h).surveyDone
        ((t.port p).measuring = false ∨ (t.port p).measWait = true → exec (.surveySymbol p) s = .next t)
        ∧ ((t.port p).measuring = true → (t.port p).measWait = false → t.flag (LINK_TS_STAT_probing p) = false →
            (t.port p).measSkip = 0 →
            let g := p.val - 15
            exec (.surveySymbol p) s = .next
              (((if t.peerDiffers p (t.fld (TOPO_GPEER_coord g)) (t.fld (TOPO_GPEER_port g)) then t.raisePeer 0x4105 p p
                else t).setFld (LINK_TS_STAT_probing p) 1).sendProbe p)))
    ∧ ((s.port p).measuring = true →
        (s.fld (LINK_STAT_state p) ≠ 5 → exec (.measureTimeout p) s = .next
          (((s.toElapsed ((s.port p).measAt + 640000000)).raise 0x4106 (unitPort p) 0 p).measureEnd p false))
        ∧ (s.fld (LINK_STAT_state p) = 5 →
          let u := ((s.toTick ((s.port p).probeFrom + (64 + (s.port p).probeBusy) * slotTicks p)).count
            (LINK_TS_STAT_probe_fail p) 1).modPort p fun q => { q with probeMiss := q.probeMiss + 1 }
          ((u.port p).probeMiss < 8 → exec (.measureTimeout p) s = .next (u.sendProbe p))
          ∧ (8 ≤ (u.port p).probeMiss → exec (.measureTimeout p) s = .next
            (((u.raise 0x3068 (unitPort p) 0 p).raise 0x4106 (unitPort p) 0 p).measureEnd p false))))
    ∧ (∀ y u, s.popSymbol p 4 = some (y, u) →
        let t := u.children.foldl (fun t c => t.sendSymbol c y) u
        (leField y 4 4 % 2 ^ 17 = t.fld TOPO_COORD_coord → exec (.fenceSymbol p) s = .next
          (t.modTopo fun x => { x with fence := some (bit (leField y 1 1) 0) }))
        ∧ (leField y 4 4 % 2 ^ 17 ≠ t.fld TOPO_COORD_coord → exec (.fenceSymbol p) s = .next t))

/-- The reference domains: states, messages, PPS edges, choice, holdover and the servo (R289, R290, R291, R292, R293,
R294, R295, chapter 11). An edge of the reference takes a domain from DOWN to ACQ, 1 ms later it is in REF, and the
loss of its reference takes it DOWN, with 0x3060 and an end to its slew where it was selected, and another is selected
where one tracks. A PPS edge records the phase, in any state; one at a wrong interval in REF or TRACK records 0x3066
and ends TRACK; in REF the second good second begins TRACK; in TRACK of the selected domain it sets the counter at the
TIME step and steers it once the module is ready. No PPS for 1.1 s ends TRACK. A good time-of-day message is kept. A
revert after 10 s in TRACK selects the preferred domain again; the holdover limit records 0x3063; a servo step, in
TRACK of the selected domain alone, moves one fraction unit in 4,096 ticks towards the error and stops within one unit
of it. Clauses resting on a choice or an inference of the model: log entries 8, 45, 113. -/
def Obligations.ReferenceDomainCommands : Prop :=
  ∀ (s : State) (dm : Dom),
    let d := domNo dm
    (s.domState d = 0 → exec (.refclkEdge dm) s = .next (s.domEnter d 1))
    ∧ (s.domState d ≠ 0 →
        exec (.refclkEdge dm) s = .next s
        ∧ (let u := (s.domEnter d 0).modDom d fun x => { x with heard := false }
           let v := if s.net.chosen = true ∧ s.fld TIME_DOM_STAT_sel = d then
             (u.setFld TIME_DOM_STAT_slewing 0).raise 0x3060 0 0 d else u
           (2 ≤ s.domState d → exec (.refclkLoss dm) s = .next v.reselect.checkHoldover)
           ∧ (s.domState d < 2 → exec (.refclkLoss dm) s = .next v.reselect)))
    ∧ (s.domState d = 1 → exec (.domainAcqDone dm) s = .next
        ((s.toElapsed ((s.dom d).since + 1280000)).domEnter d 2).checkHoldover)
    ∧ (∀ f : BitVec 8,
        let x := s.dom d
        let now := s.time.elapsed * 256 + f.toNat
        let off : Bool := match x.pps with
          | some t => decide (t + 1280000008 * 256 < now ∨ now < t + 1279999992 * 256)
          | none => false
        let e := ppsPhase s.time.tick f.toNat (s.fld (TIME_PPS_DELAY_delay d))
        let u := (s.setFld (TIME_DOM_PHASE_phase d) (uNat 32 e)).modDom d fun x =>
          { x with pps := some now, heard := false, good := if x.heard && !off then x.good + 1 else 0 }
        (s.domState d < 2 → exec (.ppsEdge dm f) s = .next u)
        ∧ (2 ≤ s.domState d → off = true → exec (.ppsEdge dm f) s = .next ((u.raise 0x3066 0 0 d).trackLost d))
        ∧ (s.domState d = 2 → off = false →
            (2 ≤ (u.dom d).good → exec (.ppsEdge dm f) s = .next ((u.domEnter d 3).reselect).checkHoldover)
            ∧ ((u.dom d).good < 2 → exec (.ppsEdge dm f) s = .next u))
        ∧ (s.domState d = 3 → off = false →
            (u.fld TIME_DOM_STAT_sel ≠ d → exec (.ppsEdge dm f) s = .next u)
            ∧ (u.fld TIME_DOM_STAT_sel = d → s.fld BOOT_STAT_step = 6 → s.flag BOOT_STAT_held = false →
                s.flag BOOT_STAT_failed = false → u.flag TIME_DOM_STAT_set = false →
                ∀ q secs, (u.dom d).msg = some (q, secs) → exec (.ppsEdge dm f) s = .next (u.setCounter secs))
            ∧ (u.fld TIME_DOM_STAT_sel = d → s.fld BOOT_STAT_step = 10 →
                exec (.ppsEdge dm f) s = .next (u.servoEdge e))))
    ∧ (s.domState d = 3 → exec (.ppsTimeout dm) s = .next
        ((s.toElapsed (((s.dom d).pps.getD (s.time.elapsed * 256)) / 256 + 1408000000)).trackLost d))
    ∧ (∀ bs : List Byte, ∀ t,
        leField bs 0 1 = 0xA5 → leField bs 1 1 = 0x5A → leField bs 2 1 = 1 → leField bs 14 2 = crc16 (bs.take 14) →
        leField bs 3 1 % 2 = d → leField bs 4 6 < 2 ^ 33 → (s.dom d).pps = some t →
        t + 1280000 * 256 ≤ s.time.elapsed * 256 → s.time.elapsed * 256 ≤ t + 1152000000 * 256 →
        (∀ q u, (s.dom d).msg = some (q, u) → leField bs 10 2 = (q + 1) % 65536 ∧ leField bs 4 6 = u + 1) →
        exec (.todMessage dm bs) s = .next
          (((s.modDom d fun x =>
              { x with heard := true, bad := 0, msg := some (leField bs 10 2, leField bs 4 6) }).setFld
            (TIME_TOD_seconds d) (leField bs 4 6)).setFld (TIME_TOD_flags d) (leField bs 3 1)))
    ∧ (let r := s.fld TIME_DOM_CTL_pref
       s.flag TIME_DOM_CTL_revert = true → s.net.chosen = true → s.fld TIME_DOM_STAT_sel ≠ r → s.domState r = 3 →
        exec .domainRevert s = .next ((s.toElapsed ((s.dom r).since + 12800000000)).domSwitch r))
    ∧ (s.flag TIME_DOM_STAT_holdover = true → exec .holdoverLimit s = .next
        ((s.toElapsed (s.net.holdAt + ringSize (s.fld TIME_DOM_CFG_holdover) 65536 * 1280000)).raise 0x3063 0 0 0))
    ∧ (s.flag TIME_DOM_STAT_slewing = false ∨ s.domState (s.fld TIME_DOM_STAT_sel) ≠ 3 → exec .servoStep s = .next s)
    ∧ (s.flag TIME_DOM_STAT_slewing = true → s.domState (s.fld TIME_DOM_STAT_sel) = 3 →
        let k : Int := if s.net.target < 0 then -1 else 1
        let u := (s.pass 4096).setFld TIME_FRAC_frac (uNat 8 ((s.fld TIME_FRAC_frac : Int) + k))
        let v := u.modNet fun n => { n with target := s.net.target - k }
        exec .servoStep s = .next
          (if (s.net.target - k).natAbs ≤ 1 then v.setFld TIME_DOM_STAT_slewing 0 else v))

/-- Beacons are queued with the next number, and a received one completes a sample and is answered where it is a probe
(R296, R298, R299, R300, chapter 11 Timestamps). A port with beacons enabled that is ACTIVE queues a BEACON symbol one
interval after the last and counts its number on; another port queues nothing. A received BEACON is heard at the stamp
of its flit's arrival; where that completes a sample the link's recorded latency is checked. A regular beacon does no
more. A probe that came beside a regular beacon, or in a slot whose unit one had taken, is void; another is answered
with a probe, and on a measured port the sixteenth that completes a sample ends the measurement. Clauses resting on a
choice or an inference of the model: log entry 43. -/
def Obligations.BeaconsCarryTimestamps : Prop :=
  ∀ (s : State) (p : Port),
    (s.flag (LINK_TS_CTL_bcn_en p) = true → s.fld (LINK_STAT_state p) = 5 → ∀ z : State,
      ((s.port p).bcnAt = none → z = s) →
      (∀ t, (s.port p).bcnAt = some t → z = s.toElapsed (t + ringSize (s.fld TIME_BCN_CFG_interval) 65536)) →
      exec (.beaconSend p) s = .next
        (((z.modPort p fun q => { q with txC := q.txC ++ [padTo 16 (z.beaconOf p false)] }).modPort p
          fun q => { q with bcnNo := (q.bcnNo + 1) % 16 }).modPort p fun q => { q with bcnAt := some z.time.elapsed }))
    ∧ (s.flag (LINK_TS_CTL_bcn_en p) = false ∨ s.fld (LINK_STAT_state p) ≠ 5 → exec (.beaconSend p) s = .next s)
    ∧ (∀ id y rest e, (s.port p).symIn = (id, y) :: rest → leField y 0 1 = 5 →
        (s.port p).pool.find? (fun e => e.id == id) = some e →
        let n := leField y 1 1
        let v := (s.modPort p fun q => { q with symIn := rest }).freeC p id
        let u := v.hearStamp p (n % 16) (n / 16) (leField y 4 4) (leField y 8 4) e.stamp
        let got := decide (u.fld (LINK_TS_STAT_samples p) ≠ v.fld (LINK_TS_STAT_samples p))
        let w := if got then u.lateLink p else u
        let void := (chunks 16 16 (padTo 256 e.flit.payload)).any isBeacon = true
          ∨ (v.port p).bcnSlot = some (e.at0 - e.at0 % slotTicks p)
        (bit (leField y 12 1) 0 = false → exec (.beaconSymbol p) s = .next w)
        ∧ (bit (leField y 12 1) 0 = true → void → exec (.beaconSymbol p) s = .next v)
        ∧ (bit (leField y 12 1) 0 = true → ¬ void →
            ((w.port p).measuring = false → exec (.beaconSymbol p) s = .next (w.sendProbe p))
            ∧ ((w.port p).measuring = true → got = true →
                let x := w.modPort p fun q => { q with probes := q.probes + 1 }
                ((x.port p).probes < 16 → exec (.beaconSymbol p) s = .next (x.sendProbe p))
                ∧ (16 ≤ (x.port p).probes → exec (.beaconSymbol p) s = .next ((x.sendProbe p).measureEnd p true)))))

/-- Writes of the plan, governor, domain, power, depot, staging and loading registers by an agent that may write them
(R174, R177, R295, R318, R320, R328, R444, R449, R455, chapters 07, 12, 13 and 18). A plan of at most 61,440 ticks is
taken and a greater refused with 0x3001. A governor's limits are taken in legal order and refused with 0x9020
otherwise; its targets are taken as written. A switch of domain is carried out where the other domain tracks, or fault
0x3061 with the refusal bit is recorded; a held slew is released at once where the selected domain tracks. A power cap
of 500 to 1,700 W is taken, another refused with 0x9012; domains may be switched off only in the first two boot steps
and only those two that may be, or 0x9011 refuses it. Both SYNC uses at once are refused with 0x9040 and the refused
flag; otherwise the enables are taken, and with neither the pin goes quiet. A partition inside the depot whose parts
do not meet is taken while dispatch is off and the stager has nothing to do, and refused with the refused flag and
fault 0x6030 otherwise. A tail that stays within its ring moves the tail; another is refused with 0x6031 for the
stager and 0x6054 for the loader. The loader's ring is placed while its tail, head and done counts are equal, and kept
otherwise. Clauses resting on a choice or an inference of the model: log entries 11, 15, 54, 74. -/
def Obligations.TimePowerAndMemoryRegisterWrites : Prop :=
  ∀ (s : State) (ag : Agent),
    (∀ v : Word, Writable s ag TIME_SCHED_CTL 4 →
      (v.toNat % 65536 ≤ 61440 → exec (.planWrite ag v) s = .next
        ((s.setFld TIME_SCHED_CTL_plan (v.toNat % 65536)).answer 0 []))
      ∧ (61440 < v.toNat % 65536 → exec (.planWrite ag v) s = .next ((s.raise 0x3001 0 0 0).answer 0 [])))
    ∧ (∀ (n : Fin 16) (v : Word),
        (Writable s ag (PWR_GOV_CTL n) 4 →
          let good := bits v.toNat 0 6 ≤ bits v.toNat 16 6 ∧ bits v.toNat 16 6 ≤ bits v.toNat 8 6
            ∧ bits v.toNat 8 6 ≤ 60
          (good → exec (.govCfgWrite ag n .ctl v) s = .next
            ((s.setReg (PWR_GOV_CTL n) (BitVec.ofNat 32 (v.toNat &&& 0x013F3F3F))).answer 0 []))
          ∧ (¬ good → exec (.govCfgWrite ag n .ctl v) s = .next ((s.raise 0x9020 (unitBank n) 0 0).answer 0 [])))
        ∧ (Writable s ag (PWR_GOV_TGT n) 4 → exec (.govCfgWrite ag n .tgt v) s = .next
            ((s.setReg (PWR_GOV_TGT n) v).answer 0 [])))
    ∧ (Writable s ag TIME_DOM_CTL 4 → s.flag TIME_DOM_CTL_switch = false → s.flag TIME_DOM_CTL_slew_now = false →
        let u := s.plainWrite TIME_DOM_CTL (s.withBits TIME_DOM_CTL 2 1 1)
        let d := 1 - s.fld TIME_DOM_STAT_sel
        (s.domState d = 3 → exec (.domainSwitchRequest ag) s = .next ((u.domSwitch d).answer 0 []))
        ∧ (s.domState d ≠ 3 → exec (.domainSwitchRequest ag) s = .next
          ((u.raise 0x3061 0 0 (2 ^ 31)).answer 0 []))
        ∧ (let u := s.plainWrite TIME_DOM_CTL (s.withBits TIME_DOM_CTL 3 1 1)
           let track := s.domState (s.fld TIME_DOM_STAT_sel) = 3
           (s.flag TIME_DOM_STAT_held = true → track → exec (.slewNow ag) s = .next
            (((u.setFld TIME_DOM_STAT_held 0).setFld TIME_DOM_STAT_slewing 1).answer 0 []))
           ∧ (s.flag TIME_DOM_STAT_held = false ∨ ¬ track → exec (.slewNow ag) s = .next (u.answer 0 []))))
    ∧ (∀ v : Word, Writable s ag PWR_IN_CFG 4 →
        let n := v.toNat % 2048
        (500 ≤ n ∧ n ≤ 1700 → exec (.powerCapWrite ag v) s = .next ((s.setFld PWR_IN_CFG_cap n).answer 0 []))
        ∧ (n < 500 ∨ 1700 < n → exec (.powerCapWrite ag v) s = .next ((s.raise 0x9012 0 0 0).answer 0 [])))
    ∧ (∀ v : Word, Writable s ag PWR_DOM_OFF 4 →
        let good := (s.fld BOOT_STAT_step = 1 ∨ s.fld BOOT_STAT_step = 2) ∧ v &&& 0x240000 = v
        (good → exec (.domOffWrite ag v) s = .next ((s.setReg PWR_DOM_OFF v).answer 0 []))
        ∧ (¬ good → exec (.domOffWrite ag v) s = .next ((s.raise 0x9011 0 0 0).answer 0 [])))
    ∧ (∀ v : Word, Writable s ag PWR_SYNC_CTL 4 →
        let f := bit v.toNat 0
        let t := bit v.toNat 1
        let bad := (f && t) || (f && s.flag PWR_SYNC_CTL_twin_en) || (t && s.flag PWR_SYNC_CTL_frame_en)
        let u := if bit v.toNat 2 then s.setFld PWR_SYNC_CTL_refused 0 else s
        let w := (u.setFld PWR_SYNC_CTL_frame_en (b2n f)).setFld PWR_SYNC_CTL_twin_en (b2n t)
        (bad = true → exec (.syncCtlWrite ag v) s = .next
          (((s.setFld PWR_SYNC_CTL_refused 1).raise 0x9040 0 0 0).answer 0 []))
        ∧ (bad = false → (f || t) = true → exec (.syncCtlWrite ag v) s = .next (w.answer 0 []))
        ∧ (bad = false → (f || t) = false → exec (.syncCtlWrite ag v) s = .next
          ((w.modPwr fun p => { p with syncAt := none }).answer 0 [])))
    ∧ (∀ v : Word, Writable s ag MEM_DEPOT_PART 4 →
      let sb := bits v.toNat 0 8
      let gb := bits v.toNat 8 8
      let gl := bits v.toNat 16 9
      let good := sb + 1 ≤ 256 ∧ gb + gl ≤ 256 ∧ ¬ (sb < gb + gl ∧ gb < sb + 1) ∧ s.fld FAB_DISPATCH_CTL_enable = 0
        ∧ s.fld MEM_STAGE_TAIL_tail = s.fld MEM_STAGE_HEAD_head ∧ s.load.stage = none
      (good → exec (.depotPartWrite ag v) s = .next
        ((s.setReg MEM_DEPOT_PART (BitVec.ofNat 32 (v.toNat &&& 0x01FFFFFF))).answer 0 []))
      ∧ (¬ good → exec (.depotPartWrite ag v) s = .next
        (((s.setFld MEM_DEPOT_STAT_refused 1).raise 0x6030 (unitDev 16) 0 16).answer 0 [])))
    ∧ (∀ v : Word, Writable s ag MEM_STAGE_TAIL 4 →
        let good := tailOk (s.fld MEM_STAGE_TAIL_tail) (s.fld MEM_STAGE_HEAD_head) s.stageSize v.toNat
        (good = true → exec (.stageTailWrite ag v) s = .next ((s.setFld MEM_STAGE_TAIL_tail v.toNat).answer 0 []))
        ∧ (good = false → exec (.stageTailWrite ag v) s = .next ((s.raise 0x6031 unitStager 0 0).answer 0 [])))
    ∧ (∀ v : Word, Writable s ag MEM_LOAD_TAIL 4 →
        let good := tailOk (s.fld MEM_LOAD_TAIL_tail) (s.fld MEM_LOAD_HEAD_head)
          (ringSize (s.fld MEM_LOAD_RING_size) 65536) v.toNat
        (good = true → exec (.loadTailWrite ag v) s = .next ((s.setFld MEM_LOAD_TAIL_tail v.toNat).answer 0 []))
        ∧ (good = false → exec (.loadTailWrite ag v) s = .next ((s.raise 0x6054 unitLoader 0 0).answer 0 [])))
    ∧ (∀ v : DWord, Writable s ag MEM_LOAD_RING 8 →
        let t := s.fld MEM_LOAD_TAIL_tail
        (t = s.fld MEM_LOAD_HEAD_head → t = s.fld MEM_LOAD_DONE_done → exec (.loadRingWrite ag v) s = .next
          (((s.setReg64 MEM_LOAD_RING (v.toNat &&& 0xFFFFFFFFFFFFFFC0)).dropLow [MEM_LOAD_RING]).answer 0 []))
        ∧ (t ≠ s.fld MEM_LOAD_HEAD_head ∨ t ≠ s.fld MEM_LOAD_DONE_done → exec (.loadRingWrite ag v) s = .next
          (s.answer 0 [])))

/-- Writes of the ownership, boot, reset, rollback, debug-lock and attestation registers by an agent that may write
them (R371, R376, R379, R380, R383, R386, R389, R391, R392, R393, chapters 14 and 15). A lease of 1 to 60 s is taken
and another refused with 0x7012. The three reset requests carry out their reset: a compute reset before READY is
refused with 0x8011, and a reset waits while a rollback fuse is being programmed. Go begins VERIFY in the WAIT step
with the source named, waits while RESET_N is low, and is refused with 0x8010 in another step. Resume goes on with a
held step. A rollback commit above the fuses blown and not above the image's version starts programming; one above the
version is refused with 0x8020. The debug lock is blown with the confirmation byte from the VERIFIED image on, unless
the owner is the debug port, or refused with 0x8022. An attestation takes the index of the copy whose CRC-32 is right,
and is refused while another is signed, before the image is verified, once the store is bad, with both copies bad
(0x8032) and at the index limit (0x8031). Clauses resting on a choice or an inference of the model: log entries 11,
15, 82, 83, 106. -/
def Obligations.BootAndOwnerRegisterWrites : Prop :=
  ∀ (s : State) (ag : Agent),
    (∀ v : Word, Writable s ag GEN_OWN_CFG 4 →
      (1 ≤ v.toNat % 64 ∧ v.toNat % 64 ≤ 60 → exec (.ownCfgWrite ag v) s = .next
        ((s.setFld GEN_OWN_CFG_lease (v.toNat % 64)).answer 0 []))
      ∧ (v.toNat % 64 = 0 ∨ 60 < v.toNat % 64 → exec (.ownCfgWrite ag v) s = .next
        ((s.raise 0x7012 0 0 0).answer 0 [])))
    ∧ (Writable s ag BOOT_RESET 4 → (∀ t k, s.boot.lastReset = some (t, k) → t ≠ s.time.elapsed) →
        let u : State := ((s.toElapsed s.boot.dbgUntil).modBoot fun b =>
          { b with commit := none, waitReset := none }).setFld BOOT_ROLL_busy 0
        (s.boot.commit = none →
          exec (.moduleReset ag) s = .next (u.moduleReset.answer 0 [])
          ∧ exec (.warmReset ag) s = .next (u.warmReset.answer 0 [])
          ∧ (s.fld BOOT_STAT_step = 10 → exec (.computeReset ag) s = .next (u.computeReset.answer 0 [])))
        ∧ (s.fld BOOT_STAT_step ≠ 10 → exec (.computeReset ag) s = .next ((s.raiseBoot 0x8011 0).answer 0 []))
        ∧ (s.boot.commit.isSome = true → exec (.moduleReset ag) s = .next
          ((s.modBoot fun b => { b with waitReset := some (max 2 (b.waitReset.getD 0)) }).answer 0 [])))
    ∧ (Writable s ag BOOT_CTL 4 → s.flag BOOT_CTL_resume = false → s.flag BOOT_CTL_go = false →
        (∀ src : BitVec 2,
          let u := s.plainWrite BOOT_CTL (putBits (s.withBits BOOT_CTL 0 1 1) 1 2 src.toNat)
          (s.fld BOOT_STAT_step ≠ 2 → exec (.bootGo ag src) s = .next ((u.raiseBoot 0x8010 0).answer 0 []))
          ∧ (s.fld BOOT_STAT_step = 2 → s.pwr.resetLow = true → exec (.bootGo ag src) s = .next
            ((u.modBoot fun b => { b with goWait := true }).answer 0 []))
          ∧ (s.fld BOOT_STAT_step = 2 → s.pwr.resetLow = false → exec (.bootGo ag src) s = .next
            (u.startVerify.answer 0 [])))
        ∧ (let u := s.plainWrite BOOT_CTL (s.withBits BOOT_CTL 3 1 1)
           (s.flag BOOT_STAT_held = true → exec (.bootResume ag) s = .next
            (((u.setFld BOOT_STAT_held 0).beginStep (u.fld BOOT_STAT_step)).answer 0 []))
           ∧ (s.flag BOOT_STAT_held = false → exec (.bootResume ag) s = .next (u.answer 0 []))))
    ∧ (∀ v : BitVec 7, Writable s ag BOOT_ROLL 4 →
        let no := s.fld BOOT_IMG_INFO_sv < v.toNat ∨ s.boot.commit.isSome = true ∨ s.fld BOOT_STAT_step < 4
        (v.toNat ≤ s.fuseCount → exec (.rollbackCommit ag v) s = .next (s.answer 0 []))
        ∧ (s.fuseCount < v.toNat → no → exec (.rollbackCommit ag v) s = .next ((s.raiseBoot 0x8020 0).answer 0 []))
        ∧ (s.fuseCount < v.toNat → ¬ no → exec (.rollbackCommit ag v) s = .next
          ((((s.setFld BOOT_ROLL_value v.toNat).setFld BOOT_ROLL_busy 1).modBoot fun b =>
            { b with commit := some v.toNat, pulses := 0, fuseAt := s.time.elapsed }).answer 0 [])))
    ∧ (∀ c : BitVec 8, Writable s ag BOOT_FUSE 4 →
        let no := c ≠ 0xD5 ∨ s.fld GEN_OWN_STAT_owner = 4 ∨ s.fld BOOT_STAT_step < 4
        (no → exec (.dbgLockBlow ag c) s = .next ((s.raiseBoot 0x8022 0).answer 0 []))
        ∧ (¬ no → exec (.dbgLockBlow ag c) s = .next
          ((s.modBoot fun b => { b with dbgLock := true, dbgUntil := s.time.elapsed + 128000 }).answer 0 [])))
    ∧ (Writable s ag BOOT_ATT_CTL 4 → ∀ badA badB : Bool,
        let no := fun u : State => (u.setFld BOOT_ATT_STAT_state 3).raiseBoot 0x8030 0
        let crc : AttCopy → Nat := fun c => crc32 (leBytes 4 c.next ++ leBytes 4 c.writes)
        let spoilt : AttCopy → AttCopy := fun c => { c with crc := crc c ^^^ 1 }
        let u := s.modBoot fun b =>
          { b with copyA := if badA then spoilt b.copyA else b.copyA, copyB := if badB then spoilt b.copyB else b.copyB }
        (s.boot.signing.isSome = true ∨ s.fld BOOT_STAT_step ≤ 3 ∨ s.flag BOOT_ATT_STAT_store_bad = true →
          exec (.attestStart ag badA badB) s = .next ((no s).answer 0 []))
        ∧ (s.boot.signing = none → 3 < s.fld BOOT_STAT_step → s.flag BOOT_ATT_STAT_store_bad = false →
          (u.boot.copyA.crc ≠ crc u.boot.copyA → u.boot.copyB.crc ≠ crc u.boot.copyB →
            exec (.attestStart ag badA badB) s = .next
              ((((no u).setFld BOOT_ATT_STAT_store_bad 1).raiseBoot 0x8032 0).answer 0 []))
          ∧ (∀ k, u.boot.copy = some k → k.crc = crc k ∧
            (2 ^ 20 ≤ k.next → exec (.attestStart ag badA badB) s = .next (((no u).raiseBoot 0x8031 0).answer 0 []))
            ∧ (k.next < 2 ^ 20 →
              let k' : AttCopy := { next := k.next + 1, writes := (k.writes + 1) % 2 ^ 32
                                    crc := crc32 (leBytes 4 (k.next + 1) ++ leBytes 4 ((k.writes + 1) % 2 ^ 32)) }
              exec (.attestStart ag badA badB) s = .next
                (((u.modBoot fun b => { b with copyA := k', copyB := k', signing := some (u.report k.next, k.next)
                                               signAt := s.time.elapsed }).setFld BOOT_ATT_STAT_state 1).answer 0 [])))))

/-- Writes of the twin, trace and cartouche registers by an agent that may write them (R414, R417, R423, R424, R427,
chapters 16 and 17). Twin mode is switched while the slice and every sheet are idle and is refused with 0x1051
otherwise. A trace ring that lies wholly in HBM4 data or in the mapped DDR5 tier is taken and another refused with
0x2040. The cartouche commands open, close and collect wait, with their agent, for the cartouche's next sample
boundary, behind those that wait already. Clauses resting on a choice or an inference of the model: log entries 11,
15, 85. -/
def Obligations.TwinTraceAndCartoucheWrites : Prop :=
  ∀ (s : State) (ag : Agent),
    (∀ on : Bool, Writable s ag FAULT_TWIN_CTL 4 →
      let good := s.fld TOPO_SLICE_state = 0 ∧ ∀ i < 320, s.sheetIdle i = true
      (good → exec (.twinEnable ag on) s = .next
        (((s.setFld FAULT_TWIN_CTL_enable (b2n on)).setFld FAULT_TWIN_STAT_active (b2n on)).answer 0 []))
      ∧ (¬ good → exec (.twinEnable ag on) s = .next ((s.raise 0x1051 0 0 0).answer 0 [])))
    ∧ (∀ v : DWord, Writable s ag FAULT_TRACE_RING 8 →
        let r := s.within (bits v.toNat 4 44 * 16) (ringSize (bits v.toNat 48 16) 65536 * 65536)
        let good := r = some .hbm ∨ r = some .ddr
        (good → exec (.traceRingWrite ag v) s = .next
          (((s.setReg64 FAULT_TRACE_RING (v.toNat / 16 * 16)).dropLow [FAULT_TRACE_RING]).answer 0 []))
        ∧ (¬ good → exec (.traceRingWrite ag v) s = .next ((s.raise 0x2040 0 0 0).answer 0 [])))
    ∧ (Writable s ag CART_CMD 4 →
        let wait : Nat → State := fun v =>
          (s.modCart fun c => { c with pend := c.pend ++ [(agentNo ag, v, false)] }).answer 0 []
        (∀ slice : BitVec 16, exec (.cartOpen ag slice) s = .next (wait (1 + slice.toNat * 2 ^ 16)))
        ∧ exec (.cartClose ag) s = .next (wait 2)
        ∧ ∀ n : BitVec 8, exec (.cartCollect ag n) s = .next (wait (3 + n.toNat * 2 ^ 4)))

/-- What the end of a governor period does, and what a crossing's low eye margin does (R172, R174, R175, R176, R177,
R178, R445, R446, R447, R448, chapters 07 and 18). At the end of a governor period the sensors and the input are
sampled, each sheet that is up latches its slack, the critical limits of bank, stack, FD and inlet sensors are
checked, the cap is compared with the input's power, and then the limiter and the governor act for each of the 16
banks. The slack of a sheet is the least of its four chains' counts, of the first chain that has it, less the plan's.
A bank's next code is the start code when fixed or with no plan, one less when throttled, one more below the target,
one less above target and hysteresis, else the same, always within vmin and vmax. A crossing whose margin falls below
one tap is recorded once, 0x3011. Clauses resting on a choice or an inference of the model: log entries 8, 74. -/
def Obligations.SlackGovernorsAndLimiter : Prop :=
  ∀ (s : State) (x : PeriodSample),
    (let now := if s.time.period < s.time.tick / 12800 then s else s.toTick (s.nextAfter 0 12800)
     let a := now.modTime fun t => { t with period := t.tick / 12800 }
     let b := x.temps.toList.zipIdx.foldl (fun t e => t.readSensor e.2 e.1) a
     let c := ((b.readSensor 30 x.inlet).readSensor 31 x.outlet).readSensor 32 x.board
     let d := (c.setFld PWR_IN_STAT_volts x.volts.toNat).setFld PWR_IN_STAT_amps x.amps.toNat
     let e := iter 320 (fun i t => if t.sheetUp i then t.latchSlack x i else t) d
     let f := (iter 6 (fun k t => t.checkFd (16 + k)) (iter 16 (fun k t => t.checkCritical k) e)).checkInlet
     let isOver : Bool := decide (f.fld PWR_IN_CFG_cap * 1000 < x.power.toNat)
     let g := (f.setFld PWR_THERM_STAT_capped (b2n isOver)).modPwr fun p =>
       { p with coolPower := coolNext (!isOver) p.coolPower }
     exec (.governorPeriod x) s = .next (iter 16 (fun n t => t.govern n) (iter 16 (fun n t => t.limit n) g)))
    ∧ (∀ i < 320,
        let n := (leastChain x i).1
        let c := (leastChain x i).2
        c < 4 ∧ chainOf x i c = n ∧ (∀ k < 4, n ≤ chainOf x i k) ∧ (∀ k < c, n < chainOf x i k)
        ∧ (let slack : Int := (n : Int) - s.planSteps
           let u := iter 4 (fun k t => t.setFld (SHEET_SLACK_C_count i k) (chainOf x i k)) s
           let w := (u.setFld (SHEET_SLACK_slack i) (uNat 16 slack)).setFld (SHEET_SLACK_chain i) c
           (0 ≤ slack → s.latchSlack x i = w)
           ∧ (slack < 0 → s.latchSlack x i =
              (w.setFld (SHEET_SLACK_neg i) 1).count (SHEET_SLACK_NEG_CNT_count i) 1)))
    ∧ (∀ (n : Fin 16) (slack : Int),
        let lo : Int := s.fld (PWR_GOV_CTL_vmin n)
        let hi : Int := s.fld (PWR_GOV_CTL_vmax n)
        let code : Int := s.fld (PWR_GOV_STAT_code n)
        let aim := sInt 16 (s.fld (PWR_GOV_TGT_target n))
        let fit : Int → Int := fun v => min (max v lo) hi
        let still := s.flag (PWR_GOV_CTL_fixed n) = true ∨ s.fld TIME_SCHED_CTL_plan = 0
        (lo ≤ hi → lo ≤ s.govNext n slack ∧ s.govNext n slack ≤ hi)
        ∧ (still → s.govNext n slack = fit (s.fld (PWR_GOV_CTL_vstart n)))
        ∧ (¬ still → s.flag (PWR_GOV_STAT_throttle n) = true → s.govNext n slack = fit (code - 1))
        ∧ (¬ still → s.flag (PWR_GOV_STAT_throttle n) = false →
            (slack < aim → s.govNext n slack = fit (code + 1))
            ∧ (aim + s.fld (PWR_GOV_TGT_hyst n) < slack → s.govNext n slack = fit (code - 1))
            ∧ (aim ≤ slack → slack ≤ aim + s.fld (PWR_GOV_TGT_hyst n) → s.govNext n slack = fit code)))
    ∧ (∀ n : Fin 16, s.domUp n = false → s.govern n = s)
    ∧ (∀ (c : Fin 15) (m : BitVec 3),
        let u := s.setFld (TIME_XING_margin c) m.toNat
        (m ≠ 0 ∨ u.flag (TIME_XING_aligned c) = false → exec (.crossingLowMargin c m) s = .next u)
        ∧ (m = 0 → u.flag (TIME_XING_aligned c) = true →
            let w := u.setFld (TIME_XING_low_margin c) 1
            (s.time.xing.contains c.val = true → exec (.crossingLowMargin c m) s = .next w)
            ∧ (s.time.xing.contains c.val = false → exec (.crossingLowMargin c m) s = .next
                ((w.modTime fun t => { t with xing := t.xing ++ [c.val] }).raise 0x3011 (unitXing c) 0 c))))

/-- Power-up, input limits, mating contact, overcurrent, the reset pin, and the domains coming up in turn (R379, R429,
R438, R439, R440, R441, R442, R444, R452, chapters 15 and 18). 50 V with the mating contact closed powers the module
up, to STANDBY. An input outside its limits sets its cause, records 0x9001 or 0x9002 and opens both switches; back
inside them, with the contact closed, both close again: a power-up that keeps the cause. Removal opens both switches.
An overcurrent opens the main switch alone, with 0x9003; a POWER step reached by anything but a module reset does not
close it again. With the main switch open domains 0 to 21 are down; with both open all 25 are. RESET_N low takes the
module to WAIT by a module reset, but not in STANDBY; released, a go that waited begins. The domains are enabled in
the order 16, 19, 20, 21, 17, 18, then 0 to 15, without those marked off. When the domain being enabled reports power
good it is on, a bank's governor starts at its vstart code, and the next one is enabled; with domain 16 the
cartouche's owed faults are recorded. When it does not report within 3 ms its bit of PWR_DOM_FAIL is set and 0x9010
recorded with its number, the bring-up ends, and in the POWER step the step fails with 0x8040. With no domain being
enabled neither does anything to the domains. Clauses resting on a choice or an inference of the model: log entries 8,
77, 83. -/
def Obligations.SupplyResetPinAndPowerDomains : Prop :=
  ∀ s : State,
    (exec .powerUp s = .next (if s.pwr.mate then s.powerUp 1 else s))
    ∧ (∀ cause, (s.powerUp cause).fld BOOT_STAT_step = 1 ∧ (s.powerUp cause).fab.others = s.fab.others
        ∧ (s.powerUp cause).boot.rb = s.boot.rb ∧ (s.powerUp cause).cart = s.cart)
    ∧ (s.pwr.opened = false →
        exec .inputUndervoltage s = .next ((((s.setFld PWR_STAT_undervolt 1).raise 0x9001 0 0 0).bothOpen).modPwr
          fun p => { p with inputBad := true })
        ∧ exec .inputOvervoltage s = .next ((((s.setFld PWR_STAT_overvolt 1).raise 0x9002 0 0 0).bothOpen).modPwr
          fun p => { p with inputBad := true })
        ∧ exec .mateOpen s = .next (s.bothOpen.modPwr fun p => { p with mate := false })
        ∧ exec .inputRecover s = .next (s.modPwr fun p => { p with inputBad := false })
        ∧ exec .mateClose s = .next (s.modPwr fun p => { p with mate := true }))
    ∧ (s.pwr.opened = true →
        exec .inputUndervoltage s = .next (s.modPwr fun p => { p with inputBad := true })
        ∧ exec .inputOvervoltage s = .next (s.modPwr fun p => { p with inputBad := true })
        ∧ exec .mateOpen s = .next (s.modPwr fun p => { p with mate := false })
        ∧ (let u := s.modPwr fun p => { p with inputBad := false }
           exec .inputRecover s = .next (if s.pwr.mate then u.powerUp ((s.reg PWR_STAT).toNat % 32) else u))
        ∧ (let u := s.modPwr fun p => { p with mate := true }
           exec .mateClose s = .next (if s.pwr.inputBad then u else u.powerUp ((s.reg PWR_STAT).toNat % 32))))
    ∧ (s.flag PWR_STAT_main = true → exec .overcurrentTrip s = .next
        ((s.setFld PWR_STAT_overcurrent 1).raise 0x9003 0 0 0).mainOpen)
    ∧ (s.flag PWR_STAT_main = false → exec .overcurrentTrip s = .next s)
    ∧ (Sound s → (∀ j < 22, s.mainOpen.domUp j = false) ∧ s.mainOpen.flag PWR_STAT_main = false)
    ∧ s.mainOpen.pwr.tripped = true
    ∧ (s.pwr.tripped = true → s.beginStep 4 = s.modBoot fun b => { b with since := s.time.elapsed })
    ∧ (s.alive = false ∨ s.fld BOOT_STAT_step = 1 → exec .resetPin s = .next s)
    ∧ (s.alive = true → s.fld BOOT_STAT_step ≠ 1 → exec .resetPin s = .next
        ((s.modPwr fun p => { p with resetLow := true }).resetReq 2))
    ∧ (let u := s.modPwr fun p => { p with resetLow := false }
       (s.boot.goWait = true → s.fld BOOT_STAT_step = 2 → exec .resetNRelease s = .next u.startVerify)
       ∧ (s.boot.goWait = false ∨ s.fld BOOT_STAT_step ≠ 2 → exec .resetNRelease s = .next u))
    ∧ (∀ j, j ∈ s.powerOrder ↔ j < 22 ∧ ¬ (j = 18 ∧ s.flag PWR_DOM_OFF_global = true)
      ∧ ¬ (j = 21 ∧ s.flag PWR_DOM_OFF_ddr = true))
    ∧ s.powerOrder.Nodup
    ∧ (s.pwr.bring = [] → exec .domainPowerGood s = .next s ∧ exec .domainPgTimeout s = .next s)
    ∧ (∀ j l, s.pwr.bring = j :: l →
        let on := s.setDom j true
        let up := (if j < 16 then on.startBank j else on).bringUp l
        (j ≠ 16 → exec .domainPowerGood s = .next up)
        ∧ (j = 16 → exec .domainPowerGood s = .next
            ((s.cart.owed.foldl (fun t e => t.raise e.1 unitCart 0 e.2) up).modCart fun c => { c with owed := [] }))
        ∧ (let t := s.toElapsed (s.pwr.bringAt + 3840000)
           let f := ((t.setFld PWR_DOM_FAIL_fail (t.fld PWR_DOM_FAIL_fail ||| 2 ^ j)).raise 0x9010 0 0 j).modPwr
             fun p => { p with bring := [] }
           (f.fld BOOT_STAT_step ≠ 4 → exec .domainPgTimeout s = .next f)
           ∧ (f.fld BOOT_STAT_step = 4 → exec .domainPgTimeout s = .next
              ((f.raiseBoot 0x8040 4).setFld BOOT_STAT_failed 1))))

/-- When each step of the boot sequence completes and which step follows (R381, R382, R383, R384, R385, R386, R387,
R388, R395, chapter 15). While the module is unpowered, held or failed, completion changes nothing. STANDBY is
followed by WAIT; a step from VERIFY on ends what the test port drives; VERIFY checks the image's form, then its
security version, then its signature, and goes on to POWER only if all pass, and back to WAIT with error 1, 2 or 3 if
not. POWER is followed by ALIGN when every domain is up, TIME by MEMORY when the time is set, LINKS by SURVEY when
every enabled powered port is ACTIVE, SURVEY by READY when it is over. A step whose hold bit is set is waited in
before it begins. Clauses resting on a choice or an inference of the model: log entries 8, 78, 79, 81, 106. -/
def Obligations.BootStepsGoOn : Prop :=
  ∀ s : State,
    (s.booting = false → ∀ r, exec (.bootStepAdvance r) s = .next s)
    ∧ (s.booting = true →
        let go := exec (.bootStepAdvance .done) s
        (s.fld BOOT_STAT_step = 1 → go = .next (s.enterStep 2))
        ∧ (s.fld BOOT_STAT_step = 4 → go = .next (if s.pwrOk then s.enterStep 5 else s))
        ∧ (s.fld BOOT_STAT_step = 6 → go = .next (if s.flag TIME_DOM_STAT_set then s.enterStep 7 else s))
        ∧ (s.fld BOOT_STAT_step = 8 → go = .next (if s.linksUp then s.enterStep 9 else s))
        ∧ (s.fld BOOT_STAT_step = 9 → go = .next (if 2 ≤ s.fld TOPO_STAT_survey then s.enterStep 10 else s))
        ∧ (s.fld BOOT_STAT_step = 10 → go = .next s)
        ∧ (s.fld BOOT_STAT_step = 3 → s.boot.xfer = none →
            let h := s.imgRead 0 64
            let n := 64 + bodyLen h
            let fail : Nat → Nat → State := fun code err =>
              ((s.raiseBoot code 0).setFld BOOT_STAT_error err).backToWait
            (imageOk h = false → go = .next (fail 0x8001 1))
            ∧ (imageOk h = true → leField h 9 1 < s.fuseCount → go = .next (fail 0x8003 2))
            ∧ (imageOk h = true → s.fuseCount ≤ leField h 9 1 → go = .next
                (if imageSigned (s.imgRead 0 n) (s.imgRead n 5605) then s.verifyPass h (s.imgRead 0 n)
                  else fail 0x8002 3))))
    ∧ (∀ j,
        let w := if 3 ≤ j then s.modBoot fun b => { b with jtag :=
            if b.jtag.drive = 0 then b.jtag else { b.jtag with ir := 0xFF, drive := 0 } } else s
        let u := (w.setFld BOOT_STAT_step j).modBoot fun b => { b with since := s.time.elapsed }
        let held := 4 ≤ j ∧ j ≤ 9 ∧ (u.fld BOOT_CTL_hold).testBit (j - 4) = true
        (held → s.enterStep j = u.setFld BOOT_STAT_held 1) ∧ (¬ held → s.enterStep j = u.beginStep j))

/-- The ALIGN step takes each crossing's open eye, the MEMORY step trains the stacks and the DDR5 tier (R171, R309,
R310, chapters 07, 12 and 15). ALIGN: a crossing whose eye is open over two taps or more takes a tap in the middle of
it; one with less records 0x3010 with its number and the step fails; with none failed TIME follows. MEMORY has four
steps in turn, each timed from its own beginning: the stacks train at the first of the rates tried that all reach,
with 0x6004 for each stack where that is not the fastest rate, or the boot step fails with 0x6001 for each that does
not reach the last; the modules found that are no legal population record 0x6002 and the tier is disabled, and with
none the tier is absent; the modules that do not train record 0x6002 each and the tier is disabled; memory is cleared
and LINKS follows. A result that comes in another step does nothing. Clauses resting on a choice or an inference of
the model: log entries 80, 81. -/
def Obligations.AlignAndMemoryTraining : Prop :=
  ∀ s : State, s.booting = true →
    (∀ eyes : Vector Eye 15, s.fld BOOT_STAT_step ≠ 5 → exec (.bootStepAdvance (.eyes eyes)) s = .next s)
    ∧ (∀ eyes : Vector Eye 15, s.fld BOOT_STAT_step = 5 →
        let t := eyes.toList.zipIdx.foldl (fun t e => t.alignOne e.2 e.1) s
        (t.flag BOOT_STAT_failed = true → exec (.bootStepAdvance (.eyes eyes)) s = .next t)
        ∧ (t.flag BOOT_STAT_failed = false → exec (.bootStepAdvance (.eyes eyes)) s = .next (t.enterStep 6)))
    ∧ (∀ (c : Nat) (e : Eye), (e.taps : Nat) < 2 →
        s.alignOne c e = (s.raise 0x3010 (unitXing c) 0 c).setFld BOOT_STAT_failed 1)
    ∧ (∀ (c : Nat) (e : Eye), 2 ≤ (e.taps : Nat) → (e.taps : Nat) % 2 = 1 → s.alignOne c e =
        ((s.setFld (TIME_XING_tap c) ((e.first.val + (e.taps - 1) / 2) % 8)).setFld (TIME_XING_margin c)
          e.margin.toNat).setFld (TIME_XING_aligned c) 1)
    ∧ (∀ h : Vector (Fin 4) 8,
        let best := h.toList.map (·.val)
        let rates := if s.flag MEM_CFG_fallback then (List.range 3).filter fun k => decide (s.boot.memRate ≤ k)
          else [s.boot.memRate]
        let reach : Nat → Bool := fun r => best.all fun b => decide (b ≤ r)
        (s.fld BOOT_STAT_step ≠ 7 ∨ s.boot.memPhase ≠ 1 → exec (.bootStepAdvance (.hbm h)) s = .next s)
        ∧ (s.fld BOOT_STAT_step = 7 → s.boot.memPhase = 1 →
            (∀ r, rates.find? reach = some r →
              let a := (s.setFld MEM_STAT_hbm_ok 0xFF).setFld MEM_STAT_hbm_got r
              exec (.bootStepAdvance (.hbm h)) s = .next
                ((if r = 0 then a else iter 8 (fun i t => t.raise 0x6004 (unitDev i) 0 i) a).memEnter 2))
            ∧ (rates.find? reach = none → exec (.bootStepAdvance (.hbm h)) s = .next
              ((best.zipIdx.foldl (fun t (e : Nat × Nat) =>
                if e.1 ≤ rates.getLastD 2 then t.setFld MEM_STAT_hbm_ok (t.fld MEM_STAT_hbm_ok ||| 2 ^ e.2)
                else t.raise 0x6001 (unitDev e.2) 0 e.2) s).setFld BOOT_STAT_failed 1))))
    ∧ (∀ d : Vector (Option Spd) 8,
        let ch := populated d.toList
        let u := s.modLoad fun l => { l with dimms := ch.foldl (fun m c => m ||| 2 ^ c) 0 }
        (s.fld BOOT_STAT_step ≠ 7 ∨ s.boot.memPhase ≠ 2 → exec (.bootStepAdvance (.spd d)) s = .next s)
        ∧ (s.fld BOOT_STAT_step = 7 → s.boot.memPhase = 2 →
            (s.flag PWR_DOM_OFF_ddr = true ∨ ch = [] → exec (.bootStepAdvance (.spd d)) s = .next
              ((s.setFld MEM_STAT_tier 0).memEnter 4))
            ∧ (s.flag PWR_DOM_OFF_ddr = false → ch ≠ [] → spdOk d.toList = false →
              exec (.bootStepAdvance (.spd d)) s = .next (((u.raise 0x6002 0 0 0).setFld MEM_STAT_tier 3).memEnter 4))
            ∧ (s.flag PWR_DOM_OFF_ddr = false → ch ≠ [] → spdOk d.toList = true →
              exec (.bootStepAdvance (.spd d)) s = .next
                (((u.setFld MEM_STAT_tier (if ch.length = 4 then 1 else 2)).setFld MEM_STAT_cap
                  ((d.toList.filterMap id).head?.elim 0 fun x => x.cap.toNat)).memEnter 3))))
    ∧ (∀ g : Vector Bool 8,
        let bad := s.dimmChans.filter fun c => !g.toList.getD c false
        let u := s.setFld MEM_STAT_ddr_ok
          ((s.dimmChans.filter fun c => g.toList.getD c false).foldl (fun m c => m ||| 2 ^ c) 0)
        (s.fld BOOT_STAT_step ≠ 7 ∨ s.boot.memPhase ≠ 3 → exec (.bootStepAdvance (.ddr g)) s = .next s)
        ∧ (s.fld BOOT_STAT_step = 7 → s.boot.memPhase = 3 →
            (bad = [] → exec (.bootStepAdvance (.ddr g)) s = .next (u.memEnter 4))
            ∧ (bad ≠ [] → exec (.bootStepAdvance (.ddr g)) s = .next
              (((bad.foldl (fun t c => t.raise 0x6002 (unitDev (8 + c)) 0 (8 + c)) u).setFld MEM_STAT_tier 3).memEnter
                4))))
    ∧ (s.fld BOOT_STAT_step = 7 →
        (s.boot.memPhase = 4 → exec (.bootStepAdvance .done) s = .next
          (({ s with mem := [], poison := [] }.setFld MEM_STAT_cleared 1).enterStep 8))
        ∧ (s.boot.memPhase ≠ 4 → exec (.bootStepAdvance .done) s = .next s))
    ∧ (∀ k, s.memEnter k = s.modBoot fun b => { b with memPhase := k, since := s.time.elapsed })

/-- What each step of the boot sequence does when it reaches its limit (R171, R310, R381, R382, R385, R444, chapters
11 and 15). STANDBY falls silent; VERIFY's transfer fails with 0x8004; POWER fails with 0x8040, ALIGN with 0x3010 for
each crossing not aligned, TIME with 0x3067, MEMORY by its own step: the stacks try the next rate or fail with 0x6001,
the tier is disabled with 0x6002, or is absent without fault where its domain is skipped, or the clearing fails with
0x6003; LINKS and SURVEY go on to the next step; READY has no limit. A module that is unpowered, held or failed meets
no limit. Clauses resting on a choice or an inference of the model: log entries 8, 79. -/
def Obligations.BootStepLimits : Prop :=
  ∀ s : State,
    (s.booting = false ∨ s.fld BOOT_STAT_step = 2 ∨ s.fld BOOT_STAT_step = 10 → exec .bootStepTimeout s = .next s)
    ∧ (s.booting = true →
        let at_ : Nat → State := fun n => s.toElapsed (s.boot.since + n)
        let fail : State → State := fun t => t.setFld BOOT_STAT_failed 1
        (s.fld BOOT_STAT_step = 1 → exec .bootStepTimeout s = .next
          ((at_ 64000000).modBoot fun b => { b with silent := true }))
        ∧ (s.fld BOOT_STAT_step = 3 → s.boot.xfer.isSome = true → exec .bootStepTimeout s = .next
          ((at_ 25600000).verifyFail 0x8004 4))
        ∧ (s.fld BOOT_STAT_step = 4 → exec .bootStepTimeout s = .next (fail ((at_ 128000000).raiseBoot 0x8040 4)))
        ∧ (s.fld BOOT_STAT_step = 5 → exec .bootStepTimeout s = .next
          (fail (iter 15 (fun c t => if t.flag (TIME_XING_aligned c) then t else t.raise 0x3010 (unitXing c) 0 c)
            (at_ 1280000))))
        ∧ (s.fld BOOT_STAT_step = 6 → exec .bootStepTimeout s = .next (fail ((at_ 12800000000).raise 0x3067 0 0 0)))
        ∧ (s.fld BOOT_STAT_step = 3 → s.boot.xfer = none → exec .bootStepTimeout s = .next (at_ 25600000).backToWait)
        ∧ (s.fld BOOT_STAT_step = 7 →
            let off : State → State := fun t => (t.setFld MEM_STAT_tier 3).memEnter 4
            (s.boot.memPhase = 1 → s.flag MEM_CFG_fallback = true → s.boot.memRate < 2 → exec .bootStepTimeout s = .next
              ((at_ 256000000).modBoot fun b =>
                { b with memRate := b.memRate + 1, since := (at_ 256000000).time.elapsed }))
            ∧ (s.boot.memPhase = 1 → s.flag MEM_CFG_fallback = false ∨ 2 ≤ s.boot.memRate →
              exec .bootStepTimeout s = .next
                (fail (iter 8 (fun i t => t.raise 0x6001 (unitDev i) 0 i) (at_ 256000000))))
            ∧ (s.boot.memPhase = 2 → s.flag PWR_DOM_OFF_ddr = false → exec .bootStepTimeout s = .next
              (off ((at_ 128000000).raise 0x6002 0 0 0)))
            ∧ (s.boot.memPhase = 2 → s.flag PWR_DOM_OFF_ddr = true → exec .bootStepTimeout s = .next
              ((s.setFld MEM_STAT_tier 0).memEnter 4))
            ∧ (s.boot.memPhase = 3 → s.dimmChans ≠ [] → exec .bootStepTimeout s = .next
              (off (s.dimmChans.foldl (fun t c => t.raise 0x6002 (unitDev (8 + c)) 0 (8 + c)) (at_ 1280000000))))
            ∧ (s.boot.memPhase ∉ [1, 2, 3] → exec .bootStepTimeout s = .next
              (fail ((at_ 6400000000).raise 0x6003 0 0 0))))
        ∧ (s.fld BOOT_STAT_step = 8 → exec .bootStepTimeout s = .next ((at_ 1280000000).enterStep 9))
        ∧ (s.fld BOOT_STAT_step = 9 → exec .bootStepTimeout s = .next (s.surveyTimeout.enterStep 10)))

/-- A programming pulse and a signature complete (R380, R389, R390, R392, R393, chapter 15). A pulse on the fuse at
the count takes 0.1 ms; blown, its bit is set and no other changes, and the commit is over when the count reaches the
value or a reset waits; a fuse not blown after three pulses records 0x8021 and ends the commit. The end clears busy
and lets the reset that waited act. A signature formed releases the report followed by its signature of 2,820 bytes.
With no commit or no signature in progress nothing happens. Clauses resting on a choice or an inference of the model:
log entries 8, 82, 106. -/
def Obligations.FusesAndAttestationComplete : Prop :=
  ∀ s : State,
    (s.boot.commit = none → ∀ b, exec (.fuseBlowDone b) s = .next s)
    ∧ (∀ v, s.boot.commit = some v →
        let t := s.toElapsed (s.boot.fuseAt + 128000)
        let i := t.fuseCount
        (let u := t.modBoot fun b => { b with rb := b.rb ||| 2 ^ i, pulses := 0, fuseAt := t.time.elapsed }
         (u.boot.waitReset.isSome = true ∨ v ≤ u.fuseCount → exec (.fuseBlowDone true) s = .next u.commitEnd)
         ∧ (u.boot.waitReset = none → u.fuseCount < v → exec (.fuseBlowDone true) s = .next u))
        ∧ (let u := t.modBoot fun b => { b with pulses := t.boot.pulses + 1, fuseAt := t.time.elapsed }
           (2 ≤ t.boot.pulses → exec (.fuseBlowDone false) s = .next (u.raiseBoot 0x8021 (i % 64)).commitEnd)
           ∧ (t.boot.pulses < 2 → u.boot.waitReset = none → u.fuseCount < v →
              exec (.fuseBlowDone false) s = .next u)))
    ∧ (∀ w : Nat,
        let u := (s.setFld BOOT_ROLL_busy 0).modBoot fun b => { b with commit := none, waitReset := none }
        (s.boot.waitReset = none → s.commitEnd = u) ∧ (s.boot.waitReset = some w → s.commitEnd = u.resetNow w))
    ∧ (s.boot.signing = none → exec .attestDone s = .next s)
    ∧ (∀ (r : List Byte) (n : Nat), s.boot.signing = some (r, n) → exec .attestDone s = .next
        ((s.modBoot fun b =>
          { b with signing := none, out := r ++ attKey.sign n r }).setFld BOOT_ATT_STAT_state 2))
    ∧ (∀ (n : Nat) (m : List Byte), (attKey.sign n m).length = 2820)

/-- The training of a Wiora port: what completes, what expires, the loss of a lane, and the grace (R345, R351, R352,
R353, R441, chapter 14). A port that is not enabled or has no power does not train. A receiver detected leads from
DETECT to EQUALIZE, lanes good to ALIGN with the width they give, 64 flits locked to INIT; an INIT with no lane in
common is ignored, one on a fresh port makes it ACTIVE, a fresh peer flushes a port that is not; otherwise freed
counts that free more than was sent are a protocol error, and the peer's expected number must lie in the window.
Timers lead back to DETECT, an INIT timeout to EQUALIZE three times first, each counted as a retrain; 0x7051 is
recorded where the training was no retrain. The loss of a lane retrains an ACTIVE port by a PAUSE op and starts its
grace, begins EQUALIZE anew in a port that trains, and does nothing in DETECT; when the grace ends the port is
flushed: 0x7053, numbers from 0, nothing held, DETECT. Clauses resting on a choice or an inference of the model: log
entries 8, 63, 111. -/
def Obligations.WioraPortsTrain : Prop :=
  ∀ (s : State) (p : WPort),
    let st := s.fld (WLINK_STAT_state p)
    let q := s.wport p
    (s.wMay p = false → (∀ r, exec (.wioraTrainDone p r) s = .next s) ∧ exec (.wioraStateTimeout p) s = .next s)
    ∧ (s.wMay p = true →
        (st = 0 → exec (.wioraTrainDone p .detected) s = .next (s.wEnter p 1 false))
        ∧ (∀ low high, st = 1 →
            let w := if low && high && !s.flag (WLINK_CTL_width_max p) then 3 else if low then 1 else if high then 2 else 0
            (w = 0 → exec (.wioraTrainDone p (.equalized low high)) s = .next s)
            ∧ (w ≠ 0 → exec (.wioraTrainDone p (.equalized low high)) s = .next
                ((s.setFld (WLINK_STAT_width p) w).wEnter p 2 q.retrain)))
        ∧ (st = 2 → exec (.wioraTrainDone p .locked) s = .next (s.wEnter p 3 q.retrain))
        ∧ (∀ (identity : Word) (width : BitVec 2) (half fresh : Bool) (freed : Vector (BitVec 12) 4)
            (slots : BitVec 12) (expect : BitVec 10), st = 3 →
            let w := wCommon (s.fld (WLINK_STAT_width p)) width.toNat
            let slow := half || s.flag (WLINK_CTL_half_rate p)
            let go := exec (.wioraTrainDone p (.initialised identity width half fresh freed slots expect)) s
            let known : State → State := fun t => t.modWport p fun q => { q with peerId := identity.toNat }
            let frh := freed.toList.map (·.toNat)
            let more := ∃ c : Fin 4, q.countError c (frh.getD c 0) slots.toNat = true
            let a := subMod 10 expect.toNat 1
            let n := subMod 10 a q.acked
            (w = 0 → go = .next s)
            ∧ (w ≠ 0 → q.fresh = true → go = .next ((known s).wActivate p w slow))
            ∧ (w ≠ 0 → q.fresh = false → fresh = true → go = .next ((known (s.wFlush p)).wActivate p w slow))
            ∧ (w ≠ 0 → q.fresh = false → fresh = false → more →
                go = .next ((s.raise 0x7050 (unitWiora p) 0 p).wRetrain p true))
            ∧ (w ≠ 0 → q.fresh = false → fresh = false → ¬ more →
                (n ≤ subMod 10 (subMod 10 q.next 1) q.acked → go = .next ((s.modWport p fun q =>
                  { q with peerId := identity.toNat, seen := { h := frh, d := slots.toNat }, replay := q.replay.drop n
                           acked := a }).wActivate p w slow))
                ∧ (subMod 10 (subMod 10 q.next 1) q.acked < n → go = .next
                  ((s.raise 0x7050 (unitWiora p) 0 p).wFlush p)))))
    ∧ (s.wMay p = true →
        let at_ : Nat → State := fun n => s.toElapsed (q.since + n)
        let full : State → State := fun t =>
          if q.retrain then t.wEnter p 0 false else (t.raise 0x7051 (unitWiora p) 0 p).wEnter p 0 false
        (st = 0 → exec (.wioraStateTimeout p) s = .next ((at_ 1280000).wEnter p 0 false))
        ∧ (st = 1 → exec (.wioraStateTimeout p) s = .next (full (at_ (if q.retrain then 30720 else 128000000))))
        ∧ (st = 2 → exec (.wioraStateTimeout p) s = .next (full (at_ 12800)))
        ∧ (st = 3 → q.tries < 3 → exec (.wioraStateTimeout p) s = .next
            ((((at_ 2560).modWport p fun q => { q with tries := q.tries + 1 }).count (WLINK_ERR_retrains p) 1).wEnter p 1
              true))
        ∧ (st = 3 → 3 ≤ q.tries → exec (.wioraStateTimeout p) s = .next
            (((at_ 2560).modWport p fun q => { q with tries := 0 }).wEnter p 0 false)))
    ∧ (∀ lane : Fin 16,
        (st = 0 → exec (.wioraLaneLoss p lane) s = .next s)
        ∧ (st ≠ 0 → st ≠ 4 → exec (.wioraLaneLoss p lane) s = .next
            ((s.count (WLINK_ERR_retrains p) 1).wEnter p 1 q.retrain))
        ∧ (st = 4 →
            let u := s.modWport p fun q =>
              { q with wire := [q.stamp q.next 2 (wPayload [] [])], cc := (q.cc + 1) % 4, owe := q.owe - 1 }
            exec (.wioraLaneLoss p lane) s = .next (((u.count (WLINK_ERR_retrains p) 1).wLeave p).wEnter p 1 true)))
    ∧ (q.graceAt = none → exec (.wioraGraceExpire p) s = .next s)
    ∧ (∀ t, q.graceAt = some t →
        let u := ((s.toElapsed t).setFld (WLINK_STAT_flushed p) 1).raise 0x7053 (unitWiora p) 0 p
        let v := u.modWport p fun q => { q with
          tx := [], replay := [], next := 0, acked := 1023, expect := 0, stalls := 0, nakDue := false, cc := 0
          sent := {}, seen := {}, freed := {}, graceAt := none, fresh := true, paceS := none, owe := 0
          rx := (q.rx.filter fun e => e.1 == 0 && e.2.cls == 1).map fun e => (0, { e.2 with old := true }) }
        let x := iter 2 (fun k t => t.modWport k fun q => { q with evE := q.evE.filter fun l => l.1 != p }) v
        let w := (x.wport p).reqs.foldl (fun t r => t.wDown p r) x
        exec (.wioraGraceExpire p) s = .next
          (((w.setFld (WLINK_STAT_grace p) 0).setFld (WLINK_STAT_width p) 0).wEnter p 0 false))

/-- What an ACTIVE Wiora port does with a flit, and when its peer's ack has not advanced (R346, R347, R348, R349,
R350, R351, chapter 14). A port that is not ACTIVE takes nothing. A flit that fails FEC or CRC is counted and answered
by NAK. One with a reserved op, class or op of a message, with credits freed beyond what was sent or with an ack out
of its window, and one in sequence beyond the receiver's room, is a protocol error: 0x7050 and a retrain. Otherwise
its credits and its ack are taken, a NAK op replays, a PAUSE op retrains; an empty flit takes no number; another that
is in sequence has its messages and data slots taken, and one out of sequence is answered by NAK once; then what may
go is sent. No ack for 2,560 ticks replays; the eighth time in a row is a protocol error. Clauses resting on a choice
or an inference of the model: log entries 61, 62. -/
def Obligations.WioraFlitsAreCheckedInOrder : Prop :=
  ∀ (s : State) (p : WPort) (f : WFlit),
    let q := s.wport p
    let h := f.hdr.toNat
    let ms := wHeaders f
    let back := subMod 10 (bits h 10 10) q.acked
    let proto : State → State := fun t => (t.raise 0x7050 (unitWiora p) 0 p).wRetrain p true
    (s.wactive p = false → ∀ fec, exec (.wioraFlitReceive p f fec) s = .next s)
    ∧ (s.wactive p = true → exec (.wioraFlitReceive p f .bad) s = .next ((s.count (WLINK_ERR_crc p) 1).wNak p))
    ∧ (s.wactive p = true →
        let bad := bits h 20 2 = 3 ∨ (∃ m ∈ ms, m.reserved = true)
          ∨ q.countError (bits h 22 2) (bits h 24 12) (bits h 36 12) = true
          ∨ subMod 10 (subMod 10 q.next 1) q.acked < back
          ∨ (bits h 0 10 = q.expect ∧ q.roomError ms = true)
        (bad → exec (.wioraFlitReceive p f .ok) s = .next (proto s))
        ∧ (¬ bad →
            let a := s.modWport p fun q =>
              { q with seen := { h := q.seen.h.set (bits h 22 2) (bits h 24 12), d := bits h 36 12 } }
            let b := if back = 0 then a else a.modWport p fun q =>
              { q with replay := q.replay.drop back, acked := bits h 10 10, ackAt := s.time.elapsed, stalls := 0 }
            let c := if bits h 20 2 = 1 then b.wReplay p else b
            let empty := (∀ x ∈ f.payload, x = 0) ∧ (bits h 20 2 ≠ 0 ∨ ∀ e ∈ q.rx, e.1 = 0)
            (bits h 20 2 = 2 → exec (.wioraFlitReceive p f .ok) s = .next (c.wRetrain p false))
            ∧ (bits h 20 2 ≠ 2 → empty → exec (.wioraFlitReceive p f .ok) s = .next (c.wPump p))
            ∧ (bits h 20 2 ≠ 2 → ¬ empty →
                (bits h 0 10 = q.expect → exec (.wioraFlitReceive p f .ok) s = .next ((c.wTake p f).wPump p))
                ∧ (bits h 0 10 ≠ q.expect → exec (.wioraFlitReceive p f .ok) s = .next
                    ((if q.nakDue then c else c.wNak p).wPump p)))))
    ∧ (s.wactive p = false ∨ q.replay = [] → exec (.wioraReplayTimeout p) s = .next s)
    ∧ (s.wactive p = true → q.replay ≠ [] →
        let t := s.toElapsed (q.ackAt + 2560)
        let u : Nat → State := fun n => (t.modWport p fun q => { q with ackAt := t.time.elapsed, stalls := n }).wReplay p
        (q.stalls < 7 → exec (.wioraReplayTimeout p) s = .next (u (q.stalls + 1)))
        ∧ (7 ≤ q.stalls → exec (.wioraReplayTimeout p) s = .next (proto (u 0))))

/-- Requests, snoops and answers of the companions; the batch that opens; the interrupt that fell due (R305, R348,
R355, R356, R357, R358, R361, R362, R367, chapter 14). With no whole message of its kind at the head of its class a
command changes nothing. Otherwise the message is taken, its credits are freed, and it is carried out: a read is
answered with the data of the register or of the device window it names, a write by Cmp. One that crosses a window or
is no partial one to the registers is refused with status 2 and 0x7020, one that no window covers with status 2 and
0x6010; a refused read answers all ones, and the registers answer as R10 says. An op that only the module sends is
refused with 0x7022. A snoop of a clean line that is not the pace line gives it up and is acknowledged by SnpAck; one
of a line whose WbE waits is answered by SnpDat with its data. A batch published opens when its header is read and
right, or stops the queue; an interrupt that fell due in the gap goes out at its end where interrupts are enabled.
Clauses resting on a choice or an inference of the model: log entries 60, 64, 65, 66, 67, 68, 96, 109, 110. -/
def Obligations.CompanionMessagesAreAnswered : Prop :=
  ∀ (s : State) (p : WPort) (ecc : Ecc),
    let q := s.wport p
    let head : Nat → List Nat → WMsg → Prop := fun cls ops m =>
      ∃ l r, q.rx = l ++ (0, m) :: r ∧ (∀ e ∈ l, e.2.cls ≠ cls) ∧ m.cls = cls ∧ m.op ∈ ops
    let took : Nat → WMsg → State := fun cls m => s.modWport p fun q => { q with
      rx := q.rx.eraseP fun e => e.2.cls == cls
      freed := if m.old then q.freed else
        { h := q.freed.h.set (cls - 1) ((q.freed.h.getD (cls - 1) 0 + 1) % 4096), d := (q.freed.d + m.slots) % 4096 }
      owe := if m.old then q.owe else 4 }
    let none_ : Nat → List Nat → Instr → Prop := fun cls ops c => (∀ m, ¬ head cls ops m) → exec c s = .next s
    none_ 1 [3] (.rdncReceive p ecc) ∧ none_ 1 [4] (.rdpReceive p ecc)
    ∧ none_ 1 [5] (.wrncReceive p) ∧ none_ 1 [6] (.wrpReceive p)
    ∧ none_ 1 [1, 2, 7, 8, 9] (.rdsRdeFromCompanion p)
    ∧ none_ 2 [1] (.snpinvReceive p) ∧ none_ 2 [2] (.snpdataReceive p)
    ∧ none_ 4 [1, 2] (.rddataReceive p) ∧ none_ 3 [1, 2] (.cmpReceive p)
    ∧ (∀ m, head 1 [3] m → exec (.rdncReceive p ecc) s = .next (((took 1 m).wRead p m ecc).wPump p))
    ∧ (∀ m, head 1 [4] m → exec (.rdpReceive p ecc) s = .next (((took 1 m).wRead p m ecc).wPump p))
    ∧ (∀ m, head 1 [5] m → exec (.wrncReceive p) s = .next (((took 1 m).wWrite p m).wPump p))
    ∧ (∀ m, head 1 [6] m → exec (.wrpReceive p) s = .next (((took 1 m).wWrite p m).wPump p))
    ∧ (∀ m, head 1 [1, 2] m → exec (.rdsRdeFromCompanion p) s = .next
        ((((took 1 m).raise 0x7022 (unitWiora p) 0 p).wReplyData p m 2 (List.replicate (64 * m.lines) 0xFF)).wPump p))
    ∧ (∀ m, head 1 [7, 8, 9] m → exec (.rdsRdeFromCompanion p) s = .next
        ((((took 1 m).raise 0x7022 (unitWiora p) 0 p).wReplyCmp p m 2).wPump p))
    ∧ (∀ m, head 2 [1] m → exec (.snpinvReceive p) s = .next (((took 2 m).snoop p m).wPump p))
    ∧ (∀ m, head 2 [2] m → exec (.snpdataReceive p) s = .next (((took 2 m).snoop p m).wPump p))
    ∧ (∀ m, head 4 [1, 2] m → exec (.rddataReceive p) s = .next (((took 4 m).wRdData p m).wPump p))
    ∧ (∀ m, head 3 [1, 2] m → exec (.cmpReceive p) s = .next (((took 3 m).wCmp p m).wPump p))
    ∧ (∀ m : WMsg,
        let ones := List.replicate m.span.2 (0xFF : Byte)
        (s.reqTo p m = .refused →
          s.wRead p m ecc = (s.raise 0x7020 (unitWiora p) 0 p).wReply p m 2 ones
          ∧ s.wWrite p m = (s.raise 0x7020 (unitWiora p) 0 p).wReply p m 2 [])
        ∧ (s.reqTo p m = .unmapped →
          s.wRead p m ecc = (s.raise 0x6010 0 0 0).wReply p m 2 ones
          ∧ s.wWrite p m = (s.raise 0x6010 0 0 0).wReply p m 2 [])
        ∧ (∀ a n, s.reqTo p m = .control a n →
          let r := s.ctrlRead (p + 1) a n
          let w := s.ctrlWrite (p + 1) a n (leNat m.payload)
          s.wRead p m ecc = r.1.wReply p m r.2.1 r.2.2
          ∧ s.wWrite p m = w.1.wReply p m w.2 [])
        ∧ (∀ a n, s.reqTo p m = .device a n →
          (∀ t bs, s.agentRead (p + 1) a n ecc (.wiora p m) = (t, .done bs) → s.wRead p m ecc = t.wReply p m 0 bs)
          ∧ (∀ t, s.agentRead (p + 1) a n ecc (.wiora p m) = (t, .refused) → s.wRead p m ecc = t.wReply p m 2 ones)
          ∧ (∀ t bs, s.agentWrite (p + 1) a m.payload (.wiora p m) = (t, .done bs) → s.wWrite p m = t.wReply p m 0 []))
        ∧ (m.old = false →
          let mark : WReq → WReq := fun r =>
            if r.addr = m.addr ∧ (r.op = 1 ∨ r.op = 2) ∧ r.answer = none ∧ r.held = none then { r with snooped := true }
            else r
          let u := iter 2 (fun k t => t.modWport k fun q => { q with evE := q.evE.filter (· != (p.val, m.addr)) })
            (s.modWport p fun q => { q with reqs := q.reqs.map mark })
          q.paceS ≠ some m.addr →
            (s.dirtyLine p m.addr = none → s.snoop p m = u.wSend p
              { cls := 3, op := 2, txid := m.txid, len := m.len, line := m.line, lineHi := m.lineHi })
            ∧ (∀ d, s.dirtyLine p m.addr = some d → s.snoop p m = (u.undirty p m.addr).wSend p
              { cls := 4, op := 2, txid := m.txid, len := 1, line := m.line, lineHi := m.lineHi, data := d.data })))
    ∧ (let ac := s.fld WLINK_BQ_CFG_pub_ac
       let idle := s.flag WLINK_BQ_CFG_enable = false ∨ s.flag WLINK_BQ_STAT_open = true
         ∨ s.flag WLINK_BQ_STAT_stopped = true ∨ s.ac ac = 0
       let a := s.fld WLINK_BQ_HDR_base * 128
         + 128 * (s.wiora.next % ringSize (s.fld WLINK_BQ_HDR_size) 65536)
       let opens : State → List Byte → State := fun t d =>
         ((t.modWiora fun w =>
            { w with reading := false, slots := slotMap d, cookie := leField d 24 8, resolve := [] }).setFld
           WLINK_BQ_STAT_open 1).acAdd (t.fld WLINK_BQ_CFG_open_ac) 1 0
       (s.wiora.reading = false → idle → exec (.batchOpen ecc) s = .next s)
       ∧ (s.wiora.reading = false → ¬ idle → exec (.batchOpen ecc) s = exec (.batchOpen ecc)
           ((s.setFld (FAB_AC_count ac) (s.ac ac - 1)).modWiora fun w => { w with reading := true }))
       ∧ (s.wiora.reading = true →
           (s.within a 128 = none → exec (.batchOpen ecc) s = .next s.batchStop)
           ∧ (s.within a 128 ≠ none → ∀ t d, s.fetch .batch a 128 0 ecc = (t, .got (.data d)) →
               (headerOk d t.wiora.next = false → exec (.batchOpen ecc) s = .next t.batchStop)
               ∧ (headerOk d t.wiora.next = true → exec (.batchOpen ecc) s = .next (opens t d)))
           ∧ (inCompanion a = false → inWindows a = false → s.within a 128 ≠ none →
               let u := s.waitRefresh a 128
               let d := u.memRead a 128
               (∀ b ∈ unitsOf a 128, u.isPoison b = false) → headerOk d u.wiora.next = true →
               exec (.batchOpen .clean) s = .next (opens u d))))
    ∧ (q.intDue = false ∨ q.intAt = none → exec (.intGapExpire p) s = .next s)
    ∧ (∀ t, q.intDue = true → q.intAt = some t →
        let u := s.toElapsed (t + s.fld (WLINK_INT_CFG_gap p))
        (u.flag (WLINK_INT_CFG_enable p) = true → exec (.intGapExpire p) s = .next (u.intSend p))
        ∧ (u.flag (WLINK_INT_CFG_enable p) = false → exec (.intGapExpire p) s = .next
            (u.modWport p fun q => { q with intDue := false })))

/-- Samples, commands, signatures, supply loss and return, the seal and a silent read of the cartouche (R421, R422,
R424, R425, R427, R428, R429, R430, R431, R432, R433, chapter 17). A sample taken while the cartouche has its supply,
at 40 V or above, adds volts times amperes to the total and 1 to the count, and then the commands that wait take
effect in order. A command refused is logged and recorded with 0xA001; open writes a record and begins a tenure, close
writes one and ends it, collect marks the oldest signed records. The oldest record that awaits its signature is
completed. Supply loss stops sampling; the return counts it, writes a loss record in a tenure, and checks the pairing.
The tamper switch counts and clears verified; re-verification sets it and pairs anew. The total never falls with a
sample. A read unanswered for 1 ms answers all ones with 0xA030. Clauses resting on a choice or an inference of the
model: log entries 85, 86, 106. -/
def Obligations.CartoucheMetersAndRecords : Prop :=
  ∀ s : State,
    (∀ x : CartSample,
        (s.cart.on = false ∨ x.mv.toNat < 40000 → exec (.cartSample x) s = .next s)
        ∧ (s.cart.on = true → 40000 ≤ x.mv.toNat →
            let u := s.modCart fun c => { c with
              acc := c.acc + x.mv.toNat * x.ma.toNat, samples := c.samples + 1
              last := ((x.mv.toNat, x.ma.toNat) :: c.last).take 4096, temp := x.temp.toNat
              outNow := cartOut x.mv.toNat x.ma.toNat x.temp.toInt
              outSamples := c.outSamples + b2n (cartOut x.mv.toNat x.ma.toNat x.temp.toInt), pend := [] }
            u.cartMeans.cart.acc = s.cart.acc + x.mv.toNat * x.ma.toNat
            ∧ u.cartMeans.cart.samples = s.cart.samples + 1
            ∧ exec (.cartSample x) s = .next
                (s.cart.pend.foldl (fun t e => t.cartCmd e.1 e.2.1 e.2.2) u.cartMeans)))
    ∧ (∀ (agent v : Nat) (out : Bool),
        let op := bits v 0 2
        let n := bits v 4 8
        let slice := bits v 16 16
        let r := s.cartResult op n slice out
        let c := s.cart
        let fin : CartMark :=
          { tick := s.time.tick, total := c.total, samples := c.samples, cmd := c.logged, flits := s.fab.others }
        let u := s.modCart fun c => { c with
          log := (c.log ++ [c.logEntry agent op n slice r s.time.tick]).drop (c.log.length + 1 - 256)
          logged := c.logged + 1, result := r }
        (out = true → r = 5)
        ∧ (out = false → op = 1 → (r = 0 ↔ c.slice = 0 ∧ slice ≠ 0 ∧ slice ≠ 0xFFFF ∧ s.fld BOOT_STAT_step = 10))
        ∧ (out = false → op = 2 → (r = 0 ↔ c.slice ≠ 0))
        ∧ (out = false → op = 3 → (r = 0 ↔ 1 ≤ n ∧ n ≤ c.ready.length))
        ∧ (r ≠ 0 → s.cartCmd agent v out = u.raiseCart 0xA001 (op + 16 * r))
        ∧ (r = 0 → op = 1 → s.cartCmd agent v out = u.cartRecord 2 fin slice)
        ∧ (r = 0 → op = 2 → s.cartCmd agent v out = u.cartRecord 1 fin 0)
        ∧ (r = 0 → op = 3 → s.cartCmd agent v out = u.modCart fun c => { c with
            recs := markRecs (fun r => r.st == 2 && !r.collected) n c.recs, collected := c.collected + n }))
    ∧ (exec .cartSignDone s = .next (if s.cart.on then s.cartComplete else s))
    ∧ (∀ r, s.cart.recs.find? (fun r => r.st == 1) = some r → s.cart.unsigned = false →
        let body := r.body.take 88 ++ [r.body.getD 88 0 ||| 0] ++ (r.body.drop 89).take 23 ++ s.cart.chain r.num
        let r' := { r with body := body, sig := cartKey.sign s.cart.sigNext body, st := 2 }
        s.cartComplete = s.modCart fun c => { c with
          recs := c.recs.map fun e => if e.num = r.num then r' else e, sigNext := c.sigNext + 1 })
    ∧ (exec .cartSupplyLoss s = .next (s.modCart fun c =>
        { c with on := false, pend := [], last := [], power := 0, mv := 0, ca := 0, outNow := false }))
    ∧ (∀ bad, s.cart.on = true → exec (.cartSupplyReturn bad) s = .next s)
    ∧ (s.cart.on = false →
        let u := s.modCart fun c => { c with on := true, losses := c.losses + 1, storeBad := c.storeBad || false }
        let fin : CartMark := { total := s.cart.total, samples := s.cart.samples, flits := s.fab.others }
        (s.cart.slice = 0 → exec (.cartSupplyReturn false) s = .next
          (((u.modCart fun c => { c with lossIn := true }).oweCart 0xA002 0).cartPair))
        ∧ (s.cart.slice ≠ 0 → exec (.cartSupplyReturn false) s = .next
          (((u.cartRecord 3 fin 0).oweCart 0xA002 0).cartPair)))
    ∧ (exec .tamperSwitch s = .next
        ((s.modCart fun c => { c with tamper := c.tamper + 1, verified := false }).oweCart 0xA020 0))
    ∧ (exec .cartReverify s = .next
        (s.modCart fun c => { c with verified := true, moved := false, pair := some Config.uid }))
    ∧ (∀ (ag : Agent) (wide : Bool),
        (s.reaches (agentNo ag) = false → exec (.cartReadTimeout ag wide) s = .next s)
        ∧ (s.reaches (agentNo ag) = true → exec (.cartReadTimeout ag wide) s = .next
          (((s.pass 1280000).raise 0xA030 unitCart 0 0).answer 0 (List.replicate (if wide then 8 else 4) 0xFF))))
end

