-- ==== Sys2Proof/Laws/SMap.lean ====
section
/-! SUPPORT. Laws of sparse maps: a read after a write, and the canonical form is kept. -/

namespace Sys2Proof.Machine

variable {β : Type} [DecidableEq β] {d : Nat → β}

omit [DecidableEq β] in
theorem smAbove_iff {k : Nat} {m : SMap β} : smAbove k m = true ↔ ∀ e ∈ m, k < e.1 := by
  simp [smAbove]

theorem smWf_cons {k : Nat} {v : β} {m : SMap β} :
    smWf d ((k, v) :: m) = true ↔ v ≠ d k ∧ (∀ e ∈ m, k < e.1) ∧ smWf d m = true := by
  simp [smWf, smAbove_iff, and_assoc]

omit [DecidableEq β] in
theorem smGet_of_above {k : Nat} {m : SMap β} (h : ∀ e ∈ m, k < e.1) : smGet d m k = d k := by
  induction m with
  | nil => rfl
  | cons e m ih =>
    obtain ⟨k', v⟩ := e
    have h1 := h (k', v) (by simp)
    simp only [smGet]
    rw [if_neg (by simp at h1; omega)]
    exact ih (fun e he => h e (by simp [he]))

theorem mem_smSet {m : SMap β} {k : Nat} {v : β} {e : Nat × β} (h : e ∈ smSet d m k v) :
    e = (k, v) ∨ e ∈ m := by
  induction m with
  | nil =>
    simp only [smSet] at h
    split at h <;> simp_all
  | cons e' m ih =>
    obtain ⟨k', v'⟩ := e'
    simp only [smSet] at h
    split at h
    · split at h <;> simp_all
    · split at h
      · split at h
        · exact .inr (List.mem_cons_of_mem _ h)
        · rcases List.mem_cons.1 h with h | h
          · exact .inl h
          · exact .inr (List.mem_cons_of_mem _ h)
      · simp only [List.mem_cons] at h ⊢
        rcases h with h | h
        · exact .inr (.inl h)
        · rcases ih h with h | h
          · exact .inl h
          · exact .inr (.inr h)

/-- Every write keeps the canonical form. -/
theorem smWf_smSet {m : SMap β} {k : Nat} {v : β} (h : smWf d m = true) :
    smWf d (smSet d m k v) = true := by
  induction m with
  | nil =>
    simp only [smSet]
    split
    · rfl
    · rw [smWf_cons]
      exact ⟨by assumption, by simp, rfl⟩
  | cons e m ih =>
    obtain ⟨k', v'⟩ := e
    obtain ⟨h1, h2, h3⟩ := smWf_cons.1 h
    simp only [smSet]
    split
    · split
      · exact h
      · rw [smWf_cons]
        refine ⟨by assumption, ?_, h⟩
        intro e he
        simp only [List.mem_cons] at he
        rcases he with rfl | he
        · assumption
        · have := h2 e he
          omega
    · split
      · rename_i hk
        split
        · exact h3
        · rw [smWf_cons]
          subst hk
          exact ⟨by assumption, h2, h3⟩
      · rw [smWf_cons]
        refine ⟨h1, ?_, ih h3⟩
        intro e he
        rcases mem_smSet he with rfl | he
        · simp only; omega
        · exact h2 e he

/-- A read of the key just written gives the value written. -/
theorem smGet_smSet_same {m : SMap β} {k : Nat} {v : β} (h : smWf d m = true) :
    smGet d (smSet d m k v) k = v := by
  induction m with
  | nil =>
    simp only [smSet]
    split <;> simp_all [smGet]
  | cons e m ih =>
    obtain ⟨k', v'⟩ := e
    obtain ⟨h1, h2, h3⟩ := smWf_cons.1 h
    simp only [smSet]
    split
    · rename_i hlt
      split
      · rename_i hv
        rw [hv]
        apply smGet_of_above
        intro e he
        simp only [List.mem_cons] at he
        rcases he with rfl | he
        · exact hlt
        · have := h2 e he; omega
      · simp [smGet]
    · split
      · rename_i hk
        subst hk
        split
        · rename_i hv
          rw [hv]
          exact smGet_of_above h2
        · simp [smGet]
      · rename_i hk
        simp only [smGet, if_neg hk]
        exact ih h3

/-- A write leaves every other key alone. -/
theorem smGet_smSet_other {m : SMap β} {k j : Nat} {v : β} (hj : j ≠ k) :
    smGet d (smSet d m k v) j = smGet d m j := by
  induction m with
  | nil =>
    simp only [smSet]
    split
    · rfl
    · simp [smGet, Ne.symm hj]
  | cons e m ih =>
    obtain ⟨k', v'⟩ := e
    simp only [smSet]
    split
    · split
      · rfl
      · simp [smGet, Ne.symm hj]
    · split
      · rename_i hk
        subst hk
        split <;> simp [smGet, Ne.symm hj]
      · simp only [smGet, ih]

/-- Clearing a range keeps the canonical form. -/
theorem smWf_smClear {m : SMap β} {lo hi : Nat} (h : smWf d m = true) : smWf d (smClear lo hi m) = true := by
  induction m with
  | nil => rfl
  | cons e m ih =>
    obtain ⟨k, v⟩ := e
    obtain ⟨h1, h2, h3⟩ := smWf_cons.1 h
    simp only [smClear, List.filter_cons]
    split
    · rw [smWf_cons]
      refine ⟨h1, ?_, ih h3⟩
      intro e he
      exact h2 e (List.mem_filter.1 he).1
    · exact ih h3

/-- A write of many values keeps the canonical form. -/
theorem smWf_smWrite {vs : List β} {m : SMap β} {k : Nat} (h : smWf d m = true) :
    smWf d (smWrite d m k vs) = true := by
  induction vs generalizing m k with
  | nil => exact h
  | cons v vs ih => exact ih (smWf_smSet h)

/-- A write of many values leaves every key outside the written ones alone. -/
theorem smGet_smWrite_other {vs : List β} {m : SMap β} {k j : Nat} (h : j < k ∨ k + vs.length ≤ j) :
    smGet d (smWrite d m k vs) j = smGet d m j := by
  induction vs generalizing m k with
  | nil => rfl
  | cons v vs ih =>
    simp only [smWrite, List.length_cons] at h ⊢
    rw [ih (by omega), smGet_smSet_other (by omega)]

end Sys2Proof.Machine
end

