-- ==== Sys2Proof/Laws/State.lean ====
section
/-! SUPPORT. Laws of the state's named updates: what each leaves of every field (all by rfl), and reads of registers,
fields and parts after writes of them. -/

namespace Sys2Proof.Machine

/-! ### setReg -/

@[simp] theorem State.setReg_latch (s : State) (a : Nat) (w : Word) : (s.setReg a w).latch = s.latch := rfl
@[simp] theorem State.setReg_resp (s : State) (a : Nat) (w : Word) : (s.setReg a w).resp = s.resp := rfl
@[simp] theorem State.setReg_time (s : State) (a : Nat) (w : Word) : (s.setReg a w).time = s.time := rfl
@[simp] theorem State.setReg_mem (s : State) (a : Nat) (w : Word) : (s.setReg a w).mem = s.mem := rfl
@[simp] theorem State.setReg_poison (s : State) (a : Nat) (w : Word) : (s.setReg a w).poison = s.poison := rfl
@[simp] theorem State.setReg_sheets (s : State) (a : Nat) (w : Word) : (s.setReg a w).sheets = s.sheets := rfl
@[simp] theorem State.setReg_fab (s : State) (a : Nat) (w : Word) : (s.setReg a w).fab = s.fab := rfl
@[simp] theorem State.setReg_ports (s : State) (a : Nat) (w : Word) : (s.setReg a w).ports = s.ports := rfl
@[simp] theorem State.setReg_x (s : State) (a : Nat) (w : Word) : (s.setReg a w).x = s.x := rfl
@[simp] theorem State.setReg_fault (s : State) (a : Nat) (w : Word) : (s.setReg a w).fault = s.fault := rfl
@[simp] theorem State.setReg_wiora (s : State) (a : Nat) (w : Word) : (s.setReg a w).wiora = s.wiora := rfl
@[simp] theorem State.setReg_own (s : State) (a : Nat) (w : Word) : (s.setReg a w).own = s.own := rfl
@[simp] theorem State.setReg_load (s : State) (a : Nat) (w : Word) : (s.setReg a w).load = s.load := rfl
@[simp] theorem State.setReg_topo (s : State) (a : Nat) (w : Word) : (s.setReg a w).topo = s.topo := rfl
@[simp] theorem State.setReg_net (s : State) (a : Nat) (w : Word) : (s.setReg a w).net = s.net := rfl
@[simp] theorem State.setReg_boot (s : State) (a : Nat) (w : Word) : (s.setReg a w).boot = s.boot := rfl
@[simp] theorem State.setReg_cart (s : State) (a : Nat) (w : Word) : (s.setReg a w).cart = s.cart := rfl
@[simp] theorem State.setReg_pwr (s : State) (a : Nat) (w : Word) : (s.setReg a w).pwr = s.pwr := rfl
@[simp] theorem State.setReg_free (s : State) (a : Nat) (w : Word) : (s.setReg a w).free = s.free := rfl
@[simp] theorem State.setReg_pending (s : State) (a : Nat) (w : Word) : (s.setReg a w).pending = s.pending := rfl

/-! ### setSheet -/

@[simp] theorem State.setSheet_csr (s : State) (i : Nat) (y : SheetSt) : (s.setSheet i y).csr = s.csr := rfl
@[simp] theorem State.setSheet_latch (s : State) (i : Nat) (y : SheetSt) : (s.setSheet i y).latch = s.latch := rfl
@[simp] theorem State.setSheet_resp (s : State) (i : Nat) (y : SheetSt) : (s.setSheet i y).resp = s.resp := rfl
@[simp] theorem State.setSheet_time (s : State) (i : Nat) (y : SheetSt) : (s.setSheet i y).time = s.time := rfl
@[simp] theorem State.setSheet_mem (s : State) (i : Nat) (y : SheetSt) : (s.setSheet i y).mem = s.mem := rfl
@[simp] theorem State.setSheet_poison (s : State) (i : Nat) (y : SheetSt) : (s.setSheet i y).poison = s.poison := rfl
@[simp] theorem State.setSheet_fab (s : State) (i : Nat) (y : SheetSt) : (s.setSheet i y).fab = s.fab := rfl
@[simp] theorem State.setSheet_ports (s : State) (i : Nat) (y : SheetSt) : (s.setSheet i y).ports = s.ports := rfl
@[simp] theorem State.setSheet_x (s : State) (i : Nat) (y : SheetSt) : (s.setSheet i y).x = s.x := rfl
@[simp] theorem State.setSheet_fault (s : State) (i : Nat) (y : SheetSt) : (s.setSheet i y).fault = s.fault := rfl
@[simp] theorem State.setSheet_wiora (s : State) (i : Nat) (y : SheetSt) : (s.setSheet i y).wiora = s.wiora := rfl
@[simp] theorem State.setSheet_own (s : State) (i : Nat) (y : SheetSt) : (s.setSheet i y).own = s.own := rfl
@[simp] theorem State.setSheet_load (s : State) (i : Nat) (y : SheetSt) : (s.setSheet i y).load = s.load := rfl
@[simp] theorem State.setSheet_topo (s : State) (i : Nat) (y : SheetSt) : (s.setSheet i y).topo = s.topo := rfl
@[simp] theorem State.setSheet_net (s : State) (i : Nat) (y : SheetSt) : (s.setSheet i y).net = s.net := rfl
@[simp] theorem State.setSheet_boot (s : State) (i : Nat) (y : SheetSt) : (s.setSheet i y).boot = s.boot := rfl
@[simp] theorem State.setSheet_cart (s : State) (i : Nat) (y : SheetSt) : (s.setSheet i y).cart = s.cart := rfl
@[simp] theorem State.setSheet_pwr (s : State) (i : Nat) (y : SheetSt) : (s.setSheet i y).pwr = s.pwr := rfl
@[simp] theorem State.setSheet_free (s : State) (i : Nat) (y : SheetSt) : (s.setSheet i y).free = s.free := rfl
@[simp] theorem State.setSheet_pending (s : State) (i : Nat) (y : SheetSt) : (s.setSheet i y).pending = s.pending := rfl

/-! ### modSheet -/

@[simp] theorem State.modSheet_csr (s : State) (i : Nat) (f : SheetSt → SheetSt) : (s.modSheet i f).csr = s.csr := rfl
@[simp] theorem State.modSheet_latch (s : State) (i : Nat) (f : SheetSt → SheetSt) : (s.modSheet i f).latch = s.latch := rfl
@[simp] theorem State.modSheet_resp (s : State) (i : Nat) (f : SheetSt → SheetSt) : (s.modSheet i f).resp = s.resp := rfl
@[simp] theorem State.modSheet_time (s : State) (i : Nat) (f : SheetSt → SheetSt) : (s.modSheet i f).time = s.time := rfl
@[simp] theorem State.modSheet_mem (s : State) (i : Nat) (f : SheetSt → SheetSt) : (s.modSheet i f).mem = s.mem := rfl
@[simp] theorem State.modSheet_poison (s : State) (i : Nat) (f : SheetSt → SheetSt) : (s.modSheet i f).poison = s.poison := rfl
@[simp] theorem State.modSheet_fab (s : State) (i : Nat) (f : SheetSt → SheetSt) : (s.modSheet i f).fab = s.fab := rfl
@[simp] theorem State.modSheet_ports (s : State) (i : Nat) (f : SheetSt → SheetSt) : (s.modSheet i f).ports = s.ports := rfl
@[simp] theorem State.modSheet_x (s : State) (i : Nat) (f : SheetSt → SheetSt) : (s.modSheet i f).x = s.x := rfl
@[simp] theorem State.modSheet_fault (s : State) (i : Nat) (f : SheetSt → SheetSt) : (s.modSheet i f).fault = s.fault := rfl
@[simp] theorem State.modSheet_wiora (s : State) (i : Nat) (f : SheetSt → SheetSt) : (s.modSheet i f).wiora = s.wiora := rfl
@[simp] theorem State.modSheet_own (s : State) (i : Nat) (f : SheetSt → SheetSt) : (s.modSheet i f).own = s.own := rfl
@[simp] theorem State.modSheet_load (s : State) (i : Nat) (f : SheetSt → SheetSt) : (s.modSheet i f).load = s.load := rfl
@[simp] theorem State.modSheet_topo (s : State) (i : Nat) (f : SheetSt → SheetSt) : (s.modSheet i f).topo = s.topo := rfl
@[simp] theorem State.modSheet_net (s : State) (i : Nat) (f : SheetSt → SheetSt) : (s.modSheet i f).net = s.net := rfl
@[simp] theorem State.modSheet_boot (s : State) (i : Nat) (f : SheetSt → SheetSt) : (s.modSheet i f).boot = s.boot := rfl
@[simp] theorem State.modSheet_cart (s : State) (i : Nat) (f : SheetSt → SheetSt) : (s.modSheet i f).cart = s.cart := rfl
@[simp] theorem State.modSheet_pwr (s : State) (i : Nat) (f : SheetSt → SheetSt) : (s.modSheet i f).pwr = s.pwr := rfl
@[simp] theorem State.modSheet_free (s : State) (i : Nat) (f : SheetSt → SheetSt) : (s.modSheet i f).free = s.free := rfl
@[simp] theorem State.modSheet_pending (s : State) (i : Nat) (f : SheetSt → SheetSt) : (s.modSheet i f).pending = s.pending := rfl

/-! ### setPort -/

@[simp] theorem State.setPort_csr (s : State) (p : Nat) (y : PortSt) : (s.setPort p y).csr = s.csr := rfl
@[simp] theorem State.setPort_latch (s : State) (p : Nat) (y : PortSt) : (s.setPort p y).latch = s.latch := rfl
@[simp] theorem State.setPort_resp (s : State) (p : Nat) (y : PortSt) : (s.setPort p y).resp = s.resp := rfl
@[simp] theorem State.setPort_time (s : State) (p : Nat) (y : PortSt) : (s.setPort p y).time = s.time := rfl
@[simp] theorem State.setPort_mem (s : State) (p : Nat) (y : PortSt) : (s.setPort p y).mem = s.mem := rfl
@[simp] theorem State.setPort_poison (s : State) (p : Nat) (y : PortSt) : (s.setPort p y).poison = s.poison := rfl
@[simp] theorem State.setPort_sheets (s : State) (p : Nat) (y : PortSt) : (s.setPort p y).sheets = s.sheets := rfl
@[simp] theorem State.setPort_fab (s : State) (p : Nat) (y : PortSt) : (s.setPort p y).fab = s.fab := rfl
@[simp] theorem State.setPort_x (s : State) (p : Nat) (y : PortSt) : (s.setPort p y).x = s.x := rfl
@[simp] theorem State.setPort_fault (s : State) (p : Nat) (y : PortSt) : (s.setPort p y).fault = s.fault := rfl
@[simp] theorem State.setPort_wiora (s : State) (p : Nat) (y : PortSt) : (s.setPort p y).wiora = s.wiora := rfl
@[simp] theorem State.setPort_own (s : State) (p : Nat) (y : PortSt) : (s.setPort p y).own = s.own := rfl
@[simp] theorem State.setPort_load (s : State) (p : Nat) (y : PortSt) : (s.setPort p y).load = s.load := rfl
@[simp] theorem State.setPort_topo (s : State) (p : Nat) (y : PortSt) : (s.setPort p y).topo = s.topo := rfl
@[simp] theorem State.setPort_net (s : State) (p : Nat) (y : PortSt) : (s.setPort p y).net = s.net := rfl
@[simp] theorem State.setPort_boot (s : State) (p : Nat) (y : PortSt) : (s.setPort p y).boot = s.boot := rfl
@[simp] theorem State.setPort_cart (s : State) (p : Nat) (y : PortSt) : (s.setPort p y).cart = s.cart := rfl
@[simp] theorem State.setPort_pwr (s : State) (p : Nat) (y : PortSt) : (s.setPort p y).pwr = s.pwr := rfl
@[simp] theorem State.setPort_free (s : State) (p : Nat) (y : PortSt) : (s.setPort p y).free = s.free := rfl
@[simp] theorem State.setPort_pending (s : State) (p : Nat) (y : PortSt) : (s.setPort p y).pending = s.pending := rfl

/-! ### modPort -/

@[simp] theorem State.modPort_csr (s : State) (p : Nat) (f : PortSt → PortSt) : (s.modPort p f).csr = s.csr := rfl
@[simp] theorem State.modPort_latch (s : State) (p : Nat) (f : PortSt → PortSt) : (s.modPort p f).latch = s.latch := rfl
@[simp] theorem State.modPort_resp (s : State) (p : Nat) (f : PortSt → PortSt) : (s.modPort p f).resp = s.resp := rfl
@[simp] theorem State.modPort_time (s : State) (p : Nat) (f : PortSt → PortSt) : (s.modPort p f).time = s.time := rfl
@[simp] theorem State.modPort_mem (s : State) (p : Nat) (f : PortSt → PortSt) : (s.modPort p f).mem = s.mem := rfl
@[simp] theorem State.modPort_poison (s : State) (p : Nat) (f : PortSt → PortSt) : (s.modPort p f).poison = s.poison := rfl
@[simp] theorem State.modPort_sheets (s : State) (p : Nat) (f : PortSt → PortSt) : (s.modPort p f).sheets = s.sheets := rfl
@[simp] theorem State.modPort_fab (s : State) (p : Nat) (f : PortSt → PortSt) : (s.modPort p f).fab = s.fab := rfl
@[simp] theorem State.modPort_x (s : State) (p : Nat) (f : PortSt → PortSt) : (s.modPort p f).x = s.x := rfl
@[simp] theorem State.modPort_fault (s : State) (p : Nat) (f : PortSt → PortSt) : (s.modPort p f).fault = s.fault := rfl
@[simp] theorem State.modPort_wiora (s : State) (p : Nat) (f : PortSt → PortSt) : (s.modPort p f).wiora = s.wiora := rfl
@[simp] theorem State.modPort_own (s : State) (p : Nat) (f : PortSt → PortSt) : (s.modPort p f).own = s.own := rfl
@[simp] theorem State.modPort_load (s : State) (p : Nat) (f : PortSt → PortSt) : (s.modPort p f).load = s.load := rfl
@[simp] theorem State.modPort_topo (s : State) (p : Nat) (f : PortSt → PortSt) : (s.modPort p f).topo = s.topo := rfl
@[simp] theorem State.modPort_net (s : State) (p : Nat) (f : PortSt → PortSt) : (s.modPort p f).net = s.net := rfl
@[simp] theorem State.modPort_boot (s : State) (p : Nat) (f : PortSt → PortSt) : (s.modPort p f).boot = s.boot := rfl
@[simp] theorem State.modPort_cart (s : State) (p : Nat) (f : PortSt → PortSt) : (s.modPort p f).cart = s.cart := rfl
@[simp] theorem State.modPort_pwr (s : State) (p : Nat) (f : PortSt → PortSt) : (s.modPort p f).pwr = s.pwr := rfl
@[simp] theorem State.modPort_free (s : State) (p : Nat) (f : PortSt → PortSt) : (s.modPort p f).free = s.free := rfl
@[simp] theorem State.modPort_pending (s : State) (p : Nat) (f : PortSt → PortSt) : (s.modPort p f).pending = s.pending := rfl

/-! ### setWport -/

@[simp] theorem State.setWport_csr (s : State) (p : Nat) (y : WPortSt) : (s.setWport p y).csr = s.csr := rfl
@[simp] theorem State.setWport_latch (s : State) (p : Nat) (y : WPortSt) : (s.setWport p y).latch = s.latch := rfl
@[simp] theorem State.setWport_resp (s : State) (p : Nat) (y : WPortSt) : (s.setWport p y).resp = s.resp := rfl
@[simp] theorem State.setWport_time (s : State) (p : Nat) (y : WPortSt) : (s.setWport p y).time = s.time := rfl
@[simp] theorem State.setWport_mem (s : State) (p : Nat) (y : WPortSt) : (s.setWport p y).mem = s.mem := rfl
@[simp] theorem State.setWport_poison (s : State) (p : Nat) (y : WPortSt) : (s.setWport p y).poison = s.poison := rfl
@[simp] theorem State.setWport_sheets (s : State) (p : Nat) (y : WPortSt) : (s.setWport p y).sheets = s.sheets := rfl
@[simp] theorem State.setWport_fab (s : State) (p : Nat) (y : WPortSt) : (s.setWport p y).fab = s.fab := rfl
@[simp] theorem State.setWport_ports (s : State) (p : Nat) (y : WPortSt) : (s.setWport p y).ports = s.ports := rfl
@[simp] theorem State.setWport_x (s : State) (p : Nat) (y : WPortSt) : (s.setWport p y).x = s.x := rfl
@[simp] theorem State.setWport_fault (s : State) (p : Nat) (y : WPortSt) : (s.setWport p y).fault = s.fault := rfl
@[simp] theorem State.setWport_own (s : State) (p : Nat) (y : WPortSt) : (s.setWport p y).own = s.own := rfl
@[simp] theorem State.setWport_load (s : State) (p : Nat) (y : WPortSt) : (s.setWport p y).load = s.load := rfl
@[simp] theorem State.setWport_topo (s : State) (p : Nat) (y : WPortSt) : (s.setWport p y).topo = s.topo := rfl
@[simp] theorem State.setWport_net (s : State) (p : Nat) (y : WPortSt) : (s.setWport p y).net = s.net := rfl
@[simp] theorem State.setWport_boot (s : State) (p : Nat) (y : WPortSt) : (s.setWport p y).boot = s.boot := rfl
@[simp] theorem State.setWport_cart (s : State) (p : Nat) (y : WPortSt) : (s.setWport p y).cart = s.cart := rfl
@[simp] theorem State.setWport_pwr (s : State) (p : Nat) (y : WPortSt) : (s.setWport p y).pwr = s.pwr := rfl
@[simp] theorem State.setWport_free (s : State) (p : Nat) (y : WPortSt) : (s.setWport p y).free = s.free := rfl
@[simp] theorem State.setWport_pending (s : State) (p : Nat) (y : WPortSt) : (s.setWport p y).pending = s.pending := rfl

/-! ### modWport -/

@[simp] theorem State.modWport_csr (s : State) (p : Nat) (f : WPortSt → WPortSt) : (s.modWport p f).csr = s.csr := rfl
@[simp] theorem State.modWport_latch (s : State) (p : Nat) (f : WPortSt → WPortSt) : (s.modWport p f).latch = s.latch := rfl
@[simp] theorem State.modWport_resp (s : State) (p : Nat) (f : WPortSt → WPortSt) : (s.modWport p f).resp = s.resp := rfl
@[simp] theorem State.modWport_time (s : State) (p : Nat) (f : WPortSt → WPortSt) : (s.modWport p f).time = s.time := rfl
@[simp] theorem State.modWport_mem (s : State) (p : Nat) (f : WPortSt → WPortSt) : (s.modWport p f).mem = s.mem := rfl
@[simp] theorem State.modWport_poison (s : State) (p : Nat) (f : WPortSt → WPortSt) : (s.modWport p f).poison = s.poison := rfl
@[simp] theorem State.modWport_sheets (s : State) (p : Nat) (f : WPortSt → WPortSt) : (s.modWport p f).sheets = s.sheets := rfl
@[simp] theorem State.modWport_fab (s : State) (p : Nat) (f : WPortSt → WPortSt) : (s.modWport p f).fab = s.fab := rfl
@[simp] theorem State.modWport_ports (s : State) (p : Nat) (f : WPortSt → WPortSt) : (s.modWport p f).ports = s.ports := rfl
@[simp] theorem State.modWport_x (s : State) (p : Nat) (f : WPortSt → WPortSt) : (s.modWport p f).x = s.x := rfl
@[simp] theorem State.modWport_fault (s : State) (p : Nat) (f : WPortSt → WPortSt) : (s.modWport p f).fault = s.fault := rfl
@[simp] theorem State.modWport_own (s : State) (p : Nat) (f : WPortSt → WPortSt) : (s.modWport p f).own = s.own := rfl
@[simp] theorem State.modWport_load (s : State) (p : Nat) (f : WPortSt → WPortSt) : (s.modWport p f).load = s.load := rfl
@[simp] theorem State.modWport_topo (s : State) (p : Nat) (f : WPortSt → WPortSt) : (s.modWport p f).topo = s.topo := rfl
@[simp] theorem State.modWport_net (s : State) (p : Nat) (f : WPortSt → WPortSt) : (s.modWport p f).net = s.net := rfl
@[simp] theorem State.modWport_boot (s : State) (p : Nat) (f : WPortSt → WPortSt) : (s.modWport p f).boot = s.boot := rfl
@[simp] theorem State.modWport_cart (s : State) (p : Nat) (f : WPortSt → WPortSt) : (s.modWport p f).cart = s.cart := rfl
@[simp] theorem State.modWport_pwr (s : State) (p : Nat) (f : WPortSt → WPortSt) : (s.modWport p f).pwr = s.pwr := rfl
@[simp] theorem State.modWport_free (s : State) (p : Nat) (f : WPortSt → WPortSt) : (s.modWport p f).free = s.free := rfl
@[simp] theorem State.modWport_pending (s : State) (p : Nat) (f : WPortSt → WPortSt) : (s.modWport p f).pending = s.pending := rfl

/-! ### setDx -/

@[simp] theorem State.setDx_csr (s : State) (e : Nat) (y : DxSt) : (s.setDx e y).csr = s.csr := rfl
@[simp] theorem State.setDx_latch (s : State) (e : Nat) (y : DxSt) : (s.setDx e y).latch = s.latch := rfl
@[simp] theorem State.setDx_resp (s : State) (e : Nat) (y : DxSt) : (s.setDx e y).resp = s.resp := rfl
@[simp] theorem State.setDx_time (s : State) (e : Nat) (y : DxSt) : (s.setDx e y).time = s.time := rfl
@[simp] theorem State.setDx_mem (s : State) (e : Nat) (y : DxSt) : (s.setDx e y).mem = s.mem := rfl
@[simp] theorem State.setDx_poison (s : State) (e : Nat) (y : DxSt) : (s.setDx e y).poison = s.poison := rfl
@[simp] theorem State.setDx_sheets (s : State) (e : Nat) (y : DxSt) : (s.setDx e y).sheets = s.sheets := rfl
@[simp] theorem State.setDx_ports (s : State) (e : Nat) (y : DxSt) : (s.setDx e y).ports = s.ports := rfl
@[simp] theorem State.setDx_x (s : State) (e : Nat) (y : DxSt) : (s.setDx e y).x = s.x := rfl
@[simp] theorem State.setDx_fault (s : State) (e : Nat) (y : DxSt) : (s.setDx e y).fault = s.fault := rfl
@[simp] theorem State.setDx_wiora (s : State) (e : Nat) (y : DxSt) : (s.setDx e y).wiora = s.wiora := rfl
@[simp] theorem State.setDx_own (s : State) (e : Nat) (y : DxSt) : (s.setDx e y).own = s.own := rfl
@[simp] theorem State.setDx_load (s : State) (e : Nat) (y : DxSt) : (s.setDx e y).load = s.load := rfl
@[simp] theorem State.setDx_topo (s : State) (e : Nat) (y : DxSt) : (s.setDx e y).topo = s.topo := rfl
@[simp] theorem State.setDx_net (s : State) (e : Nat) (y : DxSt) : (s.setDx e y).net = s.net := rfl
@[simp] theorem State.setDx_boot (s : State) (e : Nat) (y : DxSt) : (s.setDx e y).boot = s.boot := rfl
@[simp] theorem State.setDx_cart (s : State) (e : Nat) (y : DxSt) : (s.setDx e y).cart = s.cart := rfl
@[simp] theorem State.setDx_pwr (s : State) (e : Nat) (y : DxSt) : (s.setDx e y).pwr = s.pwr := rfl
@[simp] theorem State.setDx_free (s : State) (e : Nat) (y : DxSt) : (s.setDx e y).free = s.free := rfl
@[simp] theorem State.setDx_pending (s : State) (e : Nat) (y : DxSt) : (s.setDx e y).pending = s.pending := rfl

/-! ### modFab -/

@[simp] theorem State.modFab_csr (s : State) (f : FabSt → FabSt) : (s.modFab f).csr = s.csr := rfl
@[simp] theorem State.modFab_latch (s : State) (f : FabSt → FabSt) : (s.modFab f).latch = s.latch := rfl
@[simp] theorem State.modFab_resp (s : State) (f : FabSt → FabSt) : (s.modFab f).resp = s.resp := rfl
@[simp] theorem State.modFab_time (s : State) (f : FabSt → FabSt) : (s.modFab f).time = s.time := rfl
@[simp] theorem State.modFab_mem (s : State) (f : FabSt → FabSt) : (s.modFab f).mem = s.mem := rfl
@[simp] theorem State.modFab_poison (s : State) (f : FabSt → FabSt) : (s.modFab f).poison = s.poison := rfl
@[simp] theorem State.modFab_sheets (s : State) (f : FabSt → FabSt) : (s.modFab f).sheets = s.sheets := rfl
@[simp] theorem State.modFab_ports (s : State) (f : FabSt → FabSt) : (s.modFab f).ports = s.ports := rfl
@[simp] theorem State.modFab_x (s : State) (f : FabSt → FabSt) : (s.modFab f).x = s.x := rfl
@[simp] theorem State.modFab_fault (s : State) (f : FabSt → FabSt) : (s.modFab f).fault = s.fault := rfl
@[simp] theorem State.modFab_wiora (s : State) (f : FabSt → FabSt) : (s.modFab f).wiora = s.wiora := rfl
@[simp] theorem State.modFab_own (s : State) (f : FabSt → FabSt) : (s.modFab f).own = s.own := rfl
@[simp] theorem State.modFab_load (s : State) (f : FabSt → FabSt) : (s.modFab f).load = s.load := rfl
@[simp] theorem State.modFab_topo (s : State) (f : FabSt → FabSt) : (s.modFab f).topo = s.topo := rfl
@[simp] theorem State.modFab_net (s : State) (f : FabSt → FabSt) : (s.modFab f).net = s.net := rfl
@[simp] theorem State.modFab_boot (s : State) (f : FabSt → FabSt) : (s.modFab f).boot = s.boot := rfl
@[simp] theorem State.modFab_cart (s : State) (f : FabSt → FabSt) : (s.modFab f).cart = s.cart := rfl
@[simp] theorem State.modFab_pwr (s : State) (f : FabSt → FabSt) : (s.modFab f).pwr = s.pwr := rfl
@[simp] theorem State.modFab_free (s : State) (f : FabSt → FabSt) : (s.modFab f).free = s.free := rfl
@[simp] theorem State.modFab_pending (s : State) (f : FabSt → FabSt) : (s.modFab f).pending = s.pending := rfl

/-! ### modX -/

@[simp] theorem State.modX_csr (s : State) (f : XSt → XSt) : (s.modX f).csr = s.csr := rfl
@[simp] theorem State.modX_latch (s : State) (f : XSt → XSt) : (s.modX f).latch = s.latch := rfl
@[simp] theorem State.modX_resp (s : State) (f : XSt → XSt) : (s.modX f).resp = s.resp := rfl
@[simp] theorem State.modX_time (s : State) (f : XSt → XSt) : (s.modX f).time = s.time := rfl
@[simp] theorem State.modX_mem (s : State) (f : XSt → XSt) : (s.modX f).mem = s.mem := rfl
@[simp] theorem State.modX_poison (s : State) (f : XSt → XSt) : (s.modX f).poison = s.poison := rfl
@[simp] theorem State.modX_sheets (s : State) (f : XSt → XSt) : (s.modX f).sheets = s.sheets := rfl
@[simp] theorem State.modX_fab (s : State) (f : XSt → XSt) : (s.modX f).fab = s.fab := rfl
@[simp] theorem State.modX_ports (s : State) (f : XSt → XSt) : (s.modX f).ports = s.ports := rfl
@[simp] theorem State.modX_fault (s : State) (f : XSt → XSt) : (s.modX f).fault = s.fault := rfl
@[simp] theorem State.modX_wiora (s : State) (f : XSt → XSt) : (s.modX f).wiora = s.wiora := rfl
@[simp] theorem State.modX_own (s : State) (f : XSt → XSt) : (s.modX f).own = s.own := rfl
@[simp] theorem State.modX_load (s : State) (f : XSt → XSt) : (s.modX f).load = s.load := rfl
@[simp] theorem State.modX_topo (s : State) (f : XSt → XSt) : (s.modX f).topo = s.topo := rfl
@[simp] theorem State.modX_net (s : State) (f : XSt → XSt) : (s.modX f).net = s.net := rfl
@[simp] theorem State.modX_boot (s : State) (f : XSt → XSt) : (s.modX f).boot = s.boot := rfl
@[simp] theorem State.modX_cart (s : State) (f : XSt → XSt) : (s.modX f).cart = s.cart := rfl
@[simp] theorem State.modX_pwr (s : State) (f : XSt → XSt) : (s.modX f).pwr = s.pwr := rfl
@[simp] theorem State.modX_free (s : State) (f : XSt → XSt) : (s.modX f).free = s.free := rfl
@[simp] theorem State.modX_pending (s : State) (f : XSt → XSt) : (s.modX f).pending = s.pending := rfl

/-! ### modTime -/

@[simp] theorem State.modTime_csr (s : State) (f : TimeSt → TimeSt) : (s.modTime f).csr = s.csr := rfl
@[simp] theorem State.modTime_latch (s : State) (f : TimeSt → TimeSt) : (s.modTime f).latch = s.latch := rfl
@[simp] theorem State.modTime_resp (s : State) (f : TimeSt → TimeSt) : (s.modTime f).resp = s.resp := rfl
@[simp] theorem State.modTime_mem (s : State) (f : TimeSt → TimeSt) : (s.modTime f).mem = s.mem := rfl
@[simp] theorem State.modTime_poison (s : State) (f : TimeSt → TimeSt) : (s.modTime f).poison = s.poison := rfl
@[simp] theorem State.modTime_sheets (s : State) (f : TimeSt → TimeSt) : (s.modTime f).sheets = s.sheets := rfl
@[simp] theorem State.modTime_fab (s : State) (f : TimeSt → TimeSt) : (s.modTime f).fab = s.fab := rfl
@[simp] theorem State.modTime_ports (s : State) (f : TimeSt → TimeSt) : (s.modTime f).ports = s.ports := rfl
@[simp] theorem State.modTime_x (s : State) (f : TimeSt → TimeSt) : (s.modTime f).x = s.x := rfl
@[simp] theorem State.modTime_fault (s : State) (f : TimeSt → TimeSt) : (s.modTime f).fault = s.fault := rfl
@[simp] theorem State.modTime_wiora (s : State) (f : TimeSt → TimeSt) : (s.modTime f).wiora = s.wiora := rfl
@[simp] theorem State.modTime_own (s : State) (f : TimeSt → TimeSt) : (s.modTime f).own = s.own := rfl
@[simp] theorem State.modTime_load (s : State) (f : TimeSt → TimeSt) : (s.modTime f).load = s.load := rfl
@[simp] theorem State.modTime_topo (s : State) (f : TimeSt → TimeSt) : (s.modTime f).topo = s.topo := rfl
@[simp] theorem State.modTime_net (s : State) (f : TimeSt → TimeSt) : (s.modTime f).net = s.net := rfl
@[simp] theorem State.modTime_boot (s : State) (f : TimeSt → TimeSt) : (s.modTime f).boot = s.boot := rfl
@[simp] theorem State.modTime_cart (s : State) (f : TimeSt → TimeSt) : (s.modTime f).cart = s.cart := rfl
@[simp] theorem State.modTime_pwr (s : State) (f : TimeSt → TimeSt) : (s.modTime f).pwr = s.pwr := rfl
@[simp] theorem State.modTime_free (s : State) (f : TimeSt → TimeSt) : (s.modTime f).free = s.free := rfl
@[simp] theorem State.modTime_pending (s : State) (f : TimeSt → TimeSt) : (s.modTime f).pending = s.pending := rfl

/-! ### modFault -/

@[simp] theorem State.modFault_csr (s : State) (f : FaultSt → FaultSt) : (s.modFault f).csr = s.csr := rfl
@[simp] theorem State.modFault_latch (s : State) (f : FaultSt → FaultSt) : (s.modFault f).latch = s.latch := rfl
@[simp] theorem State.modFault_resp (s : State) (f : FaultSt → FaultSt) : (s.modFault f).resp = s.resp := rfl
@[simp] theorem State.modFault_time (s : State) (f : FaultSt → FaultSt) : (s.modFault f).time = s.time := rfl
@[simp] theorem State.modFault_mem (s : State) (f : FaultSt → FaultSt) : (s.modFault f).mem = s.mem := rfl
@[simp] theorem State.modFault_poison (s : State) (f : FaultSt → FaultSt) : (s.modFault f).poison = s.poison := rfl
@[simp] theorem State.modFault_sheets (s : State) (f : FaultSt → FaultSt) : (s.modFault f).sheets = s.sheets := rfl
@[simp] theorem State.modFault_fab (s : State) (f : FaultSt → FaultSt) : (s.modFault f).fab = s.fab := rfl
@[simp] theorem State.modFault_ports (s : State) (f : FaultSt → FaultSt) : (s.modFault f).ports = s.ports := rfl
@[simp] theorem State.modFault_x (s : State) (f : FaultSt → FaultSt) : (s.modFault f).x = s.x := rfl
@[simp] theorem State.modFault_wiora (s : State) (f : FaultSt → FaultSt) : (s.modFault f).wiora = s.wiora := rfl
@[simp] theorem State.modFault_own (s : State) (f : FaultSt → FaultSt) : (s.modFault f).own = s.own := rfl
@[simp] theorem State.modFault_load (s : State) (f : FaultSt → FaultSt) : (s.modFault f).load = s.load := rfl
@[simp] theorem State.modFault_topo (s : State) (f : FaultSt → FaultSt) : (s.modFault f).topo = s.topo := rfl
@[simp] theorem State.modFault_net (s : State) (f : FaultSt → FaultSt) : (s.modFault f).net = s.net := rfl
@[simp] theorem State.modFault_boot (s : State) (f : FaultSt → FaultSt) : (s.modFault f).boot = s.boot := rfl
@[simp] theorem State.modFault_cart (s : State) (f : FaultSt → FaultSt) : (s.modFault f).cart = s.cart := rfl
@[simp] theorem State.modFault_pwr (s : State) (f : FaultSt → FaultSt) : (s.modFault f).pwr = s.pwr := rfl
@[simp] theorem State.modFault_free (s : State) (f : FaultSt → FaultSt) : (s.modFault f).free = s.free := rfl
@[simp] theorem State.modFault_pending (s : State) (f : FaultSt → FaultSt) : (s.modFault f).pending = s.pending := rfl

/-! ### modLoad -/

@[simp] theorem State.modLoad_csr (s : State) (f : LoadSt → LoadSt) : (s.modLoad f).csr = s.csr := rfl
@[simp] theorem State.modLoad_latch (s : State) (f : LoadSt → LoadSt) : (s.modLoad f).latch = s.latch := rfl
@[simp] theorem State.modLoad_resp (s : State) (f : LoadSt → LoadSt) : (s.modLoad f).resp = s.resp := rfl
@[simp] theorem State.modLoad_time (s : State) (f : LoadSt → LoadSt) : (s.modLoad f).time = s.time := rfl
@[simp] theorem State.modLoad_mem (s : State) (f : LoadSt → LoadSt) : (s.modLoad f).mem = s.mem := rfl
@[simp] theorem State.modLoad_poison (s : State) (f : LoadSt → LoadSt) : (s.modLoad f).poison = s.poison := rfl
@[simp] theorem State.modLoad_sheets (s : State) (f : LoadSt → LoadSt) : (s.modLoad f).sheets = s.sheets := rfl
@[simp] theorem State.modLoad_fab (s : State) (f : LoadSt → LoadSt) : (s.modLoad f).fab = s.fab := rfl
@[simp] theorem State.modLoad_ports (s : State) (f : LoadSt → LoadSt) : (s.modLoad f).ports = s.ports := rfl
@[simp] theorem State.modLoad_x (s : State) (f : LoadSt → LoadSt) : (s.modLoad f).x = s.x := rfl
@[simp] theorem State.modLoad_fault (s : State) (f : LoadSt → LoadSt) : (s.modLoad f).fault = s.fault := rfl
@[simp] theorem State.modLoad_wiora (s : State) (f : LoadSt → LoadSt) : (s.modLoad f).wiora = s.wiora := rfl
@[simp] theorem State.modLoad_own (s : State) (f : LoadSt → LoadSt) : (s.modLoad f).own = s.own := rfl
@[simp] theorem State.modLoad_topo (s : State) (f : LoadSt → LoadSt) : (s.modLoad f).topo = s.topo := rfl
@[simp] theorem State.modLoad_net (s : State) (f : LoadSt → LoadSt) : (s.modLoad f).net = s.net := rfl
@[simp] theorem State.modLoad_boot (s : State) (f : LoadSt → LoadSt) : (s.modLoad f).boot = s.boot := rfl
@[simp] theorem State.modLoad_cart (s : State) (f : LoadSt → LoadSt) : (s.modLoad f).cart = s.cart := rfl
@[simp] theorem State.modLoad_pwr (s : State) (f : LoadSt → LoadSt) : (s.modLoad f).pwr = s.pwr := rfl
@[simp] theorem State.modLoad_free (s : State) (f : LoadSt → LoadSt) : (s.modLoad f).free = s.free := rfl
@[simp] theorem State.modLoad_pending (s : State) (f : LoadSt → LoadSt) : (s.modLoad f).pending = s.pending := rfl

/-! ### modTopo -/

@[simp] theorem State.modTopo_csr (s : State) (f : TopoSt → TopoSt) : (s.modTopo f).csr = s.csr := rfl
@[simp] theorem State.modTopo_latch (s : State) (f : TopoSt → TopoSt) : (s.modTopo f).latch = s.latch := rfl
@[simp] theorem State.modTopo_resp (s : State) (f : TopoSt → TopoSt) : (s.modTopo f).resp = s.resp := rfl
@[simp] theorem State.modTopo_time (s : State) (f : TopoSt → TopoSt) : (s.modTopo f).time = s.time := rfl
@[simp] theorem State.modTopo_mem (s : State) (f : TopoSt → TopoSt) : (s.modTopo f).mem = s.mem := rfl
@[simp] theorem State.modTopo_poison (s : State) (f : TopoSt → TopoSt) : (s.modTopo f).poison = s.poison := rfl
@[simp] theorem State.modTopo_sheets (s : State) (f : TopoSt → TopoSt) : (s.modTopo f).sheets = s.sheets := rfl
@[simp] theorem State.modTopo_fab (s : State) (f : TopoSt → TopoSt) : (s.modTopo f).fab = s.fab := rfl
@[simp] theorem State.modTopo_ports (s : State) (f : TopoSt → TopoSt) : (s.modTopo f).ports = s.ports := rfl
@[simp] theorem State.modTopo_x (s : State) (f : TopoSt → TopoSt) : (s.modTopo f).x = s.x := rfl
@[simp] theorem State.modTopo_fault (s : State) (f : TopoSt → TopoSt) : (s.modTopo f).fault = s.fault := rfl
@[simp] theorem State.modTopo_wiora (s : State) (f : TopoSt → TopoSt) : (s.modTopo f).wiora = s.wiora := rfl
@[simp] theorem State.modTopo_own (s : State) (f : TopoSt → TopoSt) : (s.modTopo f).own = s.own := rfl
@[simp] theorem State.modTopo_load (s : State) (f : TopoSt → TopoSt) : (s.modTopo f).load = s.load := rfl
@[simp] theorem State.modTopo_net (s : State) (f : TopoSt → TopoSt) : (s.modTopo f).net = s.net := rfl
@[simp] theorem State.modTopo_boot (s : State) (f : TopoSt → TopoSt) : (s.modTopo f).boot = s.boot := rfl
@[simp] theorem State.modTopo_cart (s : State) (f : TopoSt → TopoSt) : (s.modTopo f).cart = s.cart := rfl
@[simp] theorem State.modTopo_pwr (s : State) (f : TopoSt → TopoSt) : (s.modTopo f).pwr = s.pwr := rfl
@[simp] theorem State.modTopo_free (s : State) (f : TopoSt → TopoSt) : (s.modTopo f).free = s.free := rfl
@[simp] theorem State.modTopo_pending (s : State) (f : TopoSt → TopoSt) : (s.modTopo f).pending = s.pending := rfl

/-! ### modNet -/

@[simp] theorem State.modNet_csr (s : State) (f : NetSt → NetSt) : (s.modNet f).csr = s.csr := rfl
@[simp] theorem State.modNet_latch (s : State) (f : NetSt → NetSt) : (s.modNet f).latch = s.latch := rfl
@[simp] theorem State.modNet_resp (s : State) (f : NetSt → NetSt) : (s.modNet f).resp = s.resp := rfl
@[simp] theorem State.modNet_time (s : State) (f : NetSt → NetSt) : (s.modNet f).time = s.time := rfl
@[simp] theorem State.modNet_mem (s : State) (f : NetSt → NetSt) : (s.modNet f).mem = s.mem := rfl
@[simp] theorem State.modNet_poison (s : State) (f : NetSt → NetSt) : (s.modNet f).poison = s.poison := rfl
@[simp] theorem State.modNet_sheets (s : State) (f : NetSt → NetSt) : (s.modNet f).sheets = s.sheets := rfl
@[simp] theorem State.modNet_fab (s : State) (f : NetSt → NetSt) : (s.modNet f).fab = s.fab := rfl
@[simp] theorem State.modNet_ports (s : State) (f : NetSt → NetSt) : (s.modNet f).ports = s.ports := rfl
@[simp] theorem State.modNet_x (s : State) (f : NetSt → NetSt) : (s.modNet f).x = s.x := rfl
@[simp] theorem State.modNet_fault (s : State) (f : NetSt → NetSt) : (s.modNet f).fault = s.fault := rfl
@[simp] theorem State.modNet_wiora (s : State) (f : NetSt → NetSt) : (s.modNet f).wiora = s.wiora := rfl
@[simp] theorem State.modNet_own (s : State) (f : NetSt → NetSt) : (s.modNet f).own = s.own := rfl
@[simp] theorem State.modNet_load (s : State) (f : NetSt → NetSt) : (s.modNet f).load = s.load := rfl
@[simp] theorem State.modNet_topo (s : State) (f : NetSt → NetSt) : (s.modNet f).topo = s.topo := rfl
@[simp] theorem State.modNet_boot (s : State) (f : NetSt → NetSt) : (s.modNet f).boot = s.boot := rfl
@[simp] theorem State.modNet_cart (s : State) (f : NetSt → NetSt) : (s.modNet f).cart = s.cart := rfl
@[simp] theorem State.modNet_pwr (s : State) (f : NetSt → NetSt) : (s.modNet f).pwr = s.pwr := rfl
@[simp] theorem State.modNet_free (s : State) (f : NetSt → NetSt) : (s.modNet f).free = s.free := rfl
@[simp] theorem State.modNet_pending (s : State) (f : NetSt → NetSt) : (s.modNet f).pending = s.pending := rfl

/-! ### modBoot -/

@[simp] theorem State.modBoot_csr (s : State) (f : BootSt → BootSt) : (s.modBoot f).csr = s.csr := rfl
@[simp] theorem State.modBoot_latch (s : State) (f : BootSt → BootSt) : (s.modBoot f).latch = s.latch := rfl
@[simp] theorem State.modBoot_resp (s : State) (f : BootSt → BootSt) : (s.modBoot f).resp = s.resp := rfl
@[simp] theorem State.modBoot_time (s : State) (f : BootSt → BootSt) : (s.modBoot f).time = s.time := rfl
@[simp] theorem State.modBoot_mem (s : State) (f : BootSt → BootSt) : (s.modBoot f).mem = s.mem := rfl
@[simp] theorem State.modBoot_poison (s : State) (f : BootSt → BootSt) : (s.modBoot f).poison = s.poison := rfl
@[simp] theorem State.modBoot_sheets (s : State) (f : BootSt → BootSt) : (s.modBoot f).sheets = s.sheets := rfl
@[simp] theorem State.modBoot_fab (s : State) (f : BootSt → BootSt) : (s.modBoot f).fab = s.fab := rfl
@[simp] theorem State.modBoot_ports (s : State) (f : BootSt → BootSt) : (s.modBoot f).ports = s.ports := rfl
@[simp] theorem State.modBoot_x (s : State) (f : BootSt → BootSt) : (s.modBoot f).x = s.x := rfl
@[simp] theorem State.modBoot_fault (s : State) (f : BootSt → BootSt) : (s.modBoot f).fault = s.fault := rfl
@[simp] theorem State.modBoot_wiora (s : State) (f : BootSt → BootSt) : (s.modBoot f).wiora = s.wiora := rfl
@[simp] theorem State.modBoot_own (s : State) (f : BootSt → BootSt) : (s.modBoot f).own = s.own := rfl
@[simp] theorem State.modBoot_load (s : State) (f : BootSt → BootSt) : (s.modBoot f).load = s.load := rfl
@[simp] theorem State.modBoot_topo (s : State) (f : BootSt → BootSt) : (s.modBoot f).topo = s.topo := rfl
@[simp] theorem State.modBoot_net (s : State) (f : BootSt → BootSt) : (s.modBoot f).net = s.net := rfl
@[simp] theorem State.modBoot_cart (s : State) (f : BootSt → BootSt) : (s.modBoot f).cart = s.cart := rfl
@[simp] theorem State.modBoot_pwr (s : State) (f : BootSt → BootSt) : (s.modBoot f).pwr = s.pwr := rfl
@[simp] theorem State.modBoot_free (s : State) (f : BootSt → BootSt) : (s.modBoot f).free = s.free := rfl
@[simp] theorem State.modBoot_pending (s : State) (f : BootSt → BootSt) : (s.modBoot f).pending = s.pending := rfl

/-! ### modCart -/

@[simp] theorem State.modCart_csr (s : State) (f : CartSt → CartSt) : (s.modCart f).csr = s.csr := rfl
@[simp] theorem State.modCart_latch (s : State) (f : CartSt → CartSt) : (s.modCart f).latch = s.latch := rfl
@[simp] theorem State.modCart_resp (s : State) (f : CartSt → CartSt) : (s.modCart f).resp = s.resp := rfl
@[simp] theorem State.modCart_time (s : State) (f : CartSt → CartSt) : (s.modCart f).time = s.time := rfl
@[simp] theorem State.modCart_mem (s : State) (f : CartSt → CartSt) : (s.modCart f).mem = s.mem := rfl
@[simp] theorem State.modCart_poison (s : State) (f : CartSt → CartSt) : (s.modCart f).poison = s.poison := rfl
@[simp] theorem State.modCart_sheets (s : State) (f : CartSt → CartSt) : (s.modCart f).sheets = s.sheets := rfl
@[simp] theorem State.modCart_fab (s : State) (f : CartSt → CartSt) : (s.modCart f).fab = s.fab := rfl
@[simp] theorem State.modCart_ports (s : State) (f : CartSt → CartSt) : (s.modCart f).ports = s.ports := rfl
@[simp] theorem State.modCart_x (s : State) (f : CartSt → CartSt) : (s.modCart f).x = s.x := rfl
@[simp] theorem State.modCart_fault (s : State) (f : CartSt → CartSt) : (s.modCart f).fault = s.fault := rfl
@[simp] theorem State.modCart_wiora (s : State) (f : CartSt → CartSt) : (s.modCart f).wiora = s.wiora := rfl
@[simp] theorem State.modCart_own (s : State) (f : CartSt → CartSt) : (s.modCart f).own = s.own := rfl
@[simp] theorem State.modCart_load (s : State) (f : CartSt → CartSt) : (s.modCart f).load = s.load := rfl
@[simp] theorem State.modCart_topo (s : State) (f : CartSt → CartSt) : (s.modCart f).topo = s.topo := rfl
@[simp] theorem State.modCart_net (s : State) (f : CartSt → CartSt) : (s.modCart f).net = s.net := rfl
@[simp] theorem State.modCart_boot (s : State) (f : CartSt → CartSt) : (s.modCart f).boot = s.boot := rfl
@[simp] theorem State.modCart_pwr (s : State) (f : CartSt → CartSt) : (s.modCart f).pwr = s.pwr := rfl
@[simp] theorem State.modCart_free (s : State) (f : CartSt → CartSt) : (s.modCart f).free = s.free := rfl
@[simp] theorem State.modCart_pending (s : State) (f : CartSt → CartSt) : (s.modCart f).pending = s.pending := rfl

/-! ### modPwr -/

@[simp] theorem State.modPwr_csr (s : State) (f : PwrSt → PwrSt) : (s.modPwr f).csr = s.csr := rfl
@[simp] theorem State.modPwr_latch (s : State) (f : PwrSt → PwrSt) : (s.modPwr f).latch = s.latch := rfl
@[simp] theorem State.modPwr_resp (s : State) (f : PwrSt → PwrSt) : (s.modPwr f).resp = s.resp := rfl
@[simp] theorem State.modPwr_time (s : State) (f : PwrSt → PwrSt) : (s.modPwr f).time = s.time := rfl
@[simp] theorem State.modPwr_mem (s : State) (f : PwrSt → PwrSt) : (s.modPwr f).mem = s.mem := rfl
@[simp] theorem State.modPwr_poison (s : State) (f : PwrSt → PwrSt) : (s.modPwr f).poison = s.poison := rfl
@[simp] theorem State.modPwr_sheets (s : State) (f : PwrSt → PwrSt) : (s.modPwr f).sheets = s.sheets := rfl
@[simp] theorem State.modPwr_fab (s : State) (f : PwrSt → PwrSt) : (s.modPwr f).fab = s.fab := rfl
@[simp] theorem State.modPwr_ports (s : State) (f : PwrSt → PwrSt) : (s.modPwr f).ports = s.ports := rfl
@[simp] theorem State.modPwr_x (s : State) (f : PwrSt → PwrSt) : (s.modPwr f).x = s.x := rfl
@[simp] theorem State.modPwr_fault (s : State) (f : PwrSt → PwrSt) : (s.modPwr f).fault = s.fault := rfl
@[simp] theorem State.modPwr_wiora (s : State) (f : PwrSt → PwrSt) : (s.modPwr f).wiora = s.wiora := rfl
@[simp] theorem State.modPwr_own (s : State) (f : PwrSt → PwrSt) : (s.modPwr f).own = s.own := rfl
@[simp] theorem State.modPwr_load (s : State) (f : PwrSt → PwrSt) : (s.modPwr f).load = s.load := rfl
@[simp] theorem State.modPwr_topo (s : State) (f : PwrSt → PwrSt) : (s.modPwr f).topo = s.topo := rfl
@[simp] theorem State.modPwr_net (s : State) (f : PwrSt → PwrSt) : (s.modPwr f).net = s.net := rfl
@[simp] theorem State.modPwr_boot (s : State) (f : PwrSt → PwrSt) : (s.modPwr f).boot = s.boot := rfl
@[simp] theorem State.modPwr_cart (s : State) (f : PwrSt → PwrSt) : (s.modPwr f).cart = s.cart := rfl
@[simp] theorem State.modPwr_free (s : State) (f : PwrSt → PwrSt) : (s.modPwr f).free = s.free := rfl
@[simp] theorem State.modPwr_pending (s : State) (f : PwrSt → PwrSt) : (s.modPwr f).pending = s.pending := rfl

/-! ### modWiora -/

@[simp] theorem State.modWiora_csr (s : State) (f : WioraSt → WioraSt) : (s.modWiora f).csr = s.csr := rfl
@[simp] theorem State.modWiora_latch (s : State) (f : WioraSt → WioraSt) : (s.modWiora f).latch = s.latch := rfl
@[simp] theorem State.modWiora_resp (s : State) (f : WioraSt → WioraSt) : (s.modWiora f).resp = s.resp := rfl
@[simp] theorem State.modWiora_time (s : State) (f : WioraSt → WioraSt) : (s.modWiora f).time = s.time := rfl
@[simp] theorem State.modWiora_mem (s : State) (f : WioraSt → WioraSt) : (s.modWiora f).mem = s.mem := rfl
@[simp] theorem State.modWiora_poison (s : State) (f : WioraSt → WioraSt) : (s.modWiora f).poison = s.poison := rfl
@[simp] theorem State.modWiora_sheets (s : State) (f : WioraSt → WioraSt) : (s.modWiora f).sheets = s.sheets := rfl
@[simp] theorem State.modWiora_fab (s : State) (f : WioraSt → WioraSt) : (s.modWiora f).fab = s.fab := rfl
@[simp] theorem State.modWiora_ports (s : State) (f : WioraSt → WioraSt) : (s.modWiora f).ports = s.ports := rfl
@[simp] theorem State.modWiora_x (s : State) (f : WioraSt → WioraSt) : (s.modWiora f).x = s.x := rfl
@[simp] theorem State.modWiora_fault (s : State) (f : WioraSt → WioraSt) : (s.modWiora f).fault = s.fault := rfl
@[simp] theorem State.modWiora_own (s : State) (f : WioraSt → WioraSt) : (s.modWiora f).own = s.own := rfl
@[simp] theorem State.modWiora_load (s : State) (f : WioraSt → WioraSt) : (s.modWiora f).load = s.load := rfl
@[simp] theorem State.modWiora_topo (s : State) (f : WioraSt → WioraSt) : (s.modWiora f).topo = s.topo := rfl
@[simp] theorem State.modWiora_net (s : State) (f : WioraSt → WioraSt) : (s.modWiora f).net = s.net := rfl
@[simp] theorem State.modWiora_boot (s : State) (f : WioraSt → WioraSt) : (s.modWiora f).boot = s.boot := rfl
@[simp] theorem State.modWiora_cart (s : State) (f : WioraSt → WioraSt) : (s.modWiora f).cart = s.cart := rfl
@[simp] theorem State.modWiora_pwr (s : State) (f : WioraSt → WioraSt) : (s.modWiora f).pwr = s.pwr := rfl
@[simp] theorem State.modWiora_free (s : State) (f : WioraSt → WioraSt) : (s.modWiora f).free = s.free := rfl
@[simp] theorem State.modWiora_pending (s : State) (f : WioraSt → WioraSt) : (s.modWiora f).pending = s.pending := rfl

/-! ### modOwn -/

@[simp] theorem State.modOwn_csr (s : State) (f : OwnSt → OwnSt) : (s.modOwn f).csr = s.csr := rfl
@[simp] theorem State.modOwn_latch (s : State) (f : OwnSt → OwnSt) : (s.modOwn f).latch = s.latch := rfl
@[simp] theorem State.modOwn_resp (s : State) (f : OwnSt → OwnSt) : (s.modOwn f).resp = s.resp := rfl
@[simp] theorem State.modOwn_time (s : State) (f : OwnSt → OwnSt) : (s.modOwn f).time = s.time := rfl
@[simp] theorem State.modOwn_mem (s : State) (f : OwnSt → OwnSt) : (s.modOwn f).mem = s.mem := rfl
@[simp] theorem State.modOwn_poison (s : State) (f : OwnSt → OwnSt) : (s.modOwn f).poison = s.poison := rfl
@[simp] theorem State.modOwn_sheets (s : State) (f : OwnSt → OwnSt) : (s.modOwn f).sheets = s.sheets := rfl
@[simp] theorem State.modOwn_fab (s : State) (f : OwnSt → OwnSt) : (s.modOwn f).fab = s.fab := rfl
@[simp] theorem State.modOwn_ports (s : State) (f : OwnSt → OwnSt) : (s.modOwn f).ports = s.ports := rfl
@[simp] theorem State.modOwn_x (s : State) (f : OwnSt → OwnSt) : (s.modOwn f).x = s.x := rfl
@[simp] theorem State.modOwn_fault (s : State) (f : OwnSt → OwnSt) : (s.modOwn f).fault = s.fault := rfl
@[simp] theorem State.modOwn_wiora (s : State) (f : OwnSt → OwnSt) : (s.modOwn f).wiora = s.wiora := rfl
@[simp] theorem State.modOwn_load (s : State) (f : OwnSt → OwnSt) : (s.modOwn f).load = s.load := rfl
@[simp] theorem State.modOwn_topo (s : State) (f : OwnSt → OwnSt) : (s.modOwn f).topo = s.topo := rfl
@[simp] theorem State.modOwn_net (s : State) (f : OwnSt → OwnSt) : (s.modOwn f).net = s.net := rfl
@[simp] theorem State.modOwn_boot (s : State) (f : OwnSt → OwnSt) : (s.modOwn f).boot = s.boot := rfl
@[simp] theorem State.modOwn_cart (s : State) (f : OwnSt → OwnSt) : (s.modOwn f).cart = s.cart := rfl
@[simp] theorem State.modOwn_pwr (s : State) (f : OwnSt → OwnSt) : (s.modOwn f).pwr = s.pwr := rfl
@[simp] theorem State.modOwn_free (s : State) (f : OwnSt → OwnSt) : (s.modOwn f).free = s.free := rfl
@[simp] theorem State.modOwn_pending (s : State) (f : OwnSt → OwnSt) : (s.modOwn f).pending = s.pending := rfl

/-! ### modLatch -/

@[simp] theorem State.modLatch_csr (s : State) (f : LatchSt → LatchSt) : (s.modLatch f).csr = s.csr := rfl
@[simp] theorem State.modLatch_resp (s : State) (f : LatchSt → LatchSt) : (s.modLatch f).resp = s.resp := rfl
@[simp] theorem State.modLatch_time (s : State) (f : LatchSt → LatchSt) : (s.modLatch f).time = s.time := rfl
@[simp] theorem State.modLatch_mem (s : State) (f : LatchSt → LatchSt) : (s.modLatch f).mem = s.mem := rfl
@[simp] theorem State.modLatch_poison (s : State) (f : LatchSt → LatchSt) : (s.modLatch f).poison = s.poison := rfl
@[simp] theorem State.modLatch_sheets (s : State) (f : LatchSt → LatchSt) : (s.modLatch f).sheets = s.sheets := rfl
@[simp] theorem State.modLatch_fab (s : State) (f : LatchSt → LatchSt) : (s.modLatch f).fab = s.fab := rfl
@[simp] theorem State.modLatch_ports (s : State) (f : LatchSt → LatchSt) : (s.modLatch f).ports = s.ports := rfl
@[simp] theorem State.modLatch_x (s : State) (f : LatchSt → LatchSt) : (s.modLatch f).x = s.x := rfl
@[simp] theorem State.modLatch_fault (s : State) (f : LatchSt → LatchSt) : (s.modLatch f).fault = s.fault := rfl
@[simp] theorem State.modLatch_wiora (s : State) (f : LatchSt → LatchSt) : (s.modLatch f).wiora = s.wiora := rfl
@[simp] theorem State.modLatch_own (s : State) (f : LatchSt → LatchSt) : (s.modLatch f).own = s.own := rfl
@[simp] theorem State.modLatch_load (s : State) (f : LatchSt → LatchSt) : (s.modLatch f).load = s.load := rfl
@[simp] theorem State.modLatch_topo (s : State) (f : LatchSt → LatchSt) : (s.modLatch f).topo = s.topo := rfl
@[simp] theorem State.modLatch_net (s : State) (f : LatchSt → LatchSt) : (s.modLatch f).net = s.net := rfl
@[simp] theorem State.modLatch_boot (s : State) (f : LatchSt → LatchSt) : (s.modLatch f).boot = s.boot := rfl
@[simp] theorem State.modLatch_cart (s : State) (f : LatchSt → LatchSt) : (s.modLatch f).cart = s.cart := rfl
@[simp] theorem State.modLatch_pwr (s : State) (f : LatchSt → LatchSt) : (s.modLatch f).pwr = s.pwr := rfl
@[simp] theorem State.modLatch_free (s : State) (f : LatchSt → LatchSt) : (s.modLatch f).free = s.free := rfl
@[simp] theorem State.modLatch_pending (s : State) (f : LatchSt → LatchSt) : (s.modLatch f).pending = s.pending := rfl

/-! ### answer -/

@[simp] theorem State.answer_csr (s : State) (n : Nat) (bs : List Byte) : (s.answer n bs).csr = s.csr := rfl
@[simp] theorem State.answer_latch (s : State) (n : Nat) (bs : List Byte) : (s.answer n bs).latch = s.latch := rfl
@[simp] theorem State.answer_time (s : State) (n : Nat) (bs : List Byte) : (s.answer n bs).time = s.time := rfl
@[simp] theorem State.answer_mem (s : State) (n : Nat) (bs : List Byte) : (s.answer n bs).mem = s.mem := rfl
@[simp] theorem State.answer_poison (s : State) (n : Nat) (bs : List Byte) : (s.answer n bs).poison = s.poison := rfl
@[simp] theorem State.answer_sheets (s : State) (n : Nat) (bs : List Byte) : (s.answer n bs).sheets = s.sheets := rfl
@[simp] theorem State.answer_fab (s : State) (n : Nat) (bs : List Byte) : (s.answer n bs).fab = s.fab := rfl
@[simp] theorem State.answer_ports (s : State) (n : Nat) (bs : List Byte) : (s.answer n bs).ports = s.ports := rfl
@[simp] theorem State.answer_x (s : State) (n : Nat) (bs : List Byte) : (s.answer n bs).x = s.x := rfl
@[simp] theorem State.answer_fault (s : State) (n : Nat) (bs : List Byte) : (s.answer n bs).fault = s.fault := rfl
@[simp] theorem State.answer_wiora (s : State) (n : Nat) (bs : List Byte) : (s.answer n bs).wiora = s.wiora := rfl
@[simp] theorem State.answer_own (s : State) (n : Nat) (bs : List Byte) : (s.answer n bs).own = s.own := rfl
@[simp] theorem State.answer_load (s : State) (n : Nat) (bs : List Byte) : (s.answer n bs).load = s.load := rfl
@[simp] theorem State.answer_topo (s : State) (n : Nat) (bs : List Byte) : (s.answer n bs).topo = s.topo := rfl
@[simp] theorem State.answer_net (s : State) (n : Nat) (bs : List Byte) : (s.answer n bs).net = s.net := rfl
@[simp] theorem State.answer_boot (s : State) (n : Nat) (bs : List Byte) : (s.answer n bs).boot = s.boot := rfl
@[simp] theorem State.answer_cart (s : State) (n : Nat) (bs : List Byte) : (s.answer n bs).cart = s.cart := rfl
@[simp] theorem State.answer_pwr (s : State) (n : Nat) (bs : List Byte) : (s.answer n bs).pwr = s.pwr := rfl
@[simp] theorem State.answer_free (s : State) (n : Nat) (bs : List Byte) : (s.answer n bs).free = s.free := rfl
@[simp] theorem State.answer_pending (s : State) (n : Nat) (bs : List Byte) : (s.answer n bs).pending = s.pending := rfl

/-! ### pass -/

@[simp] theorem State.pass_csr (s : State) (n : Nat) : (s.pass n).csr = s.csr := rfl
@[simp] theorem State.pass_latch (s : State) (n : Nat) : (s.pass n).latch = s.latch := rfl
@[simp] theorem State.pass_resp (s : State) (n : Nat) : (s.pass n).resp = s.resp := rfl
@[simp] theorem State.pass_mem (s : State) (n : Nat) : (s.pass n).mem = s.mem := rfl
@[simp] theorem State.pass_poison (s : State) (n : Nat) : (s.pass n).poison = s.poison := rfl
@[simp] theorem State.pass_sheets (s : State) (n : Nat) : (s.pass n).sheets = s.sheets := rfl
@[simp] theorem State.pass_fab (s : State) (n : Nat) : (s.pass n).fab = s.fab := rfl
@[simp] theorem State.pass_ports (s : State) (n : Nat) : (s.pass n).ports = s.ports := rfl
@[simp] theorem State.pass_x (s : State) (n : Nat) : (s.pass n).x = s.x := rfl
@[simp] theorem State.pass_fault (s : State) (n : Nat) : (s.pass n).fault = s.fault := rfl
@[simp] theorem State.pass_wiora (s : State) (n : Nat) : (s.pass n).wiora = s.wiora := rfl
@[simp] theorem State.pass_own (s : State) (n : Nat) : (s.pass n).own = s.own := rfl
@[simp] theorem State.pass_load (s : State) (n : Nat) : (s.pass n).load = s.load := rfl
@[simp] theorem State.pass_topo (s : State) (n : Nat) : (s.pass n).topo = s.topo := rfl
@[simp] theorem State.pass_net (s : State) (n : Nat) : (s.pass n).net = s.net := rfl
@[simp] theorem State.pass_boot (s : State) (n : Nat) : (s.pass n).boot = s.boot := rfl
@[simp] theorem State.pass_cart (s : State) (n : Nat) : (s.pass n).cart = s.cart := rfl
@[simp] theorem State.pass_pwr (s : State) (n : Nat) : (s.pass n).pwr = s.pwr := rfl
@[simp] theorem State.pass_free (s : State) (n : Nat) : (s.pass n).free = s.free := rfl
@[simp] theorem State.pass_pending (s : State) (n : Nat) : (s.pass n).pending = s.pending := rfl

/-! ### toTick -/

@[simp] theorem State.toTick_csr (s : State) (n : Nat) : (s.toTick n).csr = s.csr := rfl
@[simp] theorem State.toTick_latch (s : State) (n : Nat) : (s.toTick n).latch = s.latch := rfl
@[simp] theorem State.toTick_resp (s : State) (n : Nat) : (s.toTick n).resp = s.resp := rfl
@[simp] theorem State.toTick_mem (s : State) (n : Nat) : (s.toTick n).mem = s.mem := rfl
@[simp] theorem State.toTick_poison (s : State) (n : Nat) : (s.toTick n).poison = s.poison := rfl
@[simp] theorem State.toTick_sheets (s : State) (n : Nat) : (s.toTick n).sheets = s.sheets := rfl
@[simp] theorem State.toTick_fab (s : State) (n : Nat) : (s.toTick n).fab = s.fab := rfl
@[simp] theorem State.toTick_ports (s : State) (n : Nat) : (s.toTick n).ports = s.ports := rfl
@[simp] theorem State.toTick_x (s : State) (n : Nat) : (s.toTick n).x = s.x := rfl
@[simp] theorem State.toTick_fault (s : State) (n : Nat) : (s.toTick n).fault = s.fault := rfl
@[simp] theorem State.toTick_wiora (s : State) (n : Nat) : (s.toTick n).wiora = s.wiora := rfl
@[simp] theorem State.toTick_own (s : State) (n : Nat) : (s.toTick n).own = s.own := rfl
@[simp] theorem State.toTick_load (s : State) (n : Nat) : (s.toTick n).load = s.load := rfl
@[simp] theorem State.toTick_topo (s : State) (n : Nat) : (s.toTick n).topo = s.topo := rfl
@[simp] theorem State.toTick_net (s : State) (n : Nat) : (s.toTick n).net = s.net := rfl
@[simp] theorem State.toTick_boot (s : State) (n : Nat) : (s.toTick n).boot = s.boot := rfl
@[simp] theorem State.toTick_cart (s : State) (n : Nat) : (s.toTick n).cart = s.cart := rfl
@[simp] theorem State.toTick_pwr (s : State) (n : Nat) : (s.toTick n).pwr = s.pwr := rfl
@[simp] theorem State.toTick_free (s : State) (n : Nat) : (s.toTick n).free = s.free := rfl
@[simp] theorem State.toTick_pending (s : State) (n : Nat) : (s.toTick n).pending = s.pending := rfl

/-! ### toElapsed -/

@[simp] theorem State.toElapsed_csr (s : State) (n : Nat) : (s.toElapsed n).csr = s.csr := rfl
@[simp] theorem State.toElapsed_latch (s : State) (n : Nat) : (s.toElapsed n).latch = s.latch := rfl
@[simp] theorem State.toElapsed_resp (s : State) (n : Nat) : (s.toElapsed n).resp = s.resp := rfl
@[simp] theorem State.toElapsed_mem (s : State) (n : Nat) : (s.toElapsed n).mem = s.mem := rfl
@[simp] theorem State.toElapsed_poison (s : State) (n : Nat) : (s.toElapsed n).poison = s.poison := rfl
@[simp] theorem State.toElapsed_sheets (s : State) (n : Nat) : (s.toElapsed n).sheets = s.sheets := rfl
@[simp] theorem State.toElapsed_fab (s : State) (n : Nat) : (s.toElapsed n).fab = s.fab := rfl
@[simp] theorem State.toElapsed_ports (s : State) (n : Nat) : (s.toElapsed n).ports = s.ports := rfl
@[simp] theorem State.toElapsed_x (s : State) (n : Nat) : (s.toElapsed n).x = s.x := rfl
@[simp] theorem State.toElapsed_fault (s : State) (n : Nat) : (s.toElapsed n).fault = s.fault := rfl
@[simp] theorem State.toElapsed_wiora (s : State) (n : Nat) : (s.toElapsed n).wiora = s.wiora := rfl
@[simp] theorem State.toElapsed_own (s : State) (n : Nat) : (s.toElapsed n).own = s.own := rfl
@[simp] theorem State.toElapsed_load (s : State) (n : Nat) : (s.toElapsed n).load = s.load := rfl
@[simp] theorem State.toElapsed_topo (s : State) (n : Nat) : (s.toElapsed n).topo = s.topo := rfl
@[simp] theorem State.toElapsed_net (s : State) (n : Nat) : (s.toElapsed n).net = s.net := rfl
@[simp] theorem State.toElapsed_boot (s : State) (n : Nat) : (s.toElapsed n).boot = s.boot := rfl
@[simp] theorem State.toElapsed_cart (s : State) (n : Nat) : (s.toElapsed n).cart = s.cart := rfl
@[simp] theorem State.toElapsed_pwr (s : State) (n : Nat) : (s.toElapsed n).pwr = s.pwr := rfl
@[simp] theorem State.toElapsed_free (s : State) (n : Nat) : (s.toElapsed n).free = s.free := rfl
@[simp] theorem State.toElapsed_pending (s : State) (n : Nat) : (s.toElapsed n).pending = s.pending := rfl

/-! ### memWrite -/

@[simp] theorem State.memWrite_csr (s : State) (a : Nat) (bs : List Byte) : (s.memWrite a bs).csr = s.csr := rfl
@[simp] theorem State.memWrite_latch (s : State) (a : Nat) (bs : List Byte) : (s.memWrite a bs).latch = s.latch := rfl
@[simp] theorem State.memWrite_resp (s : State) (a : Nat) (bs : List Byte) : (s.memWrite a bs).resp = s.resp := rfl
@[simp] theorem State.memWrite_time (s : State) (a : Nat) (bs : List Byte) : (s.memWrite a bs).time = s.time := rfl
@[simp] theorem State.memWrite_poison (s : State) (a : Nat) (bs : List Byte) : (s.memWrite a bs).poison = s.poison := rfl
@[simp] theorem State.memWrite_sheets (s : State) (a : Nat) (bs : List Byte) : (s.memWrite a bs).sheets = s.sheets := rfl
@[simp] theorem State.memWrite_fab (s : State) (a : Nat) (bs : List Byte) : (s.memWrite a bs).fab = s.fab := rfl
@[simp] theorem State.memWrite_ports (s : State) (a : Nat) (bs : List Byte) : (s.memWrite a bs).ports = s.ports := rfl
@[simp] theorem State.memWrite_x (s : State) (a : Nat) (bs : List Byte) : (s.memWrite a bs).x = s.x := rfl
@[simp] theorem State.memWrite_fault (s : State) (a : Nat) (bs : List Byte) : (s.memWrite a bs).fault = s.fault := rfl
@[simp] theorem State.memWrite_wiora (s : State) (a : Nat) (bs : List Byte) : (s.memWrite a bs).wiora = s.wiora := rfl
@[simp] theorem State.memWrite_own (s : State) (a : Nat) (bs : List Byte) : (s.memWrite a bs).own = s.own := rfl
@[simp] theorem State.memWrite_load (s : State) (a : Nat) (bs : List Byte) : (s.memWrite a bs).load = s.load := rfl
@[simp] theorem State.memWrite_topo (s : State) (a : Nat) (bs : List Byte) : (s.memWrite a bs).topo = s.topo := rfl
@[simp] theorem State.memWrite_net (s : State) (a : Nat) (bs : List Byte) : (s.memWrite a bs).net = s.net := rfl
@[simp] theorem State.memWrite_boot (s : State) (a : Nat) (bs : List Byte) : (s.memWrite a bs).boot = s.boot := rfl
@[simp] theorem State.memWrite_cart (s : State) (a : Nat) (bs : List Byte) : (s.memWrite a bs).cart = s.cart := rfl
@[simp] theorem State.memWrite_pwr (s : State) (a : Nat) (bs : List Byte) : (s.memWrite a bs).pwr = s.pwr := rfl
@[simp] theorem State.memWrite_free (s : State) (a : Nat) (bs : List Byte) : (s.memWrite a bs).free = s.free := rfl
@[simp] theorem State.memWrite_pending (s : State) (a : Nat) (bs : List Byte) : (s.memWrite a bs).pending = s.pending := rfl

/-! ### setPoison -/

@[simp] theorem State.setPoison_csr (s : State) (u : Nat) (b : Bool) : (s.setPoison u b).csr = s.csr := rfl
@[simp] theorem State.setPoison_latch (s : State) (u : Nat) (b : Bool) : (s.setPoison u b).latch = s.latch := rfl
@[simp] theorem State.setPoison_resp (s : State) (u : Nat) (b : Bool) : (s.setPoison u b).resp = s.resp := rfl
@[simp] theorem State.setPoison_time (s : State) (u : Nat) (b : Bool) : (s.setPoison u b).time = s.time := rfl
@[simp] theorem State.setPoison_mem (s : State) (u : Nat) (b : Bool) : (s.setPoison u b).mem = s.mem := rfl
@[simp] theorem State.setPoison_sheets (s : State) (u : Nat) (b : Bool) : (s.setPoison u b).sheets = s.sheets := rfl
@[simp] theorem State.setPoison_fab (s : State) (u : Nat) (b : Bool) : (s.setPoison u b).fab = s.fab := rfl
@[simp] theorem State.setPoison_ports (s : State) (u : Nat) (b : Bool) : (s.setPoison u b).ports = s.ports := rfl
@[simp] theorem State.setPoison_x (s : State) (u : Nat) (b : Bool) : (s.setPoison u b).x = s.x := rfl
@[simp] theorem State.setPoison_fault (s : State) (u : Nat) (b : Bool) : (s.setPoison u b).fault = s.fault := rfl
@[simp] theorem State.setPoison_wiora (s : State) (u : Nat) (b : Bool) : (s.setPoison u b).wiora = s.wiora := rfl
@[simp] theorem State.setPoison_own (s : State) (u : Nat) (b : Bool) : (s.setPoison u b).own = s.own := rfl
@[simp] theorem State.setPoison_load (s : State) (u : Nat) (b : Bool) : (s.setPoison u b).load = s.load := rfl
@[simp] theorem State.setPoison_topo (s : State) (u : Nat) (b : Bool) : (s.setPoison u b).topo = s.topo := rfl
@[simp] theorem State.setPoison_net (s : State) (u : Nat) (b : Bool) : (s.setPoison u b).net = s.net := rfl
@[simp] theorem State.setPoison_boot (s : State) (u : Nat) (b : Bool) : (s.setPoison u b).boot = s.boot := rfl
@[simp] theorem State.setPoison_cart (s : State) (u : Nat) (b : Bool) : (s.setPoison u b).cart = s.cart := rfl
@[simp] theorem State.setPoison_pwr (s : State) (u : Nat) (b : Bool) : (s.setPoison u b).pwr = s.pwr := rfl
@[simp] theorem State.setPoison_free (s : State) (u : Nat) (b : Bool) : (s.setPoison u b).free = s.free := rfl
@[simp] theorem State.setPoison_pending (s : State) (u : Nat) (b : Bool) : (s.setPoison u b).pending = s.pending := rfl

/-! ### Register writes of more than one word, and of fields -/

@[simp] theorem State.setReg64_latch (s : State) (a n : Nat) : (s.setReg64 a n).latch = s.latch := rfl
@[simp] theorem State.setReg64_resp (s : State) (a n : Nat) : (s.setReg64 a n).resp = s.resp := rfl
@[simp] theorem State.setReg64_time (s : State) (a n : Nat) : (s.setReg64 a n).time = s.time := rfl
@[simp] theorem State.setReg64_mem (s : State) (a n : Nat) : (s.setReg64 a n).mem = s.mem := rfl
@[simp] theorem State.setReg64_poison (s : State) (a n : Nat) : (s.setReg64 a n).poison = s.poison := rfl
@[simp] theorem State.setReg64_sheets (s : State) (a n : Nat) : (s.setReg64 a n).sheets = s.sheets := rfl
@[simp] theorem State.setReg64_fab (s : State) (a n : Nat) : (s.setReg64 a n).fab = s.fab := rfl
@[simp] theorem State.setReg64_ports (s : State) (a n : Nat) : (s.setReg64 a n).ports = s.ports := rfl
@[simp] theorem State.setReg64_x (s : State) (a n : Nat) : (s.setReg64 a n).x = s.x := rfl
@[simp] theorem State.setReg64_fault (s : State) (a n : Nat) : (s.setReg64 a n).fault = s.fault := rfl
@[simp] theorem State.setReg64_wiora (s : State) (a n : Nat) : (s.setReg64 a n).wiora = s.wiora := rfl
@[simp] theorem State.setReg64_own (s : State) (a n : Nat) : (s.setReg64 a n).own = s.own := rfl
@[simp] theorem State.setReg64_load (s : State) (a n : Nat) : (s.setReg64 a n).load = s.load := rfl
@[simp] theorem State.setReg64_topo (s : State) (a n : Nat) : (s.setReg64 a n).topo = s.topo := rfl
@[simp] theorem State.setReg64_net (s : State) (a n : Nat) : (s.setReg64 a n).net = s.net := rfl
@[simp] theorem State.setReg64_boot (s : State) (a n : Nat) : (s.setReg64 a n).boot = s.boot := rfl
@[simp] theorem State.setReg64_cart (s : State) (a n : Nat) : (s.setReg64 a n).cart = s.cart := rfl
@[simp] theorem State.setReg64_pwr (s : State) (a n : Nat) : (s.setReg64 a n).pwr = s.pwr := rfl
@[simp] theorem State.setReg64_free (s : State) (a n : Nat) : (s.setReg64 a n).free = s.free := rfl
@[simp] theorem State.setReg64_pending (s : State) (a n : Nat) : (s.setReg64 a n).pending = s.pending := rfl

@[simp] theorem State.setFld_latch (s : State) (f : Fld) (v : Nat) : (s.setFld f v).latch = s.latch := by
  unfold State.setFld; split <;> rfl
@[simp] theorem State.setFld_resp (s : State) (f : Fld) (v : Nat) : (s.setFld f v).resp = s.resp := by
  unfold State.setFld; split <;> rfl
@[simp] theorem State.setFld_time (s : State) (f : Fld) (v : Nat) : (s.setFld f v).time = s.time := by
  unfold State.setFld; split <;> rfl
@[simp] theorem State.setFld_mem (s : State) (f : Fld) (v : Nat) : (s.setFld f v).mem = s.mem := by
  unfold State.setFld; split <;> rfl
@[simp] theorem State.setFld_poison (s : State) (f : Fld) (v : Nat) : (s.setFld f v).poison = s.poison := by
  unfold State.setFld; split <;> rfl
@[simp] theorem State.setFld_sheets (s : State) (f : Fld) (v : Nat) : (s.setFld f v).sheets = s.sheets := by
  unfold State.setFld; split <;> rfl
@[simp] theorem State.setFld_fab (s : State) (f : Fld) (v : Nat) : (s.setFld f v).fab = s.fab := by
  unfold State.setFld; split <;> rfl
@[simp] theorem State.setFld_ports (s : State) (f : Fld) (v : Nat) : (s.setFld f v).ports = s.ports := by
  unfold State.setFld; split <;> rfl
@[simp] theorem State.setFld_x (s : State) (f : Fld) (v : Nat) : (s.setFld f v).x = s.x := by
  unfold State.setFld; split <;> rfl
@[simp] theorem State.setFld_fault (s : State) (f : Fld) (v : Nat) : (s.setFld f v).fault = s.fault := by
  unfold State.setFld; split <;> rfl
@[simp] theorem State.setFld_wiora (s : State) (f : Fld) (v : Nat) : (s.setFld f v).wiora = s.wiora := by
  unfold State.setFld; split <;> rfl
@[simp] theorem State.setFld_own (s : State) (f : Fld) (v : Nat) : (s.setFld f v).own = s.own := by
  unfold State.setFld; split <;> rfl
@[simp] theorem State.setFld_load (s : State) (f : Fld) (v : Nat) : (s.setFld f v).load = s.load := by
  unfold State.setFld; split <;> rfl
@[simp] theorem State.setFld_topo (s : State) (f : Fld) (v : Nat) : (s.setFld f v).topo = s.topo := by
  unfold State.setFld; split <;> rfl
@[simp] theorem State.setFld_net (s : State) (f : Fld) (v : Nat) : (s.setFld f v).net = s.net := by
  unfold State.setFld; split <;> rfl
@[simp] theorem State.setFld_boot (s : State) (f : Fld) (v : Nat) : (s.setFld f v).boot = s.boot := by
  unfold State.setFld; split <;> rfl
@[simp] theorem State.setFld_cart (s : State) (f : Fld) (v : Nat) : (s.setFld f v).cart = s.cart := by
  unfold State.setFld; split <;> rfl
@[simp] theorem State.setFld_pwr (s : State) (f : Fld) (v : Nat) : (s.setFld f v).pwr = s.pwr := by
  unfold State.setFld; split <;> rfl
@[simp] theorem State.setFld_free (s : State) (f : Fld) (v : Nat) : (s.setFld f v).free = s.free := by
  unfold State.setFld; split <;> rfl
@[simp] theorem State.setFld_pending (s : State) (f : Fld) (v : Nat) : (s.setFld f v).pending = s.pending := by
  unfold State.setFld; split <;> rfl

@[simp] theorem State.count_latch (s : State) (f : Fld) (k : Nat) : (s.count f k).latch = s.latch := by simp [State.count]
@[simp] theorem State.count_resp (s : State) (f : Fld) (k : Nat) : (s.count f k).resp = s.resp := by simp [State.count]
@[simp] theorem State.count_time (s : State) (f : Fld) (k : Nat) : (s.count f k).time = s.time := by simp [State.count]
@[simp] theorem State.count_mem (s : State) (f : Fld) (k : Nat) : (s.count f k).mem = s.mem := by simp [State.count]
@[simp] theorem State.count_poison (s : State) (f : Fld) (k : Nat) : (s.count f k).poison = s.poison := by simp [State.count]
@[simp] theorem State.count_sheets (s : State) (f : Fld) (k : Nat) : (s.count f k).sheets = s.sheets := by simp [State.count]
@[simp] theorem State.count_fab (s : State) (f : Fld) (k : Nat) : (s.count f k).fab = s.fab := by simp [State.count]
@[simp] theorem State.count_ports (s : State) (f : Fld) (k : Nat) : (s.count f k).ports = s.ports := by simp [State.count]
@[simp] theorem State.count_x (s : State) (f : Fld) (k : Nat) : (s.count f k).x = s.x := by simp [State.count]
@[simp] theorem State.count_fault (s : State) (f : Fld) (k : Nat) : (s.count f k).fault = s.fault := by simp [State.count]
@[simp] theorem State.count_wiora (s : State) (f : Fld) (k : Nat) : (s.count f k).wiora = s.wiora := by simp [State.count]
@[simp] theorem State.count_own (s : State) (f : Fld) (k : Nat) : (s.count f k).own = s.own := by simp [State.count]
@[simp] theorem State.count_load (s : State) (f : Fld) (k : Nat) : (s.count f k).load = s.load := by simp [State.count]
@[simp] theorem State.count_topo (s : State) (f : Fld) (k : Nat) : (s.count f k).topo = s.topo := by simp [State.count]
@[simp] theorem State.count_net (s : State) (f : Fld) (k : Nat) : (s.count f k).net = s.net := by simp [State.count]
@[simp] theorem State.count_boot (s : State) (f : Fld) (k : Nat) : (s.count f k).boot = s.boot := by simp [State.count]
@[simp] theorem State.count_cart (s : State) (f : Fld) (k : Nat) : (s.count f k).cart = s.cart := by simp [State.count]
@[simp] theorem State.count_pwr (s : State) (f : Fld) (k : Nat) : (s.count f k).pwr = s.pwr := by simp [State.count]
@[simp] theorem State.count_free (s : State) (f : Fld) (k : Nat) : (s.count f k).free = s.free := by simp [State.count]
@[simp] theorem State.count_pending (s : State) (f : Fld) (k : Nat) : (s.count f k).pending = s.pending := by simp [State.count]

@[simp] theorem State.raiseBit_latch (s : State) (f : Fld) : (s.raiseBit f).latch = s.latch := by simp [State.raiseBit]
@[simp] theorem State.raiseBit_resp (s : State) (f : Fld) : (s.raiseBit f).resp = s.resp := by simp [State.raiseBit]
@[simp] theorem State.raiseBit_time (s : State) (f : Fld) : (s.raiseBit f).time = s.time := by simp [State.raiseBit]
@[simp] theorem State.raiseBit_mem (s : State) (f : Fld) : (s.raiseBit f).mem = s.mem := by simp [State.raiseBit]
@[simp] theorem State.raiseBit_poison (s : State) (f : Fld) : (s.raiseBit f).poison = s.poison := by simp [State.raiseBit]
@[simp] theorem State.raiseBit_sheets (s : State) (f : Fld) : (s.raiseBit f).sheets = s.sheets := by simp [State.raiseBit]
@[simp] theorem State.raiseBit_fab (s : State) (f : Fld) : (s.raiseBit f).fab = s.fab := by simp [State.raiseBit]
@[simp] theorem State.raiseBit_ports (s : State) (f : Fld) : (s.raiseBit f).ports = s.ports := by simp [State.raiseBit]
@[simp] theorem State.raiseBit_x (s : State) (f : Fld) : (s.raiseBit f).x = s.x := by simp [State.raiseBit]
@[simp] theorem State.raiseBit_fault (s : State) (f : Fld) : (s.raiseBit f).fault = s.fault := by simp [State.raiseBit]
@[simp] theorem State.raiseBit_wiora (s : State) (f : Fld) : (s.raiseBit f).wiora = s.wiora := by simp [State.raiseBit]
@[simp] theorem State.raiseBit_own (s : State) (f : Fld) : (s.raiseBit f).own = s.own := by simp [State.raiseBit]
@[simp] theorem State.raiseBit_load (s : State) (f : Fld) : (s.raiseBit f).load = s.load := by simp [State.raiseBit]
@[simp] theorem State.raiseBit_topo (s : State) (f : Fld) : (s.raiseBit f).topo = s.topo := by simp [State.raiseBit]
@[simp] theorem State.raiseBit_net (s : State) (f : Fld) : (s.raiseBit f).net = s.net := by simp [State.raiseBit]
@[simp] theorem State.raiseBit_boot (s : State) (f : Fld) : (s.raiseBit f).boot = s.boot := by simp [State.raiseBit]
@[simp] theorem State.raiseBit_cart (s : State) (f : Fld) : (s.raiseBit f).cart = s.cart := by simp [State.raiseBit]
@[simp] theorem State.raiseBit_pwr (s : State) (f : Fld) : (s.raiseBit f).pwr = s.pwr := by simp [State.raiseBit]
@[simp] theorem State.raiseBit_free (s : State) (f : Fld) : (s.raiseBit f).free = s.free := by simp [State.raiseBit]
@[simp] theorem State.raiseBit_pending (s : State) (f : Fld) : (s.raiseBit f).pending = s.pending := by simp [State.raiseBit]

@[simp] theorem State.setIf_latch (s : State) (c : Bool) (f : Fld) (v : Nat) : (s.setIf c f v).latch = s.latch := by
  cases c <;> simp [State.setIf]
@[simp] theorem State.setIf_resp (s : State) (c : Bool) (f : Fld) (v : Nat) : (s.setIf c f v).resp = s.resp := by
  cases c <;> simp [State.setIf]
@[simp] theorem State.setIf_time (s : State) (c : Bool) (f : Fld) (v : Nat) : (s.setIf c f v).time = s.time := by
  cases c <;> simp [State.setIf]
@[simp] theorem State.setIf_mem (s : State) (c : Bool) (f : Fld) (v : Nat) : (s.setIf c f v).mem = s.mem := by
  cases c <;> simp [State.setIf]
@[simp] theorem State.setIf_poison (s : State) (c : Bool) (f : Fld) (v : Nat) : (s.setIf c f v).poison = s.poison := by
  cases c <;> simp [State.setIf]
@[simp] theorem State.setIf_sheets (s : State) (c : Bool) (f : Fld) (v : Nat) : (s.setIf c f v).sheets = s.sheets := by
  cases c <;> simp [State.setIf]
@[simp] theorem State.setIf_fab (s : State) (c : Bool) (f : Fld) (v : Nat) : (s.setIf c f v).fab = s.fab := by
  cases c <;> simp [State.setIf]
@[simp] theorem State.setIf_ports (s : State) (c : Bool) (f : Fld) (v : Nat) : (s.setIf c f v).ports = s.ports := by
  cases c <;> simp [State.setIf]
@[simp] theorem State.setIf_x (s : State) (c : Bool) (f : Fld) (v : Nat) : (s.setIf c f v).x = s.x := by
  cases c <;> simp [State.setIf]
@[simp] theorem State.setIf_fault (s : State) (c : Bool) (f : Fld) (v : Nat) : (s.setIf c f v).fault = s.fault := by
  cases c <;> simp [State.setIf]
@[simp] theorem State.setIf_wiora (s : State) (c : Bool) (f : Fld) (v : Nat) : (s.setIf c f v).wiora = s.wiora := by
  cases c <;> simp [State.setIf]
@[simp] theorem State.setIf_own (s : State) (c : Bool) (f : Fld) (v : Nat) : (s.setIf c f v).own = s.own := by
  cases c <;> simp [State.setIf]
@[simp] theorem State.setIf_load (s : State) (c : Bool) (f : Fld) (v : Nat) : (s.setIf c f v).load = s.load := by
  cases c <;> simp [State.setIf]
@[simp] theorem State.setIf_topo (s : State) (c : Bool) (f : Fld) (v : Nat) : (s.setIf c f v).topo = s.topo := by
  cases c <;> simp [State.setIf]
@[simp] theorem State.setIf_net (s : State) (c : Bool) (f : Fld) (v : Nat) : (s.setIf c f v).net = s.net := by
  cases c <;> simp [State.setIf]
@[simp] theorem State.setIf_boot (s : State) (c : Bool) (f : Fld) (v : Nat) : (s.setIf c f v).boot = s.boot := by
  cases c <;> simp [State.setIf]
@[simp] theorem State.setIf_cart (s : State) (c : Bool) (f : Fld) (v : Nat) : (s.setIf c f v).cart = s.cart := by
  cases c <;> simp [State.setIf]
@[simp] theorem State.setIf_pwr (s : State) (c : Bool) (f : Fld) (v : Nat) : (s.setIf c f v).pwr = s.pwr := by
  cases c <;> simp [State.setIf]
@[simp] theorem State.setIf_free (s : State) (c : Bool) (f : Fld) (v : Nat) : (s.setIf c f v).free = s.free := by
  cases c <;> simp [State.setIf]
@[simp] theorem State.setIf_pending (s : State) (c : Bool) (f : Fld) (v : Nat) : (s.setIf c f v).pending = s.pending := by
  cases c <;> simp [State.setIf]

/-! ### What each update leaves of registers, fields and parts -/

@[simp] theorem State.port_setReg (s : State) (a : Nat) (w : Word) (j : Nat) :
    (s.setReg a w).port j = s.port j := rfl
@[simp] theorem State.sheet_setReg (s : State) (a : Nat) (w : Word) (j : Nat) :
    (s.setReg a w).sheet j = s.sheet j := rfl
@[simp] theorem State.wport_setReg (s : State) (a : Nat) (w : Word) (j : Nat) :
    (s.setReg a w).wport j = s.wport j := rfl
@[simp] theorem State.dx_setReg (s : State) (a : Nat) (w : Word) (j : Nat) :
    (s.setReg a w).dx j = s.dx j := rfl

@[simp] theorem State.reg_setSheet (s : State) (i : Nat) (y : SheetSt) (c : Nat) :
    (s.setSheet i y).reg c = s.reg c := rfl
@[simp] theorem State.fld_setSheet (s : State) (i : Nat) (y : SheetSt) (g : Fld) :
    (s.setSheet i y).fld g = s.fld g := rfl
@[simp] theorem State.flag_setSheet (s : State) (i : Nat) (y : SheetSt) (g : Fld) :
    (s.setSheet i y).flag g = s.flag g := rfl
@[simp] theorem State.port_setSheet (s : State) (i : Nat) (y : SheetSt) (j : Nat) :
    (s.setSheet i y).port j = s.port j := rfl
@[simp] theorem State.wport_setSheet (s : State) (i : Nat) (y : SheetSt) (j : Nat) :
    (s.setSheet i y).wport j = s.wport j := rfl
@[simp] theorem State.dx_setSheet (s : State) (i : Nat) (y : SheetSt) (j : Nat) :
    (s.setSheet i y).dx j = s.dx j := rfl

@[simp] theorem State.reg_modSheet (s : State) (i : Nat) (f : SheetSt → SheetSt) (c : Nat) :
    (s.modSheet i f).reg c = s.reg c := rfl
@[simp] theorem State.fld_modSheet (s : State) (i : Nat) (f : SheetSt → SheetSt) (g : Fld) :
    (s.modSheet i f).fld g = s.fld g := rfl
@[simp] theorem State.flag_modSheet (s : State) (i : Nat) (f : SheetSt → SheetSt) (g : Fld) :
    (s.modSheet i f).flag g = s.flag g := rfl
@[simp] theorem State.port_modSheet (s : State) (i : Nat) (f : SheetSt → SheetSt) (j : Nat) :
    (s.modSheet i f).port j = s.port j := rfl
@[simp] theorem State.wport_modSheet (s : State) (i : Nat) (f : SheetSt → SheetSt) (j : Nat) :
    (s.modSheet i f).wport j = s.wport j := rfl
@[simp] theorem State.dx_modSheet (s : State) (i : Nat) (f : SheetSt → SheetSt) (j : Nat) :
    (s.modSheet i f).dx j = s.dx j := rfl

@[simp] theorem State.reg_setPort (s : State) (p : Nat) (y : PortSt) (c : Nat) :
    (s.setPort p y).reg c = s.reg c := rfl
@[simp] theorem State.fld_setPort (s : State) (p : Nat) (y : PortSt) (g : Fld) :
    (s.setPort p y).fld g = s.fld g := rfl
@[simp] theorem State.flag_setPort (s : State) (p : Nat) (y : PortSt) (g : Fld) :
    (s.setPort p y).flag g = s.flag g := rfl
@[simp] theorem State.sheet_setPort (s : State) (p : Nat) (y : PortSt) (j : Nat) :
    (s.setPort p y).sheet j = s.sheet j := rfl
@[simp] theorem State.wport_setPort (s : State) (p : Nat) (y : PortSt) (j : Nat) :
    (s.setPort p y).wport j = s.wport j := rfl
@[simp] theorem State.dx_setPort (s : State) (p : Nat) (y : PortSt) (j : Nat) :
    (s.setPort p y).dx j = s.dx j := rfl

@[simp] theorem State.reg_modPort (s : State) (p : Nat) (f : PortSt → PortSt) (c : Nat) :
    (s.modPort p f).reg c = s.reg c := rfl
@[simp] theorem State.fld_modPort (s : State) (p : Nat) (f : PortSt → PortSt) (g : Fld) :
    (s.modPort p f).fld g = s.fld g := rfl
@[simp] theorem State.flag_modPort (s : State) (p : Nat) (f : PortSt → PortSt) (g : Fld) :
    (s.modPort p f).flag g = s.flag g := rfl
@[simp] theorem State.sheet_modPort (s : State) (p : Nat) (f : PortSt → PortSt) (j : Nat) :
    (s.modPort p f).sheet j = s.sheet j := rfl
@[simp] theorem State.wport_modPort (s : State) (p : Nat) (f : PortSt → PortSt) (j : Nat) :
    (s.modPort p f).wport j = s.wport j := rfl
@[simp] theorem State.dx_modPort (s : State) (p : Nat) (f : PortSt → PortSt) (j : Nat) :
    (s.modPort p f).dx j = s.dx j := rfl

@[simp] theorem State.reg_setWport (s : State) (p : Nat) (y : WPortSt) (c : Nat) :
    (s.setWport p y).reg c = s.reg c := rfl
@[simp] theorem State.fld_setWport (s : State) (p : Nat) (y : WPortSt) (g : Fld) :
    (s.setWport p y).fld g = s.fld g := rfl
@[simp] theorem State.flag_setWport (s : State) (p : Nat) (y : WPortSt) (g : Fld) :
    (s.setWport p y).flag g = s.flag g := rfl
@[simp] theorem State.port_setWport (s : State) (p : Nat) (y : WPortSt) (j : Nat) :
    (s.setWport p y).port j = s.port j := rfl
@[simp] theorem State.sheet_setWport (s : State) (p : Nat) (y : WPortSt) (j : Nat) :
    (s.setWport p y).sheet j = s.sheet j := rfl
@[simp] theorem State.dx_setWport (s : State) (p : Nat) (y : WPortSt) (j : Nat) :
    (s.setWport p y).dx j = s.dx j := rfl

@[simp] theorem State.reg_modWport (s : State) (p : Nat) (f : WPortSt → WPortSt) (c : Nat) :
    (s.modWport p f).reg c = s.reg c := rfl
@[simp] theorem State.fld_modWport (s : State) (p : Nat) (f : WPortSt → WPortSt) (g : Fld) :
    (s.modWport p f).fld g = s.fld g := rfl
@[simp] theorem State.flag_modWport (s : State) (p : Nat) (f : WPortSt → WPortSt) (g : Fld) :
    (s.modWport p f).flag g = s.flag g := rfl
@[simp] theorem State.port_modWport (s : State) (p : Nat) (f : WPortSt → WPortSt) (j : Nat) :
    (s.modWport p f).port j = s.port j := rfl
@[simp] theorem State.sheet_modWport (s : State) (p : Nat) (f : WPortSt → WPortSt) (j : Nat) :
    (s.modWport p f).sheet j = s.sheet j := rfl
@[simp] theorem State.dx_modWport (s : State) (p : Nat) (f : WPortSt → WPortSt) (j : Nat) :
    (s.modWport p f).dx j = s.dx j := rfl

@[simp] theorem State.reg_setDx (s : State) (e : Nat) (y : DxSt) (c : Nat) :
    (s.setDx e y).reg c = s.reg c := rfl
@[simp] theorem State.fld_setDx (s : State) (e : Nat) (y : DxSt) (g : Fld) :
    (s.setDx e y).fld g = s.fld g := rfl
@[simp] theorem State.flag_setDx (s : State) (e : Nat) (y : DxSt) (g : Fld) :
    (s.setDx e y).flag g = s.flag g := rfl
@[simp] theorem State.port_setDx (s : State) (e : Nat) (y : DxSt) (j : Nat) :
    (s.setDx e y).port j = s.port j := rfl
@[simp] theorem State.sheet_setDx (s : State) (e : Nat) (y : DxSt) (j : Nat) :
    (s.setDx e y).sheet j = s.sheet j := rfl
@[simp] theorem State.wport_setDx (s : State) (e : Nat) (y : DxSt) (j : Nat) :
    (s.setDx e y).wport j = s.wport j := rfl

@[simp] theorem State.reg_modFab (s : State) (f : FabSt → FabSt) (c : Nat) :
    (s.modFab f).reg c = s.reg c := rfl
@[simp] theorem State.fld_modFab (s : State) (f : FabSt → FabSt) (g : Fld) :
    (s.modFab f).fld g = s.fld g := rfl
@[simp] theorem State.flag_modFab (s : State) (f : FabSt → FabSt) (g : Fld) :
    (s.modFab f).flag g = s.flag g := rfl
@[simp] theorem State.port_modFab (s : State) (f : FabSt → FabSt) (j : Nat) :
    (s.modFab f).port j = s.port j := rfl
@[simp] theorem State.sheet_modFab (s : State) (f : FabSt → FabSt) (j : Nat) :
    (s.modFab f).sheet j = s.sheet j := rfl
@[simp] theorem State.wport_modFab (s : State) (f : FabSt → FabSt) (j : Nat) :
    (s.modFab f).wport j = s.wport j := rfl

@[simp] theorem State.reg_modX (s : State) (f : XSt → XSt) (c : Nat) :
    (s.modX f).reg c = s.reg c := rfl
@[simp] theorem State.fld_modX (s : State) (f : XSt → XSt) (g : Fld) :
    (s.modX f).fld g = s.fld g := rfl
@[simp] theorem State.flag_modX (s : State) (f : XSt → XSt) (g : Fld) :
    (s.modX f).flag g = s.flag g := rfl
@[simp] theorem State.port_modX (s : State) (f : XSt → XSt) (j : Nat) :
    (s.modX f).port j = s.port j := rfl
@[simp] theorem State.sheet_modX (s : State) (f : XSt → XSt) (j : Nat) :
    (s.modX f).sheet j = s.sheet j := rfl
@[simp] theorem State.wport_modX (s : State) (f : XSt → XSt) (j : Nat) :
    (s.modX f).wport j = s.wport j := rfl
@[simp] theorem State.dx_modX (s : State) (f : XSt → XSt) (j : Nat) :
    (s.modX f).dx j = s.dx j := rfl

@[simp] theorem State.reg_modTime (s : State) (f : TimeSt → TimeSt) (c : Nat) :
    (s.modTime f).reg c = s.reg c := rfl
@[simp] theorem State.fld_modTime (s : State) (f : TimeSt → TimeSt) (g : Fld) :
    (s.modTime f).fld g = s.fld g := rfl
@[simp] theorem State.flag_modTime (s : State) (f : TimeSt → TimeSt) (g : Fld) :
    (s.modTime f).flag g = s.flag g := rfl
@[simp] theorem State.port_modTime (s : State) (f : TimeSt → TimeSt) (j : Nat) :
    (s.modTime f).port j = s.port j := rfl
@[simp] theorem State.sheet_modTime (s : State) (f : TimeSt → TimeSt) (j : Nat) :
    (s.modTime f).sheet j = s.sheet j := rfl
@[simp] theorem State.wport_modTime (s : State) (f : TimeSt → TimeSt) (j : Nat) :
    (s.modTime f).wport j = s.wport j := rfl
@[simp] theorem State.dx_modTime (s : State) (f : TimeSt → TimeSt) (j : Nat) :
    (s.modTime f).dx j = s.dx j := rfl

@[simp] theorem State.reg_modFault (s : State) (f : FaultSt → FaultSt) (c : Nat) :
    (s.modFault f).reg c = s.reg c := rfl
@[simp] theorem State.fld_modFault (s : State) (f : FaultSt → FaultSt) (g : Fld) :
    (s.modFault f).fld g = s.fld g := rfl
@[simp] theorem State.flag_modFault (s : State) (f : FaultSt → FaultSt) (g : Fld) :
    (s.modFault f).flag g = s.flag g := rfl
@[simp] theorem State.port_modFault (s : State) (f : FaultSt → FaultSt) (j : Nat) :
    (s.modFault f).port j = s.port j := rfl
@[simp] theorem State.sheet_modFault (s : State) (f : FaultSt → FaultSt) (j : Nat) :
    (s.modFault f).sheet j = s.sheet j := rfl
@[simp] theorem State.wport_modFault (s : State) (f : FaultSt → FaultSt) (j : Nat) :
    (s.modFault f).wport j = s.wport j := rfl
@[simp] theorem State.dx_modFault (s : State) (f : FaultSt → FaultSt) (j : Nat) :
    (s.modFault f).dx j = s.dx j := rfl

@[simp] theorem State.reg_modLoad (s : State) (f : LoadSt → LoadSt) (c : Nat) :
    (s.modLoad f).reg c = s.reg c := rfl
@[simp] theorem State.fld_modLoad (s : State) (f : LoadSt → LoadSt) (g : Fld) :
    (s.modLoad f).fld g = s.fld g := rfl
@[simp] theorem State.flag_modLoad (s : State) (f : LoadSt → LoadSt) (g : Fld) :
    (s.modLoad f).flag g = s.flag g := rfl
@[simp] theorem State.port_modLoad (s : State) (f : LoadSt → LoadSt) (j : Nat) :
    (s.modLoad f).port j = s.port j := rfl
@[simp] theorem State.sheet_modLoad (s : State) (f : LoadSt → LoadSt) (j : Nat) :
    (s.modLoad f).sheet j = s.sheet j := rfl
@[simp] theorem State.wport_modLoad (s : State) (f : LoadSt → LoadSt) (j : Nat) :
    (s.modLoad f).wport j = s.wport j := rfl
@[simp] theorem State.dx_modLoad (s : State) (f : LoadSt → LoadSt) (j : Nat) :
    (s.modLoad f).dx j = s.dx j := rfl

@[simp] theorem State.reg_modTopo (s : State) (f : TopoSt → TopoSt) (c : Nat) :
    (s.modTopo f).reg c = s.reg c := rfl
@[simp] theorem State.fld_modTopo (s : State) (f : TopoSt → TopoSt) (g : Fld) :
    (s.modTopo f).fld g = s.fld g := rfl
@[simp] theorem State.flag_modTopo (s : State) (f : TopoSt → TopoSt) (g : Fld) :
    (s.modTopo f).flag g = s.flag g := rfl
@[simp] theorem State.port_modTopo (s : State) (f : TopoSt → TopoSt) (j : Nat) :
    (s.modTopo f).port j = s.port j := rfl
@[simp] theorem State.sheet_modTopo (s : State) (f : TopoSt → TopoSt) (j : Nat) :
    (s.modTopo f).sheet j = s.sheet j := rfl
@[simp] theorem State.wport_modTopo (s : State) (f : TopoSt → TopoSt) (j : Nat) :
    (s.modTopo f).wport j = s.wport j := rfl
@[simp] theorem State.dx_modTopo (s : State) (f : TopoSt → TopoSt) (j : Nat) :
    (s.modTopo f).dx j = s.dx j := rfl

@[simp] theorem State.reg_modNet (s : State) (f : NetSt → NetSt) (c : Nat) :
    (s.modNet f).reg c = s.reg c := rfl
@[simp] theorem State.fld_modNet (s : State) (f : NetSt → NetSt) (g : Fld) :
    (s.modNet f).fld g = s.fld g := rfl
@[simp] theorem State.flag_modNet (s : State) (f : NetSt → NetSt) (g : Fld) :
    (s.modNet f).flag g = s.flag g := rfl
@[simp] theorem State.port_modNet (s : State) (f : NetSt → NetSt) (j : Nat) :
    (s.modNet f).port j = s.port j := rfl
@[simp] theorem State.sheet_modNet (s : State) (f : NetSt → NetSt) (j : Nat) :
    (s.modNet f).sheet j = s.sheet j := rfl
@[simp] theorem State.wport_modNet (s : State) (f : NetSt → NetSt) (j : Nat) :
    (s.modNet f).wport j = s.wport j := rfl
@[simp] theorem State.dx_modNet (s : State) (f : NetSt → NetSt) (j : Nat) :
    (s.modNet f).dx j = s.dx j := rfl

@[simp] theorem State.reg_modBoot (s : State) (f : BootSt → BootSt) (c : Nat) :
    (s.modBoot f).reg c = s.reg c := rfl
@[simp] theorem State.fld_modBoot (s : State) (f : BootSt → BootSt) (g : Fld) :
    (s.modBoot f).fld g = s.fld g := rfl
@[simp] theorem State.flag_modBoot (s : State) (f : BootSt → BootSt) (g : Fld) :
    (s.modBoot f).flag g = s.flag g := rfl
@[simp] theorem State.port_modBoot (s : State) (f : BootSt → BootSt) (j : Nat) :
    (s.modBoot f).port j = s.port j := rfl
@[simp] theorem State.sheet_modBoot (s : State) (f : BootSt → BootSt) (j : Nat) :
    (s.modBoot f).sheet j = s.sheet j := rfl
@[simp] theorem State.wport_modBoot (s : State) (f : BootSt → BootSt) (j : Nat) :
    (s.modBoot f).wport j = s.wport j := rfl
@[simp] theorem State.dx_modBoot (s : State) (f : BootSt → BootSt) (j : Nat) :
    (s.modBoot f).dx j = s.dx j := rfl

@[simp] theorem State.reg_modCart (s : State) (f : CartSt → CartSt) (c : Nat) :
    (s.modCart f).reg c = s.reg c := rfl
@[simp] theorem State.fld_modCart (s : State) (f : CartSt → CartSt) (g : Fld) :
    (s.modCart f).fld g = s.fld g := rfl
@[simp] theorem State.flag_modCart (s : State) (f : CartSt → CartSt) (g : Fld) :
    (s.modCart f).flag g = s.flag g := rfl
@[simp] theorem State.port_modCart (s : State) (f : CartSt → CartSt) (j : Nat) :
    (s.modCart f).port j = s.port j := rfl
@[simp] theorem State.sheet_modCart (s : State) (f : CartSt → CartSt) (j : Nat) :
    (s.modCart f).sheet j = s.sheet j := rfl
@[simp] theorem State.wport_modCart (s : State) (f : CartSt → CartSt) (j : Nat) :
    (s.modCart f).wport j = s.wport j := rfl
@[simp] theorem State.dx_modCart (s : State) (f : CartSt → CartSt) (j : Nat) :
    (s.modCart f).dx j = s.dx j := rfl

@[simp] theorem State.reg_modPwr (s : State) (f : PwrSt → PwrSt) (c : Nat) :
    (s.modPwr f).reg c = s.reg c := rfl
@[simp] theorem State.fld_modPwr (s : State) (f : PwrSt → PwrSt) (g : Fld) :
    (s.modPwr f).fld g = s.fld g := rfl
@[simp] theorem State.flag_modPwr (s : State) (f : PwrSt → PwrSt) (g : Fld) :
    (s.modPwr f).flag g = s.flag g := rfl
@[simp] theorem State.port_modPwr (s : State) (f : PwrSt → PwrSt) (j : Nat) :
    (s.modPwr f).port j = s.port j := rfl
@[simp] theorem State.sheet_modPwr (s : State) (f : PwrSt → PwrSt) (j : Nat) :
    (s.modPwr f).sheet j = s.sheet j := rfl
@[simp] theorem State.wport_modPwr (s : State) (f : PwrSt → PwrSt) (j : Nat) :
    (s.modPwr f).wport j = s.wport j := rfl
@[simp] theorem State.dx_modPwr (s : State) (f : PwrSt → PwrSt) (j : Nat) :
    (s.modPwr f).dx j = s.dx j := rfl

@[simp] theorem State.reg_modWiora (s : State) (f : WioraSt → WioraSt) (c : Nat) :
    (s.modWiora f).reg c = s.reg c := rfl
@[simp] theorem State.fld_modWiora (s : State) (f : WioraSt → WioraSt) (g : Fld) :
    (s.modWiora f).fld g = s.fld g := rfl
@[simp] theorem State.flag_modWiora (s : State) (f : WioraSt → WioraSt) (g : Fld) :
    (s.modWiora f).flag g = s.flag g := rfl
@[simp] theorem State.port_modWiora (s : State) (f : WioraSt → WioraSt) (j : Nat) :
    (s.modWiora f).port j = s.port j := rfl
@[simp] theorem State.sheet_modWiora (s : State) (f : WioraSt → WioraSt) (j : Nat) :
    (s.modWiora f).sheet j = s.sheet j := rfl
@[simp] theorem State.dx_modWiora (s : State) (f : WioraSt → WioraSt) (j : Nat) :
    (s.modWiora f).dx j = s.dx j := rfl

@[simp] theorem State.reg_modOwn (s : State) (f : OwnSt → OwnSt) (c : Nat) :
    (s.modOwn f).reg c = s.reg c := rfl
@[simp] theorem State.fld_modOwn (s : State) (f : OwnSt → OwnSt) (g : Fld) :
    (s.modOwn f).fld g = s.fld g := rfl
@[simp] theorem State.flag_modOwn (s : State) (f : OwnSt → OwnSt) (g : Fld) :
    (s.modOwn f).flag g = s.flag g := rfl
@[simp] theorem State.port_modOwn (s : State) (f : OwnSt → OwnSt) (j : Nat) :
    (s.modOwn f).port j = s.port j := rfl
@[simp] theorem State.sheet_modOwn (s : State) (f : OwnSt → OwnSt) (j : Nat) :
    (s.modOwn f).sheet j = s.sheet j := rfl
@[simp] theorem State.wport_modOwn (s : State) (f : OwnSt → OwnSt) (j : Nat) :
    (s.modOwn f).wport j = s.wport j := rfl
@[simp] theorem State.dx_modOwn (s : State) (f : OwnSt → OwnSt) (j : Nat) :
    (s.modOwn f).dx j = s.dx j := rfl

@[simp] theorem State.reg_modLatch (s : State) (f : LatchSt → LatchSt) (c : Nat) :
    (s.modLatch f).reg c = s.reg c := rfl
@[simp] theorem State.fld_modLatch (s : State) (f : LatchSt → LatchSt) (g : Fld) :
    (s.modLatch f).fld g = s.fld g := rfl
@[simp] theorem State.flag_modLatch (s : State) (f : LatchSt → LatchSt) (g : Fld) :
    (s.modLatch f).flag g = s.flag g := rfl
@[simp] theorem State.port_modLatch (s : State) (f : LatchSt → LatchSt) (j : Nat) :
    (s.modLatch f).port j = s.port j := rfl
@[simp] theorem State.sheet_modLatch (s : State) (f : LatchSt → LatchSt) (j : Nat) :
    (s.modLatch f).sheet j = s.sheet j := rfl
@[simp] theorem State.wport_modLatch (s : State) (f : LatchSt → LatchSt) (j : Nat) :
    (s.modLatch f).wport j = s.wport j := rfl
@[simp] theorem State.dx_modLatch (s : State) (f : LatchSt → LatchSt) (j : Nat) :
    (s.modLatch f).dx j = s.dx j := rfl

@[simp] theorem State.reg_answer (s : State) (n : Nat) (bs : List Byte) (c : Nat) :
    (s.answer n bs).reg c = s.reg c := rfl
@[simp] theorem State.fld_answer (s : State) (n : Nat) (bs : List Byte) (g : Fld) :
    (s.answer n bs).fld g = s.fld g := rfl
@[simp] theorem State.flag_answer (s : State) (n : Nat) (bs : List Byte) (g : Fld) :
    (s.answer n bs).flag g = s.flag g := rfl
@[simp] theorem State.port_answer (s : State) (n : Nat) (bs : List Byte) (j : Nat) :
    (s.answer n bs).port j = s.port j := rfl
@[simp] theorem State.sheet_answer (s : State) (n : Nat) (bs : List Byte) (j : Nat) :
    (s.answer n bs).sheet j = s.sheet j := rfl
@[simp] theorem State.wport_answer (s : State) (n : Nat) (bs : List Byte) (j : Nat) :
    (s.answer n bs).wport j = s.wport j := rfl
@[simp] theorem State.dx_answer (s : State) (n : Nat) (bs : List Byte) (j : Nat) :
    (s.answer n bs).dx j = s.dx j := rfl

@[simp] theorem State.reg_pass (s : State) (n : Nat) (c : Nat) :
    (s.pass n).reg c = s.reg c := rfl
@[simp] theorem State.fld_pass (s : State) (n : Nat) (g : Fld) :
    (s.pass n).fld g = s.fld g := rfl
@[simp] theorem State.flag_pass (s : State) (n : Nat) (g : Fld) :
    (s.pass n).flag g = s.flag g := rfl
@[simp] theorem State.port_pass (s : State) (n : Nat) (j : Nat) :
    (s.pass n).port j = s.port j := rfl
@[simp] theorem State.sheet_pass (s : State) (n : Nat) (j : Nat) :
    (s.pass n).sheet j = s.sheet j := rfl
@[simp] theorem State.wport_pass (s : State) (n : Nat) (j : Nat) :
    (s.pass n).wport j = s.wport j := rfl
@[simp] theorem State.dx_pass (s : State) (n : Nat) (j : Nat) :
    (s.pass n).dx j = s.dx j := rfl

@[simp] theorem State.reg_toTick (s : State) (n : Nat) (c : Nat) :
    (s.toTick n).reg c = s.reg c := rfl
@[simp] theorem State.fld_toTick (s : State) (n : Nat) (g : Fld) :
    (s.toTick n).fld g = s.fld g := rfl
@[simp] theorem State.flag_toTick (s : State) (n : Nat) (g : Fld) :
    (s.toTick n).flag g = s.flag g := rfl
@[simp] theorem State.port_toTick (s : State) (n : Nat) (j : Nat) :
    (s.toTick n).port j = s.port j := rfl
@[simp] theorem State.sheet_toTick (s : State) (n : Nat) (j : Nat) :
    (s.toTick n).sheet j = s.sheet j := rfl
@[simp] theorem State.wport_toTick (s : State) (n : Nat) (j : Nat) :
    (s.toTick n).wport j = s.wport j := rfl
@[simp] theorem State.dx_toTick (s : State) (n : Nat) (j : Nat) :
    (s.toTick n).dx j = s.dx j := rfl

@[simp] theorem State.reg_toElapsed (s : State) (n : Nat) (c : Nat) :
    (s.toElapsed n).reg c = s.reg c := rfl
@[simp] theorem State.fld_toElapsed (s : State) (n : Nat) (g : Fld) :
    (s.toElapsed n).fld g = s.fld g := rfl
@[simp] theorem State.flag_toElapsed (s : State) (n : Nat) (g : Fld) :
    (s.toElapsed n).flag g = s.flag g := rfl
@[simp] theorem State.port_toElapsed (s : State) (n : Nat) (j : Nat) :
    (s.toElapsed n).port j = s.port j := rfl
@[simp] theorem State.sheet_toElapsed (s : State) (n : Nat) (j : Nat) :
    (s.toElapsed n).sheet j = s.sheet j := rfl
@[simp] theorem State.wport_toElapsed (s : State) (n : Nat) (j : Nat) :
    (s.toElapsed n).wport j = s.wport j := rfl
@[simp] theorem State.dx_toElapsed (s : State) (n : Nat) (j : Nat) :
    (s.toElapsed n).dx j = s.dx j := rfl

@[simp] theorem State.reg_memWrite (s : State) (a : Nat) (bs : List Byte) (c : Nat) :
    (s.memWrite a bs).reg c = s.reg c := rfl
@[simp] theorem State.fld_memWrite (s : State) (a : Nat) (bs : List Byte) (g : Fld) :
    (s.memWrite a bs).fld g = s.fld g := rfl
@[simp] theorem State.flag_memWrite (s : State) (a : Nat) (bs : List Byte) (g : Fld) :
    (s.memWrite a bs).flag g = s.flag g := rfl
@[simp] theorem State.port_memWrite (s : State) (a : Nat) (bs : List Byte) (j : Nat) :
    (s.memWrite a bs).port j = s.port j := rfl
@[simp] theorem State.sheet_memWrite (s : State) (a : Nat) (bs : List Byte) (j : Nat) :
    (s.memWrite a bs).sheet j = s.sheet j := rfl
@[simp] theorem State.wport_memWrite (s : State) (a : Nat) (bs : List Byte) (j : Nat) :
    (s.memWrite a bs).wport j = s.wport j := rfl
@[simp] theorem State.dx_memWrite (s : State) (a : Nat) (bs : List Byte) (j : Nat) :
    (s.memWrite a bs).dx j = s.dx j := rfl

@[simp] theorem State.reg_setPoison (s : State) (u : Nat) (b : Bool) (c : Nat) :
    (s.setPoison u b).reg c = s.reg c := rfl
@[simp] theorem State.fld_setPoison (s : State) (u : Nat) (b : Bool) (g : Fld) :
    (s.setPoison u b).fld g = s.fld g := rfl
@[simp] theorem State.flag_setPoison (s : State) (u : Nat) (b : Bool) (g : Fld) :
    (s.setPoison u b).flag g = s.flag g := rfl
@[simp] theorem State.port_setPoison (s : State) (u : Nat) (b : Bool) (j : Nat) :
    (s.setPoison u b).port j = s.port j := rfl
@[simp] theorem State.sheet_setPoison (s : State) (u : Nat) (b : Bool) (j : Nat) :
    (s.setPoison u b).sheet j = s.sheet j := rfl
@[simp] theorem State.wport_setPoison (s : State) (u : Nat) (b : Bool) (j : Nat) :
    (s.setPoison u b).wport j = s.wport j := rfl
@[simp] theorem State.dx_setPoison (s : State) (u : Nat) (b : Bool) (j : Nat) :
    (s.setPoison u b).dx j = s.dx j := rfl

@[simp] theorem State.port_setReg64 (s : State) (a n : Nat) (j : Nat) : (s.setReg64 a n).port j = s.port j := by
  simp [State.port]
@[simp] theorem State.sheet_setReg64 (s : State) (a n : Nat) (j : Nat) : (s.setReg64 a n).sheet j = s.sheet j := by
  simp [State.sheet]
@[simp] theorem State.wport_setReg64 (s : State) (a n : Nat) (j : Nat) : (s.setReg64 a n).wport j = s.wport j := by
  simp [State.wport]
@[simp] theorem State.dx_setReg64 (s : State) (a n : Nat) (j : Nat) : (s.setReg64 a n).dx j = s.dx j := by
  simp [State.dx]

@[simp] theorem State.port_setFld (s : State) (f : Fld) (v : Nat) (j : Nat) : (s.setFld f v).port j = s.port j := by
  simp [State.port]
@[simp] theorem State.sheet_setFld (s : State) (f : Fld) (v : Nat) (j : Nat) : (s.setFld f v).sheet j = s.sheet j := by
  simp [State.sheet]
@[simp] theorem State.wport_setFld (s : State) (f : Fld) (v : Nat) (j : Nat) : (s.setFld f v).wport j = s.wport j := by
  simp [State.wport]
@[simp] theorem State.dx_setFld (s : State) (f : Fld) (v : Nat) (j : Nat) : (s.setFld f v).dx j = s.dx j := by
  simp [State.dx]

@[simp] theorem State.port_count (s : State) (f : Fld) (k : Nat) (j : Nat) : (s.count f k).port j = s.port j := by
  simp [State.port]
@[simp] theorem State.sheet_count (s : State) (f : Fld) (k : Nat) (j : Nat) : (s.count f k).sheet j = s.sheet j := by
  simp [State.sheet]
@[simp] theorem State.wport_count (s : State) (f : Fld) (k : Nat) (j : Nat) : (s.count f k).wport j = s.wport j := by
  simp [State.wport]
@[simp] theorem State.dx_count (s : State) (f : Fld) (k : Nat) (j : Nat) : (s.count f k).dx j = s.dx j := by
  simp [State.dx]

@[simp] theorem State.port_raiseBit (s : State) (f : Fld) (j : Nat) : (s.raiseBit f).port j = s.port j := by
  simp [State.port]
@[simp] theorem State.sheet_raiseBit (s : State) (f : Fld) (j : Nat) : (s.raiseBit f).sheet j = s.sheet j := by
  simp [State.sheet]
@[simp] theorem State.wport_raiseBit (s : State) (f : Fld) (j : Nat) : (s.raiseBit f).wport j = s.wport j := by
  simp [State.wport]
@[simp] theorem State.dx_raiseBit (s : State) (f : Fld) (j : Nat) : (s.raiseBit f).dx j = s.dx j := by
  simp [State.dx]

@[simp] theorem State.port_setIf (s : State) (c : Bool) (f : Fld) (v : Nat) (j : Nat) : (s.setIf c f v).port j = s.port j := by
  simp [State.port]
@[simp] theorem State.sheet_setIf (s : State) (c : Bool) (f : Fld) (v : Nat) (j : Nat) : (s.setIf c f v).sheet j = s.sheet j := by
  simp [State.sheet]
@[simp] theorem State.wport_setIf (s : State) (c : Bool) (f : Fld) (v : Nat) (j : Nat) : (s.setIf c f v).wport j = s.wport j := by
  simp [State.wport]
@[simp] theorem State.dx_setIf (s : State) (c : Bool) (f : Fld) (v : Nat) (j : Nat) : (s.setIf c f v).dx j = s.dx j := by
  simp [State.dx]

/-! ### Reads after writes -/

/-- A register reads as written, in a state whose registers are in canonical form. -/
theorem State.reg_setReg_same {s : State} {a : Nat} {w : Word} (h : smWf regReset s.csr = true) :
    (s.setReg a w).reg a = w := smGet_smSet_same h

/-- A write of one register leaves the others alone. -/
theorem State.reg_setReg_other {s : State} {a b : Nat} {w : Word} (h : b ≠ a) : (s.setReg a w).reg b = s.reg b :=
  smGet_smSet_other h

/-- A write of a field leaves every register alone but those that hold it. -/
theorem State.reg_setFld_other {s : State} {f : Fld} {v b : Nat} (h : b ≠ f.addr) (h4 : b ≠ f.addr + 4) :
    (s.setFld f v).reg b = s.reg b := by
  unfold State.setFld State.setReg64
  split
  · exact State.reg_setReg_other h
  · rw [State.reg_setReg_other h4, State.reg_setReg_other h]

/-- Every register write keeps the canonical form. -/
theorem State.csr_setReg_wf {s : State} {a : Nat} {w : Word} (h : smWf regReset s.csr = true) :
    smWf regReset (s.setReg a w).csr = true := smWf_smSet h

theorem State.csr_setReg64_wf {s : State} {a n : Nat} (h : smWf regReset s.csr = true) :
    smWf regReset (s.setReg64 a n).csr = true := State.csr_setReg_wf (State.csr_setReg_wf h)

theorem State.csr_setFld_wf {s : State} {f : Fld} {v : Nat} (h : smWf regReset s.csr = true) :
    smWf regReset (s.setFld f v).csr = true := by
  unfold State.setFld
  split
  · exact State.csr_setReg_wf h
  · exact State.csr_setReg64_wf h

/-- A part reads as set, where the parts of its kind are in canonical form. -/
theorem State.port_setPort_same {s : State} {p : Nat} {y : PortSt} (h : smWf (fun _ => {}) s.ports = true) :
    (s.setPort p y).port p = y := smGet_smSet_same h

theorem State.port_modPort_same {s : State} {p : Nat} {f : PortSt → PortSt} (h : smWf (fun _ => {}) s.ports = true) :
    (s.modPort p f).port p = f (s.port p) := smGet_smSet_same h

theorem State.sheet_setSheet_same {s : State} {i : Nat} {y : SheetSt} (h : smWf (fun _ => {}) s.sheets = true) :
    (s.setSheet i y).sheet i = y := smGet_smSet_same h

theorem State.sheet_modSheet_same {s : State} {i : Nat} {f : SheetSt → SheetSt}
    (h : smWf (fun _ => {}) s.sheets = true) : (s.modSheet i f).sheet i = f (s.sheet i) := smGet_smSet_same h

theorem State.wport_setWport_same {s : State} {p : Nat} {y : WPortSt} (h : smWf (fun _ => {}) s.wiora.port = true) :
    (s.setWport p y).wport p = y := smGet_smSet_same h

theorem State.wport_modWport_same {s : State} {p : Nat} {f : WPortSt → WPortSt}
    (h : smWf (fun _ => {}) s.wiora.port = true) : (s.modWport p f).wport p = f (s.wport p) := smGet_smSet_same h

theorem State.dx_setDx_same {s : State} {e : Nat} {y : DxSt} (h : smWf (fun _ => {}) s.fab.dx = true) :
    (s.setDx e y).dx e = y := smGet_smSet_same h

/-- Setting one part leaves the others of its kind alone. -/
theorem State.port_setPort_other {s : State} {p q : Nat} {y : PortSt} (h : q ≠ p) : (s.setPort p y).port q = s.port q :=
  smGet_smSet_other h

theorem State.sheet_setSheet_other {s : State} {i j : Nat} {y : SheetSt} (h : j ≠ i) :
    (s.setSheet i y).sheet j = s.sheet j := smGet_smSet_other h

theorem State.wport_setWport_other {s : State} {p q : Nat} {y : WPortSt} (h : q ≠ p) :
    (s.setWport p y).wport q = s.wport q := smGet_smSet_other h

theorem State.dx_setDx_other {s : State} {e k : Nat} {y : DxSt} (h : k ≠ e) : (s.setDx e y).dx k = s.dx k :=
  smGet_smSet_other h

/-! ### Device memory -/

/-- A write of device memory keeps its canonical form. -/
theorem State.mem_memWrite_wf {s : State} {a : Nat} {bs : List Byte} (h : smWf zeroByte s.mem = true) :
    smWf zeroByte (s.memWrite a bs).mem = true := smWf_smWrite h

/-- So does a change of its poison marks. -/
theorem State.poison_setPoison_wf {s : State} {u : Nat} {b : Bool} (h : smWf (fun _ => false) s.poison = true) :
    smWf (fun _ => false) (s.setPoison u b).poison = true := smWf_smSet h

/-- A byte outside the written ones reads as before. -/
theorem State.memRead_memWrite_other {s : State} {a x : Nat} {bs : List Byte} (h : x < a ∨ a + bs.length ≤ x) :
    (s.memWrite a bs).memRead x 1 = s.memRead x 1 := by
  simp [State.memRead, State.memWrite, smRead, smGet_smWrite_other h]

end Sys2Proof.Machine
end

