-- ==== Sys2Proof/Laws/Access.lean ====
section
/-! SUPPORT. What an access of an agent can do: the one way through the checks of R7 to R10, R373, R414 and R460, and
what stops it. -/

namespace Sys2Proof.Machine

/-! ### Writes -/

/-- The checks let a write that the module takes from the agent through. -/
theorem State.ctrlWrite_writable {s : State} {ag : Agent} {a n v : Nat} (h : Writable s ag a n) (ho : a ≠ GEN_OWN_CMD) :
    s.ctrlWrite (agentNo ag) a n v
      = (if n = 8 then s.writeDouble (agentNo ag) a v else s.writeWord (agentNo ag) a v, 0) := by
  obtain ⟨-, h2, hz, h3, h4⟩ := h
  cases hb : inSheetBlock a with
  | false => simp [State.ctrlWrite, hz, h2, h3, ho, hb]
  | true =>
    obtain ⟨hu, ht⟩ := h4 hb
    cases hw : s.twinOn with
    | false => simp [State.ctrlWrite, hz, h2, h3, ho, hb, hu, hw]
    | true => simp [State.ctrlWrite, hz, h2, h3, ho, hb, hu, hw, Nat.not_le.mpr (ht hw)]

/-- A write that the module takes from the agent reaches the register (R7, R9). -/
theorem State.access_word {s : State} {ag : Agent} {a v : Nat} (h : Writable s ag a 4) (ho : a ≠ GEN_OWN_CMD) :
    s.access ag a 4 v = (s.writeWord (agentNo ag) a v).answer 0 [] := by
  simp [State.access, h.1, State.ctrlWrite_writable h ho]

/-- A 64-bit write that the module takes from the agent reaches the register (R7, R9). -/
theorem State.access_double {s : State} {ag : Agent} {a v : Nat} (h : Writable s ag a 8) (ho : a ≠ GEN_OWN_CMD) :
    s.access ag a 8 v = (s.writeDouble (agentNo ag) a v).answer 0 [] := by
  simp [State.access, h.1, State.ctrlWrite_writable h ho]

/-- In twin mode a write of the owner to a CD1 sheet's register is refused with 0x1051 (R414). -/
theorem State.access_twin {s : State} {ag : Agent} {a n v : Nat} (hr : s.reaches (agentNo ag) = true)
    (hn : s.nonOwner (agentNo ag) = false) (hz : sizeOk a n = true) (hm : s.allMapped a n = true)
    (ho : a ≠ GEN_OWN_CMD) (hb : inSheetBlock a = true) (hu : s.sheetUp (sheetOf a) = true) (hw : s.twinOn = true)
    (hs : 160 ≤ sheetOf a) : s.access ag a n v = (s.raise 0x1051 (unitSheet (sheetOf a)) 0 0).answer 0 [] := by
  simp [State.access, State.ctrlWrite, hr, hn, hz, hm, ho, hb, hu, hw, hs]

/-- An access whose size, alignment or address is wrong records 0x7003 and does nothing else (R10). -/
theorem State.access_bad {s : State} {ag : Agent} {a n v : Nat} (hr : s.reaches (agentNo ag) = true)
    (h : sizeOk a n = false ∨ s.allMapped a n = false) :
    s.access ag a n v = (s.badAccess (agentNo ag) a).answer 2 [] := by
  have h' : (!sizeOk a n || !s.allMapped a n) = true := by rcases h with h | h <;> simp [h]
  simp [State.access, State.ctrlWrite, hr, h']

/-- The whole of a register of one word is written at once. -/
theorem State.writeWord_one {s : State} {g a v : Nat} {d : WordDesc} (h : regLoc a = some ⟨d, 0, 1⟩) :
    s.writeWord g a v = s.write32 g a v := by
  simp [State.writeWord, h]

/-- The lower word of a register of two is kept for the agent (R459). -/
theorem State.writeWord_low {s : State} {g a v : Nat} {d : WordDesc} (h : regLoc a = some ⟨d, 0, 2⟩) :
    s.writeWord g a v = s.keepLow g a (BitVec.ofNat 32 v) := by
  simp [State.writeWord, h]

/-- The upper word of a register of two completes its write (R459). -/
theorem State.writeWord_high {s : State} {g a v : Nat} {d : WordDesc} (h : regLoc a = some ⟨d, 1, 2⟩) :
    s.writeWord g a v =
      let x := s.lowFor g (a - 4) + v * 2 ^ 32
      if s.refuses64 (a - 4) x then s.write64 g (a - 4) x else (s.write64 g (a - 4) x).dropLow [a - 4] := by
  simp [State.writeWord, h]

/-- A 64-bit register written as a whole. -/
theorem State.writeDouble_two {s : State} {g a v : Nat} {d : WordDesc} (h : regLoc a = some ⟨d, 0, 2⟩) :
    s.writeDouble g a v = if s.refuses64 a v then s.write64 g a v else (s.write64 g a v).dropLow [a] := by
  simp [State.writeDouble, h]

/-! ### Reads -/

/-- A read of a register that the agent may read answers status 0 with its bytes (R7, R10). -/
theorem State.readAccess_word {s : State} {ag : Agent} {a : Nat} (hr : s.reaches (agentNo ag) = true) (hz : a % 4 = 0)
    (hm : s.allMapped a 4 = true) (hs : inSheetBlock a = true → s.sheetUp (sheetOf a) = true) :
    s.readAccess ag a 4 = (s.readWord (agentNo ag) a).1.answer 0 (leBytes 4 (s.readWord (agentNo ag) a).2) := by
  have h4' : (inSheetBlock a && !s.sheetUp (sheetOf a)) = false := by
    cases hb : inSheetBlock a
    · rfl
    · simp [hs hb]
  simp [State.readAccess, State.ctrlRead, sizeOk, hr, hz, hm, h4']

/-- A read of another size or alignment returns all ones, and one of unmapped registers 0 (R10). -/
theorem State.readAccess_size {s : State} {ag : Agent} {a n : Nat} (hr : s.reaches (agentNo ag) = true)
    (h : sizeOk a n = false) :
    s.readAccess ag a n = (s.badAccess (agentNo ag) a).answer 2 (List.replicate n 0xFF) := by
  simp [State.readAccess, State.ctrlRead, hr, h]

theorem State.readAccess_unmapped {s : State} {ag : Agent} {a n : Nat} (hr : s.reaches (agentNo ag) = true)
    (hz : sizeOk a n = true) (h : s.allMapped a n = false) :
    s.readAccess ag a n = (s.badAccess (agentNo ag) a).answer 2 (List.replicate n 0) := by
  simp [State.readAccess, State.ctrlRead, hr, hz, h]

end Sys2Proof.Machine
end

