-- ==== Sys2Proof/Laws/Good.lean ====
section
/-! SUPPORT. Good states: the queue is a given one, and the registers, the device memory and its poison marks are in
canonical form (R7, R304, R314). Every named operation keeps a state good. -/

namespace Sys2Proof.Machine

/-- The queue is `q`, and every sparse map of the state that a named update writes is in canonical form: the
registers, the device memory and its poison marks, the ports, the sheets, the Wiora ports and the dispatch engines. -/
structure Good (q : List Instr) (s : State) : Prop where
  queue : s.pending = q
  regs : smWf regReset s.csr = true
  mem : smWf zeroByte s.mem = true
  poison : smWf (fun _ => false) s.poison = true
  ports : smWf (fun _ => {}) s.ports = true
  sheets : smWf (fun _ => {}) s.sheets = true
  wports : smWf (fun _ => {}) s.wiora.port = true
  dxs : smWf (fun _ => {}) s.fab.dx = true

variable {q : List Instr} {s t : State}

theorem Good.ite {c : Prop} [Decidable c] (h1 : c → Good q s) (h2 : ¬c → Good q t) : Good q (if c then s else t) := by
  split
  · exact h1 ‹_›
  · exact h2 ‹_›
theorem Good.fst {α : Type} {p : State × α} {a : α} (e : p = (s, a)) (h : Good q p.1) : Good q s := by rw [e] at h; exact h
theorem Good.snd {α : Type} {p : α × State} {a : α} (e : p = (a, s)) (h : Good q p.2) : Good q s := by rw [e] at h; exact h
theorem Good.fst3 {α β : Type} {p : State × α × β} {a : α} {b : β} (e : p = (s, a, b)) (h : Good q p.1) : Good q s := by
  rw [e] at h; exact h
theorem Good.clearRegs {lo hi : Nat} (h : Good q s) : Good q { s with csr := smClear lo hi s.csr } :=
  ⟨h.queue, smWf_smClear h.regs, h.mem, h.poison, h.ports, h.sheets, h.wports, h.dxs⟩
theorem Good.clearMem (h : Good q s) : Good q { s with mem := [], poison := [] } := ⟨h.queue, h.regs, rfl, rfl, h.ports, h.sheets, h.wports, h.dxs⟩
theorem Good.getD {o : Option State} (h : Good q s) (ho : ∀ t, o = some t → Good q t) : Good q (o.getD s) := by
  cases o with
  | none => exact h
  | some t => exact ho t rfl
theorem Good.someI (h : Good q s) : some s = some t → Good q t := by rintro ⟨⟩; exact h
theorem Good.noneI {α : Type} {y : α} {P : Prop} : none = some y → P := nofun
theorem Good.someI2 {α : Type} {a y : α} (h : Good q s) : some (a, s) = some (y, t) → Good q t := by rintro ⟨⟩; exact h
theorem Good.foldl {α : Type} {f : State → α → State} {l : List α} (h : Good q s)
    (hf : ∀ u a, Good q u → Good q (f u a)) : Good q (l.foldl f s) := by
  induction l generalizing s with
  | nil => exact h
  | cons a l ih => exact ih (hf _ _ h)
theorem Good.foldl_fst {α β : Type} {f : State × β → α → State × β} {l : List α} {y : State × β} (h : Good q y.1)
    (hf : ∀ u a, Good q u.1 → Good q (f u a).1) : Good q (l.foldl f y).1 := by
  induction l generalizing y with
  | nil => exact h
  | cons a l ih => exact ih (hf _ _ h)
theorem Good.iter {n : Nat} {f : Nat → State → State} (h : Good q s)
    (hf : ∀ i u, Good q u → Good q (f i u)) : Good q (iter n f s) := Good.foldl h fun u i hu => hf i u hu
theorem Good.setReg {a w} (h : Good q s) : Good q (s.setReg a w) :=
  ⟨h.queue, State.csr_setReg_wf h.regs, h.mem, h.poison, h.ports, h.sheets, h.wports, h.dxs⟩
theorem Good.setReg64 {a n} (h : Good q s) : Good q (s.setReg64 a n) := Good.setReg (Good.setReg h)
theorem Good.setFld {f v} (h : Good q s) : Good q (s.setFld f v) :=
  ⟨by simp [h.queue], State.csr_setFld_wf h.regs, by simp [h.mem], by simp [h.poison], by simp [h.ports],
    by simp [h.sheets], by simp [h.wports], by simp [h.dxs]⟩
theorem Good.count {f k} (h : Good q s) : Good q (s.count f k) := Good.setFld h
theorem Good.raiseBit {f} (h : Good q s) : Good q (s.raiseBit f) := Good.setFld h
theorem Good.setIf {c f v} (h : Good q s) : Good q (s.setIf c f v) := by
  unfold State.setIf; exact Good.ite (fun _ => Good.setFld h) fun _ => h
theorem Good.memWrite {a bs} (h : Good q s) : Good q (s.memWrite a bs) :=
  ⟨h.queue, h.regs, State.mem_memWrite_wf h.mem, h.poison, h.ports, h.sheets, h.wports, h.dxs⟩
theorem Good.setPoison {u b} (h : Good q s) : Good q (s.setPoison u b) :=
  ⟨h.queue, h.regs, h.mem, State.poison_setPoison_wf h.poison, h.ports, h.sheets, h.wports, h.dxs⟩
theorem Good.pass {n} (h : Good q s) : Good q (s.pass n) := ⟨h.queue, h.regs, h.mem, h.poison, h.ports, h.sheets, h.wports, h.dxs⟩
theorem Good.toTick {n} (h : Good q s) : Good q (s.toTick n) := Good.pass h
theorem Good.toElapsed {n} (h : Good q s) : Good q (s.toElapsed n) := Good.pass h
theorem Good.answer {n bs} (h : Good q s) : Good q (s.answer n bs) := ⟨h.queue, h.regs, h.mem, h.poison, h.ports, h.sheets, h.wports, h.dxs⟩
theorem Good.draw {w} (h : Good q s) : Good q (s.draw w).2 := ⟨h.queue, h.regs, h.mem, h.poison, h.ports, h.sheets, h.wports, h.dxs⟩
theorem Good.setSheet {i y} (h : Good q s) : Good q (s.setSheet i y) :=
  ⟨h.queue, h.regs, h.mem, h.poison, h.ports, smWf_smSet h.sheets, h.wports, h.dxs⟩
theorem Good.modSheet {i y} (h : Good q s) : Good q (s.modSheet i y) := Good.setSheet h
theorem Good.setPort {i y} (h : Good q s) : Good q (s.setPort i y) :=
  ⟨h.queue, h.regs, h.mem, h.poison, smWf_smSet h.ports, h.sheets, h.wports, h.dxs⟩
theorem Good.modPort {i y} (h : Good q s) : Good q (s.modPort i y) := Good.setPort h
theorem Good.setWport {i y} (h : Good q s) : Good q (s.setWport i y) :=
  ⟨h.queue, h.regs, h.mem, h.poison, h.ports, h.sheets, smWf_smSet h.wports, h.dxs⟩
theorem Good.modWport {i y} (h : Good q s) : Good q (s.modWport i y) := Good.setWport h
theorem Good.setDx {i y} (h : Good q s) : Good q (s.setDx i y) :=
  ⟨h.queue, h.regs, h.mem, h.poison, h.ports, h.sheets, h.wports, smWf_smSet h.dxs⟩
theorem Good.modFab {f} (h : Good q s) (hf : ∀ w, (f w).dx = w.dx) : Good q (s.modFab f) :=
  ⟨h.queue, h.regs, h.mem, h.poison, h.ports, h.sheets, h.wports, by simpa [State.modFab, hf] using h.dxs⟩
theorem Good.modX {f} (h : Good q s) : Good q (s.modX f) := ⟨h.queue, h.regs, h.mem, h.poison, h.ports, h.sheets, h.wports, h.dxs⟩
theorem Good.modTime {f} (h : Good q s) : Good q (s.modTime f) := ⟨h.queue, h.regs, h.mem, h.poison, h.ports, h.sheets, h.wports, h.dxs⟩
theorem Good.modFault {f} (h : Good q s) : Good q (s.modFault f) := ⟨h.queue, h.regs, h.mem, h.poison, h.ports, h.sheets, h.wports, h.dxs⟩
theorem Good.modLoad {f} (h : Good q s) : Good q (s.modLoad f) := ⟨h.queue, h.regs, h.mem, h.poison, h.ports, h.sheets, h.wports, h.dxs⟩
theorem Good.modTopo {f} (h : Good q s) : Good q (s.modTopo f) := ⟨h.queue, h.regs, h.mem, h.poison, h.ports, h.sheets, h.wports, h.dxs⟩
theorem Good.modNet {f} (h : Good q s) : Good q (s.modNet f) := ⟨h.queue, h.regs, h.mem, h.poison, h.ports, h.sheets, h.wports, h.dxs⟩
theorem Good.modBoot {f} (h : Good q s) : Good q (s.modBoot f) := ⟨h.queue, h.regs, h.mem, h.poison, h.ports, h.sheets, h.wports, h.dxs⟩
theorem Good.modCart {f} (h : Good q s) : Good q (s.modCart f) := ⟨h.queue, h.regs, h.mem, h.poison, h.ports, h.sheets, h.wports, h.dxs⟩
theorem Good.modPwr {f} (h : Good q s) : Good q (s.modPwr f) := ⟨h.queue, h.regs, h.mem, h.poison, h.ports, h.sheets, h.wports, h.dxs⟩
theorem Good.modWiora {f} (h : Good q s) (hf : ∀ w, (f w).port = w.port) : Good q (s.modWiora f) :=
  ⟨h.queue, h.regs, h.mem, h.poison, h.ports, h.sheets, by simpa [State.modWiora, hf] using h.wports, h.dxs⟩
theorem Good.modOwn {f} (h : Good q s) : Good q (s.modOwn f) := ⟨h.queue, h.regs, h.mem, h.poison, h.ports, h.sheets, h.wports, h.dxs⟩
theorem Good.modLatch {f} (h : Good q s) : Good q (s.modLatch f) := ⟨h.queue, h.regs, h.mem, h.poison, h.ports, h.sheets, h.wports, h.dxs⟩

theorem Good.clearPoison {a n : Nat} (h : Good q s) : Good q (State.clearPoison s a n) := by
  unfold State.clearPoison
  try dsimp only
  repeat' first
    | (with_reducible first | assumption | apply Good.foldl | apply Good.setPoison)
    | split | intro _

end Sys2Proof.Machine
end

