-- ==== Sys2Proof/Laws/GoodWire.lean ====
section
/-! SUPPORT. The operations of the wires: X and Wiora sends, fault records, links, training, network time and topology keep a state good. -/

namespace Sys2Proof.Machine

variable {q : List Instr} {s : State}

/-! ### Machine/XSend.lean -/

theorem Good.setXwin {d : Nat} {w : XWin} (h : Good q s) : Good q (State.setXwin s d w) := by
  unfold State.setXwin
  try dsimp only
  repeat' first
    | (with_reducible first | assumption | apply Good.modX)
    | split

theorem Good.setXin {c : Nat} {w : XIn} (h : Good q s) : Good q (State.setXin s c w) := by
  unfold State.setXin
  try dsimp only
  repeat' first
    | (with_reducible first | assumption | apply Good.modX)
    | split

theorem Good.xQueue {o : XOut} (h : Good q s) : Good q (State.xQueue s o) := by
  unfold State.xQueue
  try dsimp only
  repeat' first
    | (with_reducible first | assumption | apply Good.modPort | (refine Good.ite (fun _ => ?_) (fun _ => ?_))
                            | apply Good.setXin | apply Good.setXwin)
    | split

theorem Good.xStart {o : XOut} (h : Good q s) : Good q (State.xStart s o) := by
  unfold State.xStart
  try dsimp only
  repeat' first
    | (with_reducible first | assumption | (refine Good.ite (fun _ => ?_) (fun _ => ?_)) | apply Good.modX
                            | apply Good.xQueue)
    | split

theorem Good.xPump (h : Good q s) : Good q (State.xPump s) := by
  unfold State.xPump
  try dsimp only
  repeat' first
    | (with_reducible first | assumption | apply Good.foldl | apply Good.modX | apply Good.xStart)
    | split | intro _

theorem Good.xRequest {path op addr len : Nat} {data : List Byte} {who : XWho} (h : Good q s) : ∀ t, State.xRequest s
    path op addr len data who = some t → Good q t := by
  refine fun t => ?_
  unfold State.xRequest
  try dsimp only
  repeat' first
    | (with_reducible first | assumption | (refine Good.ite (fun _ => ?_) (fun _ => ?_)) | apply Good.setXwin
                            | apply Good.modX | apply Good.xStart | apply Good.someI | exact Good.noneI)
    | split | intro _

/-! ### Machine/WSend.lean -/

theorem Good.wPump {p : Nat} (h : Good q s) : Good q (State.wPump s p) := by
  unfold State.wPump
  try dsimp only
  repeat' first
    | (with_reducible first | assumption | (refine Good.ite (fun _ => ?_) (fun _ => ?_)) | apply Good.modWport)
    | split | intro _

theorem Good.wSend {p : Nat} {m : WMsg} (h : Good q s) : Good q (State.wSend s p m) := by
  unfold State.wSend
  try dsimp only
  repeat' first
    | (with_reducible first | assumption | apply Good.wPump | apply Good.modWport)
    | split

theorem Good.wRequest {p : Nat} {who : WWho} {op b len word size : Nat} {data : List Byte} (h : Good q s) : Good q
    (State.wRequest s p who op b len word size data) := by
  unfold State.wRequest
  try dsimp only
  repeat' first
    | (with_reducible first | assumption | (refine Good.ite (fun _ => ?_) (fun _ => ?_)) | apply Good.setWport
                            | apply Good.wSend)
    | split | intro _

theorem Good.wUnhold {p : Nat} (h : Good q s) : Good q (State.wUnhold s p) := by
  unfold State.wUnhold
  try dsimp only
  repeat' first
    | (with_reducible first | assumption | (refine Good.ite (fun _ => ?_) (fun _ => ?_)) | apply Good.setWport
                            | apply Good.wSend)
    | split | intro _

theorem Good.wDropReq {p t : Nat} (h : Good q s) : Good q (State.wDropReq s p t) := by
  unfold State.wDropReq
  try dsimp only
  repeat' first
    | (with_reducible first | assumption | (refine Good.ite (fun _ => ?_) (fun _ => ?_)) | apply Good.modWport
                            | apply Good.wUnhold)
    | split | intro _

theorem Good.evAsk {p n : Nat} (h : Good q s) : Good q (State.evAsk s p n) := by
  unfold State.evAsk
  try dsimp only
  repeat' first
    | (with_reducible first | assumption | (refine Good.ite (fun _ => ?_) (fun _ => ?_)) | apply Good.modWport
                            | apply Good.wRequest)
    | split | intro _

theorem Good.evAhead {p : Nat} (h : Good q s) : Good q (State.evAhead s p) := by
  unfold State.evAhead
  try dsimp only
  repeat' first
    | (with_reducible first | assumption | (refine Good.ite (fun _ => ?_) (fun _ => ?_)) | apply Good.iter
                            | apply Good.evAsk)
    | split | intro _

theorem Good.evLost (h : Good q s) : Good q (State.evLost s) := by
  unfold State.evLost
  try dsimp only
  repeat' first
    | (with_reducible first | assumption | (refine Good.ite (fun _ => ?_) (fun _ => ?_)) | apply Good.modWport)
    | split | intro _

theorem Good.evStep {p : Nat} (h : Good q s) : Good q (State.evStep s p) := by
  unfold State.evStep
  try dsimp only
  repeat' first
    | (with_reducible first | assumption | (refine Good.ite (fun _ => ?_) (fun _ => ?_)) | apply Good.setWport
                            | apply Good.wRequest | apply Good.evAsk | apply Good.evLost)
    | split | intro _

theorem Good.evPump {p : Nat} (h : Good q s) : Good q (State.evPump s p) := by
  unfold State.evPump
  try dsimp only
  repeat' first
    | (with_reducible first | assumption | apply Good.iter | apply Good.evStep)
    | split | intro _

theorem Good.postEvent {p kind : Nat} {body : List Byte} {mayDrop : Bool} (h : Good q s) : Good q (State.postEvent s p
    kind body mayDrop).2 := by
  unfold State.postEvent
  try dsimp only
  repeat' first
    | (with_reducible first | assumption | apply Good.evPump | apply Good.modWport | apply Good.raiseBit)
    | split

/-! ### Machine/Faults.lean -/

theorem Good.logRec {r : FaultRec} (h : Good q s) : Good q (State.logRec s r) := by
  unfold State.logRec
  try dsimp only
  repeat' first
    | (with_reducible first | assumption | (refine Good.ite (fun _ => ?_) (fun _ => ?_)) | apply Good.modFault
                            | apply Good.count | apply Good.setFld)
    | split

theorem Good.noteStop {r : FaultRec} (h : Good q s) : Good q (State.noteStop s r) := by
  unfold State.noteStop
  try dsimp only
  repeat' first
    | (with_reducible first | assumption | (refine Good.ite (fun _ => ?_) (fun _ => ?_)) | apply Good.modTime)
    | split

theorem Good.raiseIbi {b : Byte} (h : Good q s) : Good q (State.raiseIbi s b) := by
  unfold State.raiseIbi
  try dsimp only
  repeat' first
    | (with_reducible first | assumption | (refine Good.ite (fun _ => ?_) (fun _ => ?_)) | apply Good.modOwn)
    | split

theorem Good.ibiPending (h : Good q s) : Good q (State.ibiPending s) := by
  unfold State.ibiPending
  try dsimp only
  repeat' first
    | (with_reducible first | assumption | (refine Good.ite (fun _ => ?_) (fun _ => ?_)) | apply Good.raiseIbi)
    | split | intro _

theorem Good.sendParent {r : FaultRec} (h : Good q s) : Good q (State.sendParent s r) := by
  unfold State.sendParent
  try dsimp only
  repeat' first
    | (with_reducible first | assumption | apply Good.count)
    | (refine Good.xRequest ?_ _ ‹State.xRequest _ _ _ _ _ _ _ = some _›) | split

theorem Good.sendUp {r : FaultRec} (h : Good q s) : Good q (State.sendUp s r) := by
  unfold State.sendUp
  try dsimp only
  repeat' first
    | (with_reducible first | assumption | (refine Good.ite (fun _ => ?_) (fun _ => ?_)) | apply Good.modFault
                            | apply Good.sendParent)
    | split

theorem Good.tracePut {kind tag unit aux : Nat} (h : Good q s) : Good q (State.tracePut s kind tag unit aux).1 := by
  unfold State.tracePut
  try dsimp only
  repeat' first
    | (with_reducible first | assumption | (refine Good.ite (fun _ => ?_) (fun _ => ?_)) | apply Good.memWrite
                            | apply Good.setFld)
    | split | intro _

theorem Good.eventRec {r : FaultRec} (h : Good q s) : Good q (State.eventRec s r).2 := by
  unfold State.eventRec
  try dsimp only
  repeat' first
    | (with_reducible first | assumption | (refine Good.ite (fun _ => ?_) (fun _ => ?_)) | apply Good.postEvent
                            | apply Good.modWport)
    | split | intro _ | (refine Good.snd ‹_ = (_, _)› ?_)

theorem Good.record {r : FaultRec} (h : Good q s) : Good q (State.record s r).2 := by
  unfold State.record
  try dsimp only
  repeat' first
    | (with_reducible first | assumption | (refine Good.ite (fun _ => ?_) (fun _ => ?_)) | apply Good.logRec
                            | apply Good.noteStop | apply Good.raiseIbi | apply Good.eventRec | apply Good.sendUp)
    | split | intro _ | (refine Good.snd ‹_ = (_, _)› ?_)

theorem Good.recordAll {r : FaultRec} (h : Good q s) : Good q (State.recordAll s r) := by
  unfold State.recordAll
  try dsimp only
  repeat' first
    | (with_reducible first | assumption | (refine Good.ite (fun _ => ?_) (fun _ => ?_)) | apply Good.record)
    | split | intro _ | (refine Good.snd ‹_ = (_, _)› ?_)

theorem Good.trace {kind tag unit aux : Nat} (h : Good q s) : Good q (State.trace s kind tag unit aux) := by
  unfold State.trace
  try dsimp only
  repeat' first
    | (with_reducible first | assumption | (refine Good.ite (fun _ => ?_) (fun _ => ?_)) | apply Good.tracePut
                            | apply Good.recordAll)
    | split | intro _ | (refine Good.fst ‹_ = (_, _)› ?_)

theorem Good.recordTraced {r : FaultRec} (h : Good q s) : Good q (State.recordTraced s r).2 := by
  unfold State.recordTraced
  try dsimp only
  repeat' first
    | (with_reducible first | assumption | (refine Good.ite (fun _ => ?_) (fun _ => ?_)) | apply Good.record
                            | apply Good.trace)
    | split | intro _ | (refine Good.snd ‹_ = (_, _)› ?_)

theorem Good.emit {r : FaultRec} (h : Good q s) : Good q (State.emit s r) := by
  unfold State.emit
  try dsimp only
  repeat' first
    | (with_reducible first | assumption | (refine Good.ite (fun _ => ?_) (fun _ => ?_)) | apply Good.recordTraced)
    | split | intro _ | (refine Good.snd ‹_ = (_, _)› ?_)

theorem Good.raise {code unit tag aux : Nat} (h : Good q s) : Good q (State.raise s code unit tag aux) := by
  unfold State.raise
  try dsimp only
  repeat' first
    | (with_reducible first | assumption | apply Good.emit)
    | split

theorem Good.raiseStop {code unit tag aux : Nat} (h : Good q s) : Good q (State.raiseStop s code unit tag aux) := by
  unfold State.raiseStop
  try dsimp only
  repeat' first
    | (with_reducible first | assumption | apply Good.emit)
    | split

theorem Good.raiseHalt {code unit tag aux : Nat} (h : Good q s) : Good q (State.raiseHalt s code unit tag aux) := by
  unfold State.raiseHalt
  try dsimp only
  repeat' first
    | (with_reducible first | assumption | apply Good.emit)
    | split

theorem Good.raisePeer {code p aux : Nat} (h : Good q s) : Good q (State.raisePeer s code p aux) := by
  unfold State.raisePeer
  try dsimp only
  repeat' first
    | (with_reducible first | assumption | apply Good.emit)
    | split

theorem Good.raiseLink {code p aux : Nat} (h : Good q s) : Good q (State.raiseLink s code p aux) := by
  unfold State.raiseLink
  try dsimp only
  repeat' first
    | (with_reducible first | assumption | apply Good.emit)
    | split

/-! ### Machine/Link.lean -/

theorem Good.denyIn {p slice : Nat} (h : Good q s) : Good q (State.denyIn s p slice) := by
  unfold State.denyIn
  try dsimp only
  repeat' first
    | (with_reducible first | assumption | (refine Good.ite (fun _ => ?_) (fun _ => ?_)) | apply Good.count
                            | apply Good.raisePeer | apply Good.modPort)
    | split

theorem Good.denyOut {p slice : Nat} (h : Good q s) : Good q (State.denyOut s p slice) := by
  unfold State.denyOut
  try dsimp only
  repeat' first
    | (with_reducible first | assumption | (refine Good.ite (fun _ => ?_) (fun _ => ?_)) | apply Good.count
                            | apply Good.raisePeer | apply Good.modPort)
    | split

theorem Good.poolFree {p id : Nat} (h : Good q s) : Good q (State.poolFree s p id) := by
  unfold State.poolFree
  try dsimp only
  repeat' first
    | (with_reducible first | assumption | apply Good.modPort)
    | split

theorem Good.poolSent {p id : Nat} (h : Good q s) : Good q (State.poolSent s p id) := by
  unfold State.poolSent
  try dsimp only
  repeat' first
    | (with_reducible first | assumption | (refine Good.ite (fun _ => ?_) (fun _ => ?_)) | apply Good.poolFree
                            | apply Good.modPort)
    | split

theorem Good.sendSymbol {p : Nat} {sym : List Byte} (h : Good q s) : Good q (State.sendSymbol s p sym) := by
  unfold State.sendSymbol
  try dsimp only
  repeat' first
    | (with_reducible first | assumption | (refine Good.ite (fun _ => ?_) (fun _ => ?_)) | apply Good.modPort)
    | split

theorem Good.linkEnter {p st : Nat} (h : Good q s) : Good q (State.linkEnter s p st) := by
  unfold State.linkEnter
  try dsimp only
  repeat' first
    | (with_reducible first | assumption | (refine Good.ite (fun _ => ?_) (fun _ => ?_)) | apply Good.iter
                            | apply Good.modPort | apply Good.setFld)
    | split | intro _

theorem Good.leaveActive {p : Nat} (h : Good q s) : Good q (State.leaveActive s p) := by
  unfold State.leaveActive
  try dsimp only
  repeat' first
    | (with_reducible first | assumption | apply Good.modPort | apply Good.setFld)
    | split

theorem Good.linkRetrainNow {p : Nat} (h : Good q s) : Good q (State.linkRetrainNow s p) := by
  unfold State.linkRetrainNow
  try dsimp only
  repeat' first
    | (with_reducible first | assumption | apply Good.setFld | apply Good.linkEnter | apply Good.leaveActive)
    | split

theorem Good.linkRetrain {p : Nat} (h : Good q s) : Good q (State.linkRetrain s p) := by
  unfold State.linkRetrain
  try dsimp only
  repeat' first
    | (with_reducible first | assumption | (refine Good.ite (fun _ => ?_) (fun _ => ?_)) | apply Good.count
                            | apply Good.raiseLink | apply Good.modPort | apply Good.linkEnter | apply Good.setFld)
    | split | intro _

theorem Good.linkError {p : Nat} {f : Fld} {code : Nat} (h : Good q s) : Good q (State.linkError s p f code) := by
  unfold State.linkError
  try dsimp only
  repeat' first
    | (with_reducible first | assumption | apply Good.linkRetrain | apply Good.raiseLink | apply Good.raiseBit)
    | split

theorem Good.loadHear {slot num off attempt : Nat} {data : Option (List Byte)} (h : Good q s) : Good q (State.loadHear
    s slot num off attempt data) := by
  unfold State.loadHear
  try dsimp only
  repeat' first
    | (with_reducible first | assumption | (refine Good.ite (fun _ => ?_) (fun _ => ?_)) | apply Good.modLoad)
    | split | intro _

theorem Good.xLost {o : XOut} (h : Good q s) : Good q (State.xLost s o) := by
  unfold State.xLost
  try dsimp only
  repeat' first
    | (with_reducible first | assumption | (refine Good.ite (fun _ => ?_) (fun _ => ?_)) | apply Good.modX
                            | apply Good.xStart | apply Good.raiseLink | apply Good.loadHear | apply Good.count)
    | split | intro _

theorem Good.lostBack {p slice tag : Nat} (h : Good q s) : Good q (State.lostBack s p slice tag) := by
  unfold State.lostBack
  try dsimp only
  repeat' first
    | (with_reducible first | assumption | (refine Good.ite (fun _ => ?_) (fun _ => ?_)) | apply Good.sendSymbol
                            | (refine Good.modFab ?_ (fun _ => rfl)))
    | split | intro _

theorem Good.lostUp {p tag : Nat} (h : Good q s) : Good q (State.lostUp s p tag) := by
  unfold State.lostUp
  try dsimp only
  repeat' first
    | (with_reducible first | assumption | (refine Good.ite (fun _ => ?_) (fun _ => ?_)) | apply Good.lostBack
                            | (refine Good.modFab ?_ (fun _ => rfl)))
    | split | intro _

theorem Good.abandonFrom {p : Nat} (h : Good q s) : Good q (State.abandonFrom s p) := by
  unfold State.abandonFrom
  try dsimp only
  repeat' first
    | (with_reducible first | assumption | (refine Good.ite (fun _ => ?_) (fun _ => ?_))
                            | (refine Good.modFab ?_ (fun _ => rfl)))
    | split | intro _

theorem Good.markLate {p : Nat} (h : Good q s) : Good q (State.markLate s p) := by
  unfold State.markLate
  try dsimp only
  repeat' first
    | (with_reducible first | assumption | apply Good.count | apply Good.modPort)
    | split

theorem Good.linkFlush {p : Nat} (h : Good q s) : Good q (State.linkFlush s p) := by
  unfold State.linkFlush
  try dsimp only
  repeat' first
    | (with_reducible first | assumption | (refine Good.ite (fun _ => ?_) (fun _ => ?_)) | apply Good.foldl
                            | apply Good.markLate | apply Good.count | apply Good.lostUp | apply Good.abandonFrom
                            | apply Good.poolSent | apply Good.setPort | apply Good.setFld | apply Good.xLost)
    | split | intro _

theorem Good.flushTold {p : Nat} (h : Good q s) : Good q (State.flushTold s p) := by
  unfold State.flushTold
  try dsimp only
  repeat' first
    | (with_reducible first | assumption | (refine Good.ite (fun _ => ?_) (fun _ => ?_)) | apply Good.linkFlush
                            | apply Good.setFld | apply Good.count | apply Good.raiseLink | apply Good.modTime)
    | split | intro _

theorem Good.linkDown {p : Nat} (h : Good q s) : Good q (State.linkDown s p) := by
  unfold State.linkDown
  try dsimp only
  repeat' first
    | (with_reducible first | assumption | (refine Good.ite (fun _ => ?_) (fun _ => ?_)) | apply Good.flushTold
                            | apply Good.linkEnter | apply Good.setFld)
    | split | intro _

theorem Good.takeAck {p a : Nat} (h : Good q s) : Good q (State.takeAck s p a) := by
  unfold State.takeAck
  try dsimp only
  repeat' first
    | (with_reducible first | assumption | (refine Good.ite (fun _ => ?_) (fun _ => ?_)) | apply Good.setFld
                            | apply Good.modPort)
    | split

theorem Good.startReplay {p : Nat} (h : Good q s) : Good q (State.startReplay s p) := by
  unfold State.startReplay
  try dsimp only
  repeat' first
    | (with_reducible first | assumption | (refine Good.ite (fun _ => ?_) (fun _ => ?_)) | apply Good.modPort
                            | apply Good.count | apply Good.linkError)
    | split | intro _

theorem Good.takeNak {p a : Nat} (h : Good q s) : Good q (State.takeNak s p a) := by
  unfold State.takeNak
  try dsimp only
  repeat' first
    | (with_reducible first | assumption | (refine Good.ite (fun _ => ?_) (fun _ => ?_)) | apply Good.count
                            | apply Good.takeAck | apply Good.startReplay)
    | split | intro _

theorem Good.takeSymbol {p id : Nat} {sym : List Byte} (h : Good q s) : Good q (State.takeSymbol s p id sym) := by
  unfold State.takeSymbol
  try dsimp only
  repeat' first
    | (with_reducible first | assumption | (refine Good.ite (fun _ => ?_) (fun _ => ?_)) | apply Good.raiseBit
                            | apply Good.denyIn | apply Good.modPort)
    | split

theorem Good.freeC {p id : Nat} (h : Good q s) : Good q (State.freeC s p id) := by
  unfold State.freeC
  try dsimp only
  repeat' first
    | (with_reducible first | assumption | (refine Good.ite (fun _ => ?_) (fun _ => ?_)) | apply Good.poolFree)
    | split

theorem Good.popSymbol {p k : Nat} (h : Good q s) : ∀ y t, State.popSymbol s p k = some (y, t) → Good q t := by
  refine fun y t => ?_
  unfold State.popSymbol
  try dsimp only
  repeat' first
    | (with_reducible first | assumption | apply Good.freeC | apply Good.modPort | exact Good.noneI
                            | apply Good.someI2)
    | split

theorem Good.takeUnit {p : Nat} (h : Good q s) : Good q (State.takeUnit s p) := by
  unfold State.takeUnit
  try dsimp only
  repeat' first
    | (with_reducible first | assumption | (refine Good.ite (fun _ => ?_) (fun _ => ?_)) | apply Good.modPort)
    | split | intro _

theorem Good.intoPool {p : Nat} {f : RawFlit} (h : Good q s) : Good q (State.intoPool s p f) := by
  unfold State.intoPool
  try dsimp only
  repeat' first
    | (with_reducible first | assumption | (refine Good.ite (fun _ => ?_) (fun _ => ?_)) | apply Good.foldl
                            | apply Good.modPort | apply Good.takeUnit | apply Good.takeSymbol | apply Good.freeC
                            | apply Good.denyIn | apply Good.poolFree)
    | split | intro _

theorem Good.oweNak {p : Nat} (h : Good q s) : Good q (State.oweNak s p) := by
  unfold State.oweNak
  try dsimp only
  repeat' first
    | (with_reducible first | assumption | (refine Good.ite (fun _ => ?_) (fun _ => ?_)) | apply Good.modPort)
    | split | intro _

theorem Good.goodFlit {p : Nat} {f : RawFlit} (h : Good q s) : Good q (State.goodFlit s p f) := by
  unfold State.goodFlit
  try dsimp only
  repeat' first
    | (with_reducible first | assumption | (refine Good.ite (fun _ => ?_) (fun _ => ?_)) | apply Good.linkError
                            | apply Good.modPort | apply Good.takeNak | apply Good.takeAck | apply Good.oweNak
                            | apply Good.intoPool | apply Good.count | apply Good.raiseLink
                            | apply Good.linkRetrainNow)
    | split | intro _

theorem Good.takeBits {p : Nat} {fec : Fec} (h : Good q s) : Good q (State.takeBits s p fec).1 := by
  unfold State.takeBits
  try dsimp only
  repeat' first
    | (with_reducible first | assumption | (refine Good.ite (fun _ => ?_) (fun _ => ?_)) | apply Good.modPort
                            | apply Good.count)
    | split | intro _

theorem Good.linkReceive {p : Nat} {f : RawFlit} {fec : Fec} (h : Good q s) : Good q (State.linkReceive s p f fec) :=
    by
  unfold State.linkReceive
  try dsimp only
  repeat' first
    | (with_reducible first | assumption | (refine Good.ite (fun _ => ?_) (fun _ => ?_)) | apply Good.takeBits
                            | apply Good.count | apply Good.oweNak | apply Good.goodFlit)
    | split | intro _ | (refine Good.fst ‹_ = (_, _)› ?_)

theorem Good.sentOp {p op : Nat} (h : Good q s) : Good q (State.sentOp s p op) := by
  unfold State.sentOp
  try dsimp only
  repeat' first
    | (with_reducible first | assumption | (refine Good.ite (fun _ => ?_) (fun _ => ?_)) | apply Good.count
                            | apply Good.modPort | apply Good.linkRetrainNow)
    | split

theorem Good.putNew {p : Nat} {f : RawFlit} {sh : Bool} (h : Good q s) : Good q (State.putNew s p f sh) := by
  unfold State.putNew
  try dsimp only
  repeat' first
    | (with_reducible first | assumption | apply Good.sentOp | apply Good.setFld | apply Good.modPort)
    | split

theorem Good.putIdle {p : Nat} (h : Good q s) : Good q (State.putIdle s p) := by
  unfold State.putIdle
  try dsimp only
  repeat' first
    | (with_reducible first | assumption | apply Good.sentOp | apply Good.modPort)
    | split

theorem Good.putReplay {p i : Nat} {f : RawFlit} (h : Good q s) : Good q (State.putReplay s p i f) := by
  unfold State.putReplay
  try dsimp only
  repeat' first
    | (with_reducible first | assumption | apply Good.sentOp | apply Good.count | apply Good.modPort)
    | split

theorem Good.dropDenied {p : Nat} (h : Good q s) : Good q (State.dropDenied s p) := by
  unfold State.dropDenied
  try dsimp only
  repeat' first
    | (with_reducible first | assumption | apply Good.foldl | apply Good.denyOut | apply Good.modPort
                            | apply Good.poolSent)
    | split | intro _

theorem Good.stampBeacon {p : Nat} {y : List Byte} (h : Good q s) : Good q (State.stampBeacon s p y).1 := by
  unfold State.stampBeacon
  try dsimp only
  repeat' first
    | (with_reducible first | assumption | (refine Good.ite (fun _ => ?_) (fun _ => ?_)) | apply Good.takeUnit
                            | apply Good.modPort)
    | split | intro _

theorem Good.putSymbols {p : Nat} {ys : List (List Byte)} {sh : Bool} (h : Good q s) : Good q (State.putSymbols s p ys
    sh) := by
  unfold State.putSymbols
  try dsimp only
  repeat' first
    | (with_reducible first | assumption | (refine Good.ite (fun _ => ?_) (fun _ => ?_)) | apply Good.foldl_fst
                            | apply Good.stampBeacon | apply Good.modPort | apply Good.putNew)
    | split | intro _ | (refine Good.fst ‹_ = (_, _)› ?_)

theorem Good.dropDeniedX {p : Nat} (h : Good q s) : Good q (State.dropDeniedX s p) := by
  unfold State.dropDeniedX
  try dsimp only
  repeat' first
    | (with_reducible first | assumption | (refine Good.ite (fun _ => ?_) (fun _ => ?_)) | apply Good.foldl
                            | apply Good.modPort | apply Good.poolSent | apply Good.denyOut)
    | split | intro _

theorem Good.transmit {p : Nat} (h : Good q s) : Good q (State.transmit s p).1 := by
  unfold State.transmit
  try dsimp only
  repeat' first
    | (with_reducible first | assumption | (refine Good.ite (fun _ => ?_) (fun _ => ?_)) | apply Good.foldl
                            | apply Good.markLate | apply Good.dropDenied | apply Good.putReplay
                            | apply Good.modPort | apply Good.putIdle | apply Good.putNew | apply Good.poolSent
                            | apply Good.denyOut | apply Good.putSymbols | apply Good.dropDeniedX)
    | split | intro _

/-! ### Machine/NetTime.lean -/

theorem Good.halve {x : Int} (h : Good q s) : Good q (State.halve s x).2 := by
  unfold State.halve
  try dsimp only
  repeat' first
    | (with_reducible first | assumption | apply Good.draw)
    | split

theorem Good.mean {l : List Int} (h : Good q s) : Good q (State.mean s l).2 := by
  unfold State.mean
  try dsimp only
  repeat' first
    | (with_reducible first | assumption | apply Good.draw)
    | split

theorem Good.takeSample {p t1 t2 t3 t4 : Nat} {peerTx peerRx : Int} (h : Good q s) : Good q (State.takeSample s p t1
    t2 t3 t4 peerTx peerRx) := by
  unfold State.takeSample
  try dsimp only
  repeat' first
    | (with_reducible first | assumption | (refine Good.ite (fun _ => ?_) (fun _ => ?_)) | apply Good.halve
                            | apply Good.setFld | apply Good.mean | apply Good.modPort)
    | split

theorem Good.setLat {p : Nat} {app : Int} (h : Good q s) : Good q (State.setLat s p app) := by
  unfold State.setLat
  try dsimp only
  repeat' first
    | (with_reducible first | assumption | apply Good.setFld)
    | split

theorem Good.hearStamp {p n m t3 t2 now : Nat} (h : Good q s) : Good q (State.hearStamp s p n m t3 t2 now) := by
  unfold State.hearStamp
  try dsimp only
  repeat' first
    | (with_reducible first | assumption | apply Good.modPort | (refine Good.ite (fun _ => ?_) (fun _ => ?_))
                            | apply Good.takeSample)
    | split

theorem Good.sendBeacon {p : Nat} {probe : Bool} (h : Good q s) : Good q (State.sendBeacon s p probe) := by
  unfold State.sendBeacon
  try dsimp only
  repeat' first
    | (with_reducible first | assumption | apply Good.modPort | apply Good.sendSymbol)
    | split

theorem Good.sendProbe {p : Nat} (h : Good q s) : Good q (State.sendProbe s p) := by
  unfold State.sendProbe
  try dsimp only
  repeat' first
    | (with_reducible first | assumption | (refine Good.ite (fun _ => ?_) (fun _ => ?_)) | apply Good.sendBeacon
                            | apply Good.modPort)
    | split | intro _

theorem Good.beaconSend {p : Nat} (h : Good q s) : Good q (State.beaconSend s p) := by
  unfold State.beaconSend
  try dsimp only
  repeat' first
    | (with_reducible first | assumption | (refine Good.ite (fun _ => ?_) (fun _ => ?_)) | apply Good.toElapsed
                            | apply Good.sendBeacon | apply Good.modPort)
    | split | intro _

theorem Good.measureEnd {p : Nat} {ok : Bool} (h : Good q s) : Good q (State.measureEnd s p ok) := by
  unfold State.measureEnd
  try dsimp only
  repeat' first
    | (with_reducible first | assumption | (refine Good.ite (fun _ => ?_) (fun _ => ?_)) | apply Good.modPort
                            | apply Good.setFld | apply Good.setLat)
    | split | intro _

theorem Good.probeRetry {p : Nat} (h : Good q s) : Good q (State.probeRetry s p) := by
  unfold State.probeRetry
  try dsimp only
  repeat' first
    | (with_reducible first | assumption | (refine Good.ite (fun _ => ?_) (fun _ => ?_)) | apply Good.sendProbe)
    | split | intro _

theorem Good.lateLink {p : Nat} (h : Good q s) : Good q (State.lateLink s p) := by
  unfold State.lateLink
  try dsimp only
  repeat' first
    | (with_reducible first | assumption | (refine Good.ite (fun _ => ?_) (fun _ => ?_)) | apply Good.modPort
                            | apply Good.raise)
    | split | intro _

theorem Good.probeHear {p : Nat} {got : Bool} (h : Good q s) : Good q (State.probeHear s p got) := by
  unfold State.probeHear
  try dsimp only
  repeat' first
    | (with_reducible first | assumption | (refine Good.ite (fun _ => ?_) (fun _ => ?_)) | apply Good.modPort
                            | apply Good.sendProbe | apply Good.measureEnd)
    | split | intro _

theorem Good.beaconHear {p : Nat} (h : Good q s) : Good q (State.beaconHear s p) := by
  unfold State.beaconHear
  try dsimp only
  repeat' first
    | (with_reducible first | assumption | (refine Good.ite (fun _ => ?_) (fun _ => ?_)) | apply Good.hearStamp
                            | apply Good.lateLink | apply Good.probeHear)
    | (refine Good.popSymbol ?_ _ _ ‹State.popSymbol _ _ _ = some _›) | split | intro _

theorem Good.tsClear {p : Nat} (h : Good q s) : Good q (State.tsClear s p) := by
  unfold State.tsClear
  try dsimp only
  repeat' first
    | (with_reducible first | assumption | apply Good.setFld | apply Good.modPort)
    | split

theorem Good.takeFreed {p : Nat} {x : Six} (h : Good q s) : Good q (State.takeFreed s p x).1 := by
  unfold State.takeFreed
  try dsimp only
  repeat' first
    | (with_reducible first | assumption | (refine Good.ite (fun _ => ?_) (fun _ => ?_)) | apply Good.linkError
                            | apply Good.modPort)
    | split | intro _

theorem Good.markExcluded {p lanes : Nat} (h : Good q s) : Good q (State.markExcluded s p lanes) := by
  unfold State.markExcluded
  try dsimp only
  repeat' first
    | (with_reducible first | assumption | (refine Good.ite (fun _ => ?_) (fun _ => ?_)) | apply Good.iter
                            | apply Good.raiseBit)
    | split | intro _

theorem Good.takeWidth {p peerMask : Nat} (h : Good q s) : Good q (State.takeWidth s p peerMask) := by
  unfold State.takeWidth
  try dsimp only
  repeat' first
    | (with_reducible first | assumption | (refine Good.ite (fun _ => ?_) (fun _ => ?_)) | apply Good.markExcluded
                            | apply Good.modPort | apply Good.setFld | apply Good.raiseLink)
    | split | intro _

theorem Good.linkActivate {p : Nat} {fresh : Bool} (h : Good q s) : Good q (State.linkActivate s p fresh) := by
  unfold State.linkActivate
  try dsimp only
  repeat' first
    | (with_reducible first | assumption | (refine Good.ite (fun _ => ?_) (fun _ => ?_)) | apply Good.modPort
                            | apply Good.linkEnter | apply Good.setFld | apply Good.startReplay | apply Good.setLat)
    | split | intro _

theorem Good.linkEstablish {p : Nat} (h : Good q s) : Good q (State.linkEstablish s p) := by
  unfold State.linkEstablish
  try dsimp only
  repeat' first
    | (with_reducible first | assumption | (refine Good.ite (fun _ => ?_) (fun _ => ?_)) | apply Good.linkEnter
                            | apply Good.setFld | apply Good.fresh | apply Good.flushTold | apply Good.setReg64
                            | apply Good.modPort | apply Good.takeWidth | apply Good.linkActivate
                            | apply Good.raiseLink | apply Good.linkDown | apply Good.takeAck)
    | split | intro _

theorem Good.tryEstablish {p : Nat} (h : Good q s) : Good q (State.tryEstablish s p) := by
  unfold State.tryEstablish
  try dsimp only
  repeat' first
    | (with_reducible first | assumption | (refine Good.ite (fun _ => ?_) (fun _ => ?_)) | apply Good.linkEstablish)
    | split

theorem Good.initFreed {p : Nat} {f : RawFlit} (h : Good q s) : Good q (State.initFreed s p f).1 := by
  unfold State.initFreed
  try dsimp only
  repeat' first
    | (with_reducible first | assumption | (refine Good.ite (fun _ => ?_) (fun _ => ?_)) | apply Good.fresh
                            | apply Good.takeFreed)
    | split | intro _ | (refine Good.fst ‹_ = (_, _)› ?_)

theorem Good.initReceive {p : Nat} {f : RawFlit} (h : Good q s) : Good q (State.initReceive s p f) := by
  unfold State.initReceive
  try dsimp only
  repeat' first
    | (with_reducible first | assumption | (refine Good.ite (fun _ => ?_) (fun _ => ?_)) | apply Good.takeBits
                            | apply Good.count | apply Good.initFreed | apply Good.setPort | apply Good.hearStamp
                            | apply Good.tryEstablish)
    | split | intro _ | (refine Good.fst ‹_ = (_, _)› ?_)

theorem Good.initSend {p : Nat} (h : Good q s) : Good q (State.initSend s p) := by
  unfold State.initSend
  try dsimp only
  repeat' first
    | (with_reducible first | assumption | apply Good.tryEstablish | apply Good.modPort)
    | split

theorem Good.modDom {d : Nat} {f : DomSt → DomSt} (h : Good q s) : Good q (State.modDom s d f) := by
  unfold State.modDom
  try dsimp only
  repeat' first
    | (with_reducible first | assumption | apply Good.modNet)
    | split

theorem Good.domEnter {d st : Nat} (h : Good q s) : Good q (State.domEnter s d st) := by
  unfold State.domEnter
  try dsimp only
  repeat' first
    | (with_reducible first | assumption | apply Good.modDom | (refine Good.ite (fun _ => ?_) (fun _ => ?_))
                            | apply Good.setFld)
    | split

theorem Good.stopSlew (h : Good q s) : Good q (State.stopSlew s) := by
  unfold State.stopSlew
  try dsimp only
  repeat' first
    | (with_reducible first | assumption | (refine Good.ite (fun _ => ?_) (fun _ => ?_)) | apply Good.setFld)
    | split | intro _

theorem Good.domSwitch {d : Nat} (h : Good q s) : Good q (State.domSwitch s d) := by
  unfold State.domSwitch
  try dsimp only
  repeat' first
    | (with_reducible first | assumption | (refine Good.ite (fun _ => ?_) (fun _ => ?_)) | apply Good.setFld
                            | apply Good.stopSlew | apply Good.modNet | apply Good.draw | apply Good.raise)
    | split | intro _ | (refine Good.snd ‹_ = (_, _)› ?_)

theorem Good.reselect (h : Good q s) : Good q (State.reselect s) := by
  unfold State.reselect
  try dsimp only
  repeat' first
    | (with_reducible first | assumption | (refine Good.ite (fun _ => ?_) (fun _ => ?_)) | apply Good.modNet
                            | apply Good.setFld | apply Good.domSwitch)
    | split

theorem Good.checkHoldover (h : Good q s) : Good q (State.checkHoldover s) := by
  unfold State.checkHoldover
  try dsimp only
  repeat' first
    | (with_reducible first | assumption | (refine Good.ite (fun _ => ?_) (fun _ => ?_)) | apply Good.setFld
                            | apply Good.modNet | apply Good.raise)
    | split | intro _

theorem Good.lostPhase {d : Nat} (h : Good q s) : Good q (State.lostPhase s d) := by
  unfold State.lostPhase
  try dsimp only
  repeat' first
    | (with_reducible first | assumption | (refine Good.ite (fun _ => ?_) (fun _ => ?_)) | apply Good.stopSlew)
    | split | intro _

theorem Good.refLoss {d : Nat} (h : Good q s) : Good q (State.refLoss s d) := by
  unfold State.refLoss
  try dsimp only
  repeat' first
    | (with_reducible first | assumption | (refine Good.ite (fun _ => ?_) (fun _ => ?_)) | apply Good.domEnter
                            | apply Good.modDom | apply Good.lostPhase | apply Good.raise | apply Good.reselect
                            | apply Good.checkHoldover)
    | split | intro _

theorem Good.trackLost {d : Nat} (h : Good q s) : Good q (State.trackLost s d) := by
  unfold State.trackLost
  try dsimp only
  repeat' first
    | (with_reducible first | assumption | (refine Good.ite (fun _ => ?_) (fun _ => ?_)) | apply Good.domEnter
                            | apply Good.lostPhase | apply Good.reselect | apply Good.checkHoldover)
    | split | intro _

theorem Good.servoEdge {e : Int} (h : Good q s) : Good q (State.servoEdge s e) := by
  unfold State.servoEdge
  try dsimp only
  repeat' first
    | (with_reducible first | assumption | (refine Good.ite (fun _ => ?_) (fun _ => ?_)) | apply Good.modNet
                            | apply Good.stopSlew | apply Good.setFld | apply Good.raise)
    | split | intro _

theorem Good.setCounter {secs : Nat} (h : Good q s) : Good q (State.setCounter s secs) := by
  unfold State.setCounter
  try dsimp only
  repeat' first
    | (with_reducible first | assumption | apply Good.setFld | apply Good.modTime)
    | split

theorem Good.todMessage {d : Nat} {bs : List Byte} (h : Good q s) : Good q (State.todMessage s d bs) := by
  unfold State.todMessage
  try dsimp only
  repeat' first
    | (with_reducible first | assumption | (refine Good.ite (fun _ => ?_) (fun _ => ?_)) | apply Good.modDom
                            | apply Good.setFld | apply Good.count | apply Good.raise | apply Good.trackLost)
    | split | intro _

theorem Good.ppsState {d : Nat} {off : Bool} (h : Good q s) : Good q (State.ppsState s d off) := by
  unfold State.ppsState
  try dsimp only
  repeat' first
    | (with_reducible first | assumption | (refine Good.ite (fun _ => ?_) (fun _ => ?_)) | apply Good.raise
                            | apply Good.trackLost | apply Good.domEnter | apply Good.reselect
                            | apply Good.checkHoldover)
    | split | intro _

theorem Good.ppsEdge {d frac : Nat} {timeStep ready : Bool} (h : Good q s) : Good q (State.ppsEdge s d frac timeStep
    ready) := by
  unfold State.ppsEdge
  try dsimp only
  repeat' first
    | (with_reducible first | assumption | (refine Good.ite (fun _ => ?_) (fun _ => ?_)) | apply Good.setFld
                            | apply Good.modDom | apply Good.ppsState | apply Good.setCounter
                            | apply Good.servoEdge)
    | split | intro _

theorem Good.servoStep (h : Good q s) : Good q (State.servoStep s) := by
  unfold State.servoStep
  try dsimp only
  repeat' first
    | (with_reducible first | assumption | (refine Good.ite (fun _ => ?_) (fun _ => ?_)) | apply Good.pass
                            | apply Good.setFld | apply Good.modNet | apply Good.stopSlew)
    | split | intro _

theorem Good.slewNow (h : Good q s) : Good q (State.slewNow s) := by
  unfold State.slewNow
  try dsimp only
  repeat' first
    | (with_reducible first | assumption | (refine Good.ite (fun _ => ?_) (fun _ => ?_)) | apply Good.setFld)
    | split | intro _

theorem Good.switchRequest (h : Good q s) : Good q (State.switchRequest s) := by
  unfold State.switchRequest
  try dsimp only
  repeat' first
    | (with_reducible first | assumption | (refine Good.ite (fun _ => ?_) (fun _ => ?_)) | apply Good.domSwitch
                            | apply Good.raise)
    | split

/-! ### Machine/LinkTrain.lean -/

theorem Good.detectTimeout {p : Nat} (h : Good q s) : Good q (State.detectTimeout s p) := by
  unfold State.detectTimeout
  try dsimp only
  repeat' first
    | (with_reducible first | assumption | (refine Good.ite (fun _ => ?_) (fun _ => ?_)) | apply Good.modPort
                            | apply Good.count | apply Good.toElapsed)
    | split

theorem Good.signalDetected {p lanes : Nat} (h : Good q s) : Good q (State.signalDetected s p lanes) := by
  unfold State.signalDetected
  try dsimp only
  repeat' first
    | (with_reducible first | assumption | (refine Good.ite (fun _ => ?_) (fun _ => ?_)) | apply Good.setFld
                            | apply Good.linkEnter)
    | split

theorem Good.equalizeDone {p good : Nat} (h : Good q s) : Good q (State.equalizeDone s p good) := by
  unfold State.equalizeDone
  try dsimp only
  repeat' first
    | (with_reducible first | assumption | (refine Good.ite (fun _ => ?_) (fun _ => ?_)) | apply Good.markExcluded
                            | apply Good.modPort | apply Good.linkEnter)
    | split | intro _

theorem Good.trainExpired {p limit : Nat} (h : Good q s) : Good q (State.trainExpired s p limit) := by
  unfold State.trainExpired
  try dsimp only
  repeat' first
    | (with_reducible first | assumption | (refine Good.ite (fun _ => ?_) (fun _ => ?_)) | apply Good.linkEnter
                            | apply Good.setFld | apply Good.toElapsed | apply Good.raiseLink)
    | split

theorem Good.equalizeTimeout {p : Nat} (h : Good q s) : Good q (State.equalizeTimeout s p) := by
  unfold State.equalizeTimeout
  try dsimp only
  repeat' first
    | (with_reducible first | assumption | (refine Good.ite (fun _ => ?_) (fun _ => ?_)) | apply Good.trainExpired)
    | split

theorem Good.alignTimeout {p : Nat} (h : Good q s) : Good q (State.alignTimeout s p) := by
  unfold State.alignTimeout
  try dsimp only
  repeat' first
    | (with_reducible first | assumption | (refine Good.ite (fun _ => ?_) (fun _ => ?_)) | apply Good.trainExpired)
    | split

theorem Good.alignDone {p : Nat} (h : Good q s) : Good q (State.alignDone s p) := by
  unfold State.alignDone
  try dsimp only
  repeat' first
    | (with_reducible first | assumption | (refine Good.ite (fun _ => ?_) (fun _ => ?_)) | apply Good.iter
                            | apply Good.modPort | apply Good.setFld | apply Good.linkEnter)
    | split | intro _

theorem Good.initTimeout {p : Nat} (h : Good q s) : Good q (State.initTimeout s p) := by
  unfold State.initTimeout
  try dsimp only
  repeat' first
    | (with_reducible first | assumption | (refine Good.ite (fun _ => ?_) (fun _ => ?_)) | apply Good.setFld
                            | apply Good.linkEnter | apply Good.modPort | apply Good.toElapsed)
    | split

theorem Good.laneLoss {p lane : Nat} (h : Good q s) : Good q (State.laneLoss s p lane) := by
  unfold State.laneLoss
  try dsimp only
  repeat' first
    | (with_reducible first | assumption | (refine Good.ite (fun _ => ?_) (fun _ => ?_)) | apply Good.linkRetrain
                            | apply Good.setFld)
    | split

theorem Good.serCount {p lane n : Nat} (h : Good q s) : Good q (State.serCount s p lane n) := by
  unfold State.serCount
  try dsimp only
  repeat' first
    | (with_reducible first | assumption | (refine Good.ite (fun _ => ?_) (fun _ => ?_)) | apply Good.linkRetrain
                            | apply Good.setFld)
    | split

theorem Good.graceExpire {p : Nat} (h : Good q s) : Good q (State.graceExpire s p) := by
  unfold State.graceExpire
  try dsimp only
  repeat' first
    | (with_reducible first | assumption | apply Good.linkDown | apply Good.toElapsed)
    | split

theorem Good.nakRepeat {p : Nat} (h : Good q s) : Good q (State.nakRepeat s p) := by
  unfold State.nakRepeat
  try dsimp only
  repeat' first
    | (with_reducible first | assumption | apply Good.modPort | apply Good.toElapsed)
    | split

theorem Good.replayTimeout {p : Nat} (h : Good q s) : Good q (State.replayTimeout s p) := by
  unfold State.replayTimeout
  try dsimp only
  repeat' first
    | (with_reducible first | assumption | (refine Good.ite (fun _ => ?_) (fun _ => ?_)) | apply Good.toElapsed
                            | apply Good.modPort | apply Good.startReplay)
    | split | intro _

theorem Good.linkCtl {p old v : Nat} (h : Good q s) : Good q (State.linkCtl s p old v) := by
  unfold State.linkCtl
  try dsimp only
  repeat' first
    | (with_reducible first | assumption | (refine Good.ite (fun _ => ?_) (fun _ => ?_)) | apply Good.setFld
                            | apply Good.linkEnter | apply Good.leaveActive | apply Good.setReg
                            | apply Good.linkRetrain | apply Good.modPort)
    | split

theorem Good.linkCfg {p v : Nat} (h : Good q s) : Good q (State.linkCfg s p v) := by
  unfold State.linkCfg
  try dsimp only
  repeat' first
    | (with_reducible first | assumption | (refine Good.ite (fun _ => ?_) (fun _ => ?_)) | apply Good.setReg
                            | apply Good.raiseLink)
    | split

/-! ### Machine/Topo.lean -/

theorem Good.surveyStart (h : Good q s) : Good q (State.surveyStart s) := by
  unfold State.surveyStart
  try dsimp only
  repeat' first
    | (with_reducible first | assumption | (refine Good.ite (fun _ => ?_) (fun _ => ?_)) | apply Good.iter
                            | apply Good.setFld | apply Good.modPort | apply Good.modTopo)
    | split | intro _

theorem Good.surveySend (h : Good q s) : Good q (State.surveySend s) := by
  unfold State.surveySend
  try dsimp only
  repeat' first
    | (with_reducible first | assumption | (refine Good.ite (fun _ => ?_) (fun _ => ?_)) | apply Good.iter
                            | apply Good.toElapsed | apply Good.sendSymbol | apply Good.modTopo)
    | split | intro _

theorem Good.checkPort {p : Nat} (h : Good q s) : Good q (State.checkPort s p) := by
  unfold State.checkPort
  try dsimp only
  repeat' first
    | (with_reducible first | assumption | (refine Good.ite (fun _ => ?_) (fun _ => ?_)) | apply Good.setFld
                            | apply Good.modPort | apply Good.raisePeer)
    | split | intro _

theorem Good.deriveCoord (h : Good q s) : Good q (State.deriveCoord s) := by
  unfold State.deriveCoord
  try dsimp only
  repeat' first
    | (with_reducible first | assumption | (refine Good.ite (fun _ => ?_) (fun _ => ?_)) | apply Good.setFld)
    | split

theorem Good.surveyDone (h : Good q s) : Good q (State.surveyDone s) := by
  unfold State.surveyDone
  try dsimp only
  repeat' first
    | (with_reducible first | assumption | (refine Good.ite (fun _ => ?_) (fun _ => ?_)) | apply Good.setFld)
    | split

theorem Good.measureSurvey {p : Nat} (h : Good q s) : Good q (State.measureSurvey s p) := by
  unfold State.measureSurvey
  try dsimp only
  repeat' first
    | (with_reducible first | assumption | (refine Good.ite (fun _ => ?_) (fun _ => ?_)) | apply Good.modPort
                            | apply Good.raisePeer | apply Good.setFld | apply Good.sendProbe)
    | split | intro _

theorem Good.surveyHear {p : Nat} (h : Good q s) : Good q (State.surveyHear s p) := by
  unfold State.surveyHear
  try dsimp only
  repeat' first
    | (with_reducible first | assumption | (refine Good.ite (fun _ => ?_) (fun _ => ?_)) | apply Good.iter
                            | apply Good.modPort | apply Good.setFld | apply Good.deriveCoord
                            | apply Good.checkPort | apply Good.surveyDone | apply Good.measureSurvey)
    | (refine Good.popSymbol ?_ _ _ ‹State.popSymbol _ _ _ = some _›) | split | intro _

theorem Good.surveyTimeout (h : Good q s) : Good q (State.surveyTimeout s) := by
  unfold State.surveyTimeout
  try dsimp only
  repeat' first
    | (with_reducible first | assumption | (refine Good.ite (fun _ => ?_) (fun _ => ?_)) | apply Good.setFld
                            | apply Good.iter | apply Good.toElapsed | apply Good.raise)
    | split | intro _

theorem Good.measureStart (h : Good q s) : Good q (State.measureStart s) := by
  unfold State.measureStart
  try dsimp only
  repeat' first
    | (with_reducible first | assumption | (refine Good.ite (fun _ => ?_) (fun _ => ?_)) | apply Good.iter
                            | apply Good.modPort | apply Good.setFld | apply Good.linkRetrain)
    | split | intro _

theorem Good.measureTimeout {p : Nat} (h : Good q s) : Good q (State.measureTimeout s p) := by
  unfold State.measureTimeout
  try dsimp only
  repeat' first
    | (with_reducible first | assumption | (refine Good.ite (fun _ => ?_) (fun _ => ?_)) | apply Good.toElapsed
                            | apply Good.raise | apply Good.measureEnd | apply Good.toTick | apply Good.count
                            | apply Good.modPort | apply Good.sendProbe)
    | split | intro _

theorem Good.setCode {n v : Nat} (h : Good q s) : Good q (State.setCode s n v) := by
  unfold State.setCode
  try dsimp only
  repeat' first
    | (with_reducible first | assumption | (refine Good.ite (fun _ => ?_) (fun _ => ?_)) | apply Good.setFld)
    | split | intro _

theorem Good.startBank {n : Nat} (h : Good q s) : Good q (State.startBank s n) := by
  unfold State.startBank
  try dsimp only
  repeat' first
    | (with_reducible first | assumption | (refine Good.ite (fun _ => ?_) (fun _ => ?_)) | apply Good.setCode)
    | split | intro _

theorem Good.jobStart (h : Good q s) : Good q (State.jobStart s) := by
  unfold State.jobStart
  try dsimp only
  repeat' first
    | (with_reducible first | assumption | (refine Good.ite (fun _ => ?_) (fun _ => ?_)) | apply Good.iter
                            | apply Good.startBank | apply Good.setFld)
    | split | intro _

theorem Good.sliceWrite {v : Nat} (h : Good q s) : Good q (State.sliceWrite s v) := by
  unfold State.sliceWrite
  try dsimp only
  repeat' first
    | (with_reducible first | assumption | (refine Good.ite (fun _ => ?_) (fun _ => ?_)) | apply Good.raise
                            | apply Good.jobStart | apply Good.setFld)
    | split

theorem Good.treeWrite {a mask v : Nat} (h : Good q s) : Good q (State.treeWrite s a mask v) := by
  unfold State.treeWrite
  try dsimp only
  repeat' first
    | (with_reducible first | assumption | (refine Good.ite (fun _ => ?_) (fun _ => ?_)) | apply Good.raise
                            | apply Good.setReg)
    | split

theorem Good.lcoordWrite {v : Nat} (h : Good q s) : Good q (State.lcoordWrite s v) := by
  unfold State.lcoordWrite
  try dsimp only
  repeat' first
    | (with_reducible first | assumption | (refine Good.ite (fun _ => ?_) (fun _ => ?_)) | apply Good.raise
                            | apply Good.setFld | apply Good.modTopo)
    | split

theorem Good.fenceDown {y : List Byte} (h : Good q s) : Good q (State.fenceDown s y) := by
  unfold State.fenceDown
  try dsimp only
  repeat' first
    | (with_reducible first | assumption | (refine Good.ite (fun _ => ?_) (fun _ => ?_)) | apply Good.foldl
                            | apply Good.sendSymbol)
    | split | intro _

theorem Good.fenceWrite {on : Bool} (h : Good q s) : Good q (State.fenceWrite s on) := by
  unfold State.fenceWrite
  try dsimp only
  repeat' first
    | (with_reducible first | assumption | (refine Good.ite (fun _ => ?_) (fun _ => ?_)) | apply Good.setFld
                            | apply Good.modTopo | apply Good.fenceDown)
    | split | intro _

theorem Good.fenceHear {p : Nat} (h : Good q s) : Good q (State.fenceHear s p) := by
  unfold State.fenceHear
  try dsimp only
  repeat' first
    | (with_reducible first | assumption | (refine Good.ite (fun _ => ?_) (fun _ => ?_)) | apply Good.fenceDown
                            | apply Good.modTopo)
    | (refine Good.popSymbol ?_ _ _ ‹State.popSymbol _ _ _ = some _›) | split | intro _

theorem Good.applyFence (h : Good q s) : Good q (State.applyFence s) := by
  unfold State.applyFence
  try dsimp only
  repeat' first
    | (with_reducible first | assumption | (refine Good.ite (fun _ => ?_) (fun _ => ?_)) | apply Good.raise
                            | apply Good.setFld | apply Good.modTopo)
    | split

theorem Good.applyLcoord (h : Good q s) : Good q (State.applyLcoord s) := by
  unfold State.applyLcoord
  try dsimp only
  repeat' first
    | (with_reducible first | assumption | apply Good.setFld | apply Good.modTopo)
    | split

theorem Good.permitCommit {p k e : Nat} (h : Good q s) : Good q (State.permitCommit s p k e) := by
  unfold State.permitCommit
  try dsimp only
  repeat' first
    | (with_reducible first | assumption | (refine Good.ite (fun _ => ?_) (fun _ => ?_)) | apply Good.raise
                            | apply Good.setFld | apply Good.setReg64)
    | split

end Sys2Proof.Machine
end

