-- ==== Sys2Proof/Laws/GoodSheet.lean ====
section
/-! SUPPORT. The operations of the sheets: their stores, words and engines keep a state good. -/

namespace Sys2Proof.Machine

variable {q : List Instr} {s : State}

/-! ### Machine/MemSys.lean -/

theorem Good.bankDown {agent i tag : Nat} (h : Good q s) : Good q (State.bankDown s agent i tag) := by
  unfold State.bankDown
  try dsimp only
  repeat' first
    | (with_reducible first | assumption | (refine Good.ite (fun _ => ?_) (fun _ => ?_)) | apply Good.modLatch
                            | apply Good.raise)
    | split | intro _

theorem Good.winWrite {agent i off tag : Nat} {bs : List Byte} (h : Good q s) : Good q (State.winWrite s agent i off
    tag bs) := by
  unfold State.winWrite
  try dsimp only
  repeat' first
    | (with_reducible first | assumption | (refine Good.ite (fun _ => ?_) (fun _ => ?_)) | apply Good.bankDown
                            | apply Good.raise | apply Good.modSheet)
    | split | intro _

theorem Good.sheetCe {i : Nat} (h : Good q s) : Good q (State.sheetCe s i) := by
  unfold State.sheetCe
  try dsimp only
  repeat' first
    | (with_reducible first | assumption | apply Good.count)
    | split

theorem Good.sheetUe {i store off : Nat} (h : Good q s) : Good q (State.sheetUe s i store off) := by
  unfold State.sheetUe
  try dsimp only
  repeat' first
    | (with_reducible first | assumption | apply Good.setFld)
    | split

theorem Good.sheetEcc {i : Nat} {ecc : Ecc} {units : List (Nat × Nat)} (h : Good q s) : Good q (State.sheetEcc s i ecc
    units).1 := by
  unfold State.sheetEcc
  try dsimp only
  repeat' first
    | (with_reducible first | assumption | apply Good.sheetCe | apply Good.sheetUe)
    | split

theorem Good.eccLast {a d poison : Nat} (h : Good q s) : Good q (State.eccLast s a d poison) := by
  unfold State.eccLast
  try dsimp only
  repeat' first
    | (with_reducible first | assumption | apply Good.setReg64)
    | split

theorem Good.memEcc {a n tag : Nat} {ecc : Ecc} (h : Good q s) : Good q (State.memEcc s a n tag ecc) := by
  unfold State.memEcc
  try dsimp only
  repeat' first
    | (with_reducible first | assumption | (refine Good.ite (fun _ => ?_) (fun _ => ?_)) | apply Good.count
                            | apply Good.setPoison | apply Good.eccLast | apply Good.raise)
    | split | intro _

theorem Good.waitRefresh {a n : Nat} (h : Good q s) : Good q (State.waitRefresh s a n) := by
  unfold State.waitRefresh
  try dsimp only
  repeat' first
    | (with_reducible first | assumption | (refine Good.ite (fun _ => ?_) (fun _ => ?_)) | apply Good.foldl
                            | apply Good.foldl_fst | apply Good.toElapsed)
    | split | intro _

theorem Good.memGet {a n tag : Nat} {ecc : Ecc} (h : Good q s) : Good q (State.memGet s a n tag ecc).1 := by
  unfold State.memGet
  try dsimp only
  repeat' first
    | (with_reducible first | assumption | (refine Good.ite (fun _ => ?_) (fun _ => ?_)) | apply Good.waitRefresh
                            | apply Good.memEcc | apply Good.eccLast)
    | split | intro _

theorem Good.winGet {agent i off n tag : Nat} {ecc : Ecc} (h : Good q s) : Good q (State.winGet s agent i off n tag
    ecc).1 := by
  unfold State.winGet
  try dsimp only
  repeat' first
    | (with_reducible first | assumption | (refine Good.ite (fun _ => ?_) (fun _ => ?_)) | apply Good.bankDown
                            | apply Good.raise | apply Good.sheetEcc)
    | split | intro _ | (refine Good.fst ‹_ = (_, _)› ?_)

theorem Good.winGets {agent tag : Nat} {l : List (Nat × Nat × Nat × Nat)} {ecc : Ecc} (h : Good q s) :
    Good q (State.winGets s agent tag l ecc).1 := by
  induction l generalizing s ecc with
  | nil => exact h
  | cons p ps ih =>
    unfold State.winGets
    split
    · have hu := ih (ecc := eccFrom (storeUnits p.2.1 p.2.2.2).length ecc) (Good.fst ‹_ = (_, _)› (Good.winGet h))
      split <;> exact Good.fst ‹_ = (_, _)› hu
    · exact Good.fst ‹_ = (_, _)› (Good.winGet h)

theorem Good.devGet {agent a n tag : Nat} {ecc : Ecc} (h : Good q s) : Good q (State.devGet s agent a n tag ecc).1 :=
    by
  unfold State.devGet
  try dsimp only
  repeat' first
    | (with_reducible first | assumption | (refine Good.ite (fun _ => ?_) (fun _ => ?_)) | apply Good.winGets
                            | apply Good.memGet)
    | split | intro _ | (refine Good.fst ‹_ = (_, _)› ?_)

theorem Good.memPut {a tag : Nat} {bs : List Byte} (h : Good q s) : Good q (State.memPut s a tag bs) := by
  unfold State.memPut
  try dsimp only
  repeat' first
    | (with_reducible first | assumption | (refine Good.ite (fun _ => ?_) (fun _ => ?_)) | apply Good.foldl
                            | apply Good.foldl_fst | apply Good.waitRefresh | apply Good.memWrite
                            | apply Good.clearPoison | apply Good.raise)
    | split | intro _

theorem Good.devPut {agent a tag : Nat} {bs : List Byte} (h : Good q s) : Good q (State.devPut s agent a tag bs) := by
  unfold State.devPut
  try dsimp only
  repeat' first
    | (with_reducible first | assumption | (refine Good.ite (fun _ => ?_) (fun _ => ?_)) | apply Good.foldl
                            | apply Good.foldl_fst | apply Good.winWrite | apply Good.memPut)
    | split | intro _

theorem Good.compFetch {who : WWho} {a n tag : Nat} (h : Good q s) : Good q (State.compFetch s who a n tag).1 := by
  unfold State.compFetch
  try dsimp only
  repeat' first
    | (with_reducible first | assumption | (refine Good.ite (fun _ => ?_) (fun _ => ?_)) | apply Good.foldl
                            | apply Good.foldl_fst | apply Good.raise | apply Good.wRequest | apply Good.answer
                            | apply Good.modWport)
    | split | intro _

theorem Good.fetch {who : WWho} {a n tag : Nat} {ecc : Ecc} (h : Good q s) : Good q (State.fetch s who a n tag ecc).1
    := by
  unfold State.fetch
  try dsimp only
  repeat' first
    | (with_reducible first | assumption | (refine Good.ite (fun _ => ?_) (fun _ => ?_)) | apply Good.compFetch
                            | apply Good.devGet)
    | split | intro _ | (refine Good.fst ‹_ = (_, _)› ?_)

theorem Good.compLine {p : Nat} {who : WWho} {line lo : Nat} {bs : List Byte} (h : Good q s) : Good q (State.compLine
    s p who line lo bs) := by
  unfold State.compLine
  try dsimp only
  repeat' first
    | (with_reducible first | assumption | (refine Good.ite (fun _ => ?_) (fun _ => ?_)) | apply Good.wRequest
                            | apply Good.foldl | apply Good.draw)
    | split | intro _

theorem Good.compWrite {who : WWho} {a tag : Nat} {bs : List Byte} (h : Good q s) : Good q (State.compWrite s who a
    tag bs) := by
  unfold State.compWrite
  try dsimp only
  repeat' first
    | (with_reducible first | assumption | (refine Good.ite (fun _ => ?_) (fun _ => ?_)) | apply Good.foldl
                            | apply Good.foldl_fst | apply Good.raise | apply Good.compLine)
    | split | intro _

theorem Good.store {who : WWho} {a tag : Nat} {bs : List Byte} (h : Good q s) : Good q (State.store s who a tag bs) :=
    by
  unfold State.store
  try dsimp only
  repeat' first
    | (with_reducible first | assumption | (refine Good.ite (fun _ => ?_) (fun _ => ?_)) | apply Good.compWrite
                            | apply Good.devPut)
    | split | intro _

/-! ### Machine/Hold.lean -/

theorem Good.holdUp {load : Bool} {slice frame tag : Nat} (h : Good q s) : Good q (State.holdUp s load slice frame
    tag) := by
  unfold State.holdUp
  try dsimp only
  repeat' first
    | (with_reducible first | assumption | (refine Good.ite (fun _ => ?_) (fun _ => ?_)) | apply Good.modTime
                            | apply Good.sendSymbol)
    | split

theorem Good.holdAtOrigin {load : Bool} (h : Good q s) : Good q (State.holdAtOrigin s load) := by
  unfold State.holdAtOrigin
  try dsimp only
  repeat' first
    | (with_reducible first | assumption | (refine Good.ite (fun _ => ?_) (fun _ => ?_)) | apply Good.modTime)
    | split

theorem Good.raiseHoldAs {load : Bool} {tag : Nat} (h : Good q s) : Good q (State.raiseHoldAs s load tag) := by
  unfold State.raiseHoldAs
  try dsimp only
  repeat' first
    | (with_reducible first | assumption | (refine Good.ite (fun _ => ?_) (fun _ => ?_)) | apply Good.setFld
                            | apply Good.count | apply Good.holdAtOrigin | apply Good.holdUp)
    | split

theorem Good.holdHear {p : Nat} (h : Good q s) : Good q (State.holdHear s p) := by
  unfold State.holdHear
  try dsimp only
  repeat' first
    | (with_reducible first | assumption | (refine Good.ite (fun _ => ?_) (fun _ => ?_)) | apply Good.holdAtOrigin
                            | apply Good.holdUp)
    | (refine Good.popSymbol ?_ _ _ ‹State.popSymbol _ _ _ = some _›) | split

theorem Good.order {stop loadOnly : Bool} {code subject : Nat} (h : Good q s) : Good q (State.order s stop loadOnly
    code subject) := by
  unfold State.order
  try dsimp only
  repeat' first
    | (with_reducible first | assumption | apply Good.modTime | apply Good.foldl | apply Good.sendSymbol)
    | split | intro _

theorem Good.takeDecision (h : Good q s) : Good q (State.takeDecision s) := by
  unfold State.takeDecision
  try dsimp only
  repeat' first
    | (with_reducible first | assumption | (refine Good.ite (fun _ => ?_) (fun _ => ?_)) | apply Good.order
                            | apply Good.modTime | apply Good.raise)
    | split

theorem Good.slipHear {p : Nat} (h : Good q s) : Good q (State.slipHear s p) := by
  unfold State.slipHear
  try dsimp only
  repeat' first
    | (with_reducible first | assumption | (refine Good.ite (fun _ => ?_) (fun _ => ?_)) | apply Good.modTime
                            | apply Good.foldl | apply Good.sendSymbol | apply Good.emit | apply Good.setFld)
    | (refine Good.popSymbol ?_ _ _ ‹State.popSymbol _ _ _ = some _›) | split | intro _

theorem Good.digest {sheet tag kind addr : Nat} {frame : Option Nat} {data : List Byte} (h : Good q s) : Good q
    (State.digest s sheet tag kind addr frame data) := by
  unfold State.digest
  try dsimp only
  repeat' first
    | (with_reducible first | assumption | apply Good.modFault)
    | split

theorem Good.ovlRelease {i : Nat} (h : Good q s) : Good q (State.ovlRelease s i) := by
  unfold State.ovlRelease
  try dsimp only
  repeat' first
    | (with_reducible first | assumption | (refine Good.modFab ?_ (fun _ => rfl)))
    | split

theorem Good.batchEnd (h : Good q s) : Good q (State.batchEnd s) := by
  unfold State.batchEnd
  try dsimp only
  repeat' first
    | (with_reducible first | assumption | (refine Good.ite (fun _ => ?_) (fun _ => ?_)) | apply Good.setFld
                            | (refine Good.modWiora ?_ (fun _ => rfl)) | apply Good.foldl | apply Good.postEvent
                            | apply Good.ovlRelease)
    | split | intro _

theorem Good.acAdd {n k tag : Nat} (h : Good q s) : Good q (State.acAdd s n k tag) := by
  unfold State.acAdd
  try dsimp only
  repeat' first
    | (with_reducible first | assumption | (refine Good.ite (fun _ => ?_) (fun _ => ?_))
                            | (refine Good.modFab ?_ (fun _ => rfl)) | apply Good.setFld | apply Good.raise)
    | split | intro _

theorem Good.acRelease {sheet n k tag : Nat} (h : Good q s) : Good q (State.acRelease s sheet n k tag) := by
  unfold State.acRelease
  try dsimp only
  repeat' first
    | (with_reducible first | assumption | (refine Good.ite (fun _ => ?_) (fun _ => ?_)) | apply Good.setFld
                            | apply Good.raise | apply Good.batchEnd)
    | split | intro _

/-! ### Machine/Words.lean -/

theorem Good.raiseHold {tag : Nat} (h : Good q s) : Good q (State.raiseHold s tag) := by
  unfold State.raiseHold
  try dsimp only
  repeat' first
    | (with_reducible first | assumption | apply Good.raiseHoldAs)
    | split

/-! ### Machine/Sheet.lean -/

theorem Good.setHead {i e : Nat} {w : QWord} (h : Good q s) : Good q (State.setHead s i e w) := by
  unfold State.setHead
  try dsimp only
  repeat' first
    | (with_reducible first | assumption | apply Good.modSheet)
    | split

theorem Good.haltEngine {i e code tag aux : Nat} (h : Good q s) : Good q (State.haltEngine s i e code tag aux) := by
  unfold State.haltEngine
  try dsimp only
  repeat' first
    | (with_reducible first | assumption | apply Good.raiseHalt | apply Good.setFld)
    | split

theorem Good.advance {i e : Nat} {w : QWord} (h : Good q s) : Good q (State.advance s i e w) := by
  unfold State.advance
  try dsimp only
  repeat' first
    | (with_reducible first | assumption | apply Good.modSheet | apply Good.setHead)
    | split

theorem Good.engEcc {i e : Nat} {w : QWord} {ecc : Ecc} {units : List (Nat × Nat)} (h : Good q s) : Good q
    (State.engEcc s i e w ecc units).1 := by
  unfold State.engEcc
  try dsimp only
  repeat' first
    | (with_reducible first | assumption | apply Good.haltEngine | apply Good.sheetEcc)
    | split | (refine Good.fst ‹_ = (_, _)› ?_)

theorem Good.putEntries {i : Nat} {es : List (Nat × AccEntry × AccEntry)} (h : Good q s) : Good q (State.putEntries s
    i es) := by
  unfold State.putEntries
  try dsimp only
  repeat' first
    | (with_reducible first | assumption | (refine Good.ite (fun _ => ?_) (fun _ => ?_)) | apply Good.setIf
                            | apply Good.modSheet | apply Good.count | apply Good.setFld)
    | split

theorem Good.setVreg {i v : Nat} {codes : List Nat} (h : Good q s) : Good q (State.setVreg s i v codes) := by
  unfold State.setVreg
  try dsimp only
  repeat' first
    | (with_reducible first | assumption | apply Good.modSheet)
    | split

theorem Good.tallyBin {i b k : Nat} (h : Good q s) : Good q (State.tallyBin s i b k) := by
  unfold State.tallyBin
  try dsimp only
  repeat' first
    | (with_reducible first | assumption | (refine Good.ite (fun _ => ?_) (fun _ => ?_)) | apply Good.setFld)
    | split

theorem Good.tally {i b : Nat} {vs : List (Bool × Nat × Int)} (h : Good q s) : Good q (State.tally s i b vs) := by
  unfold State.tally
  try dsimp only
  repeat' first
    | (with_reducible first | assumption | apply Good.foldl | apply Good.tallyBin)
    | split | intro _

theorem Good.clearBank {i b : Nat} (h : Good q s) : Good q (State.clearBank s i b) := by
  unfold State.clearBank
  try dsimp only
  repeat' first
    | (with_reducible first | assumption | apply Good.setFld | apply Good.clearRegs)
    | split

theorem Good.satCount {i n k : Nat} (h : Good q s) : Good q (State.satCount s i n k) := by
  unfold State.satCount
  try dsimp only
  repeat' first
    | (with_reducible first | assumption | (refine Good.ite (fun _ => ?_) (fun _ => ?_)) | apply Good.setFld)
    | split

theorem Good.satClear {i n : Nat} (h : Good q s) : Good q (State.satClear s i n) := by
  unfold State.satClear
  try dsimp only
  repeat' first
    | (with_reducible first | assumption | apply Good.setFld)
    | split

theorem Good.setFlagN {i n : Nat} {v : Bool} (h : Good q s) : Good q (State.setFlagN s i n v) := by
  unfold State.setFlagN
  try dsimp only
  repeat' first
    | (with_reducible first | assumption | apply Good.setReg64)
    | split

theorem Good.ctAdd {i n k tag : Nat} (h : Good q s) : Good q (State.ctAdd s i n k tag) := by
  unfold State.ctAdd
  try dsimp only
  repeat' first
    | (with_reducible first | assumption | (refine Good.ite (fun _ => ?_) (fun _ => ?_)) | apply Good.setFld
                            | apply Good.raise)
    | split

theorem Good.consume {i : Nat} {w : Nat × Nat} (h : Good q s) : Good q (State.consume s i w) := by
  unfold State.consume
  try dsimp only
  repeat' first
    | (with_reducible first | assumption | (refine Good.ite (fun _ => ?_) (fun _ => ?_)) | apply Good.setFlagN
                            | apply Good.setFld)
    | split

theorem Good.applySignal {i : Nat} {w : QWord} (h : Good q s) : Good q (State.applySignal s i w) := by
  unfold State.applySignal
  try dsimp only
  repeat' first
    | (with_reducible first | assumption | (refine Good.ite (fun _ => ?_) (fun _ => ?_)) | apply Good.setFlagN
                            | apply Good.ctAdd | apply Good.setFld | apply Good.draw | apply Good.digest
                            | apply Good.acRelease)
    | split | intro _ | (refine Good.snd ‹_ = (_, _)› ?_)

theorem Good.stageWrite {a : Nat} {bs : List Byte} (h : Good q s) : Good q (State.stageWrite s a bs) := by
  unfold State.stageWrite
  try dsimp only
  repeat' first
    | (with_reducible first | assumption | (refine Good.modFab ?_ (fun _ => rfl)))
    | split

theorem Good.setFill {u0 n : Nat} {b : Bool} (h : Good q s) : Good q (State.setFill s u0 n b) := by
  unfold State.setFill
  try dsimp only
  repeat' first
    | (with_reducible first | assumption | (refine Good.modFab ?_ (fun _ => rfl)))
    | split

theorem Good.setTally {u n : Nat} (h : Good q s) : Good q (State.setTally s u n) := by
  unfold State.setTally
  try dsimp only
  repeat' first
    | (with_reducible first | assumption | (refine Good.modFab ?_ (fun _ => rfl)))
    | split

theorem Good.dropDep {d : ArmedDep} (h : Good q s) : Good q (State.dropDep s d) := by
  unfold State.dropDep
  try dsimp only
  repeat' first
    | (with_reducible first | assumption | (refine Good.modFab ?_ (fun _ => rfl)))
    | split

theorem Good.depDone {d : ArmedDep} (h : Good q s) : Good q (State.depDone s d) := by
  unfold State.depDone
  try dsimp only
  repeat' first
    | (with_reducible first | assumption | (refine Good.ite (fun _ => ?_) (fun _ => ?_)) | apply Good.dropDep
                            | apply Good.iter | apply Good.setFill | apply Good.setTally)
    | split | intro _

theorem Good.treeDone (h : Good q s) : Good q (State.treeDone s) := by
  unfold State.treeDone
  try dsimp only
  repeat' first
    | (with_reducible first | assumption | (refine Good.ite (fun _ => ?_) (fun _ => ?_)) | apply Good.foldl
                            | apply Good.foldl_fst | apply Good.depDone)
    | split | intro _

theorem Good.fillStaging {w : QWord} (h : Good q s) : Good q (State.fillStaging s w) := by
  unfold State.fillStaging
  try dsimp only
  repeat' first
    | (with_reducible first | assumption | (refine Good.ite (fun _ => ?_) (fun _ => ?_)) | apply Good.treeDone
                            | apply Good.setFill | apply Good.setTally)
    | split | intro _

theorem Good.dropWrites {i : Nat} (h : Good q s) : Good q (State.dropWrites s i) := by
  unfold State.dropWrites
  try dsimp only
  repeat' first
    | (with_reducible first | assumption | apply Good.iter | apply Good.modWport)
    | split | intro _

theorem Good.twinRetire {i : Nat} {w : QWord} (h : Good q s) : Good q (State.twinRetire s i w) := by
  unfold State.twinRetire
  try dsimp only
  repeat' first
    | (with_reducible first | assumption | apply Good.modFault)
    | split

theorem Good.retire {i e : Nat} (h : Good q s) : Good q (State.retire s i e) := by
  unfold State.retire
  try dsimp only
  repeat' first
    | (with_reducible first | assumption | (refine Good.ite (fun _ => ?_) (fun _ => ?_)) | apply Good.haltEngine
                            | apply Good.dropWrites | apply Good.trace | apply Good.twinRetire
                            | apply Good.applySignal | apply Good.setFld | apply Good.modSheet
                            | apply Good.fillStaging)
    | split

theorem Good.applyIncs {i : Nat} (h : Good q s) : Good q (State.applyIncs s i) := by
  unfold State.applyIncs
  try dsimp only
  repeat' first
    | (with_reducible first | assumption | (refine Good.ite (fun _ => ?_) (fun _ => ?_)) | apply Good.foldl
                            | apply Good.foldl_fst | apply Good.ctAdd | apply Good.modSheet)
    | split | intro _

theorem Good.applyHeld {i a : Nat} {v : Word} (h : Good q s) : Good q (State.applyHeld s i a v) := by
  unfold State.applyHeld
  try dsimp only
  repeat' first
    | (with_reducible first | assumption | (refine Good.ite (fun _ => ?_) (fun _ => ?_)) | apply Good.iter
                            | apply Good.clearBank | apply Good.satClear | apply Good.setReg)
    | split | intro _

theorem Good.applyWrites {i : Nat} (h : Good q s) : Good q (State.applyWrites s i) := by
  unfold State.applyWrites
  try dsimp only
  repeat' first
    | (with_reducible first | assumption | apply Good.foldl | apply Good.modSheet | apply Good.applyHeld)
    | split | intro _

theorem Good.begin {i e : Nat} {w : QWord} (h : Good q s) : Good q (State.begin s i e w) := by
  unfold State.begin
  try dsimp only
  repeat' first
    | (with_reducible first | assumption | (refine Good.ite (fun _ => ?_) (fun _ => ?_)) | apply Good.setHead
                            | apply Good.modSheet | apply Good.trace)
    | split | intro _

theorem Good.register {i e : Nat} (h : Good q s) : Good q (State.register s i e) := by
  unfold State.register
  try dsimp only
  repeat' first
    | (with_reducible first | assumption | (refine Good.ite (fun _ => ?_) (fun _ => ?_)) | apply Good.setHead
                            | apply Good.modFault)
    | split

theorem Good.evalWaits {i e : Nat} {w : QWord} (h : Good q s) : Good q (State.evalWaits s i e w) := by
  unfold State.evalWaits
  try dsimp only
  repeat' first
    | (with_reducible first | assumption | (refine Good.ite (fun _ => ?_) (fun _ => ?_)) | apply Good.register
                            | apply Good.setHead | apply Good.consume | apply Good.begin)
    | split

theorem Good.evalHead {i e : Nat} (h : Good q s) : Good q (State.evalHead s i e) := by
  unfold State.evalHead
  try dsimp only
  repeat' first
    | (with_reducible first | assumption | (refine Good.ite (fun _ => ?_) (fun _ => ?_)) | apply Good.haltEngine
                            | apply Good.setHead | apply Good.evalWaits | apply Good.begin | apply Good.register)
    | split | intro _

theorem Good.sample {i : Nat} {lag : Lag} (h : Good q s) : Good q (State.sample s i lag) := by
  unfold State.sample
  try dsimp only
  repeat' first
    | (with_reducible first | assumption | apply Good.modSheet)
    | split

theorem Good.stepBoundary {i : Nat} {lag : Lag} (h : Good q s) : Good q (State.stepBoundary s i lag) := by
  unfold State.stepBoundary
  try dsimp only
  repeat' first
    | (with_reducible first | assumption | (refine Good.ite (fun _ => ?_) (fun _ => ?_)) | apply Good.iter
                            | apply Good.applyWrites | apply Good.applyIncs | apply Good.sample | apply Good.retire
                            | apply Good.evalHead)
    | split | intro _

theorem Good.wordFetch {i e : Nat} {ecc : Ecc} (h : Good q s) : Good q (State.wordFetch s i e ecc) := by
  unfold State.wordFetch
  try dsimp only
  repeat' first
    | (with_reducible first | assumption | (refine Good.ite (fun _ => ?_) (fun _ => ?_)) | apply Good.haltEngine
                            | apply Good.sheetEcc | apply Good.setFld | apply Good.modSheet)
    | split | (refine Good.fst ‹_ = (_, _)› ?_)

theorem Good.tailWrite {i e v : Nat} (h : Good q s) : Good q (State.tailWrite s i e v) := by
  unfold State.tailWrite
  try dsimp only
  repeat' first
    | (with_reducible first | assumption | (refine Good.ite (fun _ => ?_) (fun _ => ?_)) | apply Good.raise
                            | apply Good.setFld)
    | split

theorem Good.ringWrite {i e v : Nat} (h : Good q s) : Good q (State.ringWrite s i e v) := by
  unfold State.ringWrite
  try dsimp only
  repeat' first
    | (with_reducible first | assumption | (refine Good.ite (fun _ => ?_) (fun _ => ?_)) | apply Good.raise
                            | apply Good.setFld)
    | split

theorem Good.legendReload {i : Nat} (h : Good q s) : Good q (State.legendReload s i) := by
  unfold State.legendReload
  try dsimp only
  repeat' first
    | (with_reducible first | assumption | apply Good.clearRegs)
    | split

theorem Good.legendRefuse {i slot entry tag : Nat} (h : Good q s) : Good q (State.legendRefuse s i slot entry tag) :=
    by
  unfold State.legendRefuse
  try dsimp only
  repeat' first
    | (with_reducible first | assumption | apply Good.raise | apply Good.setFld)
    | split

theorem Good.legendWrite {i k v : Nat} (h : Good q s) : Good q (State.legendWrite s i k v) := by
  unfold State.legendWrite
  try dsimp only
  repeat' first
    | (with_reducible first | assumption | (refine Good.ite (fun _ => ?_) (fun _ => ?_)) | apply Good.raise
                            | apply Good.legendRefuse | apply Good.setReg)
    | split

theorem Good.legendCtl {i v : Nat} (h : Good q s) : Good q (State.legendCtl s i v) := by
  unfold State.legendCtl
  try dsimp only
  repeat' first
    | (with_reducible first | assumption | (refine Good.ite (fun _ => ?_) (fun _ => ?_)) | apply Good.legendReload
                            | apply Good.setIf | apply Good.raise)
    | split

theorem Good.holdWrite {i a : Nat} {v : Word} (h : Good q s) : Good q (State.holdWrite s i a v) := by
  unfold State.holdWrite
  try dsimp only
  repeat' first
    | (with_reducible first | assumption | apply Good.modSheet)
    | split

theorem Good.safeCtl {i : Nat} {v : Word} (h : Good q s) : Good q (State.safeCtl s i v) := by
  unfold State.safeCtl
  try dsimp only
  repeat' first
    | (with_reducible first | assumption | (refine Good.ite (fun _ => ?_) (fun _ => ?_)) | apply Good.setFld
                            | apply Good.holdWrite)
    | split

theorem Good.sheetScrub {i : Nat} {ecc : Ecc} (h : Good q s) : Good q (State.sheetScrub s i ecc) := by
  unfold State.sheetScrub
  try dsimp only
  repeat' first
    | (with_reducible first | assumption | (refine Good.ite (fun _ => ?_) (fun _ => ?_)) | apply Good.toTick
                            | apply Good.modSheet | apply Good.sheetEcc | apply Good.raise | apply Good.setFld)
    | split | intro _ | (refine Good.fst ‹_ = (_, _)› ?_)

theorem Good.sheetClear {i : Nat} (h : Good q s) : Good q (State.sheetClear s i) := by
  unfold State.sheetClear
  try dsimp only
  repeat' first
    | (with_reducible first | assumption | apply Good.setSheet | apply Good.clearRegs)
    | split

/-! ### Machine/SheetMx.lean -/

theorem Good.datumHalt {i e : Nat} {w : QWord} (h : Good q s) : Good q (State.datumHalt s i e w) := by
  unfold State.datumHalt
  try dsimp only
  repeat' first
    | (with_reducible first | assumption | apply Good.haltEngine | apply Good.setFld)
    | split

theorem Good.mxMatrix {i : Nat} {ecc : Ecc} (h : Good q s) : Good q (State.mxMatrix s i ecc) := by
  unfold State.mxMatrix
  try dsimp only
  repeat' first
    | (with_reducible first | assumption | (refine Good.ite (fun _ => ?_) (fun _ => ?_)) | apply Good.datumHalt
                            | apply Good.engEcc | apply Good.advance | apply Good.setFld | apply Good.count
                            | apply Good.putEntries | apply Good.modSheet)
    | split | (refine Good.fst ‹_ = (_, _)› ?_)

theorem Good.tileLoad {i : Nat} {ecc : Ecc} (h : Good q s) : Good q (State.tileLoad s i ecc) := by
  unfold State.tileLoad
  try dsimp only
  repeat' first
    | (with_reducible first | assumption | (refine Good.ite (fun _ => ?_) (fun _ => ?_)) | apply Good.engEcc
                            | apply Good.modSheet)
    | split | (refine Good.fst ‹_ = (_, _)› ?_)

theorem Good.outlierAdd {i : Nat} {ecc : Ecc} (h : Good q s) : Good q (State.outlierAdd s i ecc) := by
  unfold State.outlierAdd
  try dsimp only
  repeat' first
    | (with_reducible first | assumption | (refine Good.ite (fun _ => ?_) (fun _ => ?_)) | apply Good.datumHalt
                            | apply Good.engEcc | apply Good.advance | apply Good.count | apply Good.putEntries)
    | split | (refine Good.fst ‹_ = (_, _)› ?_)

/-! ### Machine/SheetVx.lean -/

theorem Good.convCounts {sh : Nat} {w : QWord} {bs : List BlockConv} (h : Good q s) : Good q (State.convCounts s sh w
    bs) := by
  unfold State.convCounts
  try dsimp only
  repeat' first
    | (with_reducible first | assumption | (refine Good.ite (fun _ => ?_) (fun _ => ?_)) | apply Good.count
                            | apply Good.setIf | apply Good.satCount)
    | split

theorem Good.convert {sh : Nat} {ecc : Ecc} (h : Good q s) : Good q (State.convert s sh ecc) := by
  unfold State.convert
  try dsimp only
  repeat' first
    | (with_reducible first | assumption | apply Good.engEcc | apply Good.advance | apply Good.foldl
                            | (refine Good.ite (fun _ => ?_) (fun _ => ?_)) | apply Good.convCounts
                            | apply Good.tally | apply Good.modSheet)
    | split | intro _ | (refine Good.fst ‹_ = (_, _)› ?_)

theorem Good.guardReport {sh : Nat} (h : Good q s) : Good q (State.guardReport s sh) := by
  unfold State.guardReport
  try dsimp only
  repeat' first
    | (with_reducible first | assumption | apply Good.advance | apply Good.putEntries | apply Good.setFld)
    | split

theorem Good.guardLatch {sh : Nat} {w : QWord} {v : Bool} (h : Good q s) : Good q (State.guardLatch s sh w v) := by
  unfold State.guardLatch
  try dsimp only
  repeat' first
    | (with_reducible first | assumption | (refine Good.ite (fun _ => ?_) (fun _ => ?_)) | apply Good.digest
                            | (refine Good.modFab ?_ (fun _ => rfl)) | apply Good.setFld)
    | split

theorem Good.guardDecide {sh : Nat} {ecc : Ecc} (h : Good q s) : Good q (State.guardDecide s sh ecc) := by
  unfold State.guardDecide
  try dsimp only
  repeat' first
    | (with_reducible first | assumption | apply Good.engEcc | apply Good.advance
                            | (refine Good.ite (fun _ => ?_) (fun _ => ?_)) | apply Good.digest
                            | apply Good.guardLatch | apply Good.setFlagN | apply Good.count | apply Good.raise
                            | apply Good.raiseHold)
    | split | (refine Good.fst ‹_ = (_, _)› ?_)

theorem Good.drainBin {sh b base k : Nat} (h : Good q s) : Good q (State.drainBin s sh b base k) := by
  unfold State.drainBin
  try dsimp only
  repeat' first
    | (with_reducible first | assumption | apply Good.setFld | apply Good.modSheet | apply Good.draw)
    | split

theorem Good.contourDrain {sh : Nat} {ecc : Ecc} (h : Good q s) : Good q (State.contourDrain s sh ecc) := by
  unfold State.contourDrain
  try dsimp only
  repeat' first
    | (with_reducible first | assumption | apply Good.engEcc | apply Good.advance | apply Good.iter
                            | apply Good.drainBin)
    | split | intro _ | (refine Good.fst ‹_ = (_, _)› ?_)

theorem Good.markRead {sh : Nat} {ecc : Ecc} (h : Good q s) : Good q (State.markRead s sh ecc) := by
  unfold State.markRead
  try dsimp only
  repeat' first
    | (with_reducible first | assumption | apply Good.engEcc | apply Good.advance | apply Good.setVreg)
    | split | (refine Good.fst ‹_ = (_, _)› ?_)

theorem Good.vectorLoad {sh : Nat} {ecc : Ecc} (h : Good q s) : Good q (State.vectorLoad s sh ecc) := by
  unfold State.vectorLoad
  try dsimp only
  repeat' first
    | (with_reducible first | assumption | apply Good.engEcc | apply Good.advance | apply Good.setVreg)
    | split | (refine Good.fst ‹_ = (_, _)› ?_)

theorem Good.laneFlags {sh : Nat} {ls : List Lane} (h : Good q s) : Good q (State.laneFlags s sh ls) := by
  unfold State.laneFlags
  try dsimp only
  repeat' first
    | (with_reducible first | assumption | apply Good.setIf)
    | split

theorem Good.vectorStore {sh : Nat} {ecc : Ecc} (h : Good q s) : Good q (State.vectorStore s sh ecc) := by
  unfold State.vectorStore
  try dsimp only
  repeat' first
    | (with_reducible first | assumption | apply Good.engEcc | apply Good.advance | apply Good.modSheet
                            | apply Good.laneFlags)
    | split | (refine Good.fst ‹_ = (_, _)› ?_)

theorem Good.laneWord {sh op : Nat} {ecc : Ecc} {f : Nat → Nat → Nat → Lane} (h : Good q s) : Good q (State.laneWord s
    sh op ecc f) := by
  unfold State.laneWord
  try dsimp only
  repeat' first
    | (with_reducible first | assumption | (refine Good.ite (fun _ => ?_) (fun _ => ?_)) | apply Good.engEcc
                            | apply Good.advance | apply Good.laneFlags | apply Good.setVreg)
    | split | (refine Good.fst ‹_ = (_, _)› ?_)

/-! ### Machine/SheetMv.lean -/

theorem Good.moveEnd {i : Nat} {w : QWord} (h : Good q s) : Good q (State.moveEnd s i w) := by
  unfold State.moveEnd
  try dsimp only
  repeat' first
    | (with_reducible first | assumption | (refine Good.ite (fun _ => ?_) (fun _ => ?_)) | apply Good.modSheet
                            | apply Good.count)
    | split

theorem Good.meshPass {i : Nat} {dest : Option Nat} {bs : List Byte} (h : Good q s) : Good q (State.meshPass s i dest
    bs) := by
  unfold State.meshPass
  try dsimp only
  repeat' first
    | (with_reducible first | assumption | (refine Good.ite (fun _ => ?_) (fun _ => ?_)) | apply Good.modSheet)
    | split | intro _

theorem Good.moveStage {i : Nat} {w : QWord} {a : Nat} {bs : List Byte} (h : Good q s) : Good q (State.moveStage s i w
    a bs) := by
  unfold State.moveStage
  try dsimp only
  repeat' first
    | (with_reducible first | assumption | (refine Good.ite (fun _ => ?_) (fun _ => ?_)) | apply Good.digest
                            | apply Good.stageWrite)
    | split

theorem Good.moveCopy {i : Nat} {ecc : Ecc} (h : Good q s) : Good q (State.moveCopy s i ecc) := by
  unfold State.moveCopy
  try dsimp only
  repeat' first
    | (with_reducible first | assumption | (refine Good.ite (fun _ => ?_) (fun _ => ?_)) | apply Good.iter
                            | apply Good.engEcc | apply Good.meshPass | apply Good.moveStage | apply Good.modSheet
                            | apply Good.moveEnd | apply Good.advance)
    | split | intro _ | (refine Good.fst ‹_ = (_, _)› ?_)

theorem Good.addQuiet {i n : Nat} {u : Unpacked} (h : Good q s) : Good q (State.addQuiet s i n u) := by
  unfold State.addQuiet
  try dsimp only
  repeat' first
    | (with_reducible first | assumption | apply Good.putEntries)
    | split

theorem Good.addBlock {i n tag : Nat} {u : Unpacked} (h : Good q s) : Good q (State.addBlock s i n tag u) := by
  unfold State.addBlock
  try dsimp only
  repeat' first
    | (with_reducible first | assumption | (refine Good.ite (fun _ => ?_) (fun _ => ?_)) | apply Good.raise
                            | apply Good.addQuiet)
    | split

theorem Good.markBlock {i n : Nat} (h : Good q s) : Good q (State.markBlock s i n) := by
  unfold State.markBlock
  try dsimp only
  repeat' first
    | (with_reducible first | assumption | apply Good.putEntries)
    | split

theorem Good.reduceAt {dest n tag : Nat} {bad : Bool} {ps : List Packed} (h : Good q s) : Good q (State.reduceAt s
    dest n tag bad ps) := by
  unfold State.reduceAt
  try dsimp only
  repeat' first
    | (with_reducible first | assumption | apply Good.foldl | apply Good.addBlock | apply Good.markBlock)
    | split | intro _

theorem Good.reduceStage {i : Nat} {w : QWord} {len : Nat} {ps : List Packed} (h : Good q s) : Good q
    (State.reduceStage s i w len ps) := by
  unfold State.reduceStage
  try dsimp only
  repeat' first
    | (with_reducible first | assumption | apply Good.foldl | apply Good.moveStage)
    | split | intro _

theorem Good.reduceBad {dest tag : Nat} (h : Good q s) : Good q (State.reduceBad s dest tag) := by
  unfold State.reduceBad
  try dsimp only
  repeat' first
    | (with_reducible first | assumption | apply Good.raise | apply Good.count | apply Good.setFld)
    | split

theorem Good.recvEcc {i dest : Nat} {w : QWord} {ecc : Ecc} {units : List (Nat × Nat)} (h : Good q s) : Good q
    (State.recvEcc s i dest w ecc units).1 := by
  unfold State.recvEcc
  try dsimp only
  repeat' first
    | (with_reducible first | assumption | (refine Good.ite (fun _ => ?_) (fun _ => ?_)) | apply Good.sheetEcc
                            | apply Good.haltEngine)
    | split | intro _ | (refine Good.fst ‹_ = (_, _)› ?_)

theorem Good.reduceEcc {i dest : Nat} {w : QWord} {src dst : Nat} {ecc : Ecc} (h : Good q s) : Good q (State.reduceEcc
    s i dest w src dst ecc).1 := by
  unfold State.reduceEcc
  try dsimp only
  repeat' first
    | (with_reducible first | assumption | (refine Good.ite (fun _ => ?_) (fun _ => ?_)) | apply Good.engEcc
                            | apply Good.recvEcc)
    | split | intro _ | (refine Good.fst ‹_ = (_, _)› ?_)

theorem Good.moveReduce {i : Nat} {ecc : Ecc} (h : Good q s) : Good q (State.moveReduce s i ecc) := by
  unfold State.moveReduce
  try dsimp only
  repeat' first
    | (with_reducible first | assumption | (refine Good.ite (fun _ => ?_) (fun _ => ?_)) | apply Good.iter
                            | apply Good.reduceEcc | apply Good.meshPass | apply Good.count | apply Good.reduceBad
                            | apply Good.reduceStage | apply Good.reduceAt | apply Good.moveEnd
                            | apply Good.advance)
    | split | intro _ | (refine Good.fst ‹_ = (_, _)› ?_)

theorem Good.loadSlot {i slot : Nat} {bs : List Byte} (h : Good q s) : Good q (State.loadSlot s i slot bs) := by
  unfold State.loadSlot
  try dsimp only
  repeat' first
    | (with_reducible first | assumption | apply Good.iter | apply Good.setReg)
    | split | intro _

theorem Good.moveLegend {i : Nat} {ecc : Ecc} (h : Good q s) : Good q (State.moveLegend s i ecc) := by
  unfold State.moveLegend
  try dsimp only
  repeat' first
    | (with_reducible first | assumption | (refine Good.ite (fun _ => ?_) (fun _ => ?_)) | apply Good.engEcc
                            | apply Good.advance | apply Good.legendRefuse | apply Good.loadSlot)
    | split | (refine Good.fst ‹_ = (_, _)› ?_)

/-! ### Machine/SheetIo.lean -/

theorem Good.stallAt {q : List Instr} {s : State} {i : Nat} {w : QWord} {len : Nat} (h : Good q s) :
    ∀ t, State.stallAt s i w len = some t → Good q t := by
  intro t
  unfold State.stallAt
  split
  · exact Good.someI (Good.ite (fun _ => h) fun _ => Good.setHead (Good.count h))
  · exact Good.noneI

theorem Good.loadTally {i : Nat} {w : QWord} {bs : List Byte} (h : Good q s) : Good q (State.loadTally s i w bs) := by
  unfold State.loadTally
  try dsimp only
  repeat' first
    | (with_reducible first | assumption | (refine Good.ite (fun _ => ?_) (fun _ => ?_)) | apply Good.tally)
    | split

theorem Good.deliver {i off : Nat} {bs : List Byte} (h : Good q s) : Good q (State.deliver s i off bs) := by
  unfold State.deliver
  try dsimp only
  repeat' first
    | (with_reducible first | assumption | (refine Good.ite (fun _ => ?_) (fun _ => ?_)) | apply Good.modSheet)
    | split

theorem Good.loadBytes {i : Nat} {w : QWord} {a n off : Nat} {ecc : Ecc} (h : Good q s) : Good q (State.loadBytes s i
    w a n off ecc).1 := by
  unfold State.loadBytes
  try dsimp only
  repeat' first
    | (with_reducible first | assumption | (refine Good.ite (fun _ => ?_) (fun _ => ?_)) | apply Good.fetch
                            | apply Good.haltEngine)
    | split | intro _ | (refine Good.fst ‹_ = (_, _)› ?_)

theorem Good.loadStep {i : Nat} {w : QWord} {m : MemSide} {ecc : Ecc} (h : Good q s) : Good q (State.loadStep s i w m
    ecc) := by
  unfold State.loadStep
  try dsimp only
  repeat' first
    | (with_reducible first | assumption | (refine Good.ite (fun _ => ?_) (fun _ => ?_)) | apply Good.iter
                            | apply Good.loadBytes | apply Good.engEcc | apply Good.deliver | apply Good.loadTally
                            | apply Good.advance)
    | (refine Good.stallAt ?_ _ ‹State.stallAt _ _ _ _ = some _›) | split | intro _
    | (refine Good.fst ‹_ = (_, _)› ?_)

theorem Good.storeLoad {i : Nat} {ecc : Ecc} (h : Good q s) : Good q (State.storeLoad s i ecc) := by
  unfold State.storeLoad
  try dsimp only
  repeat' first
    | (with_reducible first | assumption | apply Good.loadStep)
    | split

theorem Good.controlLoad {i : Nat} {ecc : Ecc} (h : Good q s) : Good q (State.controlLoad s i ecc) := by
  unfold State.controlLoad
  try dsimp only
  repeat' first
    | (with_reducible first | assumption | (refine Good.ite (fun _ => ?_) (fun _ => ?_)) | apply Good.loadBytes
                            | apply Good.advance | apply Good.iter | apply Good.deliver)
    | split | intro _ | (refine Good.fst ‹_ = (_, _)› ?_)

theorem Good.compPush {who : WWho} {tag n a : Nat} {bs : List Byte} (h : Good q s) :
    Good q (State.compPush s who tag n a bs).1 := by
  induction n generalizing s a bs with
  | zero => exact h
  | succ n ih =>
    unfold State.compPush
    split
    · exact h
    · dsimp only
      split
      · exact ih (Good.compWrite h)
      · exact h

theorem Good.storeOut {i : Nat} {w : QWord} {a : Nat} {bs : List Byte} (h : Good q s) : Good q (State.storeOut s i w a
    bs) := by
  unfold State.storeOut
  try dsimp only
  repeat' first
    | (with_reducible first | assumption | (refine Good.ite (fun _ => ?_) (fun _ => ?_)) | apply Good.compPush
                            | apply Good.advance | apply Good.setHead | apply Good.raise | apply Good.devPut)
    | split | intro _ | (refine Good.fst ‹_ = (_, _)› ?_)

theorem Good.storeWord {i : Nat} {ecc : Ecc} (h : Good q s) : Good q (State.storeWord s i ecc) := by
  unfold State.storeWord
  try dsimp only
  repeat' first
    | (with_reducible first | assumption | (refine Good.ite (fun _ => ?_) (fun _ => ?_)) | apply Good.storeOut
                            | apply Good.engEcc | apply Good.advance | apply Good.count | apply Good.digest)
    | split | (refine Good.fst ‹_ = (_, _)› ?_)

theorem Good.setOvl {n : Nat} {e : OvlEntry} (h : Good q s) : Good q (State.setOvl s n e) := by
  unfold State.setOvl
  try dsimp only
  repeat' first
    | (with_reducible first | assumption | (refine Good.modFab ?_ (fun _ => rfl)))
    | split

theorem Good.ovlResolve {n : Nat} (h : Good q s) : Good q (State.ovlResolve s n) := by
  unfold State.ovlResolve
  try dsimp only
  repeat' first
    | (with_reducible first | assumption | (refine Good.ite (fun _ => ?_) (fun _ => ?_))
                            | (refine Good.modWiora ?_ (fun _ => rfl)) | apply Good.setOvl)
    | split

theorem Good.overlayBegin {i : Nat} {w : QWord} {ecc : Ecc} (h : Good q s) : Good q (State.overlayBegin s i w ecc) :=
    by
  unfold State.overlayBegin
  try dsimp only
  repeat' first
    | (with_reducible first | assumption | (refine Good.ite (fun _ => ?_) (fun _ => ?_)) | apply Good.setHead
                            | apply Good.haltEngine | apply Good.ovlResolve | apply Good.fetch)
    | split | intro _ | (refine Good.fst ‹_ = (_, _)› ?_)

theorem Good.overlayLoad {i : Nat} {ecc : Ecc} (h : Good q s) : Good q (State.overlayLoad s i ecc) := by
  unfold State.overlayLoad
  try dsimp only
  repeat' first
    | (with_reducible first | assumption | (refine Good.ite (fun _ => ?_) (fun _ => ?_)) | apply Good.overlayBegin
                            | apply Good.loadStep)
    | split

theorem Good.ovlSelect {v : Nat} (h : Good q s) : Good q (State.ovlSelect s v) := by
  unfold State.ovlSelect
  try dsimp only
  repeat' first
    | (with_reducible first | assumption | apply Good.iter | apply Good.setFld)
    | split | intro _

theorem Good.ovlCommit (h : Good q s) : Good q (State.ovlCommit s) := by
  unfold State.ovlCommit
  try dsimp only
  repeat' first
    | (with_reducible first | assumption | (refine Good.ite (fun _ => ?_) (fun _ => ?_)) | apply Good.raise
                            | apply Good.setFld | apply Good.setOvl)
    | split

end Sys2Proof.Machine
end

