-- ==== Sys2Proof/Laws/GoodFabric.lean ====
section
/-! SUPPORT. The operations of the scheduled fabric, device memory and the loader keep a state good. -/

namespace Sys2Proof.Machine

variable {q : List Instr} {s : State}

/-! ### Machine/Crossbar.lean -/

theorem Good.setTr {t : ArmedTr} (h : Good q s) : Good q (State.setTr s t) := by
  unfold State.setTr
  try dsimp only
  repeat' first
    | (with_reducible first | assumption | (refine Good.modFab ?_ (fun _ => rfl)))
    | split

theorem Good.dropTr {t : ArmedTr} (h : Good q s) : Good q (State.dropTr s t) := by
  unfold State.dropTr
  try dsimp only
  repeat' first
    | (with_reducible first | assumption | (refine Good.modFab ?_ (fun _ => rfl)))
    | split

theorem Good.doneUp {p slice tag : Nat} {lost : Bool} (h : Good q s) : Good q (State.doneUp s p slice tag lost) := by
  unfold State.doneUp
  try dsimp only
  repeat' first
    | (with_reducible first | assumption | (refine Good.ite (fun _ => ?_) (fun _ => ?_)) | apply Good.sendSymbol
                            | (refine Good.modFab ?_ (fun _ => rfl)))
    | split | intro _

theorem Good.settle {t : ArmedTr} (h : Good q s) : Good q (State.settle s t) := by
  unfold State.settle
  try dsimp only
  repeat' first
    | (with_reducible first | assumption | (refine Good.ite (fun _ => ?_) (fun _ => ?_)) | apply Good.dropTr
                            | apply Good.doneUp)
    | split | intro _

theorem Good.settleNum {n : Nat} (h : Good q s) : Good q (State.settleNum s n) := by
  unfold State.settleNum
  try dsimp only
  repeat' first
    | (with_reducible first | assumption | apply Good.settle)
    | split

theorem Good.dropFlit {p id : Nat} (h : Good q s) : Good q (State.dropFlit s p id) := by
  unfold State.dropFlit
  try dsimp only
  repeat' first
    | (with_reducible first | assumption | (refine Good.ite (fun _ => ?_) (fun _ => ?_)) | apply Good.poolFree
                            | apply Good.count)
    | split

theorem Good.badFlit {t : ArmedTr} {isB : Bool} {p id at0 : Nat} {f : RawFlit} (h : Good q s) : Good q (State.badFlit
    s t isB p id at0 f) := by
  unfold State.badFlit
  try dsimp only
  repeat' first
    | (with_reducible first | assumption | apply Good.settle | (refine Good.ite (fun _ => ?_) (fun _ => ?_))
                            | apply Good.doneUp | apply Good.setTr | apply Good.dropFlit)
    | split

theorem Good.failFlow {t : ArmedTr} {code unit : Nat} (h : Good q s) : Good q (State.failFlow s t code unit).1 := by
  unfold State.failFlow
  try dsimp only
  repeat' first
    | (with_reducible first | assumption | (refine Good.ite (fun _ => ?_) (fun _ => ?_)) | apply Good.setTr
                            | apply Good.count | apply Good.raise | apply Good.doneUp)
    | split | intro _

theorem Good.makeLate {p : Nat} {o : OutFlit} (h : Good q s) : Good q (State.makeLate s p o) := by
  unfold State.makeLate
  try dsimp only
  repeat' first
    | (with_reducible first | assumption | (refine Good.ite (fun _ => ?_) (fun _ => ?_)) | apply Good.modPort
                            | apply Good.count)
    | split | intro _

theorem Good.lateBy {o : OutFlit} (h : Good q s) : Good q (State.lateBy s o) := by
  unfold State.lateBy
  try dsimp only
  repeat' first
    | (with_reducible first | assumption | (refine Good.ite (fun _ => ?_) (fun _ => ?_)) | apply Good.count
                            | (refine Good.modFab ?_ (fun _ => rfl)))
    | split

theorem Good.contest {o : OutFlit} (h : Good q s) : Good q (State.contest s o) := by
  unfold State.contest
  try dsimp only
  repeat' first
    | (with_reducible first | assumption | (refine Good.ite (fun _ => ?_) (fun _ => ?_)) | apply Good.lateBy
                            | apply Good.raise | (refine Good.modFab ?_ (fun _ => rfl)))
    | split

theorem Good.queueOut {p : Nat} {o : OutFlit} (h : Good q s) : Good q (State.queueOut s p o) := by
  unfold State.queueOut
  try dsimp only
  repeat' first
    | (with_reducible first | assumption | (refine Good.ite (fun _ => ?_) (fun _ => ?_)) | apply Good.modPort
                            | apply Good.count | apply Good.makeLate | apply Good.contest | apply Good.lateBy)
    | split | intro _

theorem Good.countOther {f : RawFlit} {n : Nat} (h : Good q s) : Good q (State.countOther s f n) := by
  unfold State.countOther
  try dsimp only
  repeat' first
    | (with_reducible first | assumption | (refine Good.ite (fun _ => ?_) (fun _ => ?_))
                            | (refine Good.modFab ?_ (fun _ => rfl)))
    | split

theorem Good.forward {t : ArmedTr} {p id at0 : Nat} {f : RawFlit} (h : Good q s) : Good q (State.forward s t p id at0
    f) := by
  unfold State.forward
  try dsimp only
  repeat' first
    | (with_reducible first | assumption | apply Good.foldl | apply Good.countOther | apply Good.queueOut)
    | split | intro _

theorem Good.deliverBytes {tag a : Nat} {bs : List Byte} (h : Good q s) : Good q (State.deliverBytes s tag a bs) := by
  unfold State.deliverBytes
  try dsimp only
  repeat' first
    | (with_reducible first | assumption | (refine Good.ite (fun _ => ?_) (fun _ => ?_)) | apply Good.compWrite
                            | apply Good.deliver | apply Good.raise | apply Good.devPut)
    | split | intro _

theorem Good.deliverBlock {tag i n : Nat} {join : Bool} {u : Unpacked} (h : Good q s) : Good q (State.deliverBlock s
    tag i n join u) := by
  unfold State.deliverBlock
  try dsimp only
  repeat' first
    | (with_reducible first | assumption | (refine Good.ite (fun _ => ?_) (fun _ => ?_)) | apply Good.bankDown
                            | apply Good.addQuiet | apply Good.addBlock)
    | split | intro _

theorem Good.addReady {tag path : Nat} {join : Bool} {f : FlowSt} (h : Good q s) : Good q (State.addReady s tag path
    join f).1 := by
  unfold State.addReady
  try dsimp only
  repeat' first
    | (with_reducible first | assumption | (refine Good.ite (fun _ => ?_) (fun _ => ?_)) | apply Good.foldl
                            | apply Good.foldl_fst | apply Good.deliverBlock)
    | split | intro _

theorem Good.addMarks {tag path : Nat} {f : FlowSt} (h : Good q s) : Good q (State.addMarks s tag path f).1 := by
  unfold State.addMarks
  try dsimp only
  repeat' first
    | (with_reducible first | assumption | (refine Good.ite (fun _ => ?_) (fun _ => ?_)) | apply Good.iter
                            | apply Good.deliverBlock)
    | split | intro _

theorem Good.deliverReduce {t : ArmedTr} (h : Good q s) : Good q (State.deliverReduce s t).1 := by
  unfold State.deliverReduce
  try dsimp only
  repeat' first
    | (with_reducible first | assumption | (refine Good.ite (fun _ => ?_) (fun _ => ?_)) | apply Good.addReady)
    | split | intro _ | (refine Good.fst ‹_ = (_, _)› ?_)

theorem Good.deliverJoin {t : ArmedTr} (h : Good q s) : Good q (State.deliverJoin s t).1 := by
  unfold State.deliverJoin
  try dsimp only
  repeat' first
    | (with_reducible first | assumption | (refine Good.ite (fun _ => ?_) (fun _ => ?_)) | apply Good.addMarks
                            | apply Good.addReady)
    | split | intro _ | (refine Good.fst ‹_ = (_, _)› ?_)

theorem Good.completeLocal {t : ArmedTr} (h : Good q s) : Good q (State.completeLocal s t) := by
  unfold State.completeLocal
  try dsimp only
  repeat' first
    | (with_reducible first | assumption | apply Good.settle | apply Good.setTr | apply Good.trace | apply Good.acAdd)
    | split

theorem Good.deliverAcked {tag : Nat} (h : Good q s) : Good q (State.deliverAcked s tag) := by
  unfold State.deliverAcked
  try dsimp only
  repeat' first
    | (with_reducible first | assumption | (refine Good.ite (fun _ => ?_) (fun _ => ?_)) | apply Good.completeLocal)
    | split

theorem Good.finishLocal {t : ArmedTr} (h : Good q s) : Good q (State.finishLocal s t) := by
  unfold State.finishLocal
  try dsimp only
  repeat' first
    | (with_reducible first | assumption | (refine Good.ite (fun _ => ?_) (fun _ => ?_)) | apply Good.settle
                            | apply Good.setTr | apply Good.completeLocal)
    | split | intro _

theorem Good.fenceLocal {t : ArmedTr} (h : Good q s) : Good q (State.fenceLocal s t).1 := by
  unfold State.fenceLocal
  try dsimp only
  repeat' first
    | (with_reducible first | assumption | (refine Good.ite (fun _ => ?_) (fun _ => ?_)) | apply Good.count)
    | split | intro _

theorem Good.startLocal {t : ArmedTr} {path w : Nat} {void : Bool} (h : Good q s) : Good q (State.startLocal s t path
    w void).1 := by
  unfold State.startLocal
  try dsimp only
  repeat' first
    | (with_reducible first | assumption | (refine Good.ite (fun _ => ?_) (fun _ => ?_)) | apply Good.fenceLocal
                            | apply Good.count | apply Good.raise)
    | split | intro _ | (refine Good.fst ‹_ = (_, _)› ?_)

theorem Good.writeFlit {t : ArmedTr} {f : RawFlit} (h : Good q s) : Good q (State.writeFlit s t f) := by
  unfold State.writeFlit
  try dsimp only
  repeat' first
    | (with_reducible first | assumption | (refine Good.ite (fun _ => ?_) (fun _ => ?_)) | apply Good.deliverBytes)
    | split | intro _

theorem Good.joinOut {t : ArmedTr} {x : RawFlit} {form k at0 e : Nat} {last : Bool} {bs : List Byte} (h : Good q s) :
    Good q (State.joinOut s t x form k at0 e last bs).1 := by
  unfold State.joinOut
  try dsimp only
  repeat' first
    | (with_reducible first | assumption | apply Good.foldl | apply Good.queueOut)
    | split | intro _

theorem Good.joinStream {q : List Instr} {x : RawFlit} {nb : Nat} {ps : List Packed} {at0 n : Nat} {s : State}
    {t : ArmedTr} (h : Good q s) : Good q (State.joinStream s t x nb ps at0 n).1 := by
  induction n generalizing s t with
  | zero => exact h
  | succ n ih =>
    unfold State.joinStream
    split
    · exact h
    · split
      · exact h
      · exact ih (Good.joinOut h)

theorem Good.joinOverflow {t : ArmedTr} {x : RawFlit} {at0 : Nat} {bs : List Byte} (h : Good q s) : Good q
    (State.joinOverflow s t x at0 bs).1 := by
  unfold State.joinOverflow
  try dsimp only
  repeat' first
    | (with_reducible first | assumption | apply Good.count | apply Good.foldl_fst | apply Good.joinOut)
    | split | intro _

theorem Good.joinFaults {t : ArmedTr} {nb : Nat} (h : Good q s) : Good q (State.joinFaults s t nb) := by
  unfold State.joinFaults
  try dsimp only
  repeat' first
    | (with_reducible first | assumption | apply Good.iter | apply Good.raise)
    | split | intro _

theorem Good.joinEnd {t : ArmedTr} (h : Good q s) : Good q (State.joinEnd s t) := by
  unfold State.joinEnd
  try dsimp only
  repeat' first
    | (with_reducible first | assumption | apply Good.finishLocal | apply Good.setTr | apply Good.count)
    | split

theorem Good.joinStep {t : ArmedTr} {at0 : Nat} (h : Good q s) : Good q (State.joinStep s t at0) := by
  unfold State.joinStep
  try dsimp only
  repeat' first
    | (with_reducible first | assumption | (refine Good.ite (fun _ => ?_) (fun _ => ?_)) | apply Good.joinEnd
                            | apply Good.raise | apply Good.joinFaults | apply Good.iter | apply Good.setTr
                            | apply Good.joinStream | apply Good.raiseHold | apply Good.joinOut
                            | apply Good.joinOverflow)
    | split | intro _

theorem Good.poolTake {p id n : Nat} (h : Good q s) : Good q (State.poolTake s p id n) := by
  unfold State.poolTake
  try dsimp only
  repeat' first
    | (with_reducible first | assumption | (refine Good.ite (fun _ => ?_) (fun _ => ?_)) | apply Good.poolFree
                            | apply Good.modPort)
    | split

theorem Good.plainFlit {t : ArmedTr} {p id at0 : Nat} {f : RawFlit} (h : Good q s) : Good q (State.plainFlit s t p id
    at0 f) := by
  unfold State.plainFlit
  try dsimp only
  repeat' first
    | (with_reducible first | assumption | (refine Good.ite (fun _ => ?_) (fun _ => ?_)) | apply Good.startLocal
                            | apply Good.fenceLocal | apply Good.poolTake | apply Good.forward
                            | apply Good.writeFlit | apply Good.deliverReduce | apply Good.setTr
                            | apply Good.finishLocal)
    | split | intro _ | (refine Good.fst ‹_ = (_, _)› ?_)

theorem Good.joinFlit {t : ArmedTr} {isB : Bool} {p id at0 : Nat} {f : RawFlit} (h : Good q s) : Good q
    (State.joinFlit s t isB p id at0 f) := by
  unfold State.joinFlit
  try dsimp only
  repeat' first
    | (with_reducible first | assumption | (refine Good.ite (fun _ => ?_) (fun _ => ?_)) | apply Good.poolTake
                            | apply Good.failFlow | apply Good.settle | apply Good.setTr | apply Good.fenceLocal
                            | apply Good.startLocal | apply Good.deliverJoin | apply Good.joinStep)
    | split | intro _ | (refine Good.fst ‹_ = (_, _)› ?_)

theorem Good.takeBy {t : ArmedTr} {isB : Bool} {p id at0 : Nat} {f : RawFlit} (h : Good q s) : Good q (State.takeBy s
    t isB p id at0 f) := by
  unfold State.takeBy
  try dsimp only
  repeat' first
    | (with_reducible first | assumption | (refine Good.ite (fun _ => ?_) (fun _ => ?_)) | apply Good.badFlit
                            | apply Good.failFlow | apply Good.joinFlit | apply Good.plainFlit)
    | split | intro _ | (refine Good.fst ‹_ = (_, _)› ?_)

theorem Good.takeFlit {p id at0 : Nat} {f : RawFlit} (h : Good q s) : ∀ t, State.takeFlit s p id at0 f = some t → Good
    q t := by
  refine fun t => ?_
  unfold State.takeFlit
  try dsimp only
  repeat' first
    | (with_reducible first | assumption | apply Good.takeBy | apply Good.dropFlit | apply Good.someI
                            | exact Good.noneI)
    | split

theorem Good.examine {q : List Instr} {s : State} {p : Nat} (h : Good q s) : Good q (State.examine s p) := by
  unfold State.examine
  split
  · refine Good.foldl h fun u e hu => Good.ite (fun _ => Good.getD hu fun t ht => Good.takeFlit hu t ht) fun _ => hu
  · refine Good.foldl (Good.modFab h fun _ => rfl) fun u e hu => ?_
    split
    · exact Good.takeFlit hu _ ‹_›
    · exact Good.modFab hu fun _ => rfl

theorem Good.receiveS {q : List Instr} {s : State} {p : Nat} (h : Good q s) : Good q (State.receiveS s p) := by
  unfold State.receiveS
  split
  · rename_i t ht
    obtain ⟨e, -, he⟩ := List.exists_of_findSome?_eq_some ht
    split at he
    · exact Good.takeFlit h t he
    · exact Good.noneI he
  · exact h

theorem Good.dropEscape {o : Orphan} (h : Good q s) : Good q (State.dropEscape s o) := by
  unfold State.dropEscape
  try dsimp only
  repeat' first
    | (with_reducible first | assumption | (refine Good.ite (fun _ => ?_) (fun _ => ?_))
                            | (refine Good.modFab ?_ (fun _ => rfl)) | apply Good.doneUp)
    | split | intro _

theorem Good.dropLate {p id : Nat} {f : RawFlit} (h : Good q s) : Good q (State.dropLate s p id f) := by
  unfold State.dropLate
  try dsimp only
  repeat' first
    | (with_reducible first | assumption | (refine Good.ite (fun _ => ?_) (fun _ => ?_)) | apply Good.dropFlit
                            | apply Good.raise | apply Good.dropEscape | apply Good.doneUp
                            | (refine Good.modFab ?_ (fun _ => rfl)))
    | split | intro _

theorem Good.dropUntaken {p : Nat} (h : Good q s) : Good q (State.dropUntaken s p) := by
  unfold State.dropUntaken
  try dsimp only
  repeat' first
    | (with_reducible first | assumption | (refine Good.ite (fun _ => ?_) (fun _ => ?_)) | apply Good.foldl
                            | apply Good.foldl_fst | apply Good.dropLate | (refine Good.modFab ?_ (fun _ => rfl)))
    | split | intro _

theorem Good.doneHear {p : Nat} (h : Good q s) : Good q (State.doneHear s p) := by
  unfold State.doneHear
  try dsimp only
  repeat' first
    | (with_reducible first | assumption | (refine Good.ite (fun _ => ?_) (fun _ => ?_)) | apply Good.setTr
                            | apply Good.settle | (refine Good.modFab ?_ (fun _ => rfl)))
    | (refine Good.popSymbol ?_ _ _ ‹State.popSymbol _ _ _ = some _›) | split | intro _

theorem Good.freeUnit {tag : Nat} (h : Good q s) : Good q (State.freeUnit s tag) := by
  unfold State.freeUnit
  try dsimp only
  repeat' first
    | (with_reducible first | assumption | (refine Good.ite (fun _ => ?_) (fun _ => ?_)) | apply Good.settle
                            | apply Good.setTr)
    | split

/-! ### Machine/Depart.lean -/

theorem Good.dxPoison {e d : Nat} (h : Good q s) : Good q (State.dxPoison s e d) := by
  unfold State.dxPoison
  try dsimp only
  repeat' first
    | (with_reducible first | assumption | (refine Good.ite (fun _ => ?_) (fun _ => ?_)) | apply Good.setFld
                            | apply Good.raiseStop)
    | split | intro _

theorem Good.dxQueue {e i en : Nat} (h : Good q s) : Good q (State.dxQueue s e i en) := by
  unfold State.dxQueue
  try dsimp only
  repeat' first
    | (with_reducible first | assumption | apply Good.setDx)
    | split

theorem Good.dxWindow {e i w : Nat} {ecc : Ecc} (h : Good q s) : Good q (State.dxWindow s e i w ecc) := by
  unfold State.dxWindow
  try dsimp only
  repeat' first
    | (with_reducible first | assumption | (refine Good.ite (fun _ => ?_) (fun _ => ?_)) | apply Good.memGet
                            | apply Good.dxQueue | apply Good.dxPoison)
    | split | intro _ | (refine Good.fst ‹_ = (_, _)› ?_)

theorem Good.dxRead {e : Nat} {ecc : Ecc} (h : Good q s) : Good q (State.dxRead s e ecc) := by
  unfold State.dxRead
  try dsimp only
  repeat' first
    | (with_reducible first | assumption | (refine Good.ite (fun _ => ?_) (fun _ => ?_)) | apply Good.setFld
                            | apply Good.memGet | apply Good.memPut | apply Good.dxWindow | apply Good.dxPoison)
    | split | intro _ | (refine Good.fst ‹_ = (_, _)› ?_)

theorem Good.dxStart {e : Nat} (h : Good q s) : Good q (State.dxStart s e) := by
  unfold State.dxStart
  try dsimp only
  repeat' first
    | (with_reducible first | assumption | apply Good.setFld | apply Good.setDx)
    | split

theorem Good.dispatchCtl {v : Nat} (h : Good q s) : Good q (State.dispatchCtl s v) := by
  unfold State.dispatchCtl
  try dsimp only
  repeat' first
    | (with_reducible first | assumption | apply Good.setFld | apply Good.iter
                            | (refine Good.ite (fun _ => ?_) (fun _ => ?_)) | apply Good.raise | apply Good.dxStart)
    | split | intro _

theorem Good.dxPop {e : Nat} (h : Good q s) : Good q (State.dxPop s e) := by
  unfold State.dxPop
  try dsimp only
  repeat' first
    | (with_reducible first | assumption | apply Good.setDx)
    | split

theorem Good.dxRefuse {e en : Nat} (h : Good q s) : Good q (State.dxRefuse s e en) := by
  unfold State.dxRefuse
  try dsimp only
  repeat' first
    | (with_reducible first | assumption | apply Good.raise | apply Good.setFld)
    | split

theorem Good.takeMark {e kind : Nat} (h : Good q s) : ∀ y t, State.takeMark s e kind = some (y, t) → Good q t := by
  refine fun y t => ?_
  unfold State.takeMark
  try dsimp only
  repeat' first
    | (with_reducible first | assumption | apply Good.dxPop | apply Good.dxRefuse | exact Good.noneI
                            | apply Good.someI2)
    | split

theorem Good.markFrame {e : Nat} (h : Good q s) : Good q (State.markFrame s e) := by
  unfold State.markFrame
  try dsimp only
  repeat' first
    | (with_reducible first | assumption | (refine Good.ite (fun _ => ?_) (fun _ => ?_)) | apply Good.setDx)
    | (refine Good.takeMark ?_ _ _ ‹State.takeMark _ _ _ = some _›) | split

theorem Good.jumpTo {e target : Nat} (h : Good q s) : Good q (State.jumpTo s e target) := by
  unfold State.jumpTo
  try dsimp only
  repeat' first
    | (with_reducible first | assumption | apply Good.setFld | apply Good.setDx)
    | split

theorem Good.markJump {e : Nat} (h : Good q s) : Good q (State.markJump s e) := by
  unfold State.markJump
  try dsimp only
  repeat' first
    | (with_reducible first | assumption | (refine Good.ite (fun _ => ?_) (fun _ => ?_)) | apply Good.jumpTo
                            | apply Good.setDx)
    | (refine Good.takeMark ?_ _ _ ‹State.takeMark _ _ _ = some _›) | split

theorem Good.markEnd {e : Nat} (h : Good q s) : Good q (State.markEnd s e) := by
  unfold State.markEnd
  try dsimp only
  repeat' first
    | (with_reducible first | assumption | (refine Good.ite (fun _ => ?_) (fun _ => ?_)) | apply Good.setFld
                            | apply Good.setDx)
    | (refine Good.takeMark ?_ _ _ ‹State.takeMark _ _ _ = some _›) | split

theorem Good.armDeparture {e idx en sf due : Nat} (h : Good q s) : Good q (State.armDeparture s e idx en sf due) := by
  unfold State.armDeparture
  try dsimp only
  repeat' first
    | (with_reducible first | assumption | (refine Good.ite (fun _ => ?_) (fun _ => ?_))
                            | (refine Good.modFab ?_ (fun _ => rfl)) | apply Good.fetch | apply Good.source)
    | split | intro _ | (refine Good.fst ‹_ = (_, _)› ?_)

theorem Good.armTransit {e en due : Nat} (h : Good q s) : Good q (State.armTransit s e en due) := by
  unfold State.armTransit
  try dsimp only
  repeat' first
    | (with_reducible first | assumption | (refine Good.ite (fun _ => ?_) (fun _ => ?_)) | apply Good.raise
                            | apply Good.examine | apply Good.setIf | (refine Good.modFab ?_ (fun _ => rfl)))
    | split

theorem Good.takeOff {x : DxEntry} (h : Good q s) : Good q (State.takeOff s x) := by
  unfold State.takeOff
  try dsimp only
  repeat' first
    | (with_reducible first | assumption | (refine Good.ite (fun _ => ?_) (fun _ => ?_)) | apply Good.setDx
                            | apply Good.raise)
    | split | intro _

theorem Good.armEntry {x : DxEntry} (h : Good q s) : Good q (State.armEntry s x) := by
  unfold State.armEntry
  try dsimp only
  repeat' first
    | (with_reducible first | assumption | (refine Good.ite (fun _ => ?_) (fun _ => ?_)) | apply Good.dxRefuse
                            | apply Good.armTransit | apply Good.armDeparture)
    | split | intro _

theorem Good.armTick (h : Good q s) : Good q (State.armTick s) := by
  unfold State.armTick
  try dsimp only
  repeat' first
    | (with_reducible first | assumption | (refine Good.ite (fun _ => ?_) (fun _ => ?_)) | apply Good.foldl
                            | apply Good.foldl_fst | apply Good.takeOff | apply Good.armEntry)
    | split | intro _

theorem Good.entryArm {e : Nat} (h : Good q s) : Good q (State.entryArm s e) := by
  unfold State.entryArm
  try dsimp only
  repeat' first
    | (with_reducible first | assumption | (refine Good.ite (fun _ => ?_) (fun _ => ?_)) | apply Good.setDx
                            | apply Good.dxPop | apply Good.dxRefuse | apply Good.toTick | apply Good.armTick)
    | split | intro _

theorem Good.source {d : ArmedDep} {ecc : Ecc} (h : Good q s) : Good q (State.source s d ecc).1 := by
  unfold State.source
  try dsimp only
  repeat' first
    | (with_reducible first | assumption | (refine Good.ite (fun _ => ?_) (fun _ => ?_)) | apply Good.fetch)
    | split | intro _ | (refine Good.fst ‹_ = (_, _)› ?_)

theorem Good.checkHold {p : Nat} (h : Good q s) : Good q (State.checkHold s p) := by
  unfold State.checkHold
  try dsimp only
  repeat' first
    | (with_reducible first | assumption | (refine Good.ite (fun _ => ?_) (fun _ => ?_)) | apply Good.foldl
                            | apply Good.foldl_fst | apply Good.modTime | apply Good.raise | apply Good.raiseHold)
    | split | intro _

theorem Good.checkHolds (h : Good q s) : Good q (State.checkHolds s) := by
  unfold State.checkHolds
  try dsimp only
  repeat' first
    | (with_reducible first | assumption | (refine Good.ite (fun _ => ?_) (fun _ => ?_)) | apply Good.iter
                            | apply Good.checkHold)
    | split | intro _

theorem Good.slipDecision (h : Good q s) : Good q (State.slipDecision s) := by
  unfold State.slipDecision
  try dsimp only
  repeat' first
    | (with_reducible first | assumption | (refine Good.ite (fun _ => ?_) (fun _ => ?_)) | apply Good.toTick
                            | apply Good.checkHolds | apply Good.takeDecision)
    | split | intro _

theorem Good.setDep {d : ArmedDep} (h : Good q s) : Good q (State.setDep s d) := by
  unfold State.setDep
  try dsimp only
  repeat' first
    | (with_reducible first | assumption | (refine Good.modFab ?_ (fun _ => rfl)))
    | split

theorem Good.flightStart {d : ArmedDep} {own : Bool} (h : Good q s) : Good q (State.flightStart s d own) := by
  unfold State.flightStart
  try dsimp only
  repeat' first
    | (with_reducible first | assumption | apply Good.setIf | (refine Good.modFab ?_ (fun _ => rfl)))
    | split

theorem Good.launch {d : ArmedDep} {ps : List Piece} {late : Bool} (h : Good q s) : Good q (State.launch s d ps late)
    := by
  unfold State.launch
  try dsimp only
  repeat' first
    | (with_reducible first | assumption | (refine Good.ite (fun _ => ?_) (fun _ => ?_)) | apply Good.foldl
                            | apply Good.foldl_fst | apply Good.setDep | apply Good.flightStart | apply Good.trace
                            | (refine Good.modFab ?_ (fun _ => rfl)) | apply Good.queueOut)
    | (refine Good.takeFlit ?_ _ ‹State.takeFlit _ _ _ _ _ = some _›) | split | intro _

theorem Good.depSend {d : ArmedDep} {bs : List Byte} {late : Bool} (h : Good q s) : Good q (State.depSend s d bs late)
    := by
  unfold State.depSend
  try dsimp only
  repeat' first
    | (with_reducible first | assumption | (refine Good.ite (fun _ => ?_) (fun _ => ?_)) | apply Good.launch
                            | apply Good.raiseHold | apply Good.setDep)
    | split

theorem Good.depTry {d : ArmedDep} {ecc : Ecc} {late : Bool} (h : Good q s) : Good q (State.depTry s d ecc late).1 :=
    by
  unfold State.depTry
  try dsimp only
  repeat' first
    | (with_reducible first | assumption | (refine Good.ite (fun _ => ?_) (fun _ => ?_)) | apply Good.treeDone
                            | apply Good.depSend | apply Good.source | apply Good.dropDep | apply Good.raiseStop)
    | split | intro _ | (refine Good.fst ‹_ = (_, _)› ?_)

theorem Good.departureDue {e tag : Nat} {ecc : Ecc} (h : Good q s) : Good q (State.departureDue s e tag ecc) := by
  unfold State.departureDue
  try dsimp only
  repeat' first
    | (with_reducible first | assumption | (refine Good.ite (fun _ => ?_) (fun _ => ?_)) | apply Good.toTick
                            | apply Good.dropDep | apply Good.setDep | apply Good.count | apply Good.depTry
                            | apply Good.checkHolds)
    | split | intro _ | (refine Good.fst ‹_ = (_, _)› ?_)

theorem Good.lateDeparture {p : Nat} (h : Good q s) : Good q (State.lateDeparture s p) := by
  unfold State.lateDeparture
  try dsimp only
  repeat' first
    | (with_reducible first | assumption | (refine Good.ite (fun _ => ?_) (fun _ => ?_)) | apply Good.foldl
                            | apply Good.foldl_fst | apply Good.depTry | apply Good.checkHolds)
    | split | intro _ | (refine Good.fst ‹_ = (_, _)› ?_)

theorem Good.overflowSend {tag : Nat} (h : Good q s) : Good q (State.overflowSend s tag) := by
  unfold State.overflowSend
  try dsimp only
  repeat' first
    | (with_reducible first | assumption | (refine Good.ite (fun _ => ?_) (fun _ => ?_)) | apply Good.launch
                            | apply Good.checkHolds)
    | split | intro _

theorem Good.deferRecs {ovf : List (List Byte)} (h : Good q s) : Good q (State.deferRecs s ovf) := by
  unfold State.deferRecs
  try dsimp only
  repeat' first
    | (with_reducible first | assumption | (refine Good.ite (fun _ => ?_) (fun _ => ?_)) | apply Good.count
                            | (refine Good.modFab ?_ (fun _ => rfl)) | apply Good.stageWrite | apply Good.raise)
    | split

theorem Good.bundleClose (h : Good q s) : Good q (State.bundleClose s) := by
  unfold State.bundleClose
  try dsimp only
  repeat' first
    | (with_reducible first | assumption | (refine Good.ite (fun _ => ?_) (fun _ => ?_)) | apply Good.setFill
                            | (refine Good.modFab ?_ (fun _ => rfl)) | apply Good.deferRecs)
    | split

theorem Good.bundleBoundary (h : Good q s) : Good q (State.bundleBoundary s) := by
  unfold State.bundleBoundary
  try dsimp only
  repeat' first
    | (with_reducible first | assumption | (refine Good.ite (fun _ => ?_) (fun _ => ?_))
                            | (refine Good.modFab ?_ (fun _ => rfl)) | apply Good.foldl | apply Good.setReg
                            | apply Good.raise | apply Good.setFld | apply Good.stageWrite | apply Good.setFill)
    | split | intro _

theorem Good.bundleWrite {a mask v : Nat} (h : Good q s) : Good q (State.bundleWrite s a mask v) := by
  unfold State.bundleWrite
  try dsimp only
  repeat' first
    | (with_reducible first | assumption | (refine Good.ite (fun _ => ?_) (fun _ => ?_)) | apply Good.raise
                            | apply Good.setReg)
    | split

theorem Good.pathSelect {v : Nat} (h : Good q s) : Good q (State.pathSelect s v) := by
  unfold State.pathSelect
  try dsimp only
  repeat' first
    | (with_reducible first | assumption | apply Good.iter | apply Good.setFld)
    | split | intro _

theorem Good.setPath {i e : Nat} (h : Good q s) : Good q (State.setPath s i e) := by
  unfold State.setPath
  try dsimp only
  repeat' first
    | (with_reducible first | assumption | (refine Good.modFab ?_ (fun _ => rfl)))
    | split

theorem Good.pathRefuse {aux : Nat} (h : Good q s) : Good q (State.pathRefuse s aux) := by
  unfold State.pathRefuse
  try dsimp only
  repeat' first
    | (with_reducible first | assumption | apply Good.raise | apply Good.setFld)
    | split

theorem Good.pathCommit (h : Good q s) : Good q (State.pathCommit s) := by
  unfold State.pathCommit
  try dsimp only
  repeat' first
    | (with_reducible first | assumption | (refine Good.ite (fun _ => ?_) (fun _ => ?_)) | apply Good.pathRefuse
                            | apply Good.setPath)
    | split

theorem Good.pathBulk (h : Good q s) : Good q (State.pathBulk s) := by
  unfold State.pathBulk
  try dsimp only
  repeat' first
    | (with_reducible first | assumption | (refine Good.ite (fun _ => ?_) (fun _ => ?_)) | apply Good.pathRefuse
                            | apply Good.setFld | (refine Good.modFab ?_ (fun _ => rfl)))
    | split

theorem Good.pathLoadDone {fail : Option Nat} {companion : List Byte} (h : Good q s) : Good q (State.pathLoadDone s
    fail companion) := by
  unfold State.pathLoadDone
  try dsimp only
  repeat' first
    | (with_reducible first | assumption | (refine Good.ite (fun _ => ?_) (fun _ => ?_)) | apply Good.foldl
                            | apply Good.foldl_fst | apply Good.devGet | apply Good.setPath
                            | (refine Good.modFab ?_ (fun _ => rfl)) | apply Good.setFld | apply Good.pathRefuse
                            | apply Good.xPump)
    | split | intro _ | (refine Good.fst ‹_ = (_, _)› ?_)

theorem Good.sLeft {o : OutFlit} (h : Good q s) : Good q (State.sLeft s o) := by
  unfold State.sLeft
  try dsimp only
  repeat' first
    | (with_reducible first | assumption | (refine Good.ite (fun _ => ?_) (fun _ => ?_)) | apply Good.freeUnit
                            | apply Good.depDone)
    | split

theorem Good.lineFree {p : Nat} (h : Good q s) : Good q (State.lineFree s p) := by
  unfold State.lineFree
  try dsimp only
  repeat' first
    | (with_reducible first | assumption | (refine Good.ite (fun _ => ?_) (fun _ => ?_)) | apply Good.initSend
                            | apply Good.probeRetry | apply Good.transmit | apply Good.sLeft | apply Good.checkHold
                            | apply Good.markLate)
    | split | intro _ | (refine Good.fst ‹_ = (_, _)› ?_)

/-! ### Machine/AgentMem.lean -/

theorem Good.ownRefuse {agent : Nat} (h : Good q s) : Good q (State.ownRefuse s agent) := by
  unfold State.ownRefuse
  try dsimp only
  repeat' first
    | (with_reducible first | assumption | (refine Good.ite (fun _ => ?_) (fun _ => ?_)) | apply Good.count
                            | apply Good.raise | apply Good.modLatch)
    | split

theorem Good.refuseAt {a : Nat} (h : Good q s) : Good q (State.refuseAt s a) := by
  unfold State.refuseAt
  try dsimp only
  repeat' first
    | (with_reducible first | assumption | (refine Good.ite (fun _ => ?_) (fun _ => ?_)) | apply Good.raise)
    | split | intro _

theorem Good.goAway {a n : Nat} {data : List Byte} {write : Bool} {whom : AwayTo} (h : Good q s) : Good q
    (State.goAway s a n data write whom).1 := by
  unfold State.goAway
  try dsimp only
  repeat' first
    | (with_reducible first | assumption | (refine Good.ite (fun _ => ?_) (fun _ => ?_)) | apply Good.raise
                            | (refine Good.modWiora ?_ (fun _ => rfl)) | apply Good.wRequest)
    | split | intro _

theorem Good.agentRead {agent a n : Nat} {ecc : Ecc} {whom : AwayTo} (h : Good q s) : Good q (State.agentRead s agent
    a n ecc whom).1 := by
  unfold State.agentRead
  try dsimp only
  repeat' first
    | (with_reducible first | assumption | (refine Good.ite (fun _ => ?_) (fun _ => ?_)) | apply Good.refuseAt
                            | apply Good.goAway | apply Good.devGet)
    | split | intro _ | (refine Good.fst ‹_ = (_, _)› ?_)

theorem Good.agentWrite {agent a : Nat} {bs : List Byte} {whom : AwayTo} (h : Good q s) : Good q (State.agentWrite s
    agent a bs whom).1 := by
  unfold State.agentWrite
  try dsimp only
  repeat' first
    | (with_reducible first | assumption | (refine Good.ite (fun _ => ?_) (fun _ => ?_)) | apply Good.refuseAt
                            | apply Good.ownRefuse | apply Good.goAway | apply Good.raise | apply Good.devPut)
    | split | intro _ | (refine Good.fst ‹_ = (_, _)› ?_)

theorem Good.memAccess {agent a : Nat} {req : MemOp} {ecc : Ecc} {whom : AwayTo} (h : Good q s) : Good q
    (State.memAccess s agent a req ecc whom) := by
  unfold State.memAccess
  try dsimp only
  repeat' first
    | (with_reducible first | assumption | (refine Good.ite (fun _ => ?_) (fun _ => ?_)) | apply Good.answer
                            | apply Good.agentRead | apply Good.agentWrite)
    | split | (refine Good.fst ‹_ = (_, _)› ?_)

theorem Good.refreshBegin {d : Nat} (h : Good q s) : Good q (State.refreshBegin s d) := by
  unfold State.refreshBegin
  try dsimp only
  repeat' first
    | (with_reducible first | assumption | apply Good.modLoad | apply Good.pass)
    | split

theorem Good.memScrub {d : Nat} {ecc : Ecc} (h : Good q s) : Good q (State.memScrub s d ecc) := by
  unfold State.memScrub
  try dsimp only
  repeat' first
    | (with_reducible first | assumption | (refine Good.ite (fun _ => ?_) (fun _ => ?_)) | apply Good.toTick
                            | apply Good.modLoad | apply Good.memGet)
    | split | intro _ | (refine Good.fst ‹_ = (_, _)› ?_)

theorem Good.depotPart {v : Nat} (h : Good q s) : Good q (State.depotPart s v) := by
  unfold State.depotPart
  try dsimp only
  repeat' first
    | (with_reducible first | assumption | (refine Good.ite (fun _ => ?_) (fun _ => ?_)) | apply Good.raise
                            | apply Good.setFld | apply Good.setReg)
    | split

theorem Good.stageTail {v : Nat} (h : Good q s) : Good q (State.stageTail s v) := by
  unfold State.stageTail
  try dsimp only
  repeat' first
    | (with_reducible first | assumption | (refine Good.ite (fun _ => ?_) (fun _ => ?_)) | apply Good.setFld
                            | apply Good.raise)
    | split

theorem Good.stageRing {v : Nat} (h : Good q s) : Good q (State.stageRing s v) := by
  unfold State.stageRing
  try dsimp only
  repeat' first
    | (with_reducible first | assumption | (refine Good.ite (fun _ => ?_) (fun _ => ?_)) | apply Good.setFld)
    | split | intro _

theorem Good.stageNext (h : Good q s) : Good q (State.stageNext s) := by
  unfold State.stageNext
  try dsimp only
  repeat' first
    | (with_reducible first | assumption | apply Good.setFld | apply Good.modLoad)
    | split

theorem Good.stageRefuse {code tag aux : Nat} (h : Good q s) : Good q (State.stageRefuse s code tag aux) := by
  unfold State.stageRefuse
  try dsimp only
  repeat' first
    | (with_reducible first | assumption | (refine Good.ite (fun _ => ?_) (fun _ => ?_)) | apply Good.setFld
                            | apply Good.raise | apply Good.stageNext)
    | split | intro _

theorem Good.stageStart {ecc : Ecc} (h : Good q s) : Good q (State.stageStart s ecc) := by
  unfold State.stageStart
  try dsimp only
  repeat' first
    | (with_reducible first | assumption | (refine Good.ite (fun _ => ?_) (fun _ => ?_)) | apply Good.fetch
                            | apply Good.stageRing | apply Good.toTick | apply Good.setFld | apply Good.stageRefuse
                            | apply Good.modLoad)
    | split | intro _ | (refine Good.fst ‹_ = (_, _)› ?_)

theorem Good.stageDone {ecc : Ecc} (h : Good q s) : Good q (State.stageDone s ecc) := by
  unfold State.stageDone
  try dsimp only
  repeat' first
    | (with_reducible first | assumption | (refine Good.ite (fun _ => ?_) (fun _ => ?_)) | apply Good.foldl
                            | apply Good.foldl_fst | apply Good.iter | apply Good.waitRefresh | apply Good.memEcc
                            | apply Good.memPut | apply Good.setPoison | apply Good.eccLast | apply Good.raise
                            | apply Good.acAdd | apply Good.stageNext)
    | split | intro _

/-! ### Machine/XReceive.lean -/

theorem Good.xResend {o : XOut} (h : Good q s) : Good q (State.xResend s o) := by
  unfold State.xResend
  try dsimp only
  repeat' first
    | (with_reducible first | assumption | apply Good.modPort)
    | split

theorem Good.xEcho {c : Nat} {echo : Bool} (h : Good q s) : Good q (State.xEcho s c echo) := by
  unfold State.xEcho
  try dsimp only
  repeat' first
    | (with_reducible first | assumption | (refine Good.ite (fun _ => ?_) (fun _ => ?_)) | apply Good.setXwin)
    | split

theorem Good.xAckSend {c port : Nat} (h : Good q s) : Good q (State.xAckSend s c port) := by
  unfold State.xAckSend
  try dsimp only
  repeat' first
    | (with_reducible first | assumption | apply Good.modPort | apply Good.setXin | apply Good.draw)
    | split

theorem Good.xAcked {c a : Nat} {alone : Bool} (h : Good q s) : Good q (State.xAcked s c a alone) := by
  unfold State.xAcked
  try dsimp only
  repeat' first
    | (with_reducible first | assumption | (refine Good.ite (fun _ => ?_) (fun _ => ?_)) | apply Good.foldl
                            | apply Good.foldl_fst | apply Good.setXwin | apply Good.modX | apply Good.xResend)
    | split | intro _

theorem Good.xRespond {c port : Nat} {req : XPacket} {op status : Nat} {data : List Byte} (h : Good q s) : Good q
    (State.xRespond s c port req op status data) := by
  unfold State.xRespond
  try dsimp only
  repeat' first
    | (with_reducible first | assumption | apply Good.xStart | apply Good.modX | apply Good.draw | apply Good.setXwin)
    | split

theorem Good.xAnswer {c port : Nat} {req : XPacket} {r : AccRes} (h : Good q s) : Good q (State.xAnswer s c port req
    r) := by
  unfold State.xAnswer
  try dsimp only
  repeat' first
    | (with_reducible first | assumption | apply Good.xRespond)
    | split

theorem Good.takeRec {r : FaultRec} (h : Good q s) : Good q (State.takeRec s r) := by
  unfold State.takeRec
  try dsimp only
  repeat' first
    | (with_reducible first | assumption | (refine Good.ite (fun _ => ?_) (fun _ => ?_)) | apply Good.sendUp
                            | apply Good.raiseIbi | apply Good.noteStop | apply Good.logRec)
    | split

theorem Good.xMessage {k : XPacket} (h : Good q s) : Good q (State.xMessage s k) := by
  unfold State.xMessage
  try dsimp only
  repeat' first
    | (with_reducible first | assumption | (refine Good.ite (fun _ => ?_) (fun _ => ?_)) | apply Good.foldl
                            | apply Good.takeRec | apply Good.modX)
    | split | intro _

theorem Good.xPerform {c port : Nat} {k : XPacket} {ecc : Ecc} (h : Good q s) : Good q (State.xPerform s c port k ecc)
    := by
  unfold State.xPerform
  try dsimp only
  repeat' first
    | (with_reducible first | assumption | (refine Good.ite (fun _ => ?_) (fun _ => ?_)) | apply Good.agentRead
                            | apply Good.xAnswer | apply Good.agentWrite | apply Good.xRespond | apply Good.xMessage)
    | split | (refine Good.fst ‹_ = (_, _)› ?_)

theorem Good.xTokened {c port : Nat} {k : XPacket} {ecc : Ecc} (h : Good q s) : Good q (State.xTokened s c port k ecc)
    := by
  unfold State.xTokened
  try dsimp only
  repeat' first
    | (with_reducible first | assumption | apply Good.xPerform | (refine Good.ite (fun _ => ?_) (fun _ => ?_))
                            | apply Good.xRespond | apply Good.modX)
    | split

theorem Good.xComplete {c : Nat} {k : XPacket} (h : Good q s) : Good q (State.xComplete s c k) := by
  unfold State.xComplete
  try dsimp only
  repeat' first
    | (with_reducible first | assumption | (refine Good.ite (fun _ => ?_) (fun _ => ?_)) | apply Good.modX
                            | apply Good.setXwin | apply Good.xStart | apply Good.loadHear)
    | split | intro _

theorem Good.xTake {c port : Nat} {k : XPacket} {ecc : Ecc} (h : Good q s) : Good q (State.xTake s c port k ecc) := by
  unfold State.xTake
  try dsimp only
  repeat' first
    | (with_reducible first | assumption | (refine Good.ite (fun _ => ?_) (fun _ => ?_)) | apply Good.xResend
                            | apply Good.xComplete | apply Good.setXin | apply Good.xTokened | apply Good.xPerform
                            | apply Good.xAckSend
                            | apply Good.count)
    | split

theorem Good.xHeader {c : Nat} {f : RawFlit} (h : Good q s) : Good q (State.xHeader s c f) := by
  unfold State.xHeader
  try dsimp only
  repeat' first
    | (with_reducible first | assumption | (refine Good.ite (fun _ => ?_) (fun _ => ?_)) | apply Good.xEcho
                            | apply Good.xAcked)
    | split | intro _

theorem Good.xLearn {c : Nat} {k : XPacket} (h : Good q s) : Good q (State.xLearn s c k) := by
  unfold State.xLearn
  try dsimp only
  repeat' first
    | (with_reducible first | assumption | (refine Good.ite (fun _ => ?_) (fun _ => ?_)) | apply Good.setXwin
                            | apply Good.modX)
    | split | intro _

theorem Good.xForward {p : Nat} {e : PoolFlit} (h : Good q s) : Good q (State.xForward s p e) := by
  unfold State.xForward
  try dsimp only
  repeat' first
    | (with_reducible first | assumption | apply Good.modPort | apply Good.countOther | apply Good.poolTake
                            | (refine Good.ite (fun _ => ?_) (fun _ => ?_)) | apply Good.count)
    | split

theorem Good.xDeliver {p : Nat} {es : List PoolFlit} {ecc : Ecc} (h : Good q s) : Good q (State.xDeliver s p es ecc)
    := by
  unfold State.xDeliver
  try dsimp only
  repeat' first
    | (with_reducible first | assumption | (refine Good.ite (fun _ => ?_) (fun _ => ?_)) | apply Good.foldl
                            | apply Good.foldl_fst | apply Good.poolFree | apply Good.xLearn | apply Good.setXin
                            | apply Good.xHeader | apply Good.xTake | apply Good.xPump)
    | split | intro _

theorem Good.xStep {q : List Instr} {s : State} {p : Nat} {ecc : Ecc} {fault : Bool} {l : List PoolFlit}
    (h : Good q s) : Good q (State.xStep s p ecc fault l) := by
  induction l with
  | nil => exact h
  | cons e l ih =>
    unfold State.xStep
    dsimp only
    repeat' first
      | with_reducible assumption
      | with_reducible apply Good.xForward
      | with_reducible apply Good.xPump
      | with_reducible apply Good.xHeader
      | with_reducible apply Good.poolFree
      | with_reducible apply Good.xDeliver
      | with_reducible refine Good.ite (fun _ => ?_) (fun _ => ?_)
      | split

theorem Good.xReceive {p : Nat} {ecc : Ecc} {fault : Bool} (h : Good q s) : Good q (State.xReceive s p ecc fault) :=
    by
  unfold State.xReceive
  try dsimp only
  repeat' first
    | (with_reducible first | assumption | (refine Good.ite (fun _ => ?_) (fun _ => ?_)) | apply Good.xStep)
    | split

theorem Good.xTimeout {n : Nat} (h : Good q s) : Good q (State.xTimeout s n) := by
  unfold State.xTimeout
  try dsimp only
  repeat' first
    | (with_reducible first | assumption | apply Good.xLost | apply Good.toElapsed)
    | split

theorem Good.tokenExpire {c t : Nat} (h : Good q s) : Good q (State.tokenExpire s c t) := by
  unfold State.tokenExpire
  try dsimp only
  repeat' first
    | (with_reducible first | assumption | apply Good.modX | apply Good.toElapsed)
    | split

theorem Good.mergeExpire {n : Nat} (h : Good q s) : Good q (State.mergeExpire s n) := by
  unfold State.mergeExpire
  try dsimp only
  repeat' first
    | (with_reducible first | assumption | (refine Good.ite (fun _ => ?_) (fun _ => ?_)) | apply Good.modFault
                            | apply Good.toElapsed | apply Good.sendParent)
    | split

/-! ### Machine/Loader.lean -/

theorem Good.setLane {k : Nat} {x : Option LoadSlot} (h : Good q s) : Good q (State.setLane s k x) := by
  unfold State.setLane
  try dsimp only
  repeat' first
    | (with_reducible first | assumption | apply Good.modLoad)
    | split

theorem Good.loadFinish {tag outcome attempts : Nat} (h : Good q s) : Good q (State.loadFinish s tag outcome attempts)
    := by
  unfold State.loadFinish
  try dsimp only
  repeat' first
    | (with_reducible first | assumption | apply Good.setFld)
    | split

theorem Good.shardFault {tag outcome attempts reason : Nat} (h : Good q s) : Good q (State.shardFault s tag outcome
    attempts reason) := by
  unfold State.shardFault
  try dsimp only
  repeat' first
    | (with_reducible first | assumption | (refine Good.ite (fun _ => ?_) (fun _ => ?_)) | apply Good.raise
                            | apply Good.count | apply Good.setFld | apply Good.loadFinish)
    | split | intro _

theorem Good.loadRead {k : Nat} {x : LoadSlot} (h : Good q s) : Good q (State.loadRead s k x) := by
  unfold State.loadRead
  try dsimp only
  repeat' first
    | (with_reducible first | assumption | (refine Good.ite (fun _ => ?_) (fun _ => ?_)) | apply Good.setLane
                            | apply Good.loadHear | apply Good.raise | apply Good.wRequest)
    | (refine Good.xRequest ?_ _ ‹State.xRequest _ _ _ _ _ _ _ = some _›) | split | intro _

theorem Good.loadSend {k : Nat} (h : Good q s) : Good q (State.loadSend s k) := by
  unfold State.loadSend
  try dsimp only
  repeat' first
    | (with_reducible first | assumption | apply Good.iter | apply Good.loadRead)
    | split | intro _

theorem Good.loadAbandon {k : Nat} (h : Good q s) : Good q (State.loadAbandon s k) := by
  unfold State.loadAbandon
  try dsimp only
  repeat' first
    | (with_reducible first | assumption | (refine Good.ite (fun _ => ?_) (fun _ => ?_)) | apply Good.iter
                            | apply Good.modLoad | apply Good.modWport | apply Good.answer)
    | split | intro _

theorem Good.loadFail {k reason : Nat} (h : Good q s) : Good q (State.loadFail s k reason) := by
  unfold State.loadFail
  try dsimp only
  repeat' first
    | (with_reducible first | assumption | (refine Good.ite (fun _ => ?_) (fun _ => ?_)) | apply Good.raise
                            | apply Good.loadAbandon | apply Good.setLane | apply Good.count | apply Good.loadSend
                            | apply Good.shardFault)
    | split | intro _

theorem Good.loadCheck {k : Nat} {x : LoadSlot} (h : Good q s) : Good q (State.loadCheck s k x) := by
  unfold State.loadCheck
  try dsimp only
  repeat' first
    | (with_reducible first | assumption | (refine Good.ite (fun _ => ?_) (fun _ => ?_)) | apply Good.setLane
                            | apply Good.loadAbandon | apply Good.acAdd | apply Good.setFld | apply Good.loadFinish
                            | apply Good.loadFail)
    | split | intro _

theorem Good.loadBegin {ecc : Ecc} (h : Good q s) : Good q (State.loadBegin s ecc) := by
  unfold State.loadBegin
  try dsimp only
  repeat' first
    | (with_reducible first | assumption | (refine Good.ite (fun _ => ?_) (fun _ => ?_)) | apply Good.fetch
                            | apply Good.loadRing | apply Good.setFld | apply Good.raise | apply Good.shardFault
                            | apply Good.setLane | apply Good.loadSend)
    | split | intro _ | (refine Good.fst ‹_ = (_, _)› ?_)

theorem Good.loadAnswer {k num off attempt : Nat} (h : Good q s) :
    ∀ y t, State.loadAnswer s k num off attempt = some (y, t) → Good q t := by
  intro y t
  unfold State.loadAnswer
  dsimp only
  split
  · exact Good.someI2 (Good.modLoad h)
  · intro ht
    obtain ⟨p, -, hp⟩ := List.exists_of_findSome?_eq_some ht
    obtain ⟨r, -, hr⟩ := Option.map_eq_some_iff.1 hp
    cases hr
    exact Good.modWport h

theorem Good.loadResponse {k off : Nat} {ecc : Ecc} (h : Good q s) : Good q (State.loadResponse s k off ecc) := by
  unfold State.loadResponse
  try dsimp only
  repeat' first
    | (with_reducible first | assumption | (refine Good.ite (fun _ => ?_) (fun _ => ?_)) | apply Good.loadFail
                            | apply Good.raise | apply Good.memEcc | apply Good.memPut | apply Good.setLane
                            | apply Good.loadSend | apply Good.loadCheck)
    | (refine Good.loadAnswer ?_ _ _ ‹State.loadAnswer _ _ _ _ _ = some _›) | split | intro _

theorem Good.loadTimeout {k : Nat} (h : Good q s) : Good q (State.loadTimeout s k) := by
  unfold State.loadTimeout
  try dsimp only
  repeat' first
    | (with_reducible first | assumption | apply Good.loadFail | apply Good.toElapsed)
    | split

theorem Good.loadTail {v : Nat} (h : Good q s) : Good q (State.loadTail s v) := by
  unfold State.loadTail
  try dsimp only
  repeat' first
    | (with_reducible first | assumption | (refine Good.ite (fun _ => ?_) (fun _ => ?_)) | apply Good.setFld
                            | apply Good.raise)
    | split

theorem Good.loadRing {v : Nat} (h : Good q s) : Good q (State.loadRing s v) := by
  unfold State.loadRing
  try dsimp only
  repeat' first
    | (with_reducible first | assumption | (refine Good.ite (fun _ => ?_) (fun _ => ?_)) | apply Good.setReg64)
    | split

end Sys2Proof.Machine
end

