-- ==== Sys2Proof/Laws/GoodModule.lean ====
section
/-! SUPPORT. The operations of the Wiora ports, power, frames, boot, the cartouche, the control space and the management bus keep a state good. -/

namespace Sys2Proof.Machine

variable {q : List Instr} {s : State}

/-! ### Machine/Wiora.lean -/

theorem Good.wReplyData {p : Nat} {m : WMsg} {status : Nat} {data : List Byte} (h : Good q s) : Good q
    (State.wReplyData s p m status data) := by
  unfold State.wReplyData
  try dsimp only
  repeat' first
    | (with_reducible first | assumption | (refine Good.ite (fun _ => ?_) (fun _ => ?_)) | apply Good.wSend)
    | split | intro _

theorem Good.wReplyCmp {p : Nat} {m : WMsg} {status : Nat} (h : Good q s) : Good q (State.wReplyCmp s p m status) :=
    by
  unfold State.wReplyCmp
  try dsimp only
  repeat' first
    | (with_reducible first | assumption | (refine Good.ite (fun _ => ?_) (fun _ => ?_)) | apply Good.wSend)
    | split

theorem Good.wReply {p : Nat} {m : WMsg} {status : Nat} {data : List Byte} (h : Good q s) : Good q (State.wReply s p m
    status data) := by
  unfold State.wReply
  try dsimp only
  repeat' first
    | (with_reducible first | assumption | (refine Good.ite (fun _ => ?_) (fun _ => ?_)) | apply Good.wReplyCmp
                            | apply Good.wReplyData)
    | split

theorem Good.wRefuse {p : Nat} {m : WMsg} (h : Good q s) : Good q (State.wRefuse s p m) := by
  unfold State.wRefuse
  try dsimp only
  repeat' first
    | (with_reducible first | assumption | (refine Good.ite (fun _ => ?_) (fun _ => ?_)) | apply Good.wReply)
    | split | intro _

theorem Good.mgmtAnswer {status : Nat} {data : List Byte} (h : Good q s) : Good q (State.mgmtAnswer s status data) :=
    by
  unfold State.mgmtAnswer
  try dsimp only
  repeat' first
    | (with_reducible first | assumption | (refine Good.ite (fun _ => ?_) (fun _ => ?_)) | apply Good.answer)
    | split | intro _

theorem Good.awayDone {k status : Nat} {data : List Byte} (h : Good q s) : Good q (State.awayDone s k status data) :=
    by
  unfold State.awayDone
  try dsimp only
  repeat' first
    | (with_reducible first | assumption | (refine Good.ite (fun _ => ?_) (fun _ => ?_))
                            | (refine Good.modWiora ?_ (fun _ => rfl)) | apply Good.answer | apply Good.mgmt
                            | apply Good.mgmtAnswer | apply Good.xAnswer | apply Good.wRefuse | apply Good.wReply)
    | split | intro _

theorem Good.deliverLost {tag : Nat} (h : Good q s) : Good q (State.deliverLost s tag) := by
  unfold State.deliverLost
  try dsimp only
  repeat' first
    | (with_reducible first | assumption | apply Good.settle | apply Good.setTr | apply Good.modWport)
    | split

theorem Good.intSend {p : Nat} (h : Good q s) : Good q (State.intSend s p) := by
  unfold State.intSend
  try dsimp only
  repeat' first
    | (with_reducible first | assumption | (refine Good.ite (fun _ => ?_) (fun _ => ?_)) | apply Good.modWport
                            | apply Good.wRequest | apply Good.raise)
    | split | intro _

theorem Good.intEvent {p : Nat} (h : Good q s) : Good q (State.intEvent s p) := by
  unfold State.intEvent
  try dsimp only
  repeat' first
    | (with_reducible first | assumption | (refine Good.ite (fun _ => ?_) (fun _ => ?_)) | apply Good.modWport
                            | apply Good.intSend)
    | split

theorem Good.intGap {p : Nat} (h : Good q s) : Good q (State.intGap s p) := by
  unfold State.intGap
  try dsimp only
  repeat' first
    | (with_reducible first | assumption | (refine Good.ite (fun _ => ?_) (fun _ => ?_)) | apply Good.toElapsed
                            | apply Good.intSend | apply Good.modWport)
    | split | intro _

theorem Good.evGo {p : Nat} (h : Good q s) : Good q (State.evGo s p) := by
  unfold State.evGo
  try dsimp only
  repeat' first
    | (with_reducible first | assumption | (refine Good.ite (fun _ => ?_) (fun _ => ?_)) | apply Good.evPump
                            | apply Good.modWport | apply Good.raise | apply Good.batchEnd)
    | split | intro _

theorem Good.paceAsk {p : Nat} (h : Good q s) : Good q (State.paceAsk s p) := by
  unfold State.paceAsk
  try dsimp only
  repeat' first
    | (with_reducible first | assumption | (refine Good.ite (fun _ => ?_) (fun _ => ?_)) | apply Good.raise
                            | apply Good.wRequest)
    | split | intro _

theorem Good.paceTake {p : Nat} {line : List Byte} (h : Good q s) : Good q (State.paceTake s p line) := by
  unfold State.paceTake
  try dsimp only
  repeat' first
    | (with_reducible first | assumption | (refine Good.ite (fun _ => ?_) (fun _ => ?_)) | apply Good.evGo
                            | apply Good.modWport | apply Good.acAdd | apply Good.raise)
    | split

theorem Good.wEvict {p : Nat} {who : WWho} {b : Nat} (h : Good q s) : Good q (State.wEvict s p who b) := by
  unfold State.wEvict
  try dsimp only
  repeat' first
    | (with_reducible first | assumption | apply Good.wRequest)
    | split

theorem Good.paceData {p : Nat} {r : WReq} {status : Nat} {line : List Byte} (h : Good q s) : Good q (State.paceData s
    p r status line) := by
  unfold State.paceData
  try dsimp only
  repeat' first
    | (with_reducible first | assumption | (refine Good.ite (fun _ => ?_) (fun _ => ?_)) | apply Good.wEvict
                            | apply Good.paceTake | apply Good.paceAsk | apply Good.modWport)
    | split | intro _

theorem Good.evData {o p : Nat} {r : WReq} {status : Nat} (h : Good q s) : Good q (State.evData s o p r status) := by
  unfold State.evData
  try dsimp only
  repeat' first
    | (with_reducible first | assumption | (refine Good.ite (fun _ => ?_) (fun _ => ?_)) | apply Good.modWport
                            | apply Good.evGo | apply Good.wEvict)
    | split | intro _

theorem Good.undirty {p b : Nat} (h : Good q s) : Good q (State.undirty s p b) := by
  unfold State.undirty
  try dsimp only
  repeat' first
    | (with_reducible first | assumption | (refine Good.ite (fun _ => ?_) (fun _ => ?_)) | apply Good.modWport
                            | apply Good.wUnhold)
    | split | intro _

theorem Good.snoop {p : Nat} {m : WMsg} (h : Good q s) : Good q (State.snoop s p m) := by
  unfold State.snoop
  try dsimp only
  repeat' first
    | (with_reducible first | assumption | (refine Good.ite (fun _ => ?_) (fun _ => ?_)) | apply Good.iter
                            | apply Good.answer | apply Good.modWport | apply Good.undirty | apply Good.wSend
                            | apply Good.paceAsk)
    | split | intro _

theorem Good.paceWrite {p v : Nat} (h : Good q s) : Good q (State.paceWrite s p v) := by
  unfold State.paceWrite
  try dsimp only
  repeat' first
    | (with_reducible first | assumption | (refine Good.ite (fun _ => ?_) (fun _ => ?_)) | apply Good.modWport
                            | apply Good.wEvict | apply Good.setReg64 | apply Good.paceAsk)
    | split | intro _

theorem Good.evrWrite {p v : Nat} (h : Good q s) : Good q (State.evrWrite s p v) := by
  unfold State.evrWrite
  try dsimp only
  repeat' first
    | (with_reducible first | assumption | (refine Good.ite (fun _ => ?_) (fun _ => ?_)) | apply Good.foldl
                            | apply Good.foldl_fst | apply Good.wEvict | apply Good.modWport | apply Good.setReg64
                            | apply Good.evAhead | apply Good.evGo)
    | split | intro _

theorem Good.batchStop (h : Good q s) : Good q (State.batchStop s) := by
  unfold State.batchStop
  try dsimp only
  repeat' first
    | (with_reducible first | assumption | apply Good.raise | apply Good.setFld
                            | (refine Good.modWiora ?_ (fun _ => rfl)))
    | split

theorem Good.batchTake {d : List Byte} (h : Good q s) : Good q (State.batchTake s d) := by
  unfold State.batchTake
  try dsimp only
  repeat' first
    | (with_reducible first | assumption | (refine Good.ite (fun _ => ?_) (fun _ => ?_)) | apply Good.acAdd
                            | apply Good.setFld | (refine Good.modWiora ?_ (fun _ => rfl)) | apply Good.batchStop)
    | split

theorem Good.batchOpen {ecc : Ecc} (h : Good q s) : Good q (State.batchOpen s ecc) := by
  unfold State.batchOpen
  try dsimp only
  repeat' first
    | (with_reducible first | assumption | (refine Good.ite (fun _ => ?_) (fun _ => ?_)) | apply Good.batchStop
                            | apply Good.fetch | apply Good.batchTake | apply Good.setFld
                            | (refine Good.modWiora ?_ (fun _ => rfl)))
    | split | intro _ | (refine Good.fst ‹_ = (_, _)› ?_)

theorem Good.wEnter {p st : Nat} {retrain : Bool} (h : Good q s) : Good q (State.wEnter s p st retrain) := by
  unfold State.wEnter
  try dsimp only
  repeat' first
    | (with_reducible first | assumption | apply Good.setFld | apply Good.modWport)
    | split

theorem Good.wLeave {p : Nat} (h : Good q s) : Good q (State.wLeave s p) := by
  unfold State.wLeave
  try dsimp only
  repeat' first
    | (with_reducible first | assumption | apply Good.setFld | apply Good.modWport)
    | split

theorem Good.wRetrain {p : Nat} {own : Bool} (h : Good q s) : Good q (State.wRetrain s p own) := by
  unfold State.wRetrain
  try dsimp only
  repeat' first
    | (with_reducible first | assumption | (refine Good.ite (fun _ => ?_) (fun _ => ?_)) | apply Good.modWport
                            | apply Good.count | apply Good.wLeave | apply Good.wEnter)
    | split | intro _

theorem Good.wProto {p : Nat} (h : Good q s) : Good q (State.wProto s p) := by
  unfold State.wProto
  try dsimp only
  repeat' first
    | (with_reducible first | assumption | apply Good.wRetrain | apply Good.raise)
    | split

theorem Good.wKeep {p t status : Nat} {data : List Byte} (h : Good q s) : Good q (State.wKeep s p t status data) := by
  unfold State.wKeep
  try dsimp only
  repeat' first
    | (with_reducible first | assumption | (refine Good.ite (fun _ => ?_) (fun _ => ?_)) | apply Good.modWport)
    | split | intro _

theorem Good.wDown {p : Nat} {r : WReq} (h : Good q s) : Good q (State.wDown s p r) := by
  unfold State.wDown
  try dsimp only
  repeat' first
    | (with_reducible first | assumption | (refine Good.ite (fun _ => ?_) (fun _ => ?_)) | apply Good.modWport
                            | apply Good.answer | apply Good.raiseBit | apply Good.deliver | apply Good.deliverLost
                            | apply Good.awayDone | apply Good.wKeep)
    | split | intro _

theorem Good.wFlush {p : Nat} (h : Good q s) : Good q (State.wFlush s p) := by
  unfold State.wFlush
  try dsimp only
  repeat' first
    | (with_reducible first | assumption | (refine Good.ite (fun _ => ?_) (fun _ => ?_)) | apply Good.foldl
                            | apply Good.foldl_fst | apply Good.iter | apply Good.setFld | apply Good.raise
                            | apply Good.modWport | apply Good.wDown | apply Good.wEnter)
    | split | intro _

theorem Good.wGrace {p : Nat} (h : Good q s) : Good q (State.wGrace s p) := by
  unfold State.wGrace
  try dsimp only
  repeat' first
    | (with_reducible first | assumption | apply Good.wFlush | apply Good.toElapsed)
    | split

theorem Good.wStateTimeout {p : Nat} (h : Good q s) : Good q (State.wStateTimeout s p) := by
  unfold State.wStateTimeout
  try dsimp only
  repeat' first
    | (with_reducible first | assumption | (refine Good.ite (fun _ => ?_) (fun _ => ?_)) | apply Good.wEnter
                            | apply Good.raise | apply Good.toElapsed | apply Good.modWport | apply Good.count)
    | split | intro _

theorem Good.wActivate {p width : Nat} {half : Bool} (h : Good q s) : Good q (State.wActivate s p width half) := by
  unfold State.wActivate
  try dsimp only
  repeat' first
    | (with_reducible first | assumption | (refine Good.ite (fun _ => ?_) (fun _ => ?_)) | apply Good.modWport
                            | apply Good.setFld | apply Good.raise | apply Good.wPump | apply Good.paceAsk
                            | apply Good.evAhead | apply Good.evGo)
    | split | intro _

theorem Good.wInit {p width : Nat} {half fresh : Bool} {identity : Nat} {fr : List Nat} {frd expect : Nat} (h : Good q
    s) : Good q (State.wInit s p width half fresh identity fr frd expect) := by
  unfold State.wInit
  try dsimp only
  repeat' first
    | (with_reducible first | assumption | (refine Good.ite (fun _ => ?_) (fun _ => ?_)) | apply Good.fresh
                            | apply Good.modWport | apply Good.wActivate | apply Good.wFlush | apply Good.wProto
                            | apply Good.raise)
    | split | intro _

theorem Good.wTrained {p : Nat} {r : WTrain} (h : Good q s) : Good q (State.wTrained s p r) := by
  unfold State.wTrained
  try dsimp only
  repeat' first
    | (with_reducible first | assumption | (refine Good.ite (fun _ => ?_) (fun _ => ?_)) | apply Good.wEnter
                            | apply Good.setFld | apply Good.wInit)
    | split | intro _

theorem Good.wCtl {p old v : Nat} (h : Good q s) : Good q (State.wCtl s p old v) := by
  unfold State.wCtl
  try dsimp only
  repeat' first
    | (with_reducible first | assumption | (refine Good.ite (fun _ => ?_) (fun _ => ?_)) | apply Good.wEnter
                            | apply Good.setFld | apply Good.wLeave | apply Good.setReg | apply Good.wRetrain)
    | split

theorem Good.wCfg {p v : Nat} (h : Good q s) : Good q (State.wCfg s p v) := by
  unfold State.wCfg
  try dsimp only
  repeat' first
    | (with_reducible first | assumption | (refine Good.ite (fun _ => ?_) (fun _ => ?_)) | apply Good.setReg
                            | apply Good.raise)
    | split

theorem Good.wNak {p : Nat} (h : Good q s) : Good q (State.wNak s p) := by
  unfold State.wNak
  try dsimp only
  repeat' first
    | (with_reducible first | assumption | (refine Good.ite (fun _ => ?_) (fun _ => ?_)) | apply Good.modWport)
    | split | intro _

theorem Good.wReplay {p : Nat} (h : Good q s) : Good q (State.wReplay s p) := by
  unfold State.wReplay
  try dsimp only
  repeat' first
    | (with_reducible first | assumption | (refine Good.ite (fun _ => ?_) (fun _ => ?_)) | apply Good.modWport
                            | apply Good.count)
    | split | intro _

theorem Good.wTake {p : Nat} {f : WFlit} (h : Good q s) : Good q (State.wTake s p f) := by
  unfold State.wTake
  try dsimp only
  repeat' first
    | (with_reducible first | assumption | (refine Good.ite (fun _ => ?_) (fun _ => ?_)) | apply Good.foldl
                            | apply Good.foldl_fst | apply Good.modWport)
    | split | intro _

theorem Good.wGood {p : Nat} {f : WFlit} (h : Good q s) : Good q (State.wGood s p f) := by
  unfold State.wGood
  try dsimp only
  repeat' first
    | (with_reducible first | assumption | (refine Good.ite (fun _ => ?_) (fun _ => ?_)) | apply Good.wProto
                            | apply Good.modWport | apply Good.wReplay | apply Good.wRetrain | apply Good.wTake
                            | apply Good.wNak | apply Good.wPump)
    | split | intro _

theorem Good.wReceive {p : Nat} {f : WFlit} {fec : WFec} (h : Good q s) : Good q (State.wReceive s p f fec) := by
  unfold State.wReceive
  try dsimp only
  repeat' first
    | (with_reducible first | assumption | (refine Good.ite (fun _ => ?_) (fun _ => ?_)) | apply Good.wNak
                            | apply Good.count | apply Good.wGood)
    | split

theorem Good.wReplayTimeout {p : Nat} (h : Good q s) : Good q (State.wReplayTimeout s p) := by
  unfold State.wReplayTimeout
  try dsimp only
  repeat' first
    | (with_reducible first | assumption | (refine Good.ite (fun _ => ?_) (fun _ => ?_)) | apply Good.wReplay
                            | apply Good.modWport | apply Good.toElapsed | apply Good.wProto)
    | split

theorem Good.popMsg {p cls : Nat} {ops : List Nat} (h : Good q s) : ∀ y t, State.popMsg s p cls ops = some (y, t) →
    Good q t := by
  refine fun y t => ?_
  unfold State.popMsg
  try dsimp only
  repeat' first
    | (with_reducible first | assumption | (refine Good.ite (fun _ => ?_) (fun _ => ?_)) | apply Good.modWport
                            | apply Good.someI2 | exact Good.noneI)
    | split | intro _

theorem Good.dwinCommit {p k v : Nat} (h : Good q s) : Good q (State.dwinCommit s p k v) := by
  unfold State.dwinCommit
  try dsimp only
  repeat' first
    | (with_reducible first | assumption | (refine Good.ite (fun _ => ?_) (fun _ => ?_)) | apply Good.raise
                            | apply Good.setReg64)
    | split

theorem Good.setOwner {agent : Nat} (h : Good q s) : Good q (State.setOwner s agent) := by
  unfold State.setOwner
  try dsimp only
  repeat' first
    | (with_reducible first | assumption | (refine Good.ite (fun _ => ?_) (fun _ => ?_)) | apply Good.raiseIbi
                            | apply Good.setFld)
    | split

theorem Good.leaseStart (h : Good q s) : Good q (State.leaseStart s) := by
  unfold State.leaseStart
  try dsimp only
  repeat' first
    | (with_reducible first | assumption | apply Good.modOwn)
    | split

theorem Good.leaseLapse (h : Good q s) : Good q (State.leaseLapse s) := by
  unfold State.leaseLapse
  try dsimp only
  repeat' first
    | (with_reducible first | assumption | (refine Good.ite (fun _ => ?_) (fun _ => ?_)) | apply Good.setOwner
                            | apply Good.setFld | apply Good.raise)
    | split | intro _

theorem Good.leaseCheck (h : Good q s) : Good q (State.leaseCheck s) := by
  unfold State.leaseCheck
  try dsimp only
  repeat' first
    | (with_reducible first | assumption | (refine Good.ite (fun _ => ?_) (fun _ => ?_)) | apply Good.leaseLapse)
    | split | intro _

theorem Good.ownCmd {agent op target : Nat} (h : Good q s) : Good q (State.ownCmd s agent op target) := by
  unfold State.ownCmd
  try dsimp only
  repeat' first
    | (with_reducible first | assumption | (refine Good.ite (fun _ => ?_) (fun _ => ?_)) | apply Good.raise
                            | apply Good.leaseCheck | apply Good.setOwner | apply Good.leaseStart
                            | apply Good.setFld)
    | split | intro _

theorem Good.leaseExpire (h : Good q s) : Good q (State.leaseExpire s) := by
  unfold State.leaseExpire
  try dsimp only
  repeat' first
    | (with_reducible first | assumption | (refine Good.ite (fun _ => ?_) (fun _ => ?_)) | apply Good.toElapsed
                            | apply Good.leaseLapse)
    | split | intro _

theorem Good.ownCfg {v : Nat} (h : Good q s) : Good q (State.ownCfg s v) := by
  unfold State.ownCfg
  try dsimp only
  repeat' first
    | (with_reducible first | assumption | (refine Good.ite (fun _ => ?_) (fun _ => ?_)) | apply Good.setFld
                            | apply Good.raise)
    | split

/-! ### Machine/Power.lean -/

theorem Good.planWrite {v : Nat} (h : Good q s) : Good q (State.planWrite s v) := by
  unfold State.planWrite
  try dsimp only
  repeat' first
    | (with_reducible first | assumption | (refine Good.ite (fun _ => ?_) (fun _ => ?_)) | apply Good.setFld
                            | apply Good.raise)
    | split

theorem Good.latchSlack {x : PeriodSample} {i : Nat} (h : Good q s) : Good q (State.latchSlack s x i) := by
  unfold State.latchSlack
  try dsimp only
  repeat' first
    | (with_reducible first | assumption | (refine Good.ite (fun _ => ?_) (fun _ => ?_)) | apply Good.count
                            | apply Good.setFld | apply Good.iter)
    | split | intro _

theorem Good.lowMargin {c m : Nat} (h : Good q s) : Good q (State.lowMargin s c m) := by
  unfold State.lowMargin
  try dsimp only
  repeat' first
    | (with_reducible first | assumption | (refine Good.ite (fun _ => ?_) (fun _ => ?_)) | apply Good.setFld
                            | apply Good.raise | apply Good.modTime)
    | split

theorem Good.setDom {j : Nat} {on : Bool} (h : Good q s) : Good q (State.setDom s j on) := by
  unfold State.setDom
  try dsimp only
  repeat' first
    | (with_reducible first | assumption | (refine Good.ite (fun _ => ?_) (fun _ => ?_)) | apply Good.foldl
                            | apply Good.foldl_fst | apply Good.setFld)
    | split | intro _

theorem Good.domsDown {l : List Nat} (h : Good q s) : Good q (State.domsDown s l) := by
  unfold State.domsDown
  try dsimp only
  repeat' first
    | (with_reducible first | assumption | apply Good.foldl | apply Good.setDom)
    | split | intro _

theorem Good.bringUp {l : List Nat} (h : Good q s) : Good q (State.bringUp s l) := by
  unfold State.bringUp
  try dsimp only
  repeat' first
    | (with_reducible first | assumption | apply Good.modPwr)
    | split

theorem Good.powerGood (h : Good q s) : Good q (State.powerGood s) := by
  unfold State.powerGood
  try dsimp only
  repeat' first
    | (with_reducible first | assumption | apply Good.bringUp | (refine Good.ite (fun _ => ?_) (fun _ => ?_))
                            | apply Good.startBank | apply Good.setDom)
    | split

theorem Good.pgTimeout (h : Good q s) : Good q (State.pgTimeout s) := by
  unfold State.pgTimeout
  try dsimp only
  repeat' first
    | (with_reducible first | assumption | apply Good.modPwr | apply Good.raise | apply Good.setFld
                            | apply Good.toElapsed)
    | split

theorem Good.domOff {v : Nat} (h : Good q s) : Good q (State.domOff s v) := by
  unfold State.domOff
  try dsimp only
  repeat' first
    | (with_reducible first | assumption | (refine Good.ite (fun _ => ?_) (fun _ => ?_)) | apply Good.setReg
                            | apply Good.raise)
    | split

theorem Good.mainOpen (h : Good q s) : Good q (State.mainOpen s) := by
  unfold State.mainOpen
  try dsimp only
  repeat' first
    | (with_reducible first | assumption | apply Good.modPwr | apply Good.iter | apply Good.setFld
                            | apply Good.domsDown | apply Good.linkEnter | apply Good.leaveActive)
    | split | intro _

theorem Good.bothOpen (h : Good q s) : Good q (State.bothOpen s) := by
  unfold State.bothOpen
  try dsimp only
  repeat' first
    | (with_reducible first | assumption | apply Good.modPwr | apply Good.setFld | apply Good.iter
                            | apply Good.domsDown | apply Good.mainOpen | apply Good.wEnter)
    | split | intro _

theorem Good.inputFail {f : Fld} {code : Nat} (h : Good q s) : Good q (State.inputFail s f code) := by
  unfold State.inputFail
  try dsimp only
  repeat' first
    | (with_reducible first | assumption | (refine Good.ite (fun _ => ?_) (fun _ => ?_)) | apply Good.modPwr
                            | apply Good.bothOpen | apply Good.raise | apply Good.setFld)
    | split

theorem Good.overcurrent (h : Good q s) : Good q (State.overcurrent s) := by
  unfold State.overcurrent
  try dsimp only
  repeat' first
    | (with_reducible first | assumption | (refine Good.ite (fun _ => ?_) (fun _ => ?_)) | apply Good.mainOpen
                            | apply Good.raise | apply Good.setFld)
    | split

theorem Good.powerCap {v : Nat} (h : Good q s) : Good q (State.powerCap s v) := by
  unfold State.powerCap
  try dsimp only
  repeat' first
    | (with_reducible first | assumption | (refine Good.ite (fun _ => ?_) (fun _ => ?_)) | apply Good.setFld
                            | apply Good.raise)
    | split

theorem Good.readSensor {k : Nat} {v : BitVec 8} (h : Good q s) : Good q (State.readSensor s k v) := by
  unfold State.readSensor
  try dsimp only
  repeat' first
    | (with_reducible first | assumption | apply Good.setFld)
    | split

theorem Good.takeDown {die k : Nat} (h : Good q s) : Good q (State.takeDown s die k) := by
  unfold State.takeDown
  try dsimp only
  repeat' first
    | (with_reducible first | assumption | (refine Good.ite (fun _ => ?_) (fun _ => ?_)) | apply Good.raiseHalt
                            | apply Good.modPwr | apply Good.iter | apply Good.setFld | apply Good.domsDown
                            | apply Good.bringUp)
    | split | intro _

theorem Good.checkCritical {k : Nat} (h : Good q s) : Good q (State.checkCritical s k) := by
  unfold State.checkCritical
  try dsimp only
  repeat' first
    | (with_reducible first | assumption | (refine Good.ite (fun _ => ?_) (fun _ => ?_)) | apply Good.takeDown)
    | split

theorem Good.checkFd {k : Nat} (h : Good q s) : Good q (State.checkFd s k) := by
  unfold State.checkFd
  try dsimp only
  repeat' first
    | (with_reducible first | assumption | (refine Good.ite (fun _ => ?_) (fun _ => ?_)) | apply Good.mainOpen
                            | apply Good.raise | apply Good.setFld)
    | split

theorem Good.checkInlet (h : Good q s) : Good q (State.checkInlet s) := by
  unfold State.checkInlet
  try dsimp only
  repeat' first
    | (with_reducible first | assumption | (refine Good.ite (fun _ => ?_) (fun _ => ?_)) | apply Good.raise
                            | apply Good.modPwr)
    | split

theorem Good.limit {n : Nat} (h : Good q s) : Good q (State.limit s n) := by
  unfold State.limit
  try dsimp only
  repeat' first
    | (with_reducible first | assumption | (refine Good.ite (fun _ => ?_) (fun _ => ?_)) | apply Good.modPwr
                            | apply Good.raise | apply Good.setFld)
    | split

theorem Good.govern {n : Nat} (h : Good q s) : Good q (State.govern s n) := by
  unfold State.govern
  try dsimp only
  repeat' first
    | (with_reducible first | assumption | (refine Good.ite (fun _ => ?_) (fun _ => ?_)) | apply Good.setCode
                            | apply Good.setFld | apply Good.count | apply Good.modTime | apply Good.raise)
    | split | intro _

theorem Good.govWrite {n : Nat} {ctl : Bool} {v : Nat} (h : Good q s) : Good q (State.govWrite s n ctl v) := by
  unfold State.govWrite
  try dsimp only
  repeat' first
    | (with_reducible first | assumption | (refine Good.ite (fun _ => ?_) (fun _ => ?_)) | apply Good.setReg
                            | apply Good.raise)
    | split

theorem Good.period {x : PeriodSample} (h : Good q s) : Good q (State.period s x) := by
  unfold State.period
  try dsimp only
  repeat' first
    | (with_reducible first | assumption | apply Good.iter | apply Good.modPwr | apply Good.setFld
                            | apply Good.checkInlet | apply Good.readSensor | apply Good.foldl | apply Good.modTime
                            | (refine Good.ite (fun _ => ?_) (fun _ => ?_)) | apply Good.toTick
                            | apply Good.latchSlack | apply Good.checkCritical | apply Good.checkFd
                            | apply Good.limit | apply Good.govern)
    | split | intro _

theorem Good.syncRise (h : Good q s) : Good q (State.syncRise s) := by
  unfold State.syncRise
  try dsimp only
  repeat' first
    | (with_reducible first | assumption | apply Good.modPwr | apply Good.draw)
    | split

theorem Good.syncWrite {v : Nat} (h : Good q s) : Good q (State.syncWrite s v) := by
  unfold State.syncWrite
  try dsimp only
  repeat' first
    | (with_reducible first | assumption | (refine Good.ite (fun _ => ?_) (fun _ => ?_)) | apply Good.raise
                            | apply Good.setFld | apply Good.modPwr)
    | split

/-! ### Machine/Frame.lean -/

theorem Good.moveCmps (h : Good q s) : Good q (State.moveCmps s) := by
  unfold State.moveCmps
  try dsimp only
  repeat' first
    | (with_reducible first | assumption | apply Good.foldl | apply Good.setFld)
    | split | intro _

theorem Good.applySlip {k : Nat} {loadOnly : Bool} (h : Good q s) : Good q (State.applySlip s k loadOnly) := by
  unfold State.applySlip
  try dsimp only
  repeat' first
    | (with_reducible first | assumption | apply Good.trace | apply Good.moveCmps | apply Good.modTime)
    | split

theorem Good.boundarySlip {k : Nat} (h : Good q s) : Good q (State.boundarySlip s k) := by
  unfold State.boundarySlip
  try dsimp only
  repeat' first
    | (with_reducible first | assumption | apply Good.modTime | apply Good.applySlip)
    | split

theorem Good.diverge {e : TwinFrame} (h : Good q s) : Good q (State.diverge s e) := by
  unfold State.diverge
  try dsimp only
  repeat' first
    | (with_reducible first | assumption | (refine Good.ite (fun _ => ?_) (fun _ => ?_)) | apply Good.syncRise
                            | apply Good.emit | apply Good.setFld | apply Good.iter)
    | split | intro _

theorem Good.twinFrame {e : TwinFrame} (h : Good q s) : Good q (State.twinFrame s e) := by
  unfold State.twinFrame
  try dsimp only
  repeat' first
    | (with_reducible first | assumption | (refine Good.ite (fun _ => ?_) (fun _ => ?_)) | apply Good.modFault
                            | apply Good.diverge)
    | split | intro _

theorem Good.twinCompare {q : List Instr} {l : List TwinFrame} {s : State} (h : Good q s) :
    Good q (State.twinCompare l s) := by
  induction l generalizing s with
  | nil => exact h
  | cons e l ih =>
    unfold State.twinCompare
    split
    · exact ih h
    · exact ih (Good.twinFrame (Good.setFld (Good.setReg64 (Good.setReg64 h))))

theorem Good.boundaryTwin (h : Good q s) : Good q (State.boundaryTwin s) := by
  unfold State.boundaryTwin
  try dsimp only
  repeat' first
    | (with_reducible first | assumption | (refine Good.ite (fun _ => ?_) (fun _ => ?_)) | apply Good.twinCompare)
    | split | intro _

theorem Good.checkCirc {i : Nat} (h : Good q s) : Good q (State.checkCirc s i) := by
  unfold State.checkCirc
  try dsimp only
  repeat' first
    | (with_reducible first | assumption | (refine Good.ite (fun _ => ?_) (fun _ => ?_)) | apply Good.raise
                            | apply Good.setFld | apply Good.modSheet)
    | split

theorem Good.checkStarve {i e : Nat} {counts : Bool} (h : Good q s) : Good q (State.checkStarve s i e counts) := by
  unfold State.checkStarve
  try dsimp only
  repeat' first
    | (with_reducible first | assumption | (refine Good.ite (fun _ => ?_) (fun _ => ?_)) | apply Good.setHead
                            | apply Good.setFld | apply Good.raise)
    | split | intro _

theorem Good.boundarySheets {wasSlip : Bool} (h : Good q s) : Good q (State.boundarySheets s wasSlip) := by
  unfold State.boundarySheets
  try dsimp only
  repeat' first
    | (with_reducible first | assumption | apply Good.foldl | apply Good.iter | apply Good.checkStarve
                            | apply Good.checkCirc | apply Good.modSheet)
    | split | intro _

theorem Good.applyStop {code subject : Nat} (h : Good q s) : Good q (State.applyStop s code subject) := by
  unfold State.applyStop
  try dsimp only
  repeat' first
    | (with_reducible first | assumption | (refine Good.ite (fun _ => ?_) (fun _ => ?_)) | apply Good.iter
                            | apply Good.setFld | (refine Good.modFab ?_ (fun _ => rfl)) | apply Good.setReg64
                            | apply Good.trace)
    | split | intro _

theorem Good.boundaryStop (h : Good q s) : Good q (State.boundaryStop s) := by
  unfold State.boundaryStop
  try dsimp only
  repeat' first
    | (with_reducible first | assumption | apply Good.applyStop | apply Good.modTime)
    | split

theorem Good.boundaryWaypoint {k : Nat} {wasSlip : Bool} (h : Good q s) : Good q (State.boundaryWaypoint s k wasSlip)
    := by
  unfold State.boundaryWaypoint
  try dsimp only
  repeat' first
    | (with_reducible first | assumption | (refine Good.ite (fun _ => ?_) (fun _ => ?_)) | apply Good.setFld
                            | apply Good.raise)
    | split | intro _

theorem Good.boundaryGuard {k : Nat} {wasSlip : Bool} (h : Good q s) : Good q (State.boundaryGuard s k wasSlip) := by
  unfold State.boundaryGuard
  try dsimp only
  repeat' first
    | (with_reducible first | assumption | (refine Good.ite (fun _ => ?_) (fun _ => ?_)) | apply Good.setFld
                            | (refine Good.modFab ?_ (fun _ => rfl)))
    | split

theorem Good.refreshTemp {d : Nat} {v : BitVec 8} (h : Good q s) : Good q (State.refreshTemp s d v) := by
  unfold State.refreshTemp
  try dsimp only
  repeat' first
    | (with_reducible first | assumption | (refine Good.ite (fun _ => ?_) (fun _ => ?_)) | apply Good.readSensor
                            | apply Good.setFld | apply Good.raise)
    | split | intro _

theorem Good.stackTemp {d : Nat} (h : Good q s) : Good q (State.stackTemp s d) := by
  unfold State.stackTemp
  try dsimp only
  repeat' first
    | (with_reducible first | assumption | apply Good.checkCritical | apply Good.modPwr)
    | split

theorem Good.boundaryTemps {temps : Vector (BitVec 8) 16} (h : Good q s) : Good q (State.boundaryTemps s temps) := by
  unfold State.boundaryTemps
  try dsimp only
  repeat' first
    | (with_reducible first | assumption | apply Good.iter | apply Good.foldl | apply Good.refreshTemp
                            | apply Good.stackTemp)
    | split | intro _

theorem Good.boundaryClear (h : Good q s) : Good q (State.boundaryClear s) := by
  unfold State.boundaryClear
  try dsimp only
  repeat' first
    | (with_reducible first | assumption | apply Good.setFld | apply Good.modTime
                            | (refine Good.modFab ?_ (fun _ => rfl)) | apply Good.iter | apply Good.dropUntaken)
    | split | intro _

theorem Good.boundary {temps : Vector (BitVec 8) 16} (h : Good q s) : Good q (State.boundary s temps) := by
  unfold State.boundary
  try dsimp only
  repeat' first
    | (with_reducible first | assumption | (refine Good.ite (fun _ => ?_) (fun _ => ?_)) | apply Good.modTime
                            | apply Good.boundarySlip | apply Good.boundaryTwin | apply Good.boundarySheets
                            | apply Good.boundaryStop | apply Good.applyFence | apply Good.applyLcoord
                            | apply Good.boundaryWaypoint | apply Good.treeDone | apply Good.bundleBoundary
                            | apply Good.boundaryGuard | apply Good.boundaryClear | apply Good.boundaryTemps
                            | apply Good.syncRise)
    | split | intro _

theorem Good.endFrame (h : Good q s) : Good q (State.endFrame s) := by
  unfold State.endFrame
  try dsimp only
  repeat' first
    | (with_reducible first | assumption | (refine Good.ite (fun _ => ?_) (fun _ => ?_)) | apply Good.toTick
                            | apply Good.checkHolds)
    | split | intro _

theorem Good.frameBoundary {temps : Vector (BitVec 8) 16} (h : Good q s) : Good q (State.frameBoundary s temps) := by
  unfold State.frameBoundary
  try dsimp only
  repeat' first
    | (with_reducible first | assumption | (refine Good.ite (fun _ => ?_) (fun _ => ?_)) | apply Good.boundary
                            | apply Good.endFrame)
    | split | intro _

/-! ### Machine/Boot.lean -/

theorem Good.raiseBoot {code aux : Nat} (h : Good q s) : Good q (State.raiseBoot s code aux) := by
  unfold State.raiseBoot
  try dsimp only
  repeat' first
    | (with_reducible first | assumption | apply Good.raise)
    | split

theorem Good.orphan {gone : WWho → Bool} (h : Good q s) : Good q (State.orphan s gone) := by
  unfold State.orphan
  try dsimp only
  repeat' first
    | (with_reducible first | assumption | apply Good.iter | apply Good.modWport)
    | split | intro _

theorem Good.imgWrite {o : Nat} {bs : List Byte} (h : Good q s) : Good q (State.imgWrite s o bs) := by
  unfold State.imgWrite
  try dsimp only
  repeat' first
    | (with_reducible first | assumption | apply Good.modBoot)
    | split

theorem Good.beginStep {j : Nat} (h : Good q s) : Good q (State.beginStep s j) := by
  unfold State.beginStep
  try dsimp only
  repeat' first
    | (with_reducible first | assumption | (refine Good.ite (fun _ => ?_) (fun _ => ?_)) | apply Good.iter
                            | apply Good.modBoot | apply Good.wEnter | apply Good.setFld | apply Good.bringUp
                            | apply Good.setReg | apply Good.modTime | apply Good.linkEnter
                            | apply Good.surveyStart)
    | split | intro _

theorem Good.enterStep {j : Nat} (h : Good q s) : Good q (State.enterStep s j) := by
  unfold State.enterStep
  try dsimp only
  repeat' first
    | (with_reducible first | assumption | (refine Good.ite (fun _ => ?_) (fun _ => ?_)) | apply Good.modBoot
                            | apply Good.setFld | apply Good.beginStep)
    | split | intro _

theorem Good.stepFail (h : Good q s) : Good q (State.stepFail s) := by
  unfold State.stepFail
  try dsimp only
  repeat' first
    | (with_reducible first | assumption | apply Good.setFld)
    | split

theorem Good.backToWait (h : Good q s) : Good q (State.backToWait s) := by
  unfold State.backToWait
  try dsimp only
  repeat' first
    | (with_reducible first | assumption | apply Good.enterStep | apply Good.setFld | apply Good.modBoot
                            | apply Good.orphan)
    | split

theorem Good.verifyFail {code err : Nat} (h : Good q s) : Good q (State.verifyFail s code err) := by
  unfold State.verifyFail
  try dsimp only
  repeat' first
    | (with_reducible first | assumption | apply Good.backToWait | apply Good.setFld | apply Good.raiseBoot)
    | split

theorem Good.verifyPass {hd msg : List Byte} (h : Good q s) : Good q (State.verifyPass s hd msg) := by
  unfold State.verifyPass
  exact Good.enterStep (Good.modBoot (Good.setReg (Good.iter h fun _ _ hu => Good.setReg hu)))

theorem Good.verify (h : Good q s) : Good q (State.verify s) := by
  unfold State.verify
  try dsimp only
  repeat' first
    | (with_reducible first | assumption | (refine Good.ite (fun _ => ?_) (fun _ => ?_)) | apply Good.verifyFail
                            | apply Good.verifyPass)
    | split | intro _

theorem Good.imageRead {a o n : Nat} {next : State → State} (h : Good q s)
    (hn : ∀ t, Good q t → Good q (next t)) : Good q (State.imageRead s a o n next) := by
  unfold State.imageRead
  split
  · exact hn _ (Good.imgWrite (Good.fst ‹_› (Good.compFetch h)))
  · exact Good.verifyFail (Good.fst ‹_› (Good.compFetch h))
  · exact Good.fst ‹_› (Good.compFetch h)

theorem Good.transfer {p : Nat} (h : Good q s) : Good q (State.transfer s p) := by
  unfold State.transfer
  try dsimp only
  repeat' first
    | (with_reducible first | assumption | (refine Good.ite (fun _ => ?_) (fun _ => ?_)) | apply Good.verifyFail
                            | apply Good.raise | apply Good.imageRead | apply Good.verify | apply Good.modBoot)
    | split | intro _

theorem Good.verifyStep (h : Good q s) : Good q (State.verifyStep s) := by
  unfold State.verifyStep
  try dsimp only
  repeat' first
    | (with_reducible first | assumption | apply Good.verify | apply Good.transfer)
    | split

theorem Good.startVerify (h : Good q s) : Good q (State.startVerify s) := by
  unfold State.startVerify
  try dsimp only
  repeat' first
    | (with_reducible first | assumption | apply Good.enterStep | apply Good.modBoot)
    | split

theorem Good.go (h : Good q s) : Good q (State.go s) := by
  unfold State.go
  try dsimp only
  repeat' first
    | (with_reducible first | assumption | (refine Good.ite (fun _ => ?_) (fun _ => ?_)) | apply Good.raiseBoot
                            | apply Good.modBoot | apply Good.startVerify)
    | split

theorem Good.alignOne {c : Nat} {e : Eye} (h : Good q s) : Good q (State.alignOne s c e) := by
  unfold State.alignOne
  try dsimp only
  repeat' first
    | (with_reducible first | assumption | (refine Good.ite (fun _ => ?_) (fun _ => ?_)) | apply Good.stepFail
                            | apply Good.raise | apply Good.setFld | apply Good.draw)
    | split

theorem Good.align {eyes : Vector Eye 15} (h : Good q s) : Good q (State.align s eyes) := by
  unfold State.align
  try dsimp only
  repeat' first
    | (with_reducible first | assumption | (refine Good.ite (fun _ => ?_) (fun _ => ?_)) | apply Good.foldl
                            | apply Good.alignOne | apply Good.enterStep)
    | split | intro _

theorem Good.memEnter {k : Nat} (h : Good q s) : Good q (State.memEnter s k) := by
  unfold State.memEnter
  try dsimp only
  repeat' first
    | (with_reducible first | assumption | (refine Good.ite (fun _ => ?_) (fun _ => ?_)) | apply Good.modBoot)
    | split | intro _

theorem Good.trainHbm {best : List Nat} (h : Good q s) : Good q (State.trainHbm s best) := by
  unfold State.trainHbm
  try dsimp only
  repeat' first
    | (with_reducible first | assumption | (refine Good.ite (fun _ => ?_) (fun _ => ?_)) | apply Good.foldl
                            | apply Good.foldl_fst | apply Good.iter | apply Good.setFld | apply Good.raise
                            | apply Good.memEnter | apply Good.stepFail)
    | split | intro _

theorem Good.tierOff {cs : List Nat} (h : Good q s) : Good q (State.tierOff s cs) := by
  unfold State.tierOff
  try dsimp only
  repeat' first
    | (with_reducible first | assumption | (refine Good.ite (fun _ => ?_) (fun _ => ?_)) | apply Good.foldl
                            | apply Good.foldl_fst | apply Good.raise | apply Good.setFld | apply Good.memEnter)
    | split | intro _

theorem Good.findDdr {spd : List (Option Spd)} (h : Good q s) : Good q (State.findDdr s spd) := by
  unfold State.findDdr
  try dsimp only
  repeat' first
    | (with_reducible first | assumption | (refine Good.ite (fun _ => ?_) (fun _ => ?_)) | apply Good.foldl
                            | apply Good.foldl_fst | apply Good.setFld | apply Good.memEnter | apply Good.modLoad
                            | apply Good.tierOff)
    | split | intro _

theorem Good.trainDdr {good : List Bool} (h : Good q s) : Good q (State.trainDdr s good) := by
  unfold State.trainDdr
  try dsimp only
  repeat' first
    | (with_reducible first | assumption | (refine Good.ite (fun _ => ?_) (fun _ => ?_)) | apply Good.foldl
                            | apply Good.foldl_fst | apply Good.setFld | apply Good.memEnter | apply Good.tierOff)
    | split | intro _

theorem Good.memClear (h : Good q s) : Good q (State.memClear s) := by
  unfold State.memClear
  try dsimp only
  repeat' first
    | (with_reducible first | assumption | (refine Good.ite (fun _ => ?_) (fun _ => ?_)) | apply Good.setFld
                            | apply Good.enterStep | apply Good.clearMem)
    | split | intro _

theorem Good.memTimeout (h : Good q s) : Good q (State.memTimeout s) := by
  unfold State.memTimeout
  try dsimp only
  repeat' first
    | (with_reducible first | assumption | (refine Good.ite (fun _ => ?_) (fun _ => ?_)) | apply Good.iter
                            | apply Good.toElapsed | apply Good.modBoot | apply Good.raise | apply Good.stepFail
                            | apply Good.tierOff | apply Good.memEnter | apply Good.setFld)
    | split | intro _

theorem Good.bootAdvance {r : BootResult} (h : Good q s) : Good q (State.bootAdvance s r) := by
  unfold State.bootAdvance
  try dsimp only
  repeat' first
    | (with_reducible first | assumption | (refine Good.ite (fun _ => ?_) (fun _ => ?_)) | apply Good.align
                            | apply Good.trainHbm | apply Good.findDdr | apply Good.trainDdr | apply Good.enterStep
                            | apply Good.verifyStep | apply Good.memClear)
    | split | intro _

theorem Good.bootTimeout (h : Good q s) : Good q (State.bootTimeout s) := by
  unfold State.bootTimeout
  try dsimp only
  repeat' first
    | (with_reducible first | assumption | (refine Good.ite (fun _ => ?_) (fun _ => ?_)) | apply Good.iter
                            | apply Good.toElapsed | apply Good.modBoot | apply Good.verifyFail
                            | apply Good.backToWait | apply Good.raiseBoot | apply Good.stepFail | apply Good.raise
                            | apply Good.memTimeout | apply Good.enterStep | apply Good.surveyTimeout)
    | split | intro _

theorem Good.resume (h : Good q s) : Good q (State.resume s) := by
  unfold State.resume
  try dsimp only
  repeat' first
    | (with_reducible first | assumption | (refine Good.ite (fun _ => ?_) (fun _ => ?_)) | apply Good.beginStep
                            | apply Good.setFld)
    | split

theorem Good.fresh {q : List Instr} {s : State} {k cause : Nat} (h : Good q s) : Good q (State.fresh s k cause) := by
  unfold State.fresh
  exact Good.setReg (Good.modPwr (Good.modBoot (Good.modTime ⟨h.queue, rfl, rfl, rfl, rfl, rfl, rfl, rfl⟩)))

theorem Good.powerUp {cause : Nat} (h : Good q s) : Good q (State.powerUp s cause) := by
  unfold State.powerUp
  try dsimp only
  repeat' first
    | (with_reducible first | assumption | apply Good.modPwr | apply Good.fresh)
    | split

theorem Good.moduleReset (h : Good q s) : Good q (State.moduleReset s) := by
  unfold State.moduleReset
  try dsimp only
  repeat' first
    | (with_reducible first | assumption | apply Good.enterStep | apply Good.fresh)
    | split

theorem Good.signingLost (h : Good q s) : Good q (State.signingLost s) := by
  unfold State.signingLost
  try dsimp only
  repeat' first
    | (with_reducible first | assumption | apply Good.setFld | apply Good.modBoot)
    | split

theorem Good.warmReset (h : Good q s) : Good q (State.warmReset s) := by
  unfold State.warmReset
  have h1 : Good q ((s.orphan WWho.lostWarm).signingLost.domsDown (List.range 22)) :=
    Good.domsDown (Good.signingLost (Good.orphan h))
  revert h1
  generalize (s.orphan WWho.lostWarm).signingLost.domsDown (List.range 22) = u
  intro h1
  dsimp only
  apply Good.enterStep
  apply Good.setReg
  apply Good.modBoot
  apply Good.modPwr
  apply Good.setFld
  apply Good.setFld
  apply Good.modFault
  exact ⟨h1.queue, smWf_smClear h1.regs, rfl, rfl, rfl, rfl, h1.wports, rfl⟩

theorem Good.computeReset {q : List Instr} {s : State} (h : Good q s) : Good q (State.computeReset s) := by
  unfold State.computeReset
  have h1 : Good q ((s.orphan WWho.isWord).signingLost.domsDown (List.range 16)) :=
    Good.domsDown (Good.signingLost (Good.orphan h))
  revert h1
  generalize (s.orphan WWho.isWord).signingLost.domsDown (List.range 16) = u
  intro h1
  dsimp only
  apply Good.modBoot
  apply Good.foldl
  · apply Good.bringUp
    apply Good.modPwr
    apply Good.setIf
    apply Good.setIf
    exact Good.modFab (Good.setReg64 (Good.setReg64 (Good.modWiora (Good.modFault ⟨h1.queue, smWf_smClear h1.regs, h1.mem, h1.poison, h1.ports, rfl, h1.wports, h1.dxs⟩) fun _ => rfl))) fun _ => rfl
  · intro t k ht
    exact Good.raiseHalt ht

theorem Good.resetNow {k : Nat} (h : Good q s) : Good q (State.resetNow s k) := by
  unfold State.resetNow
  try dsimp only
  repeat' first
    | (with_reducible first | assumption | (refine Good.ite (fun _ => ?_) (fun _ => ?_)) | apply Good.moduleReset
                            | apply Good.setFld | apply Good.modBoot | apply Good.warmReset | apply Good.computeReset)
    | split

theorem Good.resetReq {k : Nat} (h : Good q s) : Good q (State.resetReq s k) := by
  unfold State.resetReq
  try dsimp only
  repeat' first
    | (with_reducible first | assumption | (refine Good.ite (fun _ => ?_) (fun _ => ?_)) | apply Good.raiseBoot
                            | apply Good.modBoot | apply Good.resetNow | apply Good.toElapsed)
    | split

theorem Good.resetPin (h : Good q s) : Good q (State.resetPin s) := by
  unfold State.resetPin
  try dsimp only
  repeat' first
    | (with_reducible first | assumption | (refine Good.ite (fun _ => ?_) (fun _ => ?_)) | apply Good.resetReq
                            | apply Good.modPwr)
    | split

theorem Good.resetRelease (h : Good q s) : Good q (State.resetRelease s) := by
  unfold State.resetRelease
  try dsimp only
  repeat' first
    | (with_reducible first | assumption | (refine Good.ite (fun _ => ?_) (fun _ => ?_)) | apply Good.startVerify
                            | apply Good.modPwr)
    | split

theorem Good.supplyBack (h : Good q s) : Good q (State.supplyBack s) := by
  unfold State.supplyBack
  try dsimp only
  repeat' first
    | (with_reducible first | assumption | (refine Good.ite (fun _ => ?_) (fun _ => ?_)) | apply Good.powerUp)
    | split

theorem Good.domainGood (h : Good q s) : Good q (State.domainGood s) := by
  unfold State.domainGood
  try dsimp only
  repeat' first
    | (with_reducible first | assumption | (refine Good.ite (fun _ => ?_) (fun _ => ?_)) | apply Good.modCart
                            | apply Good.foldl | apply Good.powerGood | apply Good.raise)
    | split | intro _

theorem Good.domainBad (h : Good q s) : Good q (State.domainBad s) := by
  unfold State.domainBad
  try dsimp only
  repeat' first
    | (with_reducible first | assumption | (refine Good.ite (fun _ => ?_) (fun _ => ?_)) | apply Good.stepFail
                            | apply Good.raiseBoot | apply Good.pgTimeout)
    | split

theorem Good.rollCommit {v : Nat} (h : Good q s) : Good q (State.rollCommit s v) := by
  unfold State.rollCommit
  try dsimp only
  repeat' first
    | (with_reducible first | assumption | (refine Good.ite (fun _ => ?_) (fun _ => ?_)) | apply Good.raiseBoot
                            | apply Good.modBoot | apply Good.setFld)
    | split

theorem Good.rollWrite {v : Nat} (h : Good q s) : Good q (State.rollWrite s v) := by
  unfold State.rollWrite
  try dsimp only
  repeat' first
    | (with_reducible first | assumption | (refine Good.ite (fun _ => ?_) (fun _ => ?_)) | apply Good.rollCommit
                            | apply Good.setFld)
    | split

theorem Good.commitEnd (h : Good q s) : Good q (State.commitEnd s) := by
  unfold State.commitEnd
  try dsimp only
  repeat' first
    | (with_reducible first | assumption | apply Good.resetNow | apply Good.modBoot | apply Good.setFld)
    | split

theorem Good.fuseDone {blown : Bool} (h : Good q s) : Good q (State.fuseDone s blown) := by
  unfold State.fuseDone
  try dsimp only
  repeat' first
    | (with_reducible first | assumption | (refine Good.ite (fun _ => ?_) (fun _ => ?_)) | apply Good.commitEnd
                            | apply Good.raiseBoot | apply Good.modBoot | apply Good.toElapsed)
    | split

theorem Good.dbgBlow {confirm : Nat} (h : Good q s) : Good q (State.dbgBlow s confirm) := by
  unfold State.dbgBlow
  try dsimp only
  repeat' first
    | (with_reducible first | assumption | (refine Good.ite (fun _ => ?_) (fun _ => ?_)) | apply Good.raiseBoot
                            | apply Good.modBoot)
    | split

theorem Good.attRefuse (h : Good q s) : Good q (State.attRefuse s) := by
  unfold State.attRefuse
  try dsimp only
  repeat' first
    | (with_reducible first | assumption | apply Good.raiseBoot | apply Good.setFld)
    | split

theorem Good.attest (h : Good q s) : Good q (State.attest s) := by
  unfold State.attest
  try dsimp only
  repeat' first
    | (with_reducible first | assumption | (refine Good.ite (fun _ => ?_) (fun _ => ?_)) | apply Good.attRefuse
                            | apply Good.setFld | apply Good.raiseBoot | apply Good.modBoot)
    | split | intro _

theorem Good.attestDone (h : Good q s) : Good q (State.attestDone s) := by
  unfold State.attestDone
  try dsimp only
  repeat' first
    | (with_reducible first | assumption | (refine Good.ite (fun _ => ?_) (fun _ => ?_)) | apply Good.modBoot
                            | apply Good.setFld)
    | split | intro _

theorem Good.tap {ir drive : Nat} (h : Good q s) : Good q (State.tap s ir drive) := by
  unfold State.tap
  try dsimp only
  repeat' first
    | (with_reducible first | assumption | (refine Good.ite (fun _ => ?_) (fun _ => ?_)) | apply Good.modBoot)
    | split

theorem Good.tapDrive {ir drive : Nat} (h : Good q s) : Good q (State.tapDrive s ir drive) := by
  unfold State.tapDrive
  try dsimp only
  repeat' first
    | (with_reducible first | assumption | (refine Good.ite (fun _ => ?_) (fun _ => ?_)) | apply Good.tap)
    | split

theorem Good.samplePins (h : Good q s) : Good q (State.samplePins s) := by
  unfold State.samplePins
  try dsimp only
  repeat' first
    | (with_reducible first | assumption | (refine Good.ite (fun _ => ?_) (fun _ => ?_)) | apply Good.draw
                            | apply Good.tap | apply Good.modBoot)
    | split | intro _ | (refine Good.snd ‹_ = (_, _)› ?_)

/-! ### Machine/Cart.lean -/

theorem Good.raiseCart {code aux : Nat} (h : Good q s) : Good q (State.raiseCart s code aux) := by
  unfold State.raiseCart
  try dsimp only
  repeat' first
    | (with_reducible first | assumption | apply Good.raise)
    | split

theorem Good.oweCart {code aux : Nat} (h : Good q s) : Good q (State.oweCart s code aux) := by
  unfold State.oweCart
  try dsimp only
  repeat' first
    | (with_reducible first | assumption | (refine Good.ite (fun _ => ?_) (fun _ => ?_)) | apply Good.raiseCart
                            | apply Good.modCart)
    | split

theorem Good.meanOf {sum n : Nat} (h : Good q s) : Good q (State.meanOf s sum n).2 := by
  unfold State.meanOf
  try dsimp only
  repeat' first
    | (with_reducible first | assumption | apply Good.draw)
    | split

theorem Good.cartMeans (h : Good q s) : Good q (State.cartMeans s) := by
  unfold State.cartMeans
  try dsimp only
  repeat' first
    | (with_reducible first | assumption | apply Good.modCart | apply Good.meanOf)
    | split

theorem Good.cartComplete (h : Good q s) : Good q (State.cartComplete s) := by
  unfold State.cartComplete
  try dsimp only
  repeat' first
    | (with_reducible first | assumption | (refine Good.ite (fun _ => ?_) (fun _ => ?_)) | apply Good.modCart
                            | apply Good.oweCart)
    | split | intro _

theorem Good.cartRecord {kind : Nat} {fin : CartMark} {next : Nat} (h : Good q s) : Good q (State.cartRecord s kind
    fin next) := by
  unfold State.cartRecord
  try dsimp only
  repeat' first
    | (with_reducible first | assumption | (refine Good.ite (fun _ => ?_) (fun _ => ?_)) | apply Good.cartComplete
                            | apply Good.modCart | apply Good.oweCart)
    | split

theorem Good.cartCmd {agent v : Nat} {out : Bool} (h : Good q s) : Good q (State.cartCmd s agent v out) := by
  unfold State.cartCmd
  try dsimp only
  repeat' first
    | (with_reducible first | assumption | (refine Good.ite (fun _ => ?_) (fun _ => ?_)) | apply Good.raiseCart
                            | apply Good.modCart | apply Good.cartRecord)
    | split

theorem Good.cartWrite {agent v : Nat} {out : Bool} (h : Good q s) : Good q (State.cartWrite s agent v out) := by
  unfold State.cartWrite
  try dsimp only
  repeat' first
    | (with_reducible first | assumption | (refine Good.ite (fun _ => ?_) (fun _ => ?_)) | apply Good.modCart)
    | split

theorem Good.cartSample {x : CartSample} (h : Good q s) : Good q (State.cartSample s x) := by
  unfold State.cartSample
  try dsimp only
  repeat' first
    | (with_reducible first | assumption | (refine Good.ite (fun _ => ?_) (fun _ => ?_)) | apply Good.foldl
                            | apply Good.cartMeans | apply Good.modCart | apply Good.cartCmd)
    | split | intro _

theorem Good.cartLoss (h : Good q s) : Good q (State.cartLoss s) := by
  unfold State.cartLoss
  try dsimp only
  repeat' first
    | (with_reducible first | assumption | apply Good.modCart)
    | split

theorem Good.cartPair (h : Good q s) : Good q (State.cartPair s) := by
  unfold State.cartPair
  try dsimp only
  repeat' first
    | (with_reducible first | assumption | apply Good.modCart | (refine Good.ite (fun _ => ?_) (fun _ => ?_))
                            | apply Good.oweCart)
    | split

theorem Good.cartReturn {bad : Bool} (h : Good q s) : Good q (State.cartReturn s bad) := by
  unfold State.cartReturn
  try dsimp only
  repeat' first
    | (with_reducible first | assumption | (refine Good.ite (fun _ => ?_) (fun _ => ?_)) | apply Good.cartPair
                            | apply Good.oweCart | apply Good.modCart | apply Good.cartRecord)
    | split

theorem Good.cartTamper (h : Good q s) : Good q (State.cartTamper s) := by
  unfold State.cartTamper
  try dsimp only
  repeat' first
    | (with_reducible first | assumption | apply Good.oweCart | apply Good.modCart)
    | split

theorem Good.cartReverify (h : Good q s) : Good q (State.cartReverify s) := by
  unfold State.cartReverify
  try dsimp only
  repeat' first
    | (with_reducible first | assumption | apply Good.modCart)
    | split

theorem Good.cartSilent {agent n : Nat} (h : Good q s) : Good q (State.cartSilent s agent n) := by
  unfold State.cartSilent
  try dsimp only
  repeat' first
    | (with_reducible first | assumption | (refine Good.ite (fun _ => ?_) (fun _ => ?_)) | apply Good.answer
                            | apply Good.raiseCart | apply Good.pass)
    | split

/-! ### Machine/CtrlSpace.lean -/

theorem Good.keepLow {agent a : Nat} {w : Word} (h : Good q s) : Good q (State.keepLow s agent a w) := by
  unfold State.keepLow
  try dsimp only
  repeat' first
    | (with_reducible first | assumption | apply Good.modLatch)
    | split

theorem Good.dropLow {as_ : List Nat} (h : Good q s) : Good q (State.dropLow s as_) := by
  unfold State.dropLow
  try dsimp only
  repeat' first
    | (with_reducible first | assumption | apply Good.modLatch)
    | split

theorem Good.keepHigh {agent a : Nat} {w : Word} (h : Good q s) : Good q (State.keepHigh s agent a w) := by
  unfold State.keepHigh
  try dsimp only
  repeat' first
    | (with_reducible first | assumption | apply Good.modLatch)
    | split

theorem Good.dropHigh {agent a : Nat} (h : Good q s) : Good q (State.dropHigh s agent a) := by
  unfold State.dropHigh
  try dsimp only
  repeat' first
    | (with_reducible first | assumption | apply Good.modLatch)
    | split

theorem Good.plainWrite {a v : Nat} (h : Good q s) : Good q (State.plainWrite s a v) := by
  unfold State.plainWrite
  try dsimp only
  repeat' first
    | (with_reducible first | assumption | apply Good.setReg)
    | split

theorem Good.bootCtl {v : Nat} (h : Good q s) : Good q (State.bootCtl s v) := by
  unfold State.bootCtl
  try dsimp only
  repeat' first
    | (with_reducible first | assumption | (refine Good.ite (fun _ => ?_) (fun _ => ?_)) | apply Good.resume
                            | apply Good.go | apply Good.plainWrite)
    | split

theorem Good.resetWrite {v : Nat} (h : Good q s) : Good q (State.resetWrite s v) := by
  unfold State.resetWrite
  try dsimp only
  repeat' first
    | (with_reducible first | assumption | (refine Good.ite (fun _ => ?_) (fun _ => ?_)) | apply Good.resetReq)
    | split

theorem Good.bootWrite {a v : Nat} (h : Good q s) : Good q (State.bootWrite s a v) := by
  unfold State.bootWrite
  try dsimp only
  repeat' first
    | (with_reducible first | assumption | (refine Good.ite (fun _ => ?_) (fun _ => ?_)) | apply Good.ownCfg
                            | apply Good.bootCtl | apply Good.rollWrite | apply Good.resetWrite
                            | apply Good.dbgBlow | apply Good.attest | apply Good.plainWrite)
    | split | intro _

theorem Good.pwrWrite {a v : Nat} (h : Good q s) : Good q (State.pwrWrite s a v) := by
  unfold State.pwrWrite
  try dsimp only
  repeat' first
    | (with_reducible first | assumption | (refine Good.ite (fun _ => ?_) (fun _ => ?_)) | apply Good.powerCap
                            | apply Good.domOff | apply Good.syncWrite | apply Good.govWrite | apply Good.plainWrite)
    | split

theorem Good.domCtl {v : Nat} (h : Good q s) : Good q (State.domCtl s v) := by
  unfold State.domCtl
  try dsimp only
  repeat' first
    | (with_reducible first | assumption | (refine Good.ite (fun _ => ?_) (fun _ => ?_)) | apply Good.slewNow
                            | apply Good.switchRequest | apply Good.plainWrite)
    | split

theorem Good.timeWrite {a v : Nat} (h : Good q s) : Good q (State.timeWrite s a v) := by
  unfold State.timeWrite
  try dsimp only
  repeat' first
    | (with_reducible first | assumption | (refine Good.ite (fun _ => ?_) (fun _ => ?_)) | apply Good.planWrite
                            | apply Good.domCtl | apply Good.plainWrite)
    | split

theorem Good.linkWrite {p a v : Nat} (h : Good q s) : Good q (State.linkWrite s p a v) := by
  unfold State.linkWrite
  try dsimp only
  repeat' first
    | (with_reducible first | assumption | (refine Good.ite (fun _ => ?_) (fun _ => ?_)) | apply Good.linkCtl
                            | apply Good.linkCfg | apply Good.tsClear | apply Good.plainWrite)
    | split

theorem Good.expertWrite {e v : Nat} (h : Good q s) : Good q (State.expertWrite s e v) := by
  unfold State.expertWrite
  try dsimp only
  repeat' first
    | (with_reducible first | assumption | (refine Good.modFab ?_ (fun _ => rfl)) | apply Good.setFld)
    | split

theorem Good.fabWrite {a v : Nat} (h : Good q s) : Good q (State.fabWrite s a v) := by
  unfold State.fabWrite
  try dsimp only
  repeat' first
    | (with_reducible first | assumption | (refine Good.ite (fun _ => ?_) (fun _ => ?_)) | apply Good.dispatchCtl
                            | apply Good.ovlSelect | apply Good.ovlCommit | apply Good.pathSelect
                            | apply Good.pathBulk | apply Good.pathCommit | apply Good.bundleWrite
                            | apply Good.expertWrite | apply Good.plainWrite)
    | split

theorem Good.topoWrite {a v : Nat} (h : Good q s) : Good q (State.topoWrite s a v) := by
  unfold State.topoWrite
  try dsimp only
  repeat' first
    | (with_reducible first | assumption | (refine Good.ite (fun _ => ?_) (fun _ => ?_)) | apply Good.measureStart
                            | apply Good.surveyStart | apply Good.lcoordWrite | apply Good.sliceWrite
                            | apply Good.treeWrite | apply Good.fenceWrite | apply Good.setIf | apply Good.plainWrite)
    | split

theorem Good.sheetOne {i a v : Nat} (h : Good q s) : Good q (State.sheetOne s i a v) := by
  unfold State.sheetOne
  try dsimp only
  repeat' first
    | (with_reducible first | assumption | (refine Good.ite (fun _ => ?_) (fun _ => ?_)) | apply Good.legendWrite
                            | apply Good.legendCtl | apply Good.safeCtl | apply Good.holdWrite | apply Good.ringWrite
                            | apply Good.tailWrite | apply Good.plainWrite)
    | split

theorem Good.sheetWrite {i a v : Nat} (h : Good q s) : Good q (State.sheetWrite s i a v) := by
  unfold State.sheetWrite
  try dsimp only
  repeat' first
    | (with_reducible first | assumption | (refine Good.ite (fun _ => ?_) (fun _ => ?_)) | apply Good.sheetOne)
    | split | intro _

theorem Good.memRegWrite {a v : Nat} (h : Good q s) : Good q (State.memRegWrite s a v) := by
  unfold State.memRegWrite
  try dsimp only
  repeat' first
    | (with_reducible first | assumption | (refine Good.ite (fun _ => ?_) (fun _ => ?_)) | apply Good.depotPart
                            | apply Good.stageTail | apply Good.loadTail | apply Good.plainWrite)
    | split

theorem Good.wlinkWrite {a v : Nat} (h : Good q s) : Good q (State.wlinkWrite s a v) := by
  unfold State.wlinkWrite
  try dsimp only
  repeat' first
    | (with_reducible first | assumption | (refine Good.ite (fun _ => ?_) (fun _ => ?_)) | apply Good.plainWrite
                            | apply Good.setFld | apply Good.ibiPending | apply Good.wCtl | apply Good.wCfg)
    | split | intro _

theorem Good.twinWrite {on : Bool} (h : Good q s) : Good q (State.twinWrite s on) := by
  unfold State.twinWrite
  try dsimp only
  repeat' first
    | (with_reducible first | assumption | (refine Good.ite (fun _ => ?_) (fun _ => ?_)) | apply Good.setFld
                            | apply Good.raise)
    | split

theorem Good.consWrite {v : Nat} (h : Good q s) : Good q (State.consWrite s v) := by
  unfold State.consWrite
  try dsimp only
  repeat' first
    | (with_reducible first | assumption | (refine Good.ite (fun _ => ?_) (fun _ => ?_)) | apply Good.setFld)
    | split

theorem Good.faultWrite {a v : Nat} (h : Good q s) : Good q (State.faultWrite s a v) := by
  unfold State.faultWrite
  try dsimp only
  repeat' first
    | (with_reducible first | assumption | (refine Good.ite (fun _ => ?_) (fun _ => ?_)) | apply Good.twinWrite
                            | apply Good.consWrite | apply Good.plainWrite)
    | split

theorem Good.write32 {agent a v : Nat} (h : Good q s) : Good q (State.write32 s agent a v) := by
  unfold State.write32
  try dsimp only
  repeat' first
    | (with_reducible first | assumption | (refine Good.ite (fun _ => ?_) (fun _ => ?_)) | apply Good.bootWrite
                            | apply Good.pwrWrite | apply Good.timeWrite | apply Good.linkWrite | apply Good.fabWrite
                            | apply Good.topoWrite | apply Good.sheetWrite | apply Good.memRegWrite
                            | apply Good.wlinkWrite | apply Good.faultWrite | apply Good.cartWrite)
    | split

theorem Good.jobStartWrite {v : Nat} (h : Good q s) : Good q (State.jobStartWrite s v) := by
  unfold State.jobStartWrite
  try dsimp only
  repeat' first
    | (with_reducible first | assumption | apply Good.modTime | apply Good.setReg64)
    | split

theorem Good.write64 {agent a v : Nat} (h : Good q s) : Good q (State.write64 s agent a v) := by
  unfold State.write64
  try dsimp only
  repeat' first
    | (with_reducible first | assumption | (refine Good.ite (fun _ => ?_) (fun _ => ?_)) | apply Good.jobStartWrite
                            | apply Good.stageRing | apply Good.loadRing | apply Good.paceWrite | apply Good.evrWrite
                            | apply Good.setReg64 | apply Good.raise | apply Good.write32)
    | split

theorem Good.write128 {agent b v : Nat} (h : Good q s) : Good q (State.write128 s agent b v) := by
  unfold State.write128
  try dsimp only
  repeat' first
    | (with_reducible first | assumption | (refine Good.ite (fun _ => ?_) (fun _ => ?_)) | apply Good.permitCommit
                            | apply Good.dropLow | apply Good.dwinCommit)
    | split

theorem Good.writeWord {agent a v : Nat} (h : Good q s) : Good q (State.writeWord s agent a v) := by
  unfold State.writeWord
  try dsimp only
  repeat' first
    | (with_reducible first | assumption | (refine Good.ite (fun _ => ?_) (fun _ => ?_)) | apply Good.keepLow
                            | apply Good.write128 | apply Good.write64 | apply Good.dropLow | apply Good.write32)
    | split

theorem Good.writeDouble {agent a v : Nat} (h : Good q s) : Good q (State.writeDouble s agent a v) := by
  unfold State.writeDouble
  try dsimp only
  repeat' first
    | (with_reducible first | assumption | (refine Good.ite (fun _ => ?_) (fun _ => ?_)) | apply Good.write64
                            | apply Good.dropLow | apply Good.writeWord)
    | split

theorem Good.badAccess {agent a : Nat} (h : Good q s) : Good q (State.badAccess s agent a) := by
  unfold State.badAccess
  try dsimp only
  repeat' first
    | (with_reducible first | assumption | apply Good.raise)
    | split

theorem Good.refusedSeen {agent a n v : Nat} (h : Good q s) : Good q (State.refusedSeen s agent a n v) := by
  unfold State.refusedSeen
  try dsimp only
  repeat' first
    | (with_reducible first | assumption | (refine Good.ite (fun _ => ?_) (fun _ => ?_)) | apply Good.raiseBoot
                            | apply Good.cartWrite)
    | split

theorem Good.ctrlWrite {agent a n v : Nat} (h : Good q s) : Good q (State.ctrlWrite s agent a n v).1 := by
  unfold State.ctrlWrite
  try dsimp only
  repeat' first
    | (with_reducible first | assumption | (refine Good.ite (fun _ => ?_) (fun _ => ?_)) | apply Good.badAccess
                            | apply Good.ownCmd | apply Good.ownRefuse | apply Good.refusedSeen
                            | apply Good.bankDown | apply Good.raise | apply Good.writeDouble
                            | apply Good.writeWord)
    | split | intro _

theorem Good.clearRc {a : Nat} (h : Good q s) : Good q (State.clearRc s a) := by
  unfold State.clearRc
  try dsimp only
  repeat' first
    | (with_reducible first | assumption | apply Good.setReg)
    | split

theorem Good.readWord {agent a : Nat} (h : Good q s) : Good q (State.readWord s agent a).1 := by
  unfold State.readWord
  try dsimp only
  repeat' first
    | (with_reducible first | assumption | apply Good.clearRc | apply Good.keepHigh | apply Good.dropHigh)
    | split

theorem Good.readDouble {agent a : Nat} (h : Good q s) : Good q (State.readDouble s agent a).1 := by
  unfold State.readDouble
  try dsimp only
  repeat' first
    | (with_reducible first | assumption | apply Good.readWord | (refine Good.ite (fun _ => ?_) (fun _ => ?_))
                            | apply Good.clearRc)
    | split

theorem Good.ctrlRead {agent a n : Nat} (h : Good q s) : Good q (State.ctrlRead s agent a n).1 := by
  unfold State.ctrlRead
  try dsimp only
  repeat' first
    | (with_reducible first | assumption | (refine Good.ite (fun _ => ?_) (fun _ => ?_)) | apply Good.badAccess
                            | apply Good.bankDown | apply Good.readDouble | apply Good.readWord)
    | split | intro _ | (refine Good.fst ‹_ = (_, _)› ?_)

theorem Good.access {agent : Agent} {a n v : Nat} (h : Good q s) : Good q (State.access s agent a n v) := by
  unfold State.access
  try dsimp only
  repeat' first
    | (with_reducible first | assumption | (refine Good.ite (fun _ => ?_) (fun _ => ?_)) | apply Good.answer
                            | apply Good.ctrlWrite)
    | split

theorem Good.readAccess {agent : Agent} {a n : Nat} (h : Good q s) : Good q (State.readAccess s agent a n) := by
  unfold State.readAccess
  try dsimp only
  repeat' first
    | (with_reducible first | assumption | (refine Good.ite (fun _ => ?_) (fun _ => ?_)) | apply Good.answer
                            | apply Good.ctrlRead)
    | split

/-! ### Machine/Regs.lean -/

theorem Good.accessFld {agent : Agent} {f : Fld} {v : Nat} (h : Good q s) : Good q (State.accessFld s agent f v) := by
  unfold State.accessFld
  try dsimp only
  repeat' first
    | (with_reducible first | assumption | apply Good.access)
    | split

/-! ### Machine/WRequest.lean -/

theorem Good.wRead {p : Nat} {m : WMsg} {ecc : Ecc} (h : Good q s) : Good q (State.wRead s p m ecc) := by
  unfold State.wRead
  try dsimp only
  repeat' first
    | (with_reducible first | assumption | (refine Good.ite (fun _ => ?_) (fun _ => ?_)) | apply Good.raise
                            | apply Good.wRefuse | apply Good.ctrlRead | apply Good.wReply | apply Good.agentRead)
    | split | intro _ | (refine Good.fst ‹_ = (_, _)› ?_) | (refine Good.fst3 ‹_ = (_, _, _)› ?_)

theorem Good.wWrite {p : Nat} {m : WMsg} (h : Good q s) : Good q (State.wWrite s p m) := by
  unfold State.wWrite
  try dsimp only
  repeat' first
    | (with_reducible first | assumption | apply Good.wReply | apply Good.raise | apply Good.ctrlWrite
                            | apply Good.agentWrite)
    | split | (refine Good.fst ‹_ = (_, _)› ?_)

theorem Good.onMsg {p cls : Nat} {ops : List Nat} {f : State → WMsg → State} (h : Good q s)
    (hf : ∀ t m, Good q t → Good q (f t m)) : Good q (State.onMsg s p cls ops f) := by
  unfold State.onMsg
  split
  · exact Good.wPump (hf _ _ (Good.popMsg h _ _ ‹_›))
  · exact h

theorem Good.wForeign {p : Nat} {m : WMsg} (h : Good q s) : Good q (State.wForeign s p m) := by
  unfold State.wForeign
  try dsimp only
  repeat' first
    | (with_reducible first | assumption | (refine Good.ite (fun _ => ?_) (fun _ => ?_)) | apply Good.raise
                            | apply Good.wReplyData | apply Good.wReplyCmp)
    | split | intro _

theorem Good.wReadDone {p : Nat} {r : WReq} {status : Nat} {data : List Byte} (h : Good q s) : Good q (State.wReadDone
    s p r status data) := by
  unfold State.wReadDone
  try dsimp only
  repeat' first
    | (with_reducible first | assumption | (refine Good.ite (fun _ => ?_) (fun _ => ?_)) | apply Good.wDropReq
                            | apply Good.paceData | apply Good.evData | apply Good.wKeep | apply Good.wUnhold
                            | apply Good.awayDone)
    | split | intro _

theorem Good.wRdData {p : Nat} {m : WMsg} (h : Good q s) : Good q (State.wRdData s p m) := by
  unfold State.wRdData
  try dsimp only
  repeat' first
    | (with_reducible first | assumption | (refine Good.ite (fun _ => ?_) (fun _ => ?_)) | apply Good.wReadDone
                            | apply Good.raise)
    | split

theorem Good.wWriteDone {p : Nat} {r : WReq} {status : Nat} (h : Good q s) : Good q (State.wWriteDone s p r status) :=
    by
  unfold State.wWriteDone
  try dsimp only
  repeat' first
    | (with_reducible first | assumption | (refine Good.ite (fun _ => ?_) (fun _ => ?_)) | apply Good.deliver
                            | apply Good.wDropReq | apply Good.deliverAcked | apply Good.intEvent
                            | apply Good.awayDone | apply Good.wKeep | apply Good.wUnhold)
    | split | intro _

theorem Good.wCmp {p : Nat} {m : WMsg} (h : Good q s) : Good q (State.wCmp s p m) := by
  unfold State.wCmp
  try dsimp only
  repeat' first
    | (with_reducible first | assumption | (refine Good.ite (fun _ => ?_) (fun _ => ?_)) | apply Good.wWriteDone)
    | split

/-! ### Machine/Mgmt.lean -/

theorem Good.mgmt {q : List Instr} {s : State} {f : State → State} (h : Good q s) (hf : ∀ t, Good q t → Good q (f t)) :
    Good q (State.mgmt s f) := by
  unfold State.mgmt
  exact Good.ite (fun _ => hf _ h) fun _ => h

theorem Good.i3cAssign {a : Nat} (h : Good q s) : Good q (State.i3cAssign s a) := by
  unfold State.i3cAssign
  try dsimp only
  repeat' first
    | (with_reducible first | assumption | (refine Good.ite (fun _ => ?_) (fun _ => ?_)) | apply Good.setFld
                            | apply Good.ibiPending)
    | split | intro _

theorem Good.mgmtCmd {bs : List Byte} {pec : Byte} {f : State → State} (h : Good q s)
    (hf : ∀ t, Good q t → Good q (f t)) : Good q (State.mgmtCmd s bs pec f) := by
  unfold State.mgmtCmd
  refine Good.mgmt h fun t ht => ?_
  split
  · exact hf t ht
  · exact ht

theorem Good.i3cGet {bs : List Byte} (h : Good q s) : Good q (State.i3cGet s bs) := by
  unfold State.i3cGet
  try dsimp only
  repeat' first
    | (with_reducible first | assumption | (refine Good.ite (fun _ => ?_) (fun _ => ?_)) | apply Good.answer)
    | split

theorem Good.i3cStatus (h : Good q s) : Good q (State.i3cStatus s) := by
  unfold State.i3cStatus
  try dsimp only
  repeat' first
    | (with_reducible first | assumption | (refine Good.ite (fun _ => ?_) (fun _ => ?_)) | apply Good.answer
                            | apply Good.draw)
    | split

theorem Good.mgmtRead {a n : Nat} (h : Good q s) : Good q (State.mgmtRead s a n) := by
  unfold State.mgmtRead
  try dsimp only
  repeat' first
    | (with_reducible first | assumption | (refine Good.ite (fun _ => ?_) (fun _ => ?_)) | apply Good.ctrlRead
                            | apply Good.mgmtAnswer)
    | split | intro _ | (refine Good.fst3 ‹_ = (_, _, _)› ?_)

theorem Good.mgmtWrite {a n v : Nat} (h : Good q s) : Good q (State.mgmtWrite s a n v) := by
  unfold State.mgmtWrite
  try dsimp only
  repeat' first
    | (with_reducible first | assumption | (refine Good.ite (fun _ => ?_) (fun _ => ?_)) | apply Good.ctrlWrite
                            | apply Good.mgmtAnswer)
    | split | intro _ | (refine Good.fst ‹_ = (_, _)› ?_)

theorem Good.mgmtMemRead {a : Nat} {ecc : Ecc} (h : Good q s) : Good q (State.mgmtMemRead s a ecc) := by
  unfold State.mgmtMemRead
  try dsimp only
  repeat' first
    | (with_reducible first | assumption | (refine Good.ite (fun _ => ?_) (fun _ => ?_)) | apply Good.agentRead
                            | apply Good.mgmt | apply Good.mgmtAnswer)
    | split | intro _ | (refine Good.fst ‹_ = (_, _)› ?_)

theorem Good.mgmtMemWrite {a : Nat} {bs : List Byte} (h : Good q s) : Good q (State.mgmtMemWrite s a bs) := by
  unfold State.mgmtMemWrite
  try dsimp only
  repeat' first
    | (with_reducible first | assumption | (refine Good.ite (fun _ => ?_) (fun _ => ?_)) | apply Good.agentWrite
                            | apply Good.mgmt | apply Good.mgmtAnswer)
    | split | intro _ | (refine Good.fst ‹_ = (_, _)› ?_)

theorem Good.mgmtImage {o : Nat} {bs : List Byte} (h : Good q s) : Good q (State.mgmtImage s o bs) := by
  unfold State.mgmtImage
  try dsimp only
  repeat' first
    | (with_reducible first | assumption | (refine Good.ite (fun _ => ?_) (fun _ => ?_)) | apply Good.mgmtAnswer
                            | apply Good.ownRefuse | apply Good.imgWrite)
    | split | intro _

theorem Good.mgmtOther {c o : Nat} {bs : List Byte} (h : Good q s) : Good q (State.mgmtOther s c o bs) := by
  unfold State.mgmtOther
  try dsimp only
  repeat' first
    | (with_reducible first | assumption | (refine Good.ite (fun _ => ?_) (fun _ => ?_)) | apply Good.mgmtImage
                            | apply Good.mgmtAnswer)
    | split | intro _

end Sys2Proof.Machine
end

