-- ==== Sys2Proof/Laws/GoodCommand.lean ====
section
/-! SUPPORT. Every command keeps a state good: one lemma for each meaning. -/

namespace Sys2Proof.Machine

variable {q : List Instr} {s : State}

/-- Whatever next state an outcome answers is good. -/
def NextGood (q : List Instr) : Out → Prop
  | .next t => Good q t
  | _ => True

theorem NextGood.next {t : State} (h : Good q t) : NextGood q (.next t) := h

theorem Good.execNakRepeat {port : Port} (h : Good q s) : NextGood q (Machine.execNakRepeat port s) :=
  NextGood.next (Good.nakRepeat h)

theorem Good.execReplayTimeout {port : Port} (h : Good q s) : NextGood q (Machine.execReplayTimeout port s) :=
  NextGood.next (Good.replayTimeout h)

theorem Good.execLinkDetectTimeout {port : Port} (h : Good q s) : NextGood q (Machine.execLinkDetectTimeout port s) :=
  NextGood.next (Good.detectTimeout h)

theorem Good.execLinkSignalDetected {port : Port} {lanes : BitVec 8} (h : Good q s) : NextGood q
    (Machine.execLinkSignalDetected port lanes s) :=
  NextGood.next (Good.signalDetected h)

theorem Good.execLinkEqualizeDone {port : Port} {good : BitVec 8} (h : Good q s) : NextGood q
    (Machine.execLinkEqualizeDone port good s) :=
  NextGood.next (Good.equalizeDone h)

theorem Good.execLinkEqualizeTimeout {port : Port} (h : Good q s) : NextGood q (Machine.execLinkEqualizeTimeout port
    s) :=
  NextGood.next (Good.equalizeTimeout h)

theorem Good.execLinkAlignDone {port : Port} (h : Good q s) : NextGood q (Machine.execLinkAlignDone port s) :=
  NextGood.next (Good.alignDone h)

theorem Good.execLinkAlignTimeout {port : Port} (h : Good q s) : NextGood q (Machine.execLinkAlignTimeout port s) :=
  NextGood.next (Good.alignTimeout h)

theorem Good.execInitRecordReceive {port : Port} {flit : RawFlit} (h : Good q s) : NextGood q
    (Machine.execInitRecordReceive port flit s) :=
  NextGood.next (Good.initReceive h)

theorem Good.execLinkInitTimeout {port : Port} (h : Good q s) : NextGood q (Machine.execLinkInitTimeout port s) :=
  NextGood.next (Good.initTimeout h)

theorem Good.execLaneLoss {port : Port} {lane : Fin 8} (h : Good q s) : NextGood q (Machine.execLaneLoss port lane s)
    :=
  NextGood.next (Good.laneLoss h)

theorem Good.execSerLimitExceeded {port : Port} {lane : Fin 8} {count : BitVec 32} (h : Good q s) : NextGood q
    (Machine.execSerLimitExceeded port lane count s) :=
  NextGood.next (Good.serCount h)

theorem Good.execGraceExpire {port : Port} (h : Good q s) : NextGood q (Machine.execGraceExpire port s) :=
  NextGood.next (Good.graceExpire h)

theorem Good.execLinkFlitReceive {port : Port} {flit : RawFlit} {fec : Fec} (h : Good q s) : NextGood q
    (Machine.execLinkFlitReceive port flit fec s) :=
  NextGood.next (Good.linkReceive h)

theorem Good.execRefclkEdge {dom : Dom} (h : Good q s) : NextGood q (Machine.execRefclkEdge dom s) := by
  unfold Machine.execRefclkEdge
  try dsimp only
  apply NextGood.next
  repeat' first
    | (with_reducible first | assumption | (refine Good.ite (fun _ => ?_) (fun _ => ?_)) | apply Good.domEnter)
    | split

theorem Good.execRefclkLoss {dom : Dom} (h : Good q s) : NextGood q (Machine.execRefclkLoss dom s) :=
  NextGood.next (Good.refLoss h)

theorem Good.execDomainAcqDone {dom : Dom} (h : Good q s) : NextGood q (Machine.execDomainAcqDone dom s) := by
  unfold Machine.execDomainAcqDone
  try dsimp only
  apply NextGood.next
  repeat' first
    | (with_reducible first | assumption | (refine Good.ite (fun _ => ?_) (fun _ => ?_)) | apply Good.checkHoldover
                            | apply Good.domEnter | apply Good.toElapsed)
    | split

theorem Good.execPpsTimeout {dom : Dom} (h : Good q s) : NextGood q (Machine.execPpsTimeout dom s) := by
  unfold Machine.execPpsTimeout
  try dsimp only
  apply NextGood.next
  repeat' first
    | (with_reducible first | assumption | (refine Good.ite (fun _ => ?_) (fun _ => ?_)) | apply Good.trackLost
                            | apply Good.toElapsed)
    | split

theorem Good.execTodMessage {dom : Dom} {bytes : List Byte} (h : Good q s) : NextGood q (Machine.execTodMessage dom
    bytes s) :=
  NextGood.next (Good.todMessage h)

theorem Good.execDomainRevert (h : Good q s) : NextGood q (Machine.execDomainRevert s) := by
  unfold Machine.execDomainRevert
  try dsimp only
  apply NextGood.next
  repeat' first
    | (with_reducible first | assumption | (refine Good.ite (fun _ => ?_) (fun _ => ?_)) | apply Good.domSwitch
                            | apply Good.toElapsed)
    | split

theorem Good.execHoldoverLimit (h : Good q s) : NextGood q (Machine.execHoldoverLimit s) := by
  unfold Machine.execHoldoverLimit
  try dsimp only
  apply NextGood.next
  repeat' first
    | (with_reducible first | assumption | (refine Good.ite (fun _ => ?_) (fun _ => ?_)) | apply Good.raise
                            | apply Good.toElapsed)
    | split

theorem Good.execServoStep (h : Good q s) : NextGood q (Machine.execServoStep s) :=
  NextGood.next (Good.servoStep h)

theorem Good.execBeaconSend {port : Port} (h : Good q s) : NextGood q (Machine.execBeaconSend port s) :=
  NextGood.next (Good.beaconSend h)

theorem Good.execBeaconSymbol {port : Port} (h : Good q s) : NextGood q (Machine.execBeaconSymbol port s) :=
  NextGood.next (Good.beaconHear h)

theorem Good.execSurveySend (h : Good q s) : NextGood q (Machine.execSurveySend s) :=
  NextGood.next (Good.surveySend h)

theorem Good.execSurveySymbol {port : Port} (h : Good q s) : NextGood q (Machine.execSurveySymbol port s) :=
  NextGood.next (Good.surveyHear h)

theorem Good.execSurveyTimeout (h : Good q s) : NextGood q (Machine.execSurveyTimeout s) :=
  NextGood.next (Good.surveyTimeout h)

theorem Good.execMeasureTimeout {port : Port} (h : Good q s) : NextGood q (Machine.execMeasureTimeout port s) :=
  NextGood.next (Good.measureTimeout h)

theorem Good.execFenceSymbol {port : Port} (h : Good q s) : NextGood q (Machine.execFenceSymbol port s) :=
  NextGood.next (Good.fenceHear h)

theorem Good.execHoldSymbol {port : Port} (h : Good q s) : NextGood q (Machine.execHoldSymbol port s) :=
  NextGood.next (Good.holdHear h)

theorem Good.execSlipDecision (h : Good q s) : NextGood q (Machine.execSlipDecision s) :=
  NextGood.next (Good.slipDecision h)

theorem Good.execSlipSymbol {port : Port} (h : Good q s) : NextGood q (Machine.execSlipSymbol port s) :=
  NextGood.next (Good.slipHear h)

theorem Good.execStepBoundary {sheet : Sheet} {lag : Lag} (h : Good q s) : NextGood q (Machine.execStepBoundary sheet
    lag s) :=
  NextGood.next (Good.stepBoundary h)

theorem Good.execWordFetch {sheet : Sheet} {engine : Engine} {ecc : Ecc} (h : Good q s) : NextGood q
    (Machine.execWordFetch sheet engine ecc s) :=
  NextGood.next (Good.wordFetch h)

theorem Good.execSheetScrubRead {sheet : Sheet} {ecc : Ecc} (h : Good q s) : NextGood q (Machine.execSheetScrubRead
    sheet ecc s) :=
  NextGood.next (Good.sheetScrub h)

theorem Good.execSheetClearDone {sheet : Sheet} (h : Good q s) : NextGood q (Machine.execSheetClearDone sheet s) := by
  unfold Machine.execSheetClearDone
  try dsimp only
  apply NextGood.next
  repeat' first
    | (with_reducible first | assumption | (refine Good.ite (fun _ => ?_) (fun _ => ?_)) | apply Good.setFld)
    | split

theorem Good.execMxMatrix {sheet : Sheet} {ecc : Ecc} (h : Good q s) : NextGood q (Machine.execMxMatrix sheet ecc s)
    :=
  NextGood.next (Good.mxMatrix h)

theorem Good.execTileLoad {sheet : Sheet} {ecc : Ecc} (h : Good q s) : NextGood q (Machine.execTileLoad sheet ecc s)
    :=
  NextGood.next (Good.tileLoad h)

theorem Good.execVxOutlierAdd {sheet : Sheet} {ecc : Ecc} (h : Good q s) : NextGood q (Machine.execVxOutlierAdd sheet
    ecc s) :=
  NextGood.next (Good.outlierAdd h)

theorem Good.execVxConvert {sheet : Sheet} {ecc : Ecc} (h : Good q s) : NextGood q (Machine.execVxConvert sheet ecc s)
    :=
  NextGood.next (Good.convert h)

theorem Good.execVxGuardReport {sheet : Sheet} (h : Good q s) : NextGood q (Machine.execVxGuardReport sheet s) :=
  NextGood.next (Good.guardReport h)

theorem Good.execVxGuardDecide {sheet : Sheet} {ecc : Ecc} (h : Good q s) : NextGood q (Machine.execVxGuardDecide
    sheet ecc s) :=
  NextGood.next (Good.guardDecide h)

theorem Good.execVxContourDrain {sheet : Sheet} {ecc : Ecc} (h : Good q s) : NextGood q (Machine.execVxContourDrain
    sheet ecc s) :=
  NextGood.next (Good.contourDrain h)

theorem Good.execVxMarkRead {sheet : Sheet} {ecc : Ecc} (h : Good q s) : NextGood q (Machine.execVxMarkRead sheet ecc
    s) :=
  NextGood.next (Good.markRead h)

theorem Good.execVxLoad {sheet : Sheet} {ecc : Ecc} (h : Good q s) : NextGood q (Machine.execVxLoad sheet ecc s) :=
  NextGood.next (Good.vectorLoad h)

theorem Good.execVxStore {sheet : Sheet} {ecc : Ecc} (h : Good q s) : NextGood q (Machine.execVxStore sheet ecc s) :=
  NextGood.next (Good.vectorStore h)

theorem Good.execVxFma {sheet : Sheet} {ecc : Ecc} (h : Good q s) : NextGood q (Machine.execVxFma sheet ecc s) :=
  NextGood.next (Good.laneWord h)

theorem Good.execVxAdd {sheet : Sheet} {ecc : Ecc} (h : Good q s) : NextGood q (Machine.execVxAdd sheet ecc s) :=
  NextGood.next (Good.laneWord h)

theorem Good.execVxMul {sheet : Sheet} {ecc : Ecc} (h : Good q s) : NextGood q (Machine.execVxMul sheet ecc s) :=
  NextGood.next (Good.laneWord h)

theorem Good.execVxMin {sheet : Sheet} {ecc : Ecc} (h : Good q s) : NextGood q (Machine.execVxMin sheet ecc s) :=
  NextGood.next (Good.laneWord h)

theorem Good.execVxMax {sheet : Sheet} {ecc : Ecc} (h : Good q s) : NextGood q (Machine.execVxMax sheet ecc s) :=
  NextGood.next (Good.laneWord h)

theorem Good.execVxCmpLt {sheet : Sheet} {ecc : Ecc} (h : Good q s) : NextGood q (Machine.execVxCmpLt sheet ecc s) :=
  NextGood.next (Good.laneWord h)

theorem Good.execVxCmpLe {sheet : Sheet} {ecc : Ecc} (h : Good q s) : NextGood q (Machine.execVxCmpLe sheet ecc s) :=
  NextGood.next (Good.laneWord h)

theorem Good.execVxCmpEq {sheet : Sheet} {ecc : Ecc} (h : Good q s) : NextGood q (Machine.execVxCmpEq sheet ecc s) :=
  NextGood.next (Good.laneWord h)

theorem Good.execVxNarrowBf16 {sheet : Sheet} {ecc : Ecc} (h : Good q s) : NextGood q (Machine.execVxNarrowBf16 sheet
    ecc s) :=
  NextGood.next (Good.laneWord h)

theorem Good.execVxWidenBf16 {sheet : Sheet} {ecc : Ecc} (h : Good q s) : NextGood q (Machine.execVxWidenBf16 sheet
    ecc s) :=
  NextGood.next (Good.laneWord h)

theorem Good.execVxExp2 {sheet : Sheet} {ecc : Ecc} (h : Good q s) : NextGood q (Machine.execVxExp2 sheet ecc s) :=
  NextGood.next (Good.laneWord h)

theorem Good.execVxLog2 {sheet : Sheet} {ecc : Ecc} (h : Good q s) : NextGood q (Machine.execVxLog2 sheet ecc s) :=
  NextGood.next (Good.laneWord h)

theorem Good.execVxRcp {sheet : Sheet} {ecc : Ecc} (h : Good q s) : NextGood q (Machine.execVxRcp sheet ecc s) :=
  NextGood.next (Good.laneWord h)

theorem Good.execVxRsqrt {sheet : Sheet} {ecc : Ecc} (h : Good q s) : NextGood q (Machine.execVxRsqrt sheet ecc s) :=
  NextGood.next (Good.laneWord h)

theorem Good.execVxTanh {sheet : Sheet} {ecc : Ecc} (h : Good q s) : NextGood q (Machine.execVxTanh sheet ecc s) :=
  NextGood.next (Good.laneWord h)

theorem Good.execVxErf {sheet : Sheet} {ecc : Ecc} (h : Good q s) : NextGood q (Machine.execVxErf sheet ecc s) :=
  NextGood.next (Good.laneWord h)

theorem Good.execMvCopy {sheet : Sheet} {ecc : Ecc} (h : Good q s) : NextGood q (Machine.execMvCopy sheet ecc s) :=
  NextGood.next (Good.moveCopy h)

theorem Good.execMvReduce {sheet : Sheet} {ecc : Ecc} (h : Good q s) : NextGood q (Machine.execMvReduce sheet ecc s)
    :=
  NextGood.next (Good.moveReduce h)

theorem Good.execMvLegendLoad {sheet : Sheet} {ecc : Ecc} (h : Good q s) : NextGood q (Machine.execMvLegendLoad sheet
    ecc s) :=
  NextGood.next (Good.moveLegend h)

theorem Good.execStLoad {sheet : Sheet} {ecc : Ecc} (h : Good q s) : NextGood q (Machine.execStLoad sheet ecc s) :=
  NextGood.next (Good.storeLoad h)

theorem Good.execStStore {sheet : Sheet} {ecc : Ecc} (h : Good q s) : NextGood q (Machine.execStStore sheet ecc s) :=
  NextGood.next (Good.storeWord h)

theorem Good.execStControlLoad {sheet : Sheet} {ecc : Ecc} (h : Good q s) : NextGood q (Machine.execStControlLoad
    sheet ecc s) :=
  NextGood.next (Good.controlLoad h)

theorem Good.execStOverlayLoad {sheet : Sheet} {ecc : Ecc} (h : Good q s) : NextGood q (Machine.execStOverlayLoad
    sheet ecc s) :=
  NextGood.next (Good.overlayLoad h)

theorem Good.execSFlitReceive {port : Port} (h : Good q s) : NextGood q (Machine.execSFlitReceive port s) :=
  NextGood.next (Good.receiveS h)

theorem Good.execDoneSymbol {port : Port} (h : Good q s) : NextGood q (Machine.execDoneSymbol port s) :=
  NextGood.next (Good.doneHear h)

theorem Good.execDxEntryRead {engine : Fin 16} {ecc : Ecc} (h : Good q s) : NextGood q (Machine.execDxEntryRead engine
    ecc s) :=
  NextGood.next (Good.dxRead h)

theorem Good.execMarkFrame {engine : Fin 16} (h : Good q s) : NextGood q (Machine.execMarkFrame engine s) :=
  NextGood.next (Good.markFrame h)

theorem Good.execMarkJump {engine : Fin 16} (h : Good q s) : NextGood q (Machine.execMarkJump engine s) :=
  NextGood.next (Good.markJump h)

theorem Good.execMarkEnd {engine : Fin 16} (h : Good q s) : NextGood q (Machine.execMarkEnd engine s) :=
  NextGood.next (Good.markEnd h)

theorem Good.execEntryArm {engine : Fin 16} (h : Good q s) : NextGood q (Machine.execEntryArm engine s) :=
  NextGood.next (Good.entryArm h)

theorem Good.execDepartureDue {engine : Fin 16} {tag : BitVec 24} {ecc : Ecc} (h : Good q s) : NextGood q
    (Machine.execDepartureDue engine tag ecc s) :=
  NextGood.next (Good.departureDue h)

theorem Good.execOverflowSend {tag : BitVec 24} (h : Good q s) : NextGood q (Machine.execOverflowSend tag s) :=
  NextGood.next (Good.overflowSend h)

theorem Good.execLateDeparture {port : Fin 32} (h : Good q s) : NextGood q (Machine.execLateDeparture port s) :=
  NextGood.next (Good.lateDeparture h)

theorem Good.execPathLoadDone {fail : Option (BitVec 16)} {companion : List Byte} (h : Good q s) : NextGood q
    (Machine.execPathLoadDone fail companion s) :=
  NextGood.next (Good.pathLoadDone h)

theorem Good.execBundleQueueClose (h : Good q s) : NextGood q (Machine.execBundleQueueClose s) :=
  NextGood.next (Good.bundleClose h)

theorem Good.execFlitTransmit {port : Port} (h : Good q s) : NextGood q (Machine.execFlitTransmit port s) :=
  NextGood.next (Good.lineFree h)

theorem Good.execAgentMemoryAccess {who : Option Agent} {addr : BitVec 48} {req : MemOp} {ecc : Ecc} (h : Good q s) :
    NextGood q (Machine.execAgentMemoryAccess who addr req ecc s) :=
  NextGood.next (Good.memAccess h)

theorem Good.execSheetWindowAccess {who : Option Agent} {sheet : Sheet} {off : BitVec 22} {req : MemOp} {ecc : Ecc} (h
    : Good q s) : NextGood q (Machine.execSheetWindowAccess who sheet off req ecc s) :=
  NextGood.next (Good.memAccess h)

theorem Good.execRefreshWindow {dev : Fin 16} (h : Good q s) : NextGood q (Machine.execRefreshWindow dev s) :=
  NextGood.next (Good.refreshBegin h)

theorem Good.execMemoryScrubRead {dev : Fin 17} {ecc : Ecc} (h : Good q s) : NextGood q (Machine.execMemoryScrubRead
    dev ecc s) :=
  NextGood.next (Good.memScrub h)

theorem Good.execStageCopyStart {ecc : Ecc} (h : Good q s) : NextGood q (Machine.execStageCopyStart ecc s) :=
  NextGood.next (Good.stageStart h)

theorem Good.execStageCopyDone {ecc : Ecc} (h : Good q s) : NextGood q (Machine.execStageCopyDone ecc s) :=
  NextGood.next (Good.stageDone h)

theorem Good.execXPacketReceive {port : Port} {ecc : Ecc} (h : Good q s) : NextGood q (Machine.execXPacketReceive port
    ecc s) :=
  NextGood.next (Good.xReceive h)

theorem Good.execXRequestTimeout {xseq : BitVec 16} (h : Good q s) : NextGood q (Machine.execXRequestTimeout xseq s)
    :=
  NextGood.next (Good.xTimeout h)

theorem Good.execTokenExpire {source : BitVec 17} {token : BitVec 15} (h : Good q s) : NextGood q
    (Machine.execTokenExpire source token s) :=
  NextGood.next (Good.tokenExpire h)

theorem Good.execFaultPacketReceive {port : Port} (h : Good q s) : NextGood q (Machine.execFaultPacketReceive port s)
    :=
  NextGood.next (Good.xReceive h)

theorem Good.execMergeWindowExpire {entry : Fin 64} (h : Good q s) : NextGood q (Machine.execMergeWindowExpire entry
    s) :=
  NextGood.next (Good.mergeExpire h)

theorem Good.execLoadDescriptorBegin {ecc : Ecc} (h : Good q s) : NextGood q (Machine.execLoadDescriptorBegin ecc s)
    :=
  NextGood.next (Good.loadBegin h)

theorem Good.execLoadResponse {slot : Fin 64} {offset : BitVec 32} {ecc : Ecc} (h : Good q s) : NextGood q
    (Machine.execLoadResponse slot offset ecc s) :=
  NextGood.next (Good.loadResponse h)

theorem Good.execLoadAttemptTimeout {slot : Fin 64} (h : Good q s) : NextGood q (Machine.execLoadAttemptTimeout slot
    s) :=
  NextGood.next (Good.loadTimeout h)

theorem Good.execWioraFlitReceive {wport : WPort} {flit : WFlit} {fec : WFec} (h : Good q s) : NextGood q
    (Machine.execWioraFlitReceive wport flit fec s) :=
  NextGood.next (Good.wReceive h)

theorem Good.execWioraReplayTimeout {wport : WPort} (h : Good q s) : NextGood q (Machine.execWioraReplayTimeout wport
    s) :=
  NextGood.next (Good.wReplayTimeout h)

theorem Good.execWioraStateTimeout {wport : WPort} (h : Good q s) : NextGood q (Machine.execWioraStateTimeout wport s)
    :=
  NextGood.next (Good.wStateTimeout h)

theorem Good.execWioraTrainDone {wport : WPort} {result : WTrain} (h : Good q s) : NextGood q
    (Machine.execWioraTrainDone wport result s) :=
  NextGood.next (Good.wTrained h)

theorem Good.execWioraGraceExpire {wport : WPort} (h : Good q s) : NextGood q (Machine.execWioraGraceExpire wport s)
    :=
  NextGood.next (Good.wGrace h)

theorem Good.execWioraLaneLoss {wport : WPort} {_lane : Fin 16} (h : Good q s) : NextGood q (Machine.execWioraLaneLoss
    wport _lane s) :=
  NextGood.next (Good.wRetrain h)

theorem Good.execBatchOpen {ecc : Ecc} (h : Good q s) : NextGood q (Machine.execBatchOpen ecc s) :=
  NextGood.next (Good.batchOpen h)

theorem Good.execIntGapExpire {wport : WPort} (h : Good q s) : NextGood q (Machine.execIntGapExpire wport s) :=
  NextGood.next (Good.intGap h)

theorem Good.execOwnClaim {agent : Agent} (h : Good q s) : NextGood q (Machine.execOwnClaim agent s) :=
  NextGood.next (Good.ownCmd h)

theorem Good.execOwnRenew {agent : Agent} (h : Good q s) : NextGood q (Machine.execOwnRenew agent s) :=
  NextGood.next (Good.ownCmd h)

theorem Good.execOwnRelease {agent : Agent} (h : Good q s) : NextGood q (Machine.execOwnRelease agent s) :=
  NextGood.next (Good.ownCmd h)

theorem Good.execOwnOffer {agent : Agent} {target : BitVec 3} (h : Good q s) : NextGood q (Machine.execOwnOffer agent
    target s) :=
  NextGood.next (Good.ownCmd h)

theorem Good.execOwnAccept {agent : Agent} (h : Good q s) : NextGood q (Machine.execOwnAccept agent s) :=
  NextGood.next (Good.ownCmd h)

theorem Good.execOwnWithdraw {agent : Agent} (h : Good q s) : NextGood q (Machine.execOwnWithdraw agent s) :=
  NextGood.next (Good.ownCmd h)

theorem Good.execLeaseExpire (h : Good q s) : NextGood q (Machine.execLeaseExpire s) :=
  NextGood.next (Good.leaseExpire h)

theorem Good.execCrossingLowMargin {crossing : Fin 15} {margin : BitVec 3} (h : Good q s) : NextGood q
    (Machine.execCrossingLowMargin crossing margin s) :=
  NextGood.next (Good.lowMargin h)

theorem Good.execGovernorPeriod {sample : PeriodSample} (h : Good q s) : NextGood q (Machine.execGovernorPeriod sample
    s) :=
  NextGood.next (Good.period h)

theorem Good.execInputUndervoltage (h : Good q s) : NextGood q (Machine.execInputUndervoltage s) :=
  NextGood.next (Good.inputFail h)

theorem Good.execInputOvervoltage (h : Good q s) : NextGood q (Machine.execInputOvervoltage s) :=
  NextGood.next (Good.inputFail h)

theorem Good.execOvercurrentTrip (h : Good q s) : NextGood q (Machine.execOvercurrentTrip s) :=
  NextGood.next (Good.overcurrent h)

theorem Good.execMateOpen (h : Good q s) : NextGood q (Machine.execMateOpen s) := by
  unfold Machine.execMateOpen
  try dsimp only
  apply NextGood.next
  repeat' first
    | (with_reducible first | assumption | apply Good.modPwr | (refine Good.ite (fun _ => ?_) (fun _ => ?_))
                            | apply Good.bothOpen)
    | split

theorem Good.execFrameBoundary {temps : Vector (BitVec 8) 16} (h : Good q s) : NextGood q (Machine.execFrameBoundary
    temps s) :=
  NextGood.next (Good.frameBoundary h)

theorem Good.execPowerUp (h : Good q s) : NextGood q (Machine.execPowerUp s) := by
  unfold Machine.execPowerUp
  try dsimp only
  apply NextGood.next
  repeat' first
    | (with_reducible first | assumption | (refine Good.ite (fun _ => ?_) (fun _ => ?_)) | apply Good.powerUp)
    | split

theorem Good.execResetPin (h : Good q s) : NextGood q (Machine.execResetPin s) :=
  NextGood.next (Good.resetPin h)

theorem Good.execResetNRelease (h : Good q s) : NextGood q (Machine.execResetNRelease s) :=
  NextGood.next (Good.resetRelease h)

theorem Good.execBootStepAdvance {result : BootResult} (h : Good q s) : NextGood q (Machine.execBootStepAdvance result
    s) :=
  NextGood.next (Good.bootAdvance h)

theorem Good.execBootStepTimeout (h : Good q s) : NextGood q (Machine.execBootStepTimeout s) :=
  NextGood.next (Good.bootTimeout h)

theorem Good.execDomainPgTimeout (h : Good q s) : NextGood q (Machine.execDomainPgTimeout s) :=
  NextGood.next (Good.domainBad h)

theorem Good.execDomainPowerGood (h : Good q s) : NextGood q (Machine.execDomainPowerGood s) :=
  NextGood.next (Good.domainGood h)

theorem Good.execFuseBlowDone {blown : Bool} (h : Good q s) : NextGood q (Machine.execFuseBlowDone blown s) :=
  NextGood.next (Good.fuseDone h)

theorem Good.execAttestDone (h : Good q s) : NextGood q (Machine.execAttestDone s) :=
  NextGood.next (Good.attestDone h)

theorem Good.execInputRecover (h : Good q s) : NextGood q (Machine.execInputRecover s) := by
  unfold Machine.execInputRecover
  try dsimp only
  apply NextGood.next
  repeat' first
    | (with_reducible first | assumption | apply Good.supplyBack | apply Good.modPwr)
    | split

theorem Good.execMateClose (h : Good q s) : NextGood q (Machine.execMateClose s) := by
  unfold Machine.execMateClose
  try dsimp only
  apply NextGood.next
  repeat' first
    | (with_reducible first | assumption | apply Good.supplyBack | apply Good.modPwr)
    | split

theorem Good.execExtest (h : Good q s) : NextGood q (Machine.execExtest s) :=
  NextGood.next (Good.tapDrive h)

theorem Good.execClamp (h : Good q s) : NextGood q (Machine.execClamp s) :=
  NextGood.next (Good.tapDrive h)

theorem Good.execHighz (h : Good q s) : NextGood q (Machine.execHighz s) :=
  NextGood.next (Good.tapDrive h)

theorem Good.execSamplePreload (h : Good q s) : NextGood q (Machine.execSamplePreload s) :=
  NextGood.next (Good.samplePins h)

theorem Good.execIdcode (h : Good q s) : NextGood q (Machine.execIdcode s) := by
  unfold Machine.execIdcode
  try dsimp only
  apply NextGood.next
  repeat' first
    | (with_reducible first | assumption | (refine Good.ite (fun _ => ?_) (fun _ => ?_)) | apply Good.answer
                            | apply Good.tap)
    | split

theorem Good.execIjtag (h : Good q s) : NextGood q (Machine.execIjtag s) := by
  unfold Machine.execIjtag
  try dsimp only
  apply NextGood.next
  repeat' first
    | (with_reducible first | assumption | (refine Good.ite (fun _ => ?_) (fun _ => ?_)) | apply Good.tap)
    | split

theorem Good.execBypass (h : Good q s) : NextGood q (Machine.execBypass s) :=
  NextGood.next (Good.tap h)

theorem Good.execTestLogicReset (h : Good q s) : NextGood q (Machine.execTestLogicReset s) :=
  NextGood.next (Good.tap h)

theorem Good.execCartSample {sample : CartSample} (h : Good q s) : NextGood q (Machine.execCartSample sample s) :=
  NextGood.next (Good.cartSample h)

theorem Good.execCartSignDone (h : Good q s) : NextGood q (Machine.execCartSignDone s) := by
  unfold Machine.execCartSignDone
  try dsimp only
  apply NextGood.next
  repeat' first
    | (with_reducible first | assumption | (refine Good.ite (fun _ => ?_) (fun _ => ?_)) | apply Good.cartComplete)
    | split

theorem Good.execCartSupplyLoss (h : Good q s) : NextGood q (Machine.execCartSupplyLoss s) :=
  NextGood.next (Good.cartLoss h)

theorem Good.execCartSupplyReturn {bad : Bool} (h : Good q s) : NextGood q (Machine.execCartSupplyReturn bad s) :=
  NextGood.next (Good.cartReturn h)

theorem Good.execTamperSwitch (h : Good q s) : NextGood q (Machine.execTamperSwitch s) :=
  NextGood.next (Good.cartTamper h)

theorem Good.execCartReverify (h : Good q s) : NextGood q (Machine.execCartReverify s) :=
  NextGood.next (Good.cartReverify h)

theorem Good.execCartReadTimeout {agent : Agent} {wide : Bool} (h : Good q s) : NextGood q
    (Machine.execCartReadTimeout agent wide s) :=
  NextGood.next (Good.cartSilent h)

theorem Good.execRegisterWrite {agent : Agent} {addr : BitVec 26} {size : Nat} {value : DWord} (h : Good q s) :
    NextGood q (Machine.execRegisterWrite agent addr size value s) :=
  NextGood.next (Good.access h)

theorem Good.execRegisterReadClear {agent : Agent} {addr : BitVec 26} {size : Nat} (h : Good q s) : NextGood q
    (Machine.execRegisterReadClear agent addr size s) :=
  NextGood.next (Good.readAccess h)

theorem Good.execTimeCountRead {agent : Agent} {part : TimePart} (h : Good q s) : NextGood q
    (Machine.execTimeCountRead agent part s) := by
  unfold Machine.execTimeCountRead
  split <;> exact NextGood.next (Good.readAccess h)

theorem Good.execLegendWindowWrite {agent : Agent} {sheet : Sheet} {k : Fin 512} {value : Word} (h : Good q s) :
    NextGood q (Machine.execLegendWindowWrite agent sheet k value s) :=
  NextGood.next (Good.access h)

theorem Good.execLegendRestore {agent : Agent} {sheet : Sheet} {clearBad : Bool} (h : Good q s) : NextGood q
    (Machine.execLegendRestore agent sheet clearBad s) :=
  NextGood.next (Good.access h)

theorem Good.execQTailWrite {agent : Agent} {sheet : Sheet} {engine : Engine} {value : Word} (h : Good q s) : NextGood
    q (Machine.execQTailWrite agent sheet engine value s) :=
  NextGood.next (Good.access h)

theorem Good.execQRingWrite {agent : Agent} {sheet : Sheet} {engine : Engine} {value : Word} (h : Good q s) : NextGood
    q (Machine.execQRingWrite agent sheet engine value s) :=
  NextGood.next (Good.access h)

theorem Good.execSheetSyncWrite {agent : Agent} {sheet : Sheet} {reg : SyncReg} {value : DWord} (h : Good q s) :
    NextGood q (Machine.execSheetSyncWrite agent sheet reg value s) := by
  unfold Machine.execSheetSyncWrite
  split <;> exact NextGood.next (Good.access h)

theorem Good.execSheetRun {agent : Agent} {sheet : Sheet} {run : Bool} (h : Good q s) : NextGood q
    (Machine.execSheetRun agent sheet run s) :=
  NextGood.next (Good.accessFld h)

theorem Good.execContourCfgWrite {agent : Agent} {sheet : Sheet} {bank : Fin 4} {value : Word} (h : Good q s) :
    NextGood q (Machine.execContourCfgWrite agent sheet bank value s) :=
  NextGood.next (Good.access h)

theorem Good.execContourClear {agent : Agent} {sheet : Sheet} {banks : BitVec 4} (h : Good q s) : NextGood q
    (Machine.execContourClear agent sheet banks s) :=
  NextGood.next (Good.accessFld h)

theorem Good.execSatClear {agent : Agent} {sheet : Sheet} {counters : BitVec 4} (h : Good q s) : NextGood q
    (Machine.execSatClear agent sheet counters s) :=
  NextGood.next (Good.accessFld h)

theorem Good.execOvlSelect {agent : Agent} {value : Word} (h : Good q s) : NextGood q (Machine.execOvlSelect agent
    value s) :=
  NextGood.next (Good.access h)

theorem Good.execOvlCommit {agent : Agent} (h : Good q s) : NextGood q (Machine.execOvlCommit agent s) :=
  NextGood.next (Good.access h)

theorem Good.execDispatchEnable {agent : Agent} {value : Word} (h : Good q s) : NextGood q (Machine.execDispatchEnable
    agent value s) :=
  NextGood.next (Good.access h)

theorem Good.execPathSelect {agent : Agent} {value : Word} (h : Good q s) : NextGood q (Machine.execPathSelect agent
    value s) :=
  NextGood.next (Good.access h)

theorem Good.execPathCommit {agent : Agent} (h : Good q s) : NextGood q (Machine.execPathCommit agent s) :=
  NextGood.next (Good.access h)

theorem Good.execPathBulkLoad {agent : Agent} (h : Good q s) : NextGood q (Machine.execPathBulkLoad agent s) :=
  NextGood.next (Good.access h)

theorem Good.execBundleAreaWrite {agent : Agent} {reg : BundleReg} {value : Word} (h : Good q s) : NextGood q
    (Machine.execBundleAreaWrite agent reg value s) := by
  unfold Machine.execBundleAreaWrite
  split <;> exact NextGood.next (Good.access h)

theorem Good.execLinkEnable {agent : Agent} {port : Port} {on : Bool} (h : Good q s) : NextGood q
    (Machine.execLinkEnable agent port on s) :=
  NextGood.next (Good.accessFld h)

theorem Good.execLinkRetrainCmd {agent : Agent} {port : Port} (h : Good q s) : NextGood q (Machine.execLinkRetrainCmd
    agent port s) :=
  NextGood.next (Good.accessFld h)

theorem Good.execLinkWidthMax {agent : Agent} {port : Port} {on : Bool} (h : Good q s) : NextGood q
    (Machine.execLinkWidthMax agent port on s) :=
  NextGood.next (Good.accessFld h)

theorem Good.execLinkHalfRate {agent : Agent} {port : Port} {on : Bool} (h : Good q s) : NextGood q
    (Machine.execLinkHalfRate agent port on s) := by
  unfold Machine.execLinkHalfRate
  refine NextGood.next ?_
  split
  · exact Good.linkRetrain (Good.accessFld h)
  · exact Good.accessFld h

theorem Good.execLinkCfgWrite {agent : Agent} {port : Port} {value : Word} (h : Good q s) : NextGood q
    (Machine.execLinkCfgWrite agent port value s) :=
  NextGood.next (Good.access h)

theorem Good.execPermitCommit {agent : Agent} {port : Port} {k : Fin 1024} {value : Word} (h : Good q s) : NextGood q
    (Machine.execPermitCommit agent port k value s) :=
  NextGood.next (Good.access h)

theorem Good.execSurveyStart {agent : Agent} (h : Good q s) : NextGood q (Machine.execSurveyStart agent s) :=
  NextGood.next (Good.access h)

theorem Good.execCircuitMeasure {agent : Agent} (h : Good q s) : NextGood q (Machine.execCircuitMeasure agent s) :=
  NextGood.next (Good.access h)

theorem Good.execSliceRegWrite {agent : Agent} {reg : SliceReg} {value : Word} (h : Good q s) : NextGood q
    (Machine.execSliceRegWrite agent reg value s) := by
  unfold Machine.execSliceRegWrite
  split <;> exact NextGood.next (Good.access h)

theorem Good.execFenceRequest {agent : Agent} {on : Bool} (h : Good q s) : NextGood q (Machine.execFenceRequest agent
    on s) :=
  NextGood.next (Good.access h)

theorem Good.execLcoordWrite {agent : Agent} {value : Word} (h : Good q s) : NextGood q (Machine.execLcoordWrite agent
    value s) :=
  NextGood.next (Good.access h)

theorem Good.execPlanWrite {agent : Agent} {value : Word} (h : Good q s) : NextGood q (Machine.execPlanWrite agent
    value s) :=
  NextGood.next (Good.access h)

theorem Good.execGovCfgWrite {agent : Agent} {bank : Fin 16} {reg : GovReg} {value : Word} (h : Good q s) : NextGood q
    (Machine.execGovCfgWrite agent bank reg value s) := by
  unfold Machine.execGovCfgWrite
  split <;> exact NextGood.next (Good.access h)

theorem Good.execDomainSwitchRequest {agent : Agent} (h : Good q s) : NextGood q (Machine.execDomainSwitchRequest
    agent s) :=
  NextGood.next (Good.accessFld h)

theorem Good.execSlewNow {agent : Agent} (h : Good q s) : NextGood q (Machine.execSlewNow agent s) :=
  NextGood.next (Good.accessFld h)

theorem Good.execTsClear {agent : Agent} {port : Port} (h : Good q s) : NextGood q (Machine.execTsClear agent port s)
    :=
  NextGood.next (Good.accessFld h)

theorem Good.execPpsEdge {dom : Dom} {frac : BitVec 8} (h : Good q s) : NextGood q (Machine.execPpsEdge dom frac s) :=
  NextGood.next (Good.ppsEdge h)

theorem Good.execDepotPartWrite {agent : Agent} {value : Word} (h : Good q s) : NextGood q (Machine.execDepotPartWrite
    agent value s) :=
  NextGood.next (Good.access h)

theorem Good.execStageTailWrite {agent : Agent} {value : Word} (h : Good q s) : NextGood q (Machine.execStageTailWrite
    agent value s) :=
  NextGood.next (Good.access h)

theorem Good.execLoadTailWrite {agent : Agent} {value : Word} (h : Good q s) : NextGood q (Machine.execLoadTailWrite
    agent value s) :=
  NextGood.next (Good.access h)

theorem Good.execLoadRingWrite {agent : Agent} {value : DWord} (h : Good q s) : NextGood q (Machine.execLoadRingWrite
    agent value s) :=
  NextGood.next (Good.access h)

theorem Good.execWioraEnable {agent : Agent} {wport : WPort} {on : Bool} (h : Good q s) : NextGood q
    (Machine.execWioraEnable agent wport on s) :=
  NextGood.next (Good.accessFld h)

theorem Good.execWioraRetrainCmd {agent : Agent} {wport : WPort} (h : Good q s) : NextGood q
    (Machine.execWioraRetrainCmd agent wport s) :=
  NextGood.next (Good.accessFld h)

theorem Good.execWioraWidthMax {agent : Agent} {wport : WPort} {on : Bool} (h : Good q s) : NextGood q
    (Machine.execWioraWidthMax agent wport on s) := by
  unfold Machine.execWioraWidthMax
  refine NextGood.next ?_
  split
  · exact Good.wRetrain (Good.accessFld h)
  · exact Good.accessFld h

theorem Good.execWioraHalfRate {agent : Agent} {wport : WPort} {on : Bool} (h : Good q s) : NextGood q
    (Machine.execWioraHalfRate agent wport on s) := by
  unfold Machine.execWioraHalfRate
  refine NextGood.next ?_
  split
  · exact Good.wRetrain (Good.accessFld h)
  · exact Good.accessFld h

theorem Good.execWioraCfgWrite {agent : Agent} {wport : WPort} {value : Word} (h : Good q s) : NextGood q
    (Machine.execWioraCfgWrite agent wport value s) :=
  NextGood.next (Good.access h)

theorem Good.execDwinWrite {agent : Agent} {wport : WPort} {k : Fin 8} {value : Word} (h : Good q s) : NextGood q
    (Machine.execDwinWrite agent wport k value s) :=
  NextGood.next (Good.access h)

theorem Good.execEvrWrite {agent : Agent} {wport : WPort} {value : DWord} (h : Good q s) : NextGood q
    (Machine.execEvrWrite agent wport value s) :=
  NextGood.next (Good.access h)

theorem Good.execBqCfgWrite {agent : Agent} {value : Word} (h : Good q s) : NextGood q (Machine.execBqCfgWrite agent
    value s) :=
  NextGood.next (Good.access h)

theorem Good.execOwnCfgWrite {agent : Agent} {value : Word} (h : Good q s) : NextGood q (Machine.execOwnCfgWrite agent
    value s) :=
  NextGood.next (Good.access h)

theorem Good.execModuleReset {agent : Agent} (h : Good q s) : NextGood q (Machine.execModuleReset agent s) :=
  NextGood.next (Good.access h)

theorem Good.execWarmReset {agent : Agent} (h : Good q s) : NextGood q (Machine.execWarmReset agent s) :=
  NextGood.next (Good.access h)

theorem Good.execComputeReset {agent : Agent} (h : Good q s) : NextGood q (Machine.execComputeReset agent s) :=
  NextGood.next (Good.access h)

theorem Good.execBootGo {agent : Agent} {src : BitVec 2} (h : Good q s) : NextGood q (Machine.execBootGo agent src s)
    :=
  NextGood.next (Good.access h)

theorem Good.execBootResume {agent : Agent} (h : Good q s) : NextGood q (Machine.execBootResume agent s) :=
  NextGood.next (Good.accessFld h)

theorem Good.execRollbackCommit {agent : Agent} {value : BitVec 7} (h : Good q s) : NextGood q
    (Machine.execRollbackCommit agent value s) :=
  NextGood.next (Good.access h)

theorem Good.execDbgLockBlow {agent : Agent} {confirm : BitVec 8} (h : Good q s) : NextGood q (Machine.execDbgLockBlow
    agent confirm s) :=
  NextGood.next (Good.access h)

theorem Good.execAttestStart {agent : Agent} {badA badB : Bool} (h : Good q s) : NextGood q (Machine.execAttestStart
    agent badA badB s) := by
  unfold Machine.execAttestStart
  try dsimp only
  apply NextGood.next
  repeat' first
    | (with_reducible first | assumption | apply Good.access | (refine Good.ite (fun _ => ?_) (fun _ => ?_))
                            | apply Good.modBoot)
    | split

theorem Good.execTwinEnable {agent : Agent} {on : Bool} (h : Good q s) : NextGood q (Machine.execTwinEnable agent on
    s) :=
  NextGood.next (Good.access h)

theorem Good.execTraceRingWrite {agent : Agent} {value : DWord} (h : Good q s) : NextGood q
    (Machine.execTraceRingWrite agent value s) :=
  NextGood.next (Good.access h)

theorem Good.execCartOpen {agent : Agent} {slice : BitVec 16} (h : Good q s) : NextGood q (Machine.execCartOpen agent
    slice s) :=
  NextGood.next (Good.access h)

theorem Good.execCartClose {agent : Agent} (h : Good q s) : NextGood q (Machine.execCartClose agent s) :=
  NextGood.next (Good.access h)

theorem Good.execCartCollect {agent : Agent} {n : BitVec 8} (h : Good q s) : NextGood q (Machine.execCartCollect agent
    n s) :=
  NextGood.next (Good.access h)

theorem Good.execPowerCapWrite {agent : Agent} {value : Word} (h : Good q s) : NextGood q (Machine.execPowerCapWrite
    agent value s) :=
  NextGood.next (Good.access h)

theorem Good.execDomOffWrite {agent : Agent} {value : Word} (h : Good q s) : NextGood q (Machine.execDomOffWrite agent
    value s) :=
  NextGood.next (Good.access h)

theorem Good.execSyncCtlWrite {agent : Agent} {value : Word} (h : Good q s) : NextGood q (Machine.execSyncCtlWrite
    agent value s) :=
  NextGood.next (Good.access h)

theorem Good.execRdncReceive {wport : WPort} {ecc : Ecc} (h : Good q s) : NextGood q (Machine.execRdncReceive wport
    ecc s) := by
  unfold Machine.execRdncReceive
  try dsimp only
  apply NextGood.next
  repeat' first
    | (with_reducible first | assumption | apply Good.onMsg | apply Good.wRead)
    | split | intro _

theorem Good.execRdpReceive {wport : WPort} {ecc : Ecc} (h : Good q s) : NextGood q (Machine.execRdpReceive wport ecc
    s) := by
  unfold Machine.execRdpReceive
  try dsimp only
  apply NextGood.next
  repeat' first
    | (with_reducible first | assumption | apply Good.onMsg | apply Good.wRead)
    | split | intro _

theorem Good.execWrncReceive {wport : WPort} (h : Good q s) : NextGood q (Machine.execWrncReceive wport s) := by
  unfold Machine.execWrncReceive
  try dsimp only
  apply NextGood.next
  repeat' first
    | (with_reducible first | assumption | apply Good.onMsg | apply Good.wWrite)
    | split | intro _

theorem Good.execWrpReceive {wport : WPort} (h : Good q s) : NextGood q (Machine.execWrpReceive wport s) := by
  unfold Machine.execWrpReceive
  try dsimp only
  apply NextGood.next
  repeat' first
    | (with_reducible first | assumption | apply Good.onMsg | apply Good.wWrite)
    | split | intro _

theorem Good.execRdsRdeFromCompanion {wport : WPort} (h : Good q s) : NextGood q (Machine.execRdsRdeFromCompanion
    wport s) := by
  unfold Machine.execRdsRdeFromCompanion
  try dsimp only
  apply NextGood.next
  repeat' first
    | (with_reducible first | assumption | apply Good.onMsg | apply Good.wForeign)
    | split | intro _

theorem Good.execSnpinvReceive {wport : WPort} (h : Good q s) : NextGood q (Machine.execSnpinvReceive wport s) := by
  unfold Machine.execSnpinvReceive
  try dsimp only
  apply NextGood.next
  repeat' first
    | (with_reducible first | assumption | apply Good.onMsg | apply Good.snoop)
    | split | intro _

theorem Good.execSnpdataReceive {wport : WPort} (h : Good q s) : NextGood q (Machine.execSnpdataReceive wport s) := by
  unfold Machine.execSnpdataReceive
  try dsimp only
  apply NextGood.next
  repeat' first
    | (with_reducible first | assumption | apply Good.onMsg | apply Good.snoop)
    | split | intro _

theorem Good.execRddataReceive {wport : WPort} (h : Good q s) : NextGood q (Machine.execRddataReceive wport s) := by
  unfold Machine.execRddataReceive
  try dsimp only
  apply NextGood.next
  repeat' first
    | (with_reducible first | assumption | apply Good.onMsg | apply Good.wRdData)
    | split | intro _

theorem Good.execCmpReceive {wport : WPort} (h : Good q s) : NextGood q (Machine.execCmpReceive wport s) := by
  unfold Machine.execCmpReceive
  try dsimp only
  apply NextGood.next
  repeat' first
    | (with_reducible first | assumption | apply Good.onMsg | apply Good.wCmp)
    | split | intro _

theorem Good.execEntdaa {addr : BitVec 7} (h : Good q s) : NextGood q (Machine.execEntdaa addr s) := by
  unfold Machine.execEntdaa
  try dsimp only
  apply NextGood.next
  repeat' first
    | (with_reducible first | assumption | apply Good.mgmt | apply Good.i3cAssign)
    | split | intro _

theorem Good.execSetdasa {addr : BitVec 7} (h : Good q s) : NextGood q (Machine.execSetdasa addr s) := by
  unfold Machine.execSetdasa
  try dsimp only
  apply NextGood.next
  repeat' first
    | (with_reducible first | assumption | apply Good.mgmt | apply Good.i3cAssign)
    | split | intro _

theorem Good.execRstdaa (h : Good q s) : NextGood q (Machine.execRstdaa s) := by
  unfold Machine.execRstdaa
  try dsimp only
  apply NextGood.next
  repeat' first
    | (with_reducible first | assumption | apply Good.mgmt | apply Good.setFld)
    | split | intro _

theorem Good.execGetpid (h : Good q s) : NextGood q (Machine.execGetpid s) := by
  unfold Machine.execGetpid
  try dsimp only
  apply NextGood.next
  repeat' first
    | (with_reducible first | assumption | apply Good.mgmt | apply Good.i3cGet)
    | split | intro _

theorem Good.execGetbcr (h : Good q s) : NextGood q (Machine.execGetbcr s) := by
  unfold Machine.execGetbcr
  try dsimp only
  apply NextGood.next
  repeat' first
    | (with_reducible first | assumption | apply Good.mgmt | apply Good.i3cGet)
    | split | intro _

theorem Good.execGetdcr (h : Good q s) : NextGood q (Machine.execGetdcr s) := by
  unfold Machine.execGetdcr
  try dsimp only
  apply NextGood.next
  repeat' first
    | (with_reducible first | assumption | apply Good.mgmt | apply Good.i3cGet)
    | split | intro _

theorem Good.execGetstatus (h : Good q s) : NextGood q (Machine.execGetstatus s) := by
  unfold Machine.execGetstatus
  try dsimp only
  apply NextGood.next
  repeat' first
    | (with_reducible first | assumption | apply Good.mgmt | apply Good.i3cStatus)
    | split | intro _

theorem Good.execEnec (h : Good q s) : NextGood q (Machine.execEnec s) := by
  unfold Machine.execEnec
  try dsimp only
  apply NextGood.next
  repeat' first
    | (with_reducible first | assumption | apply Good.mgmt | apply Good.ibiPending
                            | apply Good.setFld)
    | split | intro _

theorem Good.execDisec (h : Good q s) : NextGood q (Machine.execDisec s) := by
  unfold Machine.execDisec
  try dsimp only
  apply NextGood.next
  repeat' first
    | (with_reducible first | assumption | apply Good.mgmt | apply Good.setFld)
    | split | intro _

theorem Good.execRstact {definingByte : BitVec 8} (h : Good q s) : NextGood q (Machine.execRstact definingByte s) :=
    by
  unfold Machine.execRstact
  try dsimp only
  apply NextGood.next
  repeat' first
    | (with_reducible first | assumption | apply Good.mgmt | apply Good.mgmtWrite)
    | split | intro _

theorem Good.execMgmtCtrlRead32 {addr : Coded (BitVec 32)} (h : Good q s) :
    NextGood q (Machine.execMgmtCtrlRead32 addr s) :=
  NextGood.next (Good.mgmtCmd h fun _ ht => Good.mgmtRead ht)

theorem Good.execMgmtCtrlWrite32 {addr : BitVec 32} {data : Coded Word} (h : Good q s) :
    NextGood q (Machine.execMgmtCtrlWrite32 addr data s) :=
  NextGood.next (Good.mgmtCmd h fun _ ht => Good.mgmtWrite ht)

theorem Good.execMgmtCtrlRead64 {addr : Coded (BitVec 32)} (h : Good q s) :
    NextGood q (Machine.execMgmtCtrlRead64 addr s) :=
  NextGood.next (Good.mgmtCmd h fun _ ht => Good.mgmtRead ht)

theorem Good.execMgmtCtrlWrite64 {addr : BitVec 32} {data : Coded DWord} (h : Good q s) :
    NextGood q (Machine.execMgmtCtrlWrite64 addr data s) :=
  NextGood.next (Good.mgmtCmd h fun _ ht => Good.mgmtWrite ht)

theorem Good.execMgmtMemRead {addr : Coded (BitVec 48)} {ecc : Ecc} (h : Good q s) :
    NextGood q (Machine.execMgmtMemRead addr ecc s) :=
  NextGood.next (Good.mgmtCmd h fun _ ht => Good.mgmtMemRead ht)

theorem Good.execMgmtMemWrite {addr : BitVec 48} {data : Coded DWord} (h : Good q s) :
    NextGood q (Machine.execMgmtMemWrite addr data s) :=
  NextGood.next (Good.mgmtCmd h fun _ ht => Good.mgmtMemWrite ht)

theorem Good.execMgmtImageWrite {offset : ImageAt} {data : Coded (List Byte)} (h : Good q s) :
    NextGood q (Machine.execMgmtImageWrite offset data s) :=
  NextGood.next (Good.mgmtCmd h fun _ ht => Good.mgmtOther ht)

end Sys2Proof.Machine
end

