-- ==== Sys2Proof/Tests/Slice0.lean ====
section
/-! SUPPORT. Tests: each check of well-formedness refuses an ill-formed command; the spec's worked examples; and for
every obligation with hypotheses, concrete states and operands that meet the hypotheses of its clauses. -/

set_option Elab.async false

namespace Sys2Proof.Tests

open Sys2Proof.Machine

/-! ### Helpers -/

def flit0 : RawFlit := { hdr := 0, payload := List.replicate 256 0 }
def shortFlit : RawFlit := { hdr := 0, payload := [] }
def wflit0 : WFlit := { hdr := 0, payload := List.replicate 236 0 }

/-- A state with some fields set. -/
def put (s : State) (l : List (Fld × Nat)) : State := l.foldl (fun t e => t.setFld e.1 e.2) s

/-- A module that is READY, with every domain up, owned by MGMT. -/
def up : State :=
  put State.reset [(BOOT_STAT_step, 10), (PWR_DOM_STAT_on, 0x1FFFFFF), (PWR_STAT_main, 1), (GEN_OWN_STAT_owner, 3)]

/-- The state an outcome goes on with. -/
def nextOf : Host.Outcome State Fault Refusal → State
  | .next s => s
  | _ => State.reset

/-! ### Well-formedness -/

theorem test_wf_registerWrite : (Instr.registerWrite .wa 0 0 0).wf = false ∧ (Instr.registerWrite .wa 0 9 0).wf = false
    ∧ (Instr.registerWrite .wa 0 4 0x100000000).wf = false ∧ (Instr.registerWrite .wa 0 4 0xFFFFFFFF).wf = true := by
  decide
theorem test_wf_registerReadClear : (Instr.registerReadClear .wa 0 0).wf = false
    ∧ (Instr.registerReadClear .wa 0 9).wf = false ∧ (Instr.registerReadClear .wa 0 8).wf = true := by decide
theorem test_wf_sheetSyncWrite : (Instr.sheetSyncWrite .wa 0 (.ct 0) 0x100000000).wf = false
    ∧ (Instr.sheetSyncWrite .wa 0 (.cmpCtl 0) 0x100000000).wf = false
    ∧ (Instr.sheetSyncWrite .wa 0 .flags 0x100000000).wf = true
    ∧ (Instr.sheetSyncWrite .wa 0 (.cmpVal 0) 0x100000000).wf = true := by decide
theorem test_wf_sheetWindowAccess : (Instr.sheetWindowAccess none 0 0 (.read 0) .clean).wf = false
    ∧ (Instr.sheetWindowAccess none 0 0 (.read 4) .clean).wf = true := by decide
theorem test_wf_agentMemoryAccess : (Instr.agentMemoryAccess none 0 (.write []) .clean).wf = false
    ∧ (Instr.agentMemoryAccess none 0 (.write [1]) .clean).wf = true := by decide
theorem test_wf_linkFlitReceive : (Instr.linkFlitReceive 0 shortFlit .clean).wf = false
    ∧ (Instr.linkFlitReceive 0 flit0 .clean).wf = true := by decide +kernel
theorem test_wf_initRecordReceive : (Instr.initRecordReceive 0 shortFlit).wf = false
    ∧ (Instr.initRecordReceive 0 flit0).wf = true := by decide +kernel
theorem test_wf_wioraFlitReceive : (Instr.wioraFlitReceive 0 { hdr := 0, payload := [] } .ok).wf = false
    ∧ (Instr.wioraFlitReceive 0 wflit0 .ok).wf = true := by decide +kernel
theorem test_wf_todMessage : (Instr.todMessage .a [0]).wf = false
    ∧ (Instr.todMessage .a (List.replicate 16 0)).wf = true := by decide
theorem test_wf_mgmtImageWrite : (Instr.mgmtImageWrite ⟨0x10, 0⟩ ⟨[], 0⟩).wf = false
    ∧ (Instr.mgmtImageWrite ⟨0x10, 0⟩ ⟨[1], 0⟩).wf = true := by decide

/-! ### Number formats (02_number_formats: R26, R36, and the worked examples) -/

/-- E4M3 0x44 is 12 x 2^-2; E5M2 0xFB is -7 x 2^13. -/
theorem test_decode_elements : decE4M3 0x44 = { m := 12, k := -2 }
    ∧ (decE5M2 0xFB).neg = true ∧ ((decE5M2 0xFB).m : Int) * 2 ^ (decE5M2 0xFB).k.toNat = 57344 := by decide +kernel

/-- Entry 0x4910 is 6, 0xF7B0 is -0.15625 and 0x4D10 is 10; all three are valid. -/
theorem test_legend_entries : termSum (legendTerms 0x4910) = 6 * 256 ∧ termSum (legendTerms 0xF7B0) = -40
    ∧ termSum (legendTerms 0x4D10) = 10 * 256 ∧ legendBad 0xF7B0 = false ∧ legendBad 0x4D10 = false := by decide +kernel

/-- The MXFP4 weight 6 at scale 2^-2 times the E4M3 activation 3 at scale 2^1 is 9: 72 units of datum -3. -/
theorem test_product_mxfp4 :
    contribute (decE4M3 0x44) (termSum (legendTerms 0x4910)) ((decUe8m0 0x7D).mul (decUe8m0 0x80)) false (-3)
      = { q := 72 } := by decide +kernel

/-- The products 1, 3 and -5 times 2^-4 at datum -3: ties to even, UNDER. -/
theorem test_round_ties : ((roundToDatum 1 (-4) (-3)).q, (roundToDatum 1 (-4) (-3)).toZero) = (0, true)
    ∧ (roundToDatum 3 (-4) (-3)).q = 2 ∧ (roundToDatum (-5) (-4) (-3)).q = -2
    ∧ (roundToDatum 3 (-4) (-3)).under = true := by decide +kernel

/-- 2^152 at datum -3 clamps to 2^150 - 1 units and sets OVER. -/
theorem test_round_clamps : (roundToDatum 1 152 (-3)).q = 2 ^ 150 - 1 ∧ (roundToDatum 1 152 (-3)).ovf = true := by
  decide +kernel

/-! ### Packed blocks (03_exact_arithmetic, the split reduction) -/

def blockOf (a : Int) : List AccEntry := { val := BitVec.ofInt 192 a } :: List.replicate 31 {}

/-- Module B: in place, header 0x0019, field 0 = 0x1000001, 104 bytes. -/
theorem test_pack_in_place : (packBlock (blockOf (-16777215)) 25 none false).esc = none
    ∧ (packBlock (blockOf (-16777215)) 25 none false).main.length = 104
    ∧ leField (packBlock (blockOf (-16777215)) 25 none false).main 0 2 = 0x0019
    ∧ bits (leNat (packBlock (blockOf (-16777215)) 25 none false).main) 16 25 = 0x1000001 := by decide +kernel

/-- Module A: 16,777,217 needs 26 bits: header 0x0119, and an escaped block of 776 bytes with header 0x01C0. -/
theorem test_pack_escapes : leField (packBlock (blockOf 16777217) 25 none false).main 0 2 = 0x0119
    ∧ ((packBlock (blockOf 16777217) 25 none false).esc.map fun e => (e.length, leField e 0 2, leField e 8 4))
      = some (776, 0x01C0, 16777217) := by decide +kernel

/-! ### Conversion (03_exact_arithmetic and 04_safeguards) -/

/-- 62.5 to E4M3: 0x68 by RNE, 0x67 by RTZ, and by SR 0x68 exactly from r = 0x60000000 on. -/
theorem test_convert_modes : (convertTo (targetOf 3) 1000 (-4) modeRne 0 0).code = 0x68
    ∧ (convertTo (targetOf 3) 1000 (-4) modeRtz 0 0).code = 0x67
    ∧ (convertTo (targetOf 3) 1000 (-4) modeSr 0x60000000 0).code = 0x68
    ∧ (convertTo (targetOf 3) 1000 (-4) modeSr 0x5FFFFFFF 0).code = 0x67 := by decide +kernel

/-- 7.5 to E2M1 saturates to code 7 and counts; 6.5 rounds to 6 and does not. -/
theorem test_convert_saturates : convertTo (targetOf 1) 15 (-1) modeRne 0 0 = { code := 7, sat := true }
    ∧ convertTo (targetOf 1) 13 (-1) modeRne 0 0 = { code := 7, sat := false } := by decide +kernel

def mxBlock (big : Int) : BlockConv :=
  convertBlock 3 modeRne true false ({ v := big } :: { v := 125, e := -1 } :: List.replicate 30 {}) fun _ => 0

/-- The MXFP8 block with largest value 900: scale 0x80, codes 0x7E and 0x60, nothing clamps; with 1,000 it clamps. -/
theorem test_convert_mx_block : (mxBlock 900).scale = 0x80 ∧ (mxBlock 900).codes.take 2 = [0x7E, 0x60]
    ∧ (mxBlock 900).clamp = false ∧ (mxBlock 1000).scale = 0x80 ∧ (mxBlock 1000).codes.take 1 = [0x7E]
    ∧ (mxBlock 1000).clamp = true := by decide +kernel

/-- A block of zeros writes scale 0x7F and 32 codes 0. -/
theorem test_convert_zero_block :
    (convertBlock 3 modeRne true false (List.replicate 32 {}) fun _ => 0).scale = 0x7F
    ∧ (convertBlock 3 modeRne true false (List.replicate 32 {}) fun _ => 0).codes = List.replicate 32 0 := by
  decide +kernel

/-! ### The vector engine (05_sheets) -/

/-- rcp(3.0) is 0x3EAAAAAB (R116). -/
theorem test_rcp_three : (rcpRef 0x40400000).code = 0x3EAAAAAB := by decide +kernel

/-- 1.0 + 1.0 is 2.0, 1.5 x 2.0 is 3.0, and infinity less infinity makes a NaN (R111). -/
theorem test_add_mul : (add32 0x3F800000 0x3F800000).code = 0x40000000
    ∧ (mul32 0x3FC00000 0x40000000).code = 0x40400000 ∧ (add32 pInf nInf).code = qNaN
    ∧ (add32 pInf nInf).nanMade = true := by decide +kernel

/-- exp2(1.0) is 2.0, log2(8.0) is 3.0, rsqrt(4.0) is 0.5. -/
theorem test_elementary : (exp2Ref 0x3F800000).code = 0x40000000 ∧ (log2Ref 0x41000000).code = 0x40400000
    ∧ (rsqrtRef 0x40800000).code = 0x3F000000 := by decide +kernel

/-! ### Governors and the limiter (07_schedule_time and 18_electrical) -/

def gov (code : Nat) : State :=
  put State.reset [(PWR_GOV_STAT_code 9, code), (TIME_SCHED_CTL_plan, 48640)]

/-- Slack 412 lowers code 40, 340 holds 39, 200 raises 39, under target 256 and hysteresis 128. -/
theorem test_governor_codes : (gov 40).planSteps = 9500 ∧ (gov 40).govNext 9 412 = 39 ∧ (gov 39).govNext 9 340 = 39
    ∧ (gov 39).govNext 9 200 = 40 := by decide +kernel

/-- A bank at 100 degrees is throttled, and its code falls by one. -/
theorem test_limiter_throttles :
    (put (gov 36) [(PWR_TEMP_temp 9, 100), (PWR_TEMP_valid 9, 1)]).bankHot 9 = true
    ∧ (put (gov 36) [(PWR_GOV_STAT_throttle 9, 1)]).govNext 9 200 = 35
    ∧ (put (gov 36) [(PWR_TEMP_temp 9, 99), (PWR_TEMP_valid 9, 1)]).bankHot 9 = false := by decide +kernel

/-! ### Network time (11_network_time, the exchange on a global link) -/

def exchange : State :=
  (put State.reset [(LINK_TS_TX_ASYM_delay 30, 300), (LINK_TS_RX_ASYM_delay 30, 500)]).takeSample 30 1000000 1011788
    1020000 1030292 320 480

/-- theta is 768 units, delta 10,240, and the latency of the apparent delay 47 + 8. -/
theorem test_timestamps : exchange.fld (LINK_TS_OFFSET_value 30) = 768 ∧ exchange.fld (LINK_TS_DELAY_value 30) = 10240
    ∧ (exchange.setLat 30 11788).fld (LINK_LAT_ticks 30) = 55 := by decide +kernel

/-! ### The register map (19_register_map and 00_scope) -/

/-- 0x02338818 is SHEET_CONV_STAT of sheet 211; LINK_CFG of P22 and PWR_GOV_TGT of bank 11 with their reset values. -/
theorem test_register_addresses : sheetOf 0x02338818 = 211 ∧ SHEET_CONV_STAT 211 = 0x02338818
    ∧ LINK_CFG 22 = 0x00560004 ∧ State.reset.reg 0x00560004 = 0x00400064 ∧ PWR_GOV_TGT 11 = 0x00201164
    ∧ State.reset.reg 0x00201164 = 0x00800100 ∧ sheetBase 213 = 0x02350000
    ∧ winBase + 213 * winSize = 0x020035400000 := by decide +kernel

/-- Writing 0x4D10F7B0 to 0x01008128 loads entries 4 and 5 of slot 9 of sheet 0. -/
theorem test_legend_write :
    let s := nextOf (exec (.registerWrite .mgmt 0x01008128 4 0x4D10F7B0) up)
    s.legend 0 148 = 0xF7B0 ∧ s.legend 0 149 = 0x4D10 ∧ s.fld (SHEET_LEGEND_CTL_bad 0) = 0 ∧ s.resp.status = 0 := by
  decide +kernel

/-- A write to an unmapped address records 0x7003 and answers status 2. -/
theorem test_unmapped_write : (nextOf (exec (.registerWrite .mgmt 0x3FFFFFC 4 1) up)).resp.status = 2 := by
  decide +kernel

/-! ### Hashes (13_weights R327, 09_link_layer R233) -/

/-- The first bytes of SHAKE256 of no bytes, from FIPS 202's test vectors. -/
theorem test_shake256_empty : shake256 8 [] = [0x46, 0xb9, 0xdd, 0x2b, 0x0b, 0xa8, 0x8d, 0x13] := by decide +kernel

/-- The check value of CRC-32 over the digits 1 to 9. -/
theorem test_crc32 : crc32 [0x31, 0x32, 0x33, 0x34, 0x35, 0x36, 0x37, 0x38, 0x39] = 0xCBF43926 := by decide +kernel

/-- The check value of CRC-8 of the SMBus specification over the digits 1 to 9. -/
theorem test_crc8 : crc8 [0x31, 0x32, 0x33, 0x34, 0x35, 0x36, 0x37, 0x38, 0x39] = 0xF4 := by decide +kernel

/-! ### The queue -/

/-- A step runs the front command and leaves the rest. -/
theorem test_step_takes_front :
    (nextOf (step { State.reset with pending := [.bypass, .idcode] })).pending = [.idcode]
    ∧ (nextOf (step State.reset)).time.tick = 1 := by decide +kernel

/-! ### Witnesses: for each obligation with hypotheses, states and operands that meet them, clause by clause -/

def rl (a : Nat) : Option (Nat × Nat) := (regLoc a).map fun l => (l.idx, l.words)
def rcOf (a : Nat) : Nat := ((regLoc a).map fun l => l.desc.rc).getD 0
/-- The management agent may write `n` bytes at `a`. -/
abbrev May (s : State) (a n : Nat) : Prop := Writable s .mgmt a n
def mayW (s : State) (a n : Nat) : Bool :=
  s.reaches 3 && !s.nonOwner 3 && sizeOk a n && s.allMapped a n
    && (!inSheetBlock a || (s.sheetUp (sheetOf a) && (!s.twinOn || decide (sheetOf a < 160))))

/-- The check `mayW` gives the hypothesis `Writable`. -/
theorem may_of (s : State) (a n : Nat) (h : mayW s a n = true) : Writable s .mgmt a n := by
  simp only [mayW, Bool.and_eq_true, Bool.not_eq_true', Bool.or_eq_true] at h
  obtain ⟨⟨⟨⟨h1, h2⟩, h3⟩, h4⟩, h5⟩ := h
  refine ⟨h1, h2, h3, h4, fun hb => ?_⟩
  rcases h5 with h5 | ⟨h5, h6⟩
  · rw [hb] at h5; cases h5
  · exact ⟨h5, fun hw => h6.elim (fun h => by rw [hw] at h; cases h) of_decide_eq_true⟩

theorem test_witness_StepRunsTheFrontCommand :
    { State.reset with pending := [.bypass] }.pending = .bypass :: [] ∧ State.reset.pending = [] := by decide +kernel

theorem test_witness_EveryStepKeepsTheStateSound :
    (Sound State.reset ∧ step State.reset = .next (State.reset.pass 1))
    ∧ Sound { State.reset with pending := [.bypass] }
    ∧ step { State.reset with pending := [.bypass] } = .next (nextOf (exec .bypass State.reset)) :=
  ⟨⟨⟨by decide +kernel, by decide +kernel, by decide +kernel, by decide +kernel⟩, rfl⟩,
    ⟨by decide +kernel, by decide +kernel, by decide +kernel, by decide +kernel⟩, rfl⟩

/-- One field of one word, one of two words, each beside another field. -/
theorem test_witness_WritingAFieldWritesOnlyIt : Sound State.reset
    ∧ ((TOPO_SLICE_id).lo + (TOPO_SLICE_id).width ≤ 32 ∧ (TOPO_SLICE_state).lo + (TOPO_SLICE_state).width ≤ 32)
    ∧ ((TOPO_SLICE_id).lo + (TOPO_SLICE_id).width ≤ (TOPO_SLICE_state).lo)
    ∧ ((SHEET_CMP_VAL_value 0 7).lo + (SHEET_CMP_VAL_value 0 7).width = 64
      ∧ (SHEET_CMP_VAL_value 0 7).addr ≠ (TOPO_SLICE_id).addr ∧ (SHEET_CMP_VAL_value 0 7).addr + 4 ≠ (TOPO_SLICE_id).addr) :=
  ⟨⟨by decide +kernel, by decide +kernel, by decide +kernel, by decide +kernel⟩, by decide +kernel⟩

theorem test_witness_AccessesThatFailTheMapChecks : up.reaches 3 = true
    ∧ ¬ ((2 = 4 ∨ 2 = 8) ∧ (0x10 : BitVec 26).toNat % 2 = 0) ∧ ¬ ((8 = 4 ∨ 8 = 8) ∧ (0x14 : BitVec 26).toNat % 8 = 0)
    ∧ ((0x3FFFFFC : BitVec 26).toNat % 4 = 0 ∧ up.allMapped 0x3FFFFFC 4 = false)
    ∧ ((0x3FFFFF8 : BitVec 26).toNat % 8 = 0 ∧ up.allMapped 0x3FFFFF8 8 = false) := by decide +kernel

def told : State :=
  up.modLatch fun l => { l with own7001 := [(1, 1)], bank7002 := [(3, 1)] }
def bankDown : State := put told [(PWR_DOM_STAT_on, 0x1FF0000)]

theorem test_witness_RefusedRegisterWrites :
    (State.reset.reaches 4 = false ∧ ({ up with boot := { up.boot with silent := true } } : State).reaches 1 = false)
    ∧ (up.reaches 1 = true ∧ sizeOk MEM_CFG 4 = true ∧ up.allMapped MEM_CFG 4 = true ∧ MEM_CFG ≠ GEN_OWN_CMD
      ∧ up.fld GEN_OWN_STAT_owner ≠ 1 ∧ MEM_CFG ≠ BOOT_CTL ∧ MEM_CFG ≠ CART_CMD ∧ MEM_CFG + 4 ≠ CART_CMD
      ∧ (up.latch.own7001.any fun e => e.1 == 1 && e.2 == up.frame + 1) = false
      ∧ (told.latch.own7001.any fun e => e.1 == 1 && e.2 == told.frame + 1) = true)
    ∧ (bankDown.fld GEN_OWN_STAT_owner = 3 ∧ inSheetBlock (SHEET_CTL 0) = true
      ∧ bankDown.allMapped (SHEET_CTL 0) 4 = true ∧ bankDown.sheetUp (sheetOf (SHEET_CTL 0)) = false
      ∧ (bankDown.latch.bank7002.any fun e => e.1 == 3 && e.2 == bankDown.frame + 1) = true
      ∧ ((put up [(PWR_DOM_STAT_on, 0x1FF0000)]).latch.bank7002.any fun e => e.1 == 3) = false)
    ∧ (let t := put up [(FAULT_TWIN_STAT_active, 1)]
      t.fld GEN_OWN_STAT_owner = 3 ∧ inSheetBlock (SHEET_CTL 319) = true ∧ t.reaches 3 = true
        ∧ t.allMapped (SHEET_CTL 319) 4 = true ∧ t.sheetUp 319 = true ∧ t.twinOn = true
        ∧ sheetOf (SHEET_CTL 319) = 319) := by decide +kernel

theorem test_witness_RegisterWritesFollowTheAccessTypes :
    ∀ a ∈ [PWR_THERM_CFG, PWR_DOM_FAIL, TIME_SLIP_CFG, TIME_SLIP_STAT, TIME_WP_CTL, TIME_DOM_CFG, TIME_BCN_CFG,
      LINK_PROTO 0, LINK_PERMIT_CTL 30, FAB_X_CFG, FAB_PATH_STAT, TOPO_CFG, MEM_CFG, MEM_SCRUB, MEM_LOAD_CFG,
      MEM_LOAD_STAT, WLINK_INT_CFG 1, FAULT_CFG, FAULT_STAT, FAULT_TRACE_CTL],
      mayW up a 4 = true ∧ rl a = some (0, 1) ∧ a < 2 ^ 26 := by decide +kernel

theorem test_witness_HalvesOfWiderRegisters :
    (mayW up (FAB_PATH_LOAD) 4 = true ∧ rl FAB_PATH_LOAD = some (0, 2))
    ∧ (mayW up (FAULT_TRACE_RING) 4 = true ∧ rl FAULT_TRACE_RING = some (0, 2))
    ∧ (mayW up (FAULT_TRACE_RING + 4) 4 = true ∧ rl (FAULT_TRACE_RING + 4) = some (1, 2)
      ∧ up.refuses64 FAULT_TRACE_RING (up.lowFor 3 FAULT_TRACE_RING + 1 * 2 ^ 32) = false
      ∧ up.refuses64 FAULT_TRACE_RING (up.lowFor 3 FAULT_TRACE_RING + 0xFFFFFFFF * 2 ^ 32) = true) := by decide +kernel

theorem test_witness_RegisterReadsAndTheirClears : up.reaches 1 = true ∧ up.reaches 3 = true
    ∧ (up.allMapped MEM_CFG 4 = true ∧ rl MEM_CFG = some (0, 1) ∧ rcOf MEM_CFG = 0)
    ∧ (up.allMapped (LINK_REPLAY 0) 4 = true ∧ rl (LINK_REPLAY 0) = some (0, 1) ∧ rcOf (LINK_REPLAY 0) ≠ 0
      ∧ up.fld GEN_OWN_STAT_owner ≠ 1 ∧ up.fld GEN_OWN_STAT_owner = 3)
    ∧ (up.allMapped (LINK_FEC_CE 30) 4 = true ∧ rl (LINK_FEC_CE 30) = some (0, 2) ∧ rcOf (LINK_FEC_CE 30) ≠ 0)
    ∧ (up.allMapped (LINK_FEC_CE 30 + 4) 4 = true ∧ rl (LINK_FEC_CE 30 + 4) = some (1, 2)
      ∧ rcOf (LINK_FEC_CE 30 + 4) ≠ 0 ∧ State.latched up.latch.high 3 (LINK_FEC_CE 30 + 4) = none
      ∧ State.latched (up.keepHigh 3 (LINK_FEC_CE 30 + 4) 7).latch.high 3 (LINK_FEC_CE 30 + 4) = some 7) := by decide +kernel

def latched : State := up.keepHigh 3 (TIME_COUNT + 4) 7

theorem test_witness_TimeCountReadsAreCoherent : up.reaches 1 = true ∧ 5 ≤ up.fld BOOT_STAT_step
    ∧ up.time.tick < 2 ^ 64 ∧ up.fld GEN_OWN_STAT_owner ≠ 1
    ∧ State.latched latched.latch.high 3 (TIME_COUNT + 4) = some 7 := by decide +kernel

/-! Ownership, the management bus and the test port. -/

/-- The owner is agent `n`, and the first Wiora port is ACTIVE. -/
def owner (n : Nat) : State := put up [(GEN_OWN_STAT_owner, n), (WLINK_STAT_state 0, 4)]
def offer (n m : Nat) : State := put (owner n) [(GEN_OWN_STAT_offer, m)]

theorem test_witness_OwnershipCommandsFollowTheirTable :
    ((owner 3).ownReaches 1 = true ∧ agentNo .wa = 1
      ∧ ((owner 3).modBoot fun b => { b with jtag := { b.jtag with ir := 0x20 } }).ownReaches 4 = true
      ∧ (owner 3).boot.dbgLock = false
      ∧ (owner 3).leaseCheck.fld GEN_OWN_STAT_owner = 3 ∧ ((owner 3).pass 1).leaseCheck.fld GEN_OWN_STAT_owner = 0
      ∧ ((owner 3).pass 1).ownReaches 1 = true)
    ∧ ((owner 0).ownReaches 1 = true ∧ (owner 0).leaseCheck.fld GEN_OWN_STAT_owner = 0
      ∧ (owner 4).leaseCheck.fld GEN_OWN_STAT_owner ≠ 0)
    ∧ ((offer 1 2).ownReaches 1 = true ∧ (offer 1 2).leaseCheck.fld GEN_OWN_STAT_owner = 1
      ∧ (offer 1 2).fld GEN_OWN_STAT_owner = 1 ∧ (offer 1 2).fld GEN_OWN_STAT_offer ≠ 0
      ∧ (owner 1).fld GEN_OWN_STAT_offer = 0)
    ∧ ((1 ≤ (4 : BitVec 3).toNat ∧ (4 : BitVec 3).toNat ≤ 4 ∧ (4 : BitVec 3).toNat ≠ 1)
      ∧ ¬ (1 ≤ (1 : BitVec 3).toNat ∧ (1 : BitVec 3).toNat ≤ 4 ∧ (1 : BitVec 3).toNat ≠ 1)
      ∧ ¬ (1 ≤ (0 : BitVec 3).toNat ∧ (0 : BitVec 3).toNat ≤ 4 ∧ (0 : BitVec 3).toNat ≠ 1)
      ∧ ¬ (1 ≤ (5 : BitVec 3).toNat ∧ (5 : BitVec 3).toNat ≤ 4 ∧ (5 : BitVec 3).toNat ≠ 1))
    ∧ (up.fld GEN_OWN_STAT_owner ≠ 1 ∧ (offer 3 1).fld GEN_OWN_STAT_offer = 1 ∧ (offer 3 2).fld GEN_OWN_STAT_offer ≠ 1)
    ∧ (up.allMapped GEN_OWN_CMD 4 = true ∧ bits 0xFFF0 0 3 = 0 ∧ bits 0x7 0 3 = 7) := by decide +kernel

def locked : State := up.modBoot fun b => { b with dbgLock := true }

theorem test_witness_OwnerChangesAndTheLease : up.fld GEN_OWN_STAT_owner = 3 ∧ up.fld GEN_OWN_STAT_owner ≠ 4
    ∧ up.fld GEN_OWN_STAT_owner ≠ 0 ∧ (owner 0).fld GEN_OWN_STAT_owner = 0
    ∧ (up.time.elapsed ≤ up.own.leaseAt ∧ (up.pass 1).own.leaseAt < (up.pass 1).time.elapsed
      ∧ (up.pass 1).fld GEN_OWN_STAT_owner ≠ 0 ∧ ((owner 0).pass 1).fld GEN_OWN_STAT_owner = 0)
    ∧ (up.ownReaches (agentNo .wa) = false ∧ State.reset.ownReaches (agentNo .dbg) = false
      ∧ State.reset.boot.dbgLock = false)
    ∧ (locked.alive = true ∧ locked.boot.dbgLock = true) := by decide +kernel

theorem test_witness_ManagementBusAddressesAndFixedAnswers : up.mgmtUp = true ∧ up.flag WLINK_MGMT_i3c = false
    ∧ (put up [(WLINK_MGMT_i3c, 1)]).mgmtUp = true ∧ (put up [(WLINK_MGMT_i3c, 1)]).flag WLINK_MGMT_i3c = true
    ∧ up.fld FAULT_LOG_PROD_prod = up.fld FAULT_LOG_CONS_cons
    ∧ (put up [(FAULT_LOG_PROD_prod, 1)]).fld FAULT_LOG_PROD_prod ≠ (put up [(FAULT_LOG_PROD_prod, 1)]).fld FAULT_LOG_CONS_cons
    ∧ ((1 : BitVec 8) = 1 ∧ (2 : BitVec 8) = 2 ∧ (0 : BitVec 8) ≠ 1 ∧ (3 : BitVec 8) ≠ 2) := by decide +kernel

def waiting : State := put up [(BOOT_STAT_step, 2)]
def marked : State := { up with poison := [(0x100, true)] }

/-- The packet error code is on. -/
def coded : State := put up [(WLINK_MGMT_pec, 1), (WLINK_MGMT_i3c, 1), (WLINK_MGMT_dynamic, 8)]

theorem test_witness_ManagementAccessesAnswerWithStatus : up.mgmtUp = true
    ∧ (up.flag WLINK_MGMT_pec = false ∧ up.pecOk (mgmtBytes 1 4 6 []) 0xFF = true
      ∧ coded.mgmtUp = true ∧ coded.flag WLINK_MGMT_pec = true
      ∧ coded.pecOk (mgmtBytes 1 4 6 []) (crc8 (BitVec.ofNat 8 (2 * coded.mgmtAt) :: mgmtBytes 1 4 6 [])) = true
      ∧ coded.pecOk (mgmtBytes 1 4 6 []) (crc8 (BitVec.ofNat 8 (2 * coded.mgmtAt) :: mgmtBytes 1 4 6 []) ^^^ 1) = false
      ∧ (0 : Byte).toNat = 0 ∧ (6 < (7 : Byte).toNat ∧ (7 : Byte).toNat ≠ 0x10) ∧ 6 < (0xFF : Byte).toNat)
    ∧ (sizeOk 0x6 4 = false ∧ sizeOk 0x3FFFFF8 8 = true ∧ up.allMapped 0x3FFFFF8 8 = false)
    ∧ (sizeOk MEM_CFG 4 = true ∧ up.allMapped MEM_CFG 4 = true ∧ inSheetBlock MEM_CFG = false ∧ MEM_CFG ≠ TIME_COUNT
      ∧ rl MEM_CFG = some (0, 1) ∧ rcOf MEM_CFG = 0 ∧ up.nonOwner 3 = false ∧ (owner 1).nonOwner 3 = true)
    ∧ (sizeOk FAULT_TRACE_RING 8 = true ∧ up.allMapped FAULT_TRACE_RING 8 = true
      ∧ inSheetBlock FAULT_TRACE_RING = false ∧ rl FAULT_TRACE_RING = some (0, 2)
      ∧ up.refuses64 FAULT_TRACE_RING 0 = false)
    ∧ (up.accessOk 0x4 8 = false ∧ up.accessOk 0x005FFFFFFFF8 8 = true ∧ up.accessOk 0x006000000000 8 = false
      ∧ up.writeOk 0x005FFFFFFFF8 8 = true ∧ inCompanion 0x005FFFFFFFF8 = false
      ∧ (up.devGet 3 0x8 8 0 .clean).2 = .data (List.replicate 8 0)
      ∧ (marked.devGet 3 0x108 8 0 .clean).2 = .poison 0 ∧ up.partPoison 0x8 8 = none)
    ∧ (waiting.mgmtUp = true ∧ waiting.fld BOOT_STAT_step = 2 ∧ up.fld BOOT_STAT_step ≠ 2
      ∧ ¬ (waiting.fld BOOT_STAT_step ≠ 2 ∨ (List.replicate 256 (0 : Byte)).length = 0
        ∨ 256 < (List.replicate 256 (0 : Byte)).length
        ∨ imgSize < (1113856 : BitVec 32).toNat + (List.replicate 256 (0 : Byte)).length)
      ∧ imgSize < (1113857 : BitVec 32).toNat + (List.replicate 256 (0 : Byte)).length
      ∧ waiting.nonOwner 3 = false ∧ (put waiting [(GEN_OWN_STAT_owner, 0)]).nonOwner 3 = true) := by decide +kernel

theorem test_witness_TestPortInstructions : up.alive = true ∧ up.boot.dbgLock = false
    ∧ locked.boot.dbgLock = true
    ∧ waiting.fld BOOT_STAT_step ≤ 2 ∧ waiting.alive = true
    ∧ 2 < (put up [(BOOT_STAT_step, 3)]).fld BOOT_STAT_step
    ∧ (up.modBoot fun b => { b with silent := true }).alive = false := by decide +kernel

/-! Fabric links. -/

def lk (p st : Nat) : State := put up [(LINK_STAT_state p, st)]

theorem test_witness_TrainingCommandsMoveThePort :
    ((lk 30 1).fld (LINK_STAT_state 30) = 1 ∧ pickWidth 30 1 false ≠ 0 ∧ pickWidth 0 0xF0 false ≠ 0)
    ∧ ((lk 0 2).fld (LINK_STAT_state 0) = 2 ∧ pickWidth 0 0x0F ((lk 0 2).mustDegrade 0) ≠ 0
      ∧ (lk 0 2).fld (LINK_STAT_retraining 0) = 0
      ∧ (put (lk 0 2) [(LINK_STAT_retraining 0, 1)]).fld (LINK_STAT_retraining 0) = 1
      ∧ (put (lk 0 2) [(LINK_STAT_retraining 0, 1)]).fld (LINK_STAT_state 0) = 2)
    ∧ ((lk 15 3).fld (LINK_STAT_state 15) = 3 ∧ (lk 15 3).fld (LINK_STAT_retraining 15) = 0
      ∧ (put (lk 15 3) [(LINK_STAT_retraining 15, 1)]).fld (LINK_STAT_retraining 15) = 1)
    ∧ ((lk 7 4).fld (LINK_STAT_state 7) = 4 ∧ ((lk 7 4).port 7).tries < 3
      ∧ (((lk 7 4).modPort 7 fun q => { q with tries := 2 }).port 7).tries < 3
      ∧ 3 ≤ (((lk 7 4).modPort 7 fun q => { q with tries := 3 }).port 7).tries) := by decide +kernel

def held (p stalls : Nat) : State :=
  (lk p 5).modPort p fun q => { q with replay := [flit0], stalls := stalls, nakAt := some 10, graceAt := some 100 }

/-- The states of this file that the statements over sound states use are sound. -/
theorem sound_of (s : State) (h : (Registers.wf s && Memory.wf s && Parts.wf s && Queue.wf s) = true) : Sound s := by
  simp only [Bool.and_eq_true] at h
  exact ⟨h.1.1.1, h.1.1.2, h.1.2, h.2⟩

theorem test_witness_LinkTimersAndLaneTriggers : Sound (held 3 6)
    ∧ (((held 3 6).port 3).nakAt = some 10 ∧ ((held 3 6).port 3).graceAt = some 100)
    ∧ ((held 3 6).fld (LINK_STAT_state 3) = 5 ∧ ((held 3 6).port 3).replay ≠ [] ∧ ((held 3 6).port 3).stalls + 1 < 8
      ∧ 8 ≤ ((held 3 7).port 3).stalls + 1)
    ∧ ((7 : Fin 8).val < fullLanes 3 ∧ (1 : Fin 8).val < fullLanes 30)
    ∧ ((65536 : BitVec 32).toNat ≤ (put up [(LINK_LANE_ce_ms 3 7, 0xFFFF)]).fld (LINK_CFG_ser_limit 3) * 1024
      ∧ (put up [(LINK_LANE_ce_ms 3 7, 0xFFFF)]).fld (LINK_CFG_ser_limit 3) * 1024 < (65537 : BitVec 32).toNat) :=
  ⟨sound_of _ (by decide +kernel), by decide +kernel⟩

/-- A good flit of class `cls` with ack 4,095, number `seq`, the freed count `n` of its own S credits, and slice 1. -/
def good (cls seq n : Nat) : RawFlit :=
  (((((blankFlit cls []).setH 0 12 seq).setH 12 12 4095).setH 32 12 n).setH 112 16 1).sealed

set_option maxRecDepth 100000 in
theorem test_witness_ActivePortReceivesFlits : Sound (lk 0 5)
    ∧ (((lk 0 5).port 0).nakAt = none ∧ ((held 3 6).port 3).nakAt = some 10 ∧ (held 3 6).time.elapsed < 10 + 256
      ∧ 10 + 256 ≤ ((held 3 6).pass 266).time.elapsed)
    ∧ (((lk 0 5).port 0).badCw ≠ some ((((lk 0 5).port 0).rxBits + 2303) / 5140)
      ∧ ((lk 0 5).port 0).badCw ≠ some (((lk 0 5).port 0).rxBits / 5140)
      ∧ (let q := ((lk 0 5).modPort 0 fun q => { q with rxBits := 2 * 2304, badCw := some 0 }).port 0
         q.badCw = some (q.rxBits / 5140) ∧ q.badCw ≠ some ((q.rxBits + 2303) / 5140))
      ∧ (let q := ((lk 0 5).modPort 0 fun q => { q with rxBits := 2304, badCw := some 0 }).port 0
         q.badCw = some ((q.rxBits + 2303) / 5140)))
    ∧ ((lk 0 5).fld (LINK_STAT_state 0) = 5 ∧ flit0.crcOk = false ∧ (good 0 0 0).crcOk = true)
    ∧ (((lk 0 5).port 0).creditError (good 0 0 1).freed = true ∧ ((lk 0 5).port 0).creditError (good 0 0 0).freed = false)
    ∧ (ackInWindow ((good 0 0 0).setH 12 12 0).ack ((lk 0 5).fld (LINK_SEQ_acked 0)) ((lk 0 5).fld (LINK_SEQ_next 0)) = false
      ∧ ackInWindow (good 0 0 0).ack ((lk 0 5).fld (LINK_SEQ_acked 0)) ((lk 0 5).fld (LINK_SEQ_next 0)) = true)
    ∧ ((good 3 0 0).cls = 3 ∧ (good 1 1 0).cls < 2 ∧ (good 1 1 0).seq ≠ ((lk 0 5).port 0).expect
      ∧ (good 0 0 0).op = 0 ∧ (good 0 0 0).seq = ((lk 0 5).port 0).expect
      ∧ ((lk 0 5).port 0).poolRoom (good 0 0 0).cls (good 0 0 0).shared = true
      ∧ (put (lk 0 5) [(LINK_PERMIT_CTL_enable 0, 0)]).admitsIn 0 0 (good 0 0 0).slice = true) := by
  refine ⟨sound_of _ (by decide +kernel), by decide +kernel⟩

def full (n : Nat) : PortSt :=
  { pool := List.replicate n { id := 0, flit := blankFlit 0 [], shared := true, at0 := 0 } }

/-- With 896 flits in its shared part the pool has no room there, and with none it has. -/
theorem test_witness_ActivePortReceivesFlits_full : (full 896).poolRoom 0 true = false
    ∧ (full 0).poolRoom 0 true = true := by
  have hc : (blankFlit 0 []).cls = 0 := by decide +kernel
  have h (n c : Nat) : (full n).poolCount c true = if c = 0 then n else 0 := by
    rcases Nat.eq_zero_or_pos c with rfl | h
    · simp [PortSt.poolCount, full, hc]
    · simp [PortSt.poolCount, full, hc, Nat.ne_of_gt h, Nat.ne_of_lt h]
  constructor <;> simp only [PortSt.poolRoom, h] <;> decide

def tx (s : List OutFlit) (c : List (List Byte)) (x : List OutFlit) : State :=
  put ((lk 0 5).modPort 0 fun q => { q with txS := s, txC := c, txX := x }) [(LINK_PERMIT_CTL_enable 0, 0)]
def sFlit : OutFlit := { flit := good 0 0 0 }
def xFlit : OutFlit := { flit := good 1 0 0 }
def prep (s : State) : State := ((s.probeRetry 0).markLate 0).dropDenied 0
def again (n : Nat) : State :=
  (tx [] [] []).modPort 0 fun q => { q with replay := List.replicate n flit0, replayAt := if n = 1 then some 0 else none }

set_option maxRecDepth 100000 in
theorem test_witness_FreeLineSendsTheNextFlit : ((lk 0 3).fld (LINK_STAT_state 0) = 3) ∧ ((lk 30 4).fld (LINK_STAT_state 30) = 4
      ∧ (good 3 0 0).crcOk = true ∧ (good 3 0 0).cls = 3
      ∧ ((lk 30 4).port 30).badCw ≠ some (((lk 30 4).port 30).rxBits / 5140)
      ∧ (((lk 30 4).modPort 30 fun q => { q with rxBits := q.rxBits + 2304 }).initFreed 30 (good 3 0 0)).2 = false)
    ∧ ((tx [] [] []).fld (LINK_STAT_state 0) = 5)
    ∧ (((prep (again 1)).port 0).replayAt = some 0 ∧ ((prep (again 1)).port 0).replay[0]? = some flit0)
    ∧ (((prep (again 0)).port 0).replayAt = none ∧ ((prep (again 0)).port 0).replay.length < 512)
    ∧ ((prep (tx [sFlit] [] [])).pickS 0 = some sFlit ∧ ((prep (tx [sFlit] [] [])).port 0).credit 0 = some false)
    ∧ ((prep (tx [] [List.replicate 16 2] [])).pickS 0 = none ∧ ((prep (tx [] [List.replicate 16 2] [])).port 0).txC ≠ []
      ∧ ((prep (tx [] [List.replicate 16 2] [])).port 0).credit 2 = some false
      ∧ ∀ y ∈ ((prep (tx [] [List.replicate 16 2] [])).port 0).txC,
        (prep (tx [] [List.replicate 16 2] [])).admitsOut 0 2 (leField y 2 2) = true ∧ leField y 0 1 ≠ 5)
    ∧ ((prep (tx [] [] [xFlit])).pickS 0 = none ∧ ((prep (tx [] [] [xFlit])).port 0).txC = []
      ∧ (((prep (tx [] [] [xFlit])).dropDeniedX 0).port 0).txX = xFlit :: [] ∧ ((prep (tx [] [] [xFlit])).port 0).credit 1 = some false
      ∧ (prep (tx [] [] [xFlit])).admitsOut 0 1 xFlit.flit.slice = true)
    ∧ ((((prep (tx [] [] [])).dropDeniedX 0).port 0).txX = []
      ∧ (((prep (put (tx [] [] [xFlit]) [(LINK_PERMIT_CTL_enable 0, 1)])).dropDeniedX 0).port 0).txX = []) := by decide +kernel

/-- With 512 flits held and no replay in progress. -/
theorem test_witness_FreeLineSendsTheNextFlit_full : ((prep (again 512)).port 0).replayAt = none
    ∧ 512 ≤ ((prep (again 512)).port 0).replay.length := by
  have h : ((prep (again 512)).port 0).replay = List.replicate 512 flit0 := rfl
  exact ⟨by decide +kernel, h ▸ Nat.le_of_eq List.length_replicate.symm⟩

def linkOn (p st en re : Nat) : State := put up [(LINK_STAT_state p, st), (LINK_CTL_enable p, en), (LINK_CTL_retrain p, re)]

theorem test_witness_LinkRegisterWrites : (∀ p ∈ [0, 14, 15, 30], mayW up (LINK_CTL p) 4 = true
      ∧ mayW up (LINK_CFG p) 4 = true ∧ mayW up (LINK_TS_CTL p) 4 = true)
    ∧ (mayW (linkOn 0 0 0 0) (LINK_CTL 0) 4 = true ∧ (linkOn 0 0 0 0).fld (LINK_STAT_state 0) = 0
      ∧ (linkOn 0 0 0 0).portMay 0 = true)
    ∧ (mayW (linkOn 30 5 1 0) (LINK_CTL 30) 4 = true ∧ (linkOn 30 5 1 0).fld (LINK_STAT_state 30) ≠ 0
      ∧ (linkOn 30 5 1 0).flag (LINK_CTL_retrain 30) = false ∧ (linkOn 30 5 1 0).flag (LINK_CTL_enable 30) = true
      ∧ (linkOn 30 5 1 0).flag (LINK_CTL_width_max 30) = false ∧ (linkOn 30 5 1 0).flag (LINK_CTL_half_rate 30) = false)
    ∧ ((1 ≤ 1 % 2 ^ 14 ∧ 16000 % 2 ^ 14 ≤ 16000) ∧ 0x4000 % 2 ^ 14 = 0 ∧ 16000 < 16001 % 2 ^ 14) := by decide +kernel

def wlink (p st en re : Nat) : State :=
  put up [(WLINK_STAT_state p, st), (WLINK_CTL_enable p, en), (WLINK_CTL_retrain p, re)]

theorem test_witness_WioraRegisterWrites : (∀ p ∈ [0, 1], mayW up (WLINK_CTL p) 4 = true
      ∧ mayW up (WLINK_CFG p) 4 = true ∧ mayW up (WLINK_EVR p) 8 = true
      ∧ mayW up (WLINK_DWIN p 0 + 12) 4 = true ∧ mayW up (WLINK_DWIN p 7 + 12) 4 = true) ∧ mayW up WLINK_BQ_CFG 4 = true
    ∧ ((wlink 0 0 0 0).flag (WLINK_CTL_enable 0) = false ∧ mayW (wlink 1 4 1 0) (WLINK_CTL 1) 4 = true
      ∧ (wlink 1 4 1 0).flag (WLINK_CTL_enable 1) = true ∧ (wlink 1 4 1 0).flag (WLINK_CTL_retrain 1) = false)
    ∧ (up.dwinBad 0 7 0 = false ∧ up.dwinBad 0 7 (1 + 1 * 2 ^ 16 + 1 * 2 ^ 32) = false
      ∧ up.dwinBad 0 7 (1 + 0 * 2 ^ 16 + 1 * 2 ^ 32) = true ∧ up.dwinBad 0 7 (1 + 1 * 2 ^ 16 + 0 * 2 ^ 32) = true
      ∧ up.dwinBad 0 7 (1 + 384 * 2 ^ 16 + 1 * 2 ^ 32) = true) := by decide +kernel

/-! Sheets. -/

theorem test_witness_SheetRegisterWrites : up.twinOn = false
    ∧ (∀ i ∈ [0, 319], mayW up (SHEET_LEGEND i 511) 4 = true ∧ mayW up (SHEET_LEGEND_CTL i) 4 = true
      ∧ mayW up (SHEET_Q_TAIL i 3) 4 = true ∧ mayW up (SHEET_Q_RING i 3) 4 = true ∧ mayW up (SHEET_FLAGS i) 8 = true
      ∧ mayW up (SHEET_CT i 15) 4 = true ∧ mayW up (SHEET_CMP_CTL i 7) 4 = true ∧ mayW up (SHEET_CMP_VAL i 7) 8 = true
      ∧ mayW up (SHEET_CTL i) 4 = true ∧ mayW up (SHEET_CONTOUR_CFG i 3) 4 = true ∧ mayW up (SHEET_SAFE_CTL i) 4 = true)
    ∧ (up.engIdle 0 0 = true ∧ (up.modSheet 0 fun x => { x with mx := [{ num := 0, raw := 0 }] }).engIdle 0 0 = false
      ∧ legendBad (0x4D10F7B0 % 65536) = false ∧ legendBad (0x4D10F7B0 / 65536 % 65536) = false
      ∧ legendBad (0x4D10F7B1 % 65536) = true ∧ legendBad (0x4D11F7B0 % 65536) = false
      ∧ legendBad (0x4D11F7B0 / 65536 % 65536) = true)
    ∧ (let s := put up [(SHEET_Q_RING_size 0 1, 16), (SHEET_Q_TAIL_tail 0 1, 4)]
       ¬ (2 ^ 31 ≤ subMod 32 16 (s.fld (SHEET_Q_TAIL_tail 0 1))
          ∨ s.fld (SHEET_Q_RING_size 0 1) < subMod 32 16 (s.fld (SHEET_Q_HEAD_head 0 1)))
       ∧ s.fld (SHEET_Q_RING_size 0 1) < subMod 32 17 (s.fld (SHEET_Q_HEAD_head 0 1))
       ∧ 2 ^ 31 ≤ subMod 32 3 (s.fld (SHEET_Q_TAIL_tail 0 1)))
    ∧ (up.engIdle 0 0 = true ∧ up.fld (SHEET_Q_HEAD_head 0 0) = up.fld (SHEET_Q_TAIL_tail 0 0)
      ∧ 0 + 512 ≤ 2048 ∧ (∀ k < 4, k ≠ 0 →
        ringsMeet 0 512 (up.fld (SHEET_Q_RING_base 0 k)) (up.fld (SHEET_Q_RING_size 0 k)) = false)
      ∧ ringsMeet 0 513 (up.fld (SHEET_Q_RING_base 0 1)) (up.fld (SHEET_Q_RING_size 0 1)) = true)
    ∧ (bits (up.withBits (SHEET_SAFE_CTL 0) 8 4 8) 8 8 ≠ 0 ∧ bits (up.withBits (SHEET_SAFE_CTL 0) 8 4 0) 8 8 = 0
      ∧ bits (up.withBits (SHEET_SAFE_CTL 0) 12 4 1) 8 8 ≠ 0) := by decide +kernel

/-- A word with fields set, by the low bit of each. -/
def wd (l : List (Nat × Nat)) : QWord :=
  { num := 0, raw := l.foldl (fun a e => a + e.2 * 2 ^ e.1) 0, phase := .running }
/-- Sheet 0 runs with `w` at the head of engine `e`. -/
def runs (e : Nat) (w : QWord) : State := (put up [(SHEET_CTL_run 0, 1)]).modSheet 0 fun x => x.setQueue e [w]

theorem test_witness_StepBoundariesRunInOrder : up.sheetUp 0 = true ∧ bankDown.sheetUp 319 = false
    ∧ (wd [(432, 0x103F), (360, 9)]).signal = (0x1000 + 63, 9) ∧ (wd [(432, 0x2000)]).signal = (0x2000 + 0, 0)
    ∧ (wd [(432, 0x400F), (360, 1)]).signal = (0x4000 + 15, 1) ∧ (wd [(432, 0x6007), (360, 0)]).signal = (0x6000 + 7, 0)
    ∧ up.fld (SHEET_CMP_VAL_value 0 7) + 65536 < 2 ^ 64
    ∧ 2 ^ 64 ≤ (put up [(SHEET_CMP_VAL_value 0 7, 2 ^ 64 - 1)]).fld (SHEET_CMP_VAL_value 0 7) + 1
    ∧ (wd [(432, 0x8FFF), (360, 65535)]).signal = (0x8000 + 4095, 65535) := by decide +kernel

theorem test_witness_StepBoundariesRunInOrder_sound : Sound (runs 1 (wd [])) := sound_of _ (by decide +kernel)

def ringed (n : Nat) : State :=
  put (up.modSheet 0 fun x => { x with vx := List.replicate n (wd []) }) [(SHEET_Q_TAIL_tail 0 1, 64)]

theorem test_witness_WordsAreFetchedFromTheirRing :
    (ringed 63).sheetUp 0 = true ∧ (ringed 63).suppressed 0 = false
    ∧ (ringed 63).fld (SHEET_Q_TAIL_tail 0 1) ≠ (ringed 63).fld (SHEET_Q_HEAD_head 0 1)
    ∧ (((ringed 63).sheet 0).queue 1).length < 64 ∧ ¬ (((ringed 64).sheet 0).queue 1).length < 64
    ∧ ((ringed 63).sheetEcc 0 (.uncorrectable 7) (storeUnits 0x380000 64)).2 ≠ none
    ∧ ((ringed 63).sheetEcc 0 .clean (storeUnits 0x380000 64)).2 = none := by decide +kernel

/-- Each lane operation at the head of VX executes, in its last word of registers; with and without an error read. -/
theorem test_witness_LaneOperationsWriteTheirRegister : up.running 0 1 0 = none
    ∧ ∀ op ∈ [0, 1, 2, 3, 4, 5, 6, 7, 8, 9, 0x10, 0x11, 0x12, 0x13, 0x14, 0x15],
      let w := wd [(200, op), (160, 383), (169, 383)]
      let s := runs 1 w
      s.running 0 1 0 = some w ∧ w.f 200 8 = op ∧ w.f 200 8 ≠ op + 1
      ∧ (s.engEcc 0 1 w .clean (storeUnits (vregOff (w.f 169 9)) 256)).2 = true
      ∧ (s.engEcc 0 1 w (.uncorrectable 0) (storeUnits (vregOff (w.f 169 9)) 256)).2 = false := by decide +kernel

def tile (n : Nat) : Tile := { half := 1, tile := 127, wfmt := 1, data := [], loaded := n }
/-- A matrix word for tile 127 of half 1, weight format 1, that clears, at datum `d`. -/
def mxw (clear d : Nat) : QWord := wd [(240, 127), (247, 1), (248, 1), (283, clear), (267, d)]
def mxs (clear d n : Nat) : State := (runs 0 (mxw clear d)).modSheet 0 fun x => { x with shadow := some (tile n) }

theorem test_witness_MatrixAndOutlierWordsAddExactly :
    (up.running 0 0 0 = none ∧ up.running 0 1 0x11 = none ∧ up.tileWord 0 = none)
    ∧ ((mxs 0 5 16).running 0 0 0 = some (mxw 0 5) ∧ (mxw 0 5).iter = 0 ∧ (mxw 0 5).f 283 1 = 0
      ∧ 0 ∈ (mxw 0 5).mxRows ∧ ((mxs 0 5 16).sheet 0).rowDatum 0 (mxw 0 5).mxDatum = false)
    ∧ ((mxw 1 0).f 283 1 ≠ 0 ∧ ((mxs 1 0 15).sheet 0).takeTile (mxw 1 0) = none
      ∧ (((mxs 1 0 16).sheet 0).takeTile (mxw 1 0)).map (·.1) = some (tile 16)
      ∧ ((mxs 1 0 16).engEcc 0 0 (mxw 1 0) .clean []).2 = true)
    ∧ ((mxs 1 0 16).tileWord 0 = some (mxw 1 0) ∧ (tile 16).names (mxw 1 0) = true ∧ (tile 16).complete = true
      ∧ (tile 15).complete = false ∧ (mxs 1 0 15).tileWord 0 = some (mxw 1 0))
    ∧ (let w := wd [(480, 0x11), (191, 7)]
       (runs 1 w).running 0 1 0x11 = some w ∧ ((runs 1 w).sheet 0).rowDatum 7 0 = true
       ∧ (let v := wd [(480, 0x11), (191, 7), (181, 1)]
          (runs 1 v).running 0 1 0x11 = some v ∧ v.iter = 0 ∧ ((runs 1 v).sheet 0).rowDatum 7 1 = false)) := by
  decide +kernel

theorem test_witness_ConversionGuardAndMarkWords :
    ∀ c ∈ [0x10, 0x19, 0x1A, 0x18, 0x12, 1, 2], up.running 0 1 c = none
      ∧ (runs 1 (wd [(480, c), (169, 1)])).running 0 1 c = some (wd [(480, c), (169, 1)])
      ∧ (runs 1 (wd [(480, c)])).running 0 1 c = some (wd [(480, c)])
      ∧ ((runs 1 (wd [(480, c)])).engEcc 0 1 (wd [(480, c)]) .clean [(3, 0x3A0000)]).2 = true := by decide +kernel

theorem test_witness_MoveWordsReachTheirDestination :
    (∀ c ∈ [0, 1, 2], up.running 0 2 c = none ∧ (runs 2 (wd [(480, c)])).running 0 2 c = some (wd [(480, c)])
      ∧ ((runs 2 (wd [(480, c)])).engEcc 0 2 (wd [(480, c)]) (.corrected 0) [(3, 0x3A0000)]).2 = true)
    ∧ ((wd []).f 169 1 = 0 ∧ (wd [(169, 1)]).f 169 1 = 1 ∧ up.sheetUp (up.moveDest 0 (wd [])) = true
      ∧ (put up [(PWR_DOM_STAT_on, 0x1FFFFFE)]).sheetUp (up.moveDest 0 (wd [])) = false
      ∧ (up.sheetEcc 1 (eccFrom 32 .clean) [(3, 0x3A0000)]).2 = none
      ∧ (up.sheetEcc 1 (eccFrom 32 (.corrected 33)) [(3, 0x3A0000)]).2 = none)
    ∧ (let s := runs 2 (wd [(480, 1), (160, 1)])
       s.moveDest 0 (wd [(480, 1), (160, 1)]) = 1 ∧ ((s.sheet 1).entry 0).datum = ((s.sheet 0).entry 0).datum
       ∧ (((s.modSheet 1 fun x => { x with acc := [(0, { datum := 1 })] }).sheet 1).entry 0).datum ≠ ((s.sheet 0).entry 0).datum)
    ∧ ((mxs 1 0 16).mxBusy 0 = true ∧ (runs 2 (wd [(480, 2)])).mxBusy 0 = false
      ∧ (let w := wd [(480, 2), (416, 1)]
         ((runs 2 w).sheet 0).badLegend w = none
         ∧ (((runs 2 w).modSheet 0 fun x => x.write 0 [1]).sheet 0).badLegend w = some (0, 0)
         ∧ ({ w with iter := 1, bad := true } : QWord).iter ≠ 0)) := by decide +kernel

/-- A store word of class `c` whose window offset lies in the stream buffer's half 0, of 64 bytes, once. -/
def stw (c : Nat) (l : List (Nat × Nat)) : QWord := wd ([(480, c), (208, 64), (416, 1)] ++ l)

def ovlOn (c state layers : Nat) (w : QWord) : State :=
  ({ runs 3 w with wiora := { slots := [c * 0x8000] } }).setOvl 0
    { w := [BitVec.ofNat 32 state, 0, 0, 0, BitVec.ofNat 32 layers, 0, 0, 0] }

theorem test_witness_StoreEngineWordsMoveTheirBytes :
    (∀ c ∈ [0, 1, 2, 3], up.running 0 3 c = none ∧ (runs 3 (stw c [])).running 0 3 c = some (stw c []))
    ∧ (let w := stw 0 [(0, halfBase 0)]
       let s := (runs 3 w).modSheet 0 fun x => { x with mx := [wd []] }
       (s.stallAt 0 w w.memSide.len).isSome = true ∧ (runs 3 w).stallAt 0 w w.memSide.len = none
       ∧ ((runs 3 w).loadBytes 0 w 0 64 0 .clean).2 = some (List.replicate 64 0)
       ∧ ((runs 3 w).loadBytes 0 w 0 64 0 (.uncorrectable 0)).2 = none)
    ∧ ((stw 1 []).part = [] ∧ inCompanion 0x800000000000 = true ∧ inCompanion 0x7FFFFFFFFFFF = false
      ∧ (put up [(SHEET_SAFE_CTL_calib 0, 1)]).flag (SHEET_SAFE_CTL_calib 0) = true ∧ up.suppressed 0 = false
      ∧ (put up [(FAULT_TWIN_STAT_active, 1)]).suppressed 160 = true
      ∧ up.touchesSched 0 64 = false ∧ up.touchesSched 0x03000FF00000 64 = true
      ∧ up.touchesSched 0x03000FEFFFF8 16 = true ∧ up.touchesSched 0x03000FEFFFF8 8 = false
      ∧ ((runs 3 (stw 0 [])).engEcc 0 3 (stw 0 []) (eccFrom (readUnits 0 64) .clean) ((stw 0 []).tallyUnits 64)).2 = true)
    ∧ (let s := put (runs 3 (stw 2 [])) [(SHEET_Q_TAIL_tail 0 0, 512)]
       s.fld (SHEET_Q_RING_size 0 0) = 512 ∧ (stw 2 []).iter = 0 ∧ (stw 2 []).rep = 1
       ∧ 512 < subMod 32 (s.fld (SHEET_Q_TAIL_tail 0 0)) (s.fld (SHEET_Q_HEAD_head 0 0)) + (stw 2 []).memSide.len / 64 * 1
       ∧ ¬ 512 < subMod 32 511 (s.fld (SHEET_Q_HEAD_head 0 0)) + (stw 2 []).memSide.len / 64 * 1)
    ∧ (let w := stw 3 [(262, 1)]
       ((ovlOn 0 2 2 w).running 0 3 3 = some w ∧ bit ((ovlOn 0 2 2 w).wiora.slots.getD (w.f 257 5) 0) 15 = false)
       ∧ bit ((ovlOn 1 2 2 w).wiora.slots.getD (w.f 257 5) 0) 15 = true ∧ ((ovlOn 1 1 2 w).ovl 0).state ≠ 2
       ∧ ((ovlOn 1 2 2 w).ovl 0).state = 2 ∧ ((ovlOn 1 2 1 w).ovl 0).layers ≤ w.f 262 16
       ∧ w.f 262 16 < ((ovlOn 1 2 2 w).ovl 0).layers ∧ w.latch = [] ∧ ({ w with latch := [1] } : QWord).latch ≠ []
       ∧ (ovlOn 1 2 2 w).ovlFault w (List.replicate 31 0 ++ [1]) ≠ none)
    ∧ (up.flag (SHEET_SCRUB_enable 0) = true ∧ (put up [(SHEET_SCRUB_enable 0, 0)]).flag (SHEET_SCRUB_enable 0) = false
      ∧ ((up.toTick (up.nextAt 0 64)).sheet 0).scrub + 1 < 475136 ∧ (up.sheet 0).scrubAt ≠ some up.time.elapsed
      ∧ ((up.modSheet 0 fun x => { x with scrubAt := some 0 }).sheet 0).scrubAt = some up.time.elapsed
      ∧ 475136 ≤ (((up.modSheet 0 fun x => { x with scrub := 475135 }).toTick 64).sheet 0).scrub + 1
      ∧ (up.sheetEcc 0 .clean (storeUnits 0 8)).2 = none) := by decide +kernel

/-! Memory, staging and loading. -/

/-- A stack unit and a depot unit are poisoned. -/
def poisoned : State := { up with poison := [(0, true), (0x030000000000, true)] }
def part1 (s : State) : State := put s [(MEM_DEPOT_PART_stage_size, 0x100), (MEM_DEPOT_PART_stage_base, 0)]

theorem test_witness_DeviceMemoryAccesses :
    (whoNo none = 0 ∧ up.reaches 0 = true ∧ up.reaches 3 = true ∧ State.reset.reaches 4 = false)
    ∧ winBase + (319 : Fin 320).val * winSize + (0x3FFFF8 : BitVec 22).toNat = (0x02004FFFFFF8 : BitVec 48).toNat
    ∧ (up.accessOk 0 4096 = true ∧ up.accessOk 0 4160 = false ∧ up.accessOk 2 4 = false ∧ inCompanion 0 = false)
    ∧ ((up.devGet 3 8 8 0 .clean).2 = .data (List.replicate 8 0) ∧ (poisoned.devGet 3 8 8 0 .clean).2 = .poison 0
      ∧ (poisoned.devGet 3 0x030000000000 8 0 .clean).2 = .poison 16)
    ∧ (up.writeOk 0 64 = true ∧ up.writeOk 0x03000FF00000 8 = false ∧ up.nonOwner 1 = true ∧ up.nonOwner 3 = false
      ∧ up.nonOwner 0 = false)
    ∧ (poisoned.partPoison 8 8 = some 0 ∧ poisoned.partPoison 0 64 = none)
    ∧ (inWindows 0 = false ∧ (unitsOf 0 4096).all (fun u => !(up.waitRefresh 0 4096).isPoison u) = true
      ∧ (poisoned.waitRefresh 0 4096).isPoison 0 = true)
    ∧ (let o := (0x3C7FC0 : BitVec 22).toNat
       let w := winBase + 319 * winSize + o
       up.sheetUp 319 = true ∧ up.accessOk w 64 = true ∧ o + 64 ≤ winSize ∧ touches 5 o 64 = false
         ∧ touches 5 (o + 64) 64 = true ∧ up.writeOk w 64 = true ∧ up.partPoison w 64 = none ∧ up.twinOn = false
         ∧ touches 3 o 64 = false ∧ touches 3 0x3A0000 64 = true) := by
  decide +kernel

theorem test_witness_MemoryBytesAreWhatWasStored : Sound poisoned := sound_of _ (by decide +kernel)

/-- One stage descriptor waits at its ring; `d` is the descriptor. -/
def staged (d : List Byte) : State := put { up with mem := d.zipIdx.filterMap fun e => if e.1 = 0 then none else some (e.2, e.1) }
  [(MEM_STAGE_TAIL_tail, 1)]

theorem test_witness_RefreshScrubAndStager :
    (up.flag MEM_SCRUB_enable = true ∧ (put up [(MEM_SCRUB_enable, 0)]).flag MEM_SCRUB_enable = false
      ∧ up.scrubUnit 16 0 = some (0x030000000000, 2 ^ 28 / 8, 8) ∧ up.scrubUnit 7 0 = some (7 * 48 * 2 ^ 30, 48 * 2 ^ 30 / 64, 64)
      ∧ up.scrubUnit 8 0 = none
      ∧ smGet (fun _ => none) up.load.scrubAt 16 ≠ some up.time.elapsed
      ∧ smGet (fun _ => none) (up.modLoad fun l => { l with scrubAt := [(16, some 0)] }).load.scrubAt 16
        = some up.time.elapsed)
    ∧ (up.fld MEM_STAGE_TAIL_tail = up.fld MEM_STAGE_HEAD_head ∧ up.load.stage = none
      ∧ (up.modLoad fun l => { l with stage := some [] }).load.stage.isSome = true)
    ∧ ((staged []).load.stage = none ∧ (staged []).fld MEM_STAGE_TAIL_tail ≠ (staged []).fld MEM_STAGE_HEAD_head
      ∧ ((staged []).fetch .stageRing ((staged []).stageAddr 0) 32 0 .clean).2 = .got (.data (List.replicate 32 0))
      ∧ (staged []).stageBad (List.replicate 32 0) = true
      ∧ (({ staged [] with poison := [(0, true)] } : State).fetch .stageRing ((staged []).stageAddr 0) 32 0 .clean).2
        = .got (.poison 0))
    ∧ (let s := put (part1 up) [(MEM_STAT_tier, 1), (MEM_STAT_cap, 64)]
       s.stageBad ([0, 0, 0, 0, 0, 0x10, 0, 0, 0, 0, 1] ++ List.replicate 21 0) = false
       ∧ (unitsOf 0x100000000000 (stageLen ([0, 0, 0, 0, 0, 0x10, 0, 0, 0, 0, 1]))).filter s.isPoison = []) := by
  decide +kernel

/-- A load descriptor: from source address 0 with kind 1, to `dst`, tag 5. -/
def ldesc (dst : Byte) : List Byte := [0, dst, 0, 0, 0, 0, 0, 0, 0, 1, 0, 0, 5] ++ List.replicate 51 0
def loading (attempt : Nat) (ans : List LoadAnswer) : State :=
  put (up.modLoad fun l =>
    { l with slots := [(63, some { num := 0, desc := ldesc 0, attempt := attempt, flight := [0] })], inbox := ans })
    [(MEM_LOAD_TAIL_tail, 2), (MEM_LOAD_HEAD_head, 1)]

theorem test_witness_LoaderDescriptorsAndAttempts :
    (up.fld MEM_LOAD_TAIL_tail = up.fld MEM_LOAD_HEAD_head
      ∧ ∀ k < 64, ((up.modLoad fun l => { l with
        slots := (List.range 64).map fun k => (k, some { num := 0, desc := [] }) }).lane k) ≠ none)
    ∧ ((loading 1 []).lane 0 = none ∧ (loading 1 []).fld MEM_LOAD_TAIL_tail ≠ (loading 1 []).fld MEM_LOAD_HEAD_head
      ∧ ((loading 1 []).fetch .loadRing 64 64 0 .clean).2 = .got (.data (List.replicate 64 0))
      ∧ (loading 1 []).loadBad (List.replicate 64 0) = true)
    ∧ (((loading 3 []).lane 63).isSome = true ∧ (loading 3 []).loadAnswer 63 0 0 3 = none
      ∧ (((loading 3 []).lane 63).map fun x => x.flight.contains 0) = some true
      ∧ (((loading 3 []).lane 63).map fun x => x.flight.contains 4096) = some false
      ∧ (((loading 2 [⟨63, 0, 0, 2, none⟩]).loadAnswer 63 0 0 2).map (·.1)) = some none
      ∧ (((loading 2 [⟨63, 0, 0, 2, some [1]⟩]).loadAnswer 63 0 0 2).map (·.1)) = some (some [1]) ∧ [1].length ≠ 4096)
    ∧ (((loading 2 []).lane 63).map (·.attempt)) = some 2 ∧ (((loading 3 []).lane 63).map (·.attempt)) = some 3 := by
  decide +kernel

/-! Frames. -/

/-- A symbol of kind `k` is at the head of port 2, with the bytes after it. -/
def sym (k : Byte) (l : List Byte) : List Byte := padTo 16 (k :: l)
def symAt (s : State) (y : List Byte) : State := s.modPort 2 fun q => { q with symIn := [(0, y)] }
def topo (l : List (Fld × Nat)) : State := put up l

theorem test_witness_HoldSlipAndStopSymbols :
    ((((symAt up (sym 2 [1])).popSymbol 2 2).map (·.1)) = some (sym 2 [1])
      ∧ (((symAt up (sym 3 [])).popSymbol 2 3).map (·.1)) = some (sym 3 []))
    ∧ (up.flag TOPO_ORIGIN_self = false ∧ (topo [(TOPO_ORIGIN_self, 1)]).flag TOPO_ORIGIN_self = true
      ∧ (topo [(TOPO_ORIGIN_self, 1)]).fld TOPO_SLICE_state ≠ 1
      ∧ (topo [(TOPO_ORIGIN_self, 1), (TOPO_SLICE_state, 1)]).fld TOPO_SLICE_state = 1
      ∧ (topo [(TOPO_ORIGIN_self, 1), (TOPO_SLICE_state, 1)]).stopOrdered = false
      ∧ (up.modTime fun t => { t with orders := [(1, true, false, 1, 2)] }).stopOrdered = true)
    ∧ (up.time.stopRec = none ∧ (up.modTime fun t => { t with stopRec := some (0x3040, 1) }).time.stopRec = some (0x3040, 1)
      ∧ (up.modTime fun t => { t with gotHold := true, consec := 7 }).time.consec < ringSize (up.fld TIME_SLIP_CFG_max_consec) 256
      ∧ ringSize (up.fld TIME_SLIP_CFG_max_consec) 256 ≤ (up.modTime fun t => { t with gotHold := true, consec := 8 }).time.consec
      ∧ up.time.gotHold = false ∧ up.time.gotLoadHold = false
      ∧ (up.modTime fun t => { t with gotLoadHold := true }).time.gotLoadHold = true)
    ∧ (up.time.boundary < leField (sym 3 [0, 0, 0, 1]) 4 6 ∧ leField (sym 3 [0, 0, 0, 0]) 4 6 ≤ up.time.boundary
      ∧ bit (leField (sym 3 [1]) 1 1) 0 = true ∧ bit (leField (sym 3 [2]) 1 1) 0 = false) := by decide +kernel

theorem test_witness_FrameBoundaryRunsItsSteps : up.time.orders = []
    ∧ (up.modTime fun t => { t with orders := [(0, true, false, 1, 2)] }).time.orders = [(0, true, false, 1, 2)]
    ∧ 0 ≤ up.frame ∧ up.topo.fence = none
    ∧ (up.modTopo fun t => { t with fence := some false }).topo.fence = some false
    ∧ (up.modTopo fun t => { t with lcoord := some 5 }).topo.lcoord = some 5
    ∧ (let s := up.pass 65536
       s.time.boundary < s.frame ∧ ¬ up.time.boundary < up.frame ∧ s.time.orders = [] ∧ s.time.stopNext = none
         ∧ s.fault.twin = [] ∧ s.sheets = [] ∧ s.topo.fence = none ∧ s.topo.lcoord = none
         ∧ s.flag TIME_WP_CTL_enable = false ∧ s.fab.expertPend = [] ∧ s.fab.deps = [] ∧ s.laneUnits = 0
         ∧ s.fab.guardClear = none ∧ s.ports = [] ∧ s.fab.own = []) := by decide +kernel

/-! Fabric. -/

def ovlReg (state busy w7 : Nat) : State :=
  put (up.setOvl 0 { w := [BitVec.ofNat 32 state], busy := busy }) [(FAB_OVL_DATA_word 7, w7)]
def pathLoading : State := up.modFab fun f => { f with pathLoad := some 0 }

theorem test_witness_FabricRegisterWrites :
    (∀ a ∈ [FAB_OVL_SEL, FAB_OVL_CTL, FAB_PATH_SEL, FAB_PATH_CTL, FAB_DISPATCH_CTL, FAB_BUNDLE_CTL, FAB_BUNDLE_AREA,
      FAB_BUNDLE_AUX], mayW up a 4 = true)
    ∧ (((ovlReg 2 1 0).ovl 0).state = 2 ∧ ((ovlReg 2 1 0).ovl 0).busy ≠ 0 ∧ (ovlReg 2 1 0).fld FAB_OVL_SEL_entry = 0
      ∧ ((ovlReg 2 0 1).ovl 0).busy = 0 ∧ ((ovlReg 1 1 0).ovl 0).state ≠ 2
      ∧ ovlIllegal { w := [0, 0, 0, 0, 0, 0, 0, 1] } = true ∧ ovlIllegal { w := [2, 0, 0, 0, 1, 0, 0, 0] } = false)
    ∧ (pathLoading.fab.pathLoad.isSome = true ∧ mayW pathLoading FAB_PATH_CTL 4 = true ∧ up.fab.pathLoad = none
      ∧ up.fld FAB_DISPATCH_CTL_enable = 0 ∧ (put up [(FAB_DISPATCH_CTL_enable, 0x8000)]).fld FAB_DISPATCH_CTL_enable ≠ 0
      ∧ (0x8000 &&& 0 : Nat) ≠ 0x8000 ∧ mayW pathLoading FAB_DISPATCH_CTL 4 = true)
    ∧ (up.deferUnit + 0xFFF0 = 0x10000 + up.mapUnit ∧ up.deferUnit + up.fld FAB_BUNDLE_AUX_defer_units ≤ 65536
      ∧ 65536 < (put up [(FAB_BUNDLE_AREA_qbase, 0xFFFF)]).deferUnit) := by decide +kernel

def dxs (queue : List (Nat × Nat)) (d : DxSt) : State :=
  (put up [(FAB_DISPATCH_CTL_enable, 0x8000)]).setDx 15 { d with queue := queue }
/-- A mark of kind `k` with count `n`. -/
def markE (k n : Nat) : Nat := 2 * 2 ^ 104 + k * 2 ^ 28 + n * 2 ^ 55
/-- A transit entry from port 3 to local, with tag 9. -/
def transitE : Nat := 1 * 2 ^ 104 + 9 * 2 ^ 80 + 3 * 2 ^ 28 + 2 ^ 64

theorem test_witness_DispatchEnginesReadAndArm :
    (up.dxOn 15 = false ∧ ((dxs [] { sawEnd := true }).dx 15).sawEnd = true
      ∧ 256 ≤ ((dxs (List.replicate 256 (0, 0)) {}).dx 15).queue.length
      ∧ ((dxs (List.replicate 255 (0, 0)) {}).dx 15).queue.length < 256)
    ∧ ((dxs [] {}).dxOn 15 = true ∧ ((dxs [] {}).dx 15).sawEnd = false
      ∧ ((dxs [] {}).memGet 0x005FE0000000 16 0 .clean).2 = .data (List.replicate 16 0)
      ∧ (let t := ((dxs [] {}).memGet 0x005FE0000000 16 0 .clean).1
         let w := t.windowAddr 15 0
         ((t.memPut w 0 (List.replicate 16 0)).memGet w 16 0 (eccFrom 1 .clean)).2 = .data (List.replicate 16 0))
      ∧ ((dxs [] {}).memGet 0x005FE0000000 16 0 (.uncorrectable 0)).2 = .poison 7)
    ∧ ((dxs [] {}).dxHead 15 = none
      ∧ ∀ k ∈ [0, 1, 2], (dxs [(0, markE k 1)] {}).dxHead 15 = some (0, markE k 1) ∧ enClass (markE k 1) = 2
        ∧ bits (markE k 1) 28 2 = k ∧ markBad (markE k 1) = false ∧ markBad (markE k 1 + 1) = true
        ∧ enClass transitE ≠ 2)
    ∧ (bits (markE 1 0) 55 16 = 0 ∧ bits (markE 1 2) 55 16 - 1 = 1 ∧ bits (markE 1 1) 55 16 - 1 = 0
      ∧ ((dxs [] { active := true, lc := 0 }).dx 15).active = true)
    ∧ ((dxs [(0, transitE)] {}).dxHead 15 = some (0, transitE) ∧ enClass transitE = 1 ∧ up.entryBad transitE = false
      ∧ up.entryBad (transitE + 2 ^ 127) = true ∧ enJoin (transitE + 2 ^ 65) = true ∧ up.freeRu = some 0
      ∧ (up.modFab fun f => { f with trans := (List.range 8).map fun n =>
          { tag := n, entry := 0, dx := 0, due := 0, frame := 0, ru := some n } }).freeRu = none
      ∧ (let s := (dxs [] { lastDue := some 256 }).dx 15
         s.lastDue = some 256 ∧ enTick transitE < 256))
    ∧ (((dxs [] { ahead := 1 }).dx 15).aheadAt = up.time.tick ∧ 0 < ((dxs [] { ahead := 1 }).dx 15).ahead
      ∧ ((dxs [] {}).dx 15).ahead = 0)
    ∧ (let s := dxs [(0, transitE)] {}
       (List.range 16).flatMap (s.toTick (s.dueOf (s.dx 15).frame transitE - 256)).armable = [(15, 0, transitE)]) := by
  decide +kernel

def dep (l : ArmedDep → ArmedDep) : ArmedDep := l { tag := 9, entry := 9 * 2 ^ 80 + 2 ^ 16, dx := 15, idx := 0, due := 300, frame := 0 }
def armed (d : ArmedDep) (unit0 : Bool) : State :=
  let s := up.modFab fun f => { f with deps := [d], path := [(0, 1 * 2 ^ 121 + 31)] }
  if unit0 then s.modFab fun f => { f with fill := [(0, true)] } else s

theorem test_witness_DeparturesLeaveInTheirSlotOrLate :
    (let mine : ArmedDep → Bool := fun d => d.dx == 15 && d.tag == 9 && !d.sent && !d.late && !d.overflow
     up.fab.deps.find? mine = none ∧ (armed (dep id) false).fab.deps.find? mine = some (dep id)
      ∧ ((armed (dep id) false).toTick 300).mayDepart = true
      ∧ ((put (armed (dep id) false) [(TOPO_SLICE_state, 2)]).toTick 300).mayDepart = false
      ∧ 300 < ((armed (dep id) false).pass 301).time.tick ∧ (armed (dep id) false).time.tick ≤ 300
      ∧ (((armed (dep id) true).toTick 300).depTry (dep id) .clean false).2 = true
      ∧ (let v := ((armed (dep id) true).toTick 300).treeDone
         v.depMay (dep id) = true ∧ srcDevice (dep id).entry = false
           ∧ v.allFilled (srcUnit (dep id).entry) (enLength (dep id).entry + escUnits (v.escTally (dep id).entry)) = true)
      ∧ (let d := dep fun d => { d with entry := d.entry + 2 ^ 124 }
         enGuard d.entry = 1 ∧ up.depMay d = false
           ∧ (put up [(FAB_DISPATCH_STAT_guard_valid, 1)]).treeDone.depMay d = true
           ∧ (put up [(FAB_DISPATCH_STAT_guard_valid, 1)]).treeDone.guardFails d.entry = true)
      ∧ (((armed (dep id) false).toTick 300).depTry (dep id) .clean false).2 = false)
    ∧ (enClass (dep id).entry ≠ 3 ∧ up.guardFails (dep id).entry = false ∧ enReduce (dep id).entry = false
      ∧ enReduce (2 ^ 107) = true ∧ enR (2 ^ 107) < (up.modFab fun f => { f with tally := [(0, 1)] }).escTally (2 ^ 107)
      ∧ (up.modFab fun f => { f with tally := [(0, 1)] }).escTally (2 ^ 107 + 2 ^ 116) ≤ enR (2 ^ 107 + 2 ^ 116))
    ∧ (up.mayDepart = true ∧ (armed (dep fun d => { d with late := true }) false).fab.deps.filter
        (fun x => x.isLate && (armed (dep id) false).depPort x == 31) = [dep fun d => { d with late := true }])
    ∧ (up.time.slipFrame = false ∧ (up.modTime fun t => { t with slipFrame := true }).time.slipFrame = true
      ∧ (armed (dep fun d => { d with overflow := true }) false).fab.deps.find? (fun d => d.tag == 9 && d.overflow && !d.sent)
        = some (dep fun d => { d with overflow := true })
      ∧ up.depMay (dep id) = true ∧ up.depMay (dep fun d => { d with entry := d.entry + 2 ^ 124 }) = false)
    ∧ (pathTree ((armed (dep id) false).pathEntry (enPath (dep id).entry)) = true
      ∧ pathTree (up.pathEntry (enPath (dep id).entry)) = false)
    ∧ (up.fab.pathLoad = none
      ∧ (up.modFab fun f => { f with pathLoad := some 0x800000000000 }).fab.pathLoad = some 0x800000000000
      ∧ min (up.pathGood 0x800000000000 []) 65536 < 65536 ∧ inCompanion 0x800000000000 = true
      ∧ pathLoading.fab.pathLoad = some 0 ∧ inCompanion 0 = false
      ∧ (pathLoading.devGet 0 0 (32 * 3) 0 .clean).2 = .data (List.replicate 96 0)) := by decide +kernel

/-- One lane of two units with records of one unit: the terminator fills its first unit or not. -/
def lanes1 (filled : Bool) : State :=
  put (up.modFab fun f => { f with fill := if filled then [(0, true)] else []
                                   staging := [(0, 0xFF), (1, 0xFF), (2, 0xFF), (3, 0xFF)] })
    [(FAB_BUNDLE_CTL_lanes, 1), (FAB_BUNDLE_CTL_rec, 1), (FAB_BUNDLE_AREA_lane_units, 2)]

theorem test_witness_TokenQueueClosesSorted : up.laneUnits = 0 ∧ (lanes1 true).laneUnits ≠ 0
    ∧ (lanes1 true).laneRecs 0 2 3 = some [] ∧ (lanes1 false).laneRecs 0 2 3 = none
    ∧ (List.range (lanes1 true).lanes).length = 1 := by decide +kernel

def tr (bad : Bool) : ArmedTr := { tag := 9, entry := transitE, dx := 0, due := 0, frame := 0, bad := bad }
/-- An S flit of tag 9 whose fields W and r are 0, at hop 0 of path 0. -/
def flit9 : RawFlit := (blankFlit 0 []).setH 128 24 9
def poolOf (f : RawFlit) : PoolFlit := { id := 0, flit := f, shared := false, at0 := 0 }
def taking (t : List ArmedTr) (a : List (Nat × Nat)) : State :=
  (up.modFab fun f => { f with trans := t, abandoned := a, path := [(0, 31)] }).modPort 3
    fun q => { q with pool := [poolOf flit9] }

theorem test_witness_FlitsAreTakenByTheirEntry :
    ((taking [] []).port 3).pool = [] ++ poolOf flit9 :: [] ∧ (poolOf flit9).waiting = true ∧ flit9.cls = 0
    ∧ (taking [] []).takeFlit 3 0 0 flit9 = none
    ∧ ((taking [tr false] []).findTr 3 flit9.tag) = some (tr false, false)
    ∧ ((taking [] [(3, 9)]).findTr 3 flit9.tag = none ∧ (taking [] [(3, 9)]).fab.abandoned.contains (3, flit9.tag) = true)
    ∧ ((tr true).bad = true ∧ enJoin transitE = false ∧ flit9.W = enW transitE ∧ flit9.r = enR transitE
      ∧ routeBad transitE ((taking [] []).pathEntry 0) flit9 = false
      ∧ routeBad transitE 5 flit9 = true ∧ (flit9.setH 199 8 1).W ≠ enW transitE)
    ∧ (let e := transitE - 2 ^ 64 + 2 ^ 33
       let t : ArmedTr := { tr false with entry := e }
       enLocal e = false ∧ outPorts e = [0] ∧ (t.a.take flit9 0 false).isDone = false
         ∧ (t.a.take (flit9.setH 223 1 1) 0 false).isDone = true)
    ∧ ((up.port 2).symIn = [] ∧ ((symAt up (sym 1 [])).port 2).symIn = (0, sym 1 []) :: [] ∧ leField (sym 1 []) 0 1 = 1
      ∧ leField (sym 2 []) 0 1 ≠ 1)
    ∧ (let t : ArmedTr := { tr false with tag := 0, waitDone := [2] }
       [t].find? (fun t => t.tag == leField (sym 1 []) 4 3 && t.waitDone.contains 2) = some t
       ∧ ([] : List ArmedTr).find? (fun t => t.tag == leField (sym 1 []) 4 3 && t.waitDone.contains 2) = none) := by
  decide +kernel

/-- An X flit from source 7 with number 0: first and last of its packet, of the given op, token and path 0. -/
def xf (op tok : Nat) : RawFlit :=
  ((((blankFlit 1 [BitVec.ofNat 8 op, 0, 32]).setH 128 17 7).setH 206 1 1).setH 207 1 1).setH 208 16 tok
def xs (f : RawFlit) (path : Nat) : State :=
  (up.modFab fun g => { g with path := [(0, path)] }).modPort 3 fun q => { q with pool := [poolOf f] }
def xk (op : Nat) : XPacket := packetOf [xf op 0]

theorem test_witness_XPacketsReachTheirDestination :
    (pathLoading.fab.pathLoad ≠ none ∧ (up.port 3).xWaiting = [])
    ∧ (up.fab.pathLoad = none ∧ ((xs (xf 1 0) 31).port 3).xWaiting = poolOf (xf 1 0) :: []
      ∧ pathTree ((xs (xf 1 0) 31).pathEntry (xf 1 0).path) = true
      ∧ pathTree ((xs (xf 1 0) 0x1F00).pathEntry (xf 1 0).path) = false
      ∧ (xs (xf 1 0) 5).xHop (xf 1 0) ≠ 31 ∧ (xs (xf 1 0) 0x1F00).xHop ((xf 1 0).setH 168 4 1) = 31 ∧ (xf 1 0).first = true
      ∧ wholePacket (xf 1 0) [poolOf (xf 1 0)] = some [poolOf (xf 1 0)] ∧ (xk 1).isFault = false ∧ (xk 3).isFault = true)
    ∧ (up.xHeld 7 (xk 1) = none
      ∧ (up.modX fun x => { x with toks := [{ src := 7, token := 0, reply := {}, port := 3, at0 := 0 }] }).xHeld 7
          { xk 1 with token := some 0 } = some { src := 7, token := 0, reply := {}, port := 3, at0 := 0 }
      ∧ (xk 1).xseq = (up.xin 7).expect ∧ 0x80 ≤ (xk 0x80).op ∧ (xk 1).op < 0x80 ∧ (xk 1).token = none
      ∧ ({ xk 1 with token := some 0 } : XPacket).token ≠ none ∧ (xk 1).op = 1 ∧ (xk 3).op = 3
      ∧ ({ xk 1 with xseq := 65535 } : XPacket).xseq ≠ (up.xin 7).expect ∧ (xk 2).op ≠ 1)
    ∧ (up.x.out.find? (fun o => o.pkt.xseq == 1 && o.who != .response && o.who != .filler) = none
      ∧ (let o : XOut := { dest := 7, port := 3, pkt := { xseq := 1 }, who := .fault 1, sentAt := 0 }
         [o].find? (fun o => o.pkt.xseq == 1 && o.who != .response && o.who != .filler) = some o))
    ∧ (let e : XTok := { src := 7, token := 0, reply := {}, port := 3, at0 := 0 }
       [e].find? (fun e => e.src == 7 && e.token == 0) = some e ∧ up.x.toks.find? (fun e => e.src == 7) = none)
    ∧ (let e : MergeEntry := { slot := 63, entry := { code := 1 }, at0 := 0 }
       [e].find? (fun e => e.slot == 63) = some e ∧ e.extra = 0 ∧ ({ e with extra := 1 } : MergeEntry).extra ≠ 0
       ∧ up.fault.merge.find? (fun e => e.slot == 63) = none) := by decide +kernel

/-- An acknowledgement alone waits at its destination, without a first flit of its number. -/
theorem test_witness_XPacketsReachTheirDestination_ack :
    let f := ackFlit 7 0 1 0 false
    (xs f 0x1F00).fab.pathLoad = none ∧ ((xs f 0x1F00).port 3).xWaiting = poolOf f :: [] ∧ (xs f 0x1F00).xHop f = 31 ∧ f.ackOnly = true
    ∧ ((xs f 0x1F00).port 3).xWaiting.any (fun u => u.flit.first && u.flit.xsource == f.xsource && u.flit.xseq == f.xseq)
      = false := by decide +kernel

/-- With 4,096 tokens held. -/
theorem test_witness_XPacketsReachTheirDestination_full :
    4096 ≤ (up.modX fun x => { x with
      toks := List.replicate 4096 { src := 7, token := 0, reply := {}, port := 3, at0 := 0 } }).x.toks.length := by
  show 4096 ≤ (List.replicate 4096 _).length
  exact Nat.le_of_eq List.length_replicate.symm

/-! Topology, time, power, memory and boot. -/

def slice (id st : Nat) : State := put up [(TOPO_SLICE_id, id), (TOPO_SLICE_state, st)]

theorem test_witness_TopologyRegisterWrites :
    (∀ a ∈ [LINK_PERMIT 0 0 + 12, LINK_PERMIT 30 1023 + 12, TOPO_CTL, TOPO_SLICE, TOPO_ORIGIN, TOPO_TREE,
      TOPO_TREE_CHILD, TOPO_FENCE, TOPO_LCOORD], mayW up a 4 = true)
    ∧ (up.permitBad 0 0 0 = false ∧ up.permitBad 30 1023 (2 ^ 31 + 1 + 8191 * 2 ^ 48) = false
      ∧ up.permitBad 30 1023 (2 ^ 31 + 1 + 8192 * 2 ^ 48) = true ∧ up.permitBad 0 0 (2 ^ 31) = true
      ∧ up.permitBad 0 0 (2 ^ 31 + 1 + 1 * 2 ^ 32) = true)
    ∧ ((slice 7 0).fld TOPO_SLICE_state = 0 ∧ (slice 7 1).fld TOPO_SLICE_state = 1 ∧ (slice 7 2).fld TOPO_SLICE_state ≠ 0
      ∧ 8 ≠ (slice 7 1).fld TOPO_SLICE_id ∧ bits 0x1FFFF 16 2 = 1 ∧ 0x1FFFF % 65536 = 0xFFFF ∧ bits 0x10000 16 2 = 1
      ∧ 0x10000 % 65536 = 0 ∧ bits 0x1FFFE 16 2 = 1 ∧ 0x1FFFE % 65536 ≠ 0xFFFF ∧ mayW (slice 7 1) TOPO_SLICE 4 = true
      ∧ mayW (slice 7 2) TOPO_TREE 4 = true ∧ mayW (slice 7 1) TOPO_LCOORD 4 = true
      ∧ up.flag TOPO_ORIGIN_self = false ∧ (topo [(TOPO_ORIGIN_self, 1)]).flag TOPO_ORIGIN_self = true
      ∧ SliceReg.origin ≠ .slice ∧ SliceReg.tree ≠ .slice ∧ SliceReg.child ≠ .slice) := by decide +kernel

def measure (st miss : Nat) : State := (lk 2 st).modPort 2 fun q => { q with measuring := true, probeMiss := miss }
def surveying (at0 : Option Nat) : State :=
  (put (lk 2 5) [(TOPO_STAT_survey, 1)]).modTopo fun t => { t with sentAt := at0 }

theorem test_witness_SurveyMeasurementAndFenceCommands :
    ((put up [(TOPO_STAT_survey, 1)]).fld TOPO_STAT_survey = 1 ∧ up.fld TOPO_STAT_survey ≠ 1)
    ∧ ((∀ i < 31, up.surveys i = false) ∧ (surveying none).surveys 2 = true ∧ (surveying none).topo.sentAt = none
      ∧ (surveying (some 7)).topo.sentAt = some 7 ∧ (measure 5 0).surveys 2 = true
      ∧ ((measure 5 0).modPort 2 fun q => { q with measWait := true }).surveys 2 = false)
    ∧ (((measure 5 0).port 2).measWait = false ∧ (measure 5 0).flag (LINK_TS_STAT_probing 2) = false
      ∧ ((measure 5 0).port 2).measSkip = 0
      ∧ ((((measure 5 0).modPort 2 fun q => { q with symIn := [(0, sym 6 [])] }).popSymbol 2 6).map (·.1)) = some (sym 6 []))
    ∧ ((((symAt up (sym 6 [])).popSymbol 2 6).map (·.1)) = some (sym 6 []) ∧ (up.port 2).measuring = false)
    ∧ (((measure 2 0).port 2).measuring = true ∧ (measure 2 0).fld (LINK_STAT_state 2) ≠ 5
      ∧ (measure 5 6).fld (LINK_STAT_state 2) = 5 ∧ ((measure 5 6).port 2).probeMiss + 1 < 8
      ∧ 8 ≤ ((measure 5 7).port 2).probeMiss + 1)
    ∧ ((((symAt up (sym 4 [])).popSymbol 2 4).map (·.1)) = some (sym 4 [])
      ∧ leField (sym 4 []) 4 4 % 2 ^ 17 = up.fld TOPO_COORD_coord
      ∧ leField (sym 4 [0, 0, 0, 1]) 4 4 % 2 ^ 17 ≠ up.fld TOPO_COORD_coord) := by decide +kernel

def domA (st : Nat) (f : DomSt → DomSt) : State :=
  (put up [(TIME_DOM_STAT_state_a, st)]).modNet fun n => { n with a := f n.a, chosen := true }
def tod : List Byte :=
  let b : List Byte := [0xA5, 0x5A, 1, 0, 100, 0, 0, 0, 0, 0, 7, 0, 0, 0]
  b ++ leBytes 2 (crc16 b)

theorem test_witness_ReferenceDomainCommands :
    (up.domState 0 = 0 ∧ (domA 1 id).domState 0 = 1 ∧ (domA 2 id).domState 0 = 2 ∧ (domA 3 id).domState 0 = 3
      ∧ (domA 1 id).net.chosen = true ∧ (domA 1 id).fld TIME_DOM_STAT_sel = 0 ∧ up.net.chosen = false)
    ∧ (let off : State → Nat → Bool := fun s f => match (s.dom 0).pps with
         | some t => decide (t + 1280000008 * 256 < s.time.elapsed * 256 + f ∨ s.time.elapsed * 256 + f < t + 1279999992 * 256)
         | none => false
       let at0 := domA 2 fun d => { d with pps := some 0 }
       off (domA 2 id) 0 = false ∧ off at0 0 = true ∧ off (at0.pass 1280000008) 0 = false
       ∧ off (at0.pass 1280000008) 1 = true ∧ off (at0.pass 1279999992) 0 = false)
    ∧ (((domA 2 fun d => { d with heard := true, good := 1 }).dom 0).good + 1 = 2 ∧ 0 < 2 ∧ (domA 1 id).domState 0 < 2)
    ∧ ((put (domA 3 id) [(BOOT_STAT_step, 6)]).fld BOOT_STAT_step = 6
      ∧ (domA 3 id).flag BOOT_STAT_held = false ∧ (domA 3 id).flag BOOT_STAT_failed = false
      ∧ (domA 3 id).flag TIME_DOM_STAT_set = false ∧ (domA 3 id).fld BOOT_STAT_step = 10
      ∧ ((domA 3 fun d => { d with msg := some (6, 99) }).dom 0).msg = some (6, 99)
      ∧ (put (domA 3 id) [(TIME_DOM_STAT_sel, 1)]).fld TIME_DOM_STAT_sel ≠ 0)
    ∧ (leField tod 0 1 = 0xA5 ∧ leField tod 1 1 = 0x5A ∧ leField tod 2 1 = 1 ∧ leField tod 14 2 = crc16 (tod.take 14)
      ∧ leField tod 3 1 % 2 = 0 ∧ leField tod 4 6 < 2 ^ 33 ∧ leField tod 10 2 = (6 + 1) % 65536 ∧ leField tod 4 6 = 99 + 1
      ∧ 0 + 1280000 * 256 ≤ ((domA 3 fun d => { d with pps := some 0 }).pass 1280000).time.elapsed * 256
      ∧ ((domA 3 fun d => { d with pps := some 0 }).pass 1152000000).time.elapsed * 256 ≤ 0 + 1152000000 * 256)
    ∧ (let s := put (domA 3 id) [(TIME_DOM_CTL_revert, 1), (TIME_DOM_CTL_pref, 0), (TIME_DOM_STAT_sel, 1)]
       s.flag TIME_DOM_CTL_revert = true ∧ s.net.chosen = true
       ∧ s.fld TIME_DOM_STAT_sel ≠ s.fld TIME_DOM_CTL_pref ∧ s.domState (s.fld TIME_DOM_CTL_pref) = 3)
    ∧ (put up [(TIME_DOM_STAT_holdover, 1)]).flag TIME_DOM_STAT_holdover = true
    ∧ (up.flag TIME_DOM_STAT_slewing = false
      ∧ (put (domA 2 id) [(TIME_DOM_STAT_slewing, 1)]).flag TIME_DOM_STAT_slewing = true
      ∧ (domA 2 id).domState ((domA 2 id).fld TIME_DOM_STAT_sel) ≠ 3
      ∧ (put (domA 3 id) [(TIME_DOM_STAT_slewing, 1)]).flag TIME_DOM_STAT_slewing = true
      ∧ (domA 3 id).domState ((domA 3 id).fld TIME_DOM_STAT_sel) = 3) := by decide +kernel

def beaconAt (probe : Byte) : State :=
  (lk 2 5).modPort 2 fun q =>
    { q with pool := [poolOf (blankFlit 2 [])], symIn := [(0, sym 5 [0, 0, 0, 0, 0, 0, 0, 0, 0, 0, 0, probe])] }

theorem test_witness_BeaconsCarryTimestamps :
    ((put (lk 2 5) [(LINK_TS_CTL_bcn_en 2, 1)]).flag (LINK_TS_CTL_bcn_en 2) = true ∧ ((lk 2 5).port 2).bcnAt = none
      ∧ (((lk 2 5).modPort 2 fun q => { q with bcnAt := some 9 }).port 2).bcnAt = some 9
      ∧ (put (lk 2 5) [(LINK_TS_CTL_bcn_en 2, 1)]).fld (LINK_STAT_state 2) = 5
      ∧ (put (lk 2 5) [(LINK_TS_CTL_bcn_en 2, 0)]).flag (LINK_TS_CTL_bcn_en 2) = false)
    ∧ (∀ b ∈ [(0 : Byte), 1], ((beaconAt b).port 2).symIn = (0, sym 5 [0, 0, 0, 0, 0, 0, 0, 0, 0, 0, 0, b]) :: []
      ∧ leField (sym 5 [0, 0, 0, 0, 0, 0, 0, 0, 0, 0, 0, b]) 0 1 = 5
      ∧ ((beaconAt b).port 2).pool.find? (fun e => e.id == 0) = some (poolOf (blankFlit 2 []))
      ∧ ((beaconAt b).port 2).apparent = none ∧ ((beaconAt b).port 2).measuring = false)
    ∧ ((chunks 16 16 (padTo 256 (blankFlit 2 []).payload)).any isBeacon = false
      ∧ (chunks 16 16 (padTo 256 (blankFlit 2 (sym 5 [])).payload)).any isBeacon = true
      ∧ ((beaconAt 1).port 2).bcnSlot ≠ some (0 - 0 % slotTicks 2)
      ∧ (((beaconAt 1).modPort 2 fun q => { q with bcnSlot := some 0 }).port 2).bcnSlot = some (0 - 0 % slotTicks 2))
    ∧ bit (leField (sym 5 [0, 0, 0, 0, 0, 0, 0, 0, 0, 0, 0, 0]) 12 1) 0 = false
    ∧ bit (leField (sym 5 [0, 0, 0, 0, 0, 0, 0, 0, 0, 0, 0, 1]) 12 1) 0 = true := by decide +kernel

def gb (l : List (Fld × Nat)) : State := put (put up [(BOOT_STAT_step, 2)]) l

theorem test_witness_TimePowerAndMemoryRegisterWrites :
    (∀ a ∈ [TIME_SCHED_CTL, PWR_GOV_CTL 0, PWR_GOV_CTL 15, PWR_GOV_TGT 15, TIME_DOM_CTL, PWR_IN_CFG, PWR_DOM_OFF,
      PWR_SYNC_CTL, MEM_DEPOT_PART, MEM_STAGE_TAIL, MEM_LOAD_TAIL], mayW up a 4 = true)
    ∧ mayW up MEM_LOAD_RING 8 = true
    ∧ (61440 % 65536 ≤ 61440 ∧ 61440 < 61441 % 65536)
    ∧ ((bits 0x3C3C3C 0 6 ≤ bits 0x3C3C3C 16 6 ∧ bits 0x3C3C3C 16 6 ≤ bits 0x3C3C3C 8 6 ∧ bits 0x3C3C3C 8 6 ≤ 60)
      ∧ ¬ bits 0x383D00 8 6 ≤ 60 ∧ ¬ bits 0x383C39 0 6 ≤ bits 0x383C39 16 6)
    ∧ (up.flag TIME_DOM_CTL_switch = false ∧ up.flag TIME_DOM_CTL_slew_now = false ∧ up.domState 1 ≠ 3
      ∧ (put up [(TIME_DOM_STAT_state_b, 3)]).domState (1 - (put up [(TIME_DOM_STAT_state_b, 3)]).fld TIME_DOM_STAT_sel) = 3
      ∧ (put up [(TIME_DOM_STAT_held, 1)]).flag TIME_DOM_STAT_held = true ∧ up.flag TIME_DOM_STAT_held = false
      ∧ (domA 3 id).domState ((domA 3 id).fld TIME_DOM_STAT_sel) = 3 ∧ up.domState (up.fld TIME_DOM_STAT_sel) ≠ 3)
    ∧ (500 ≤ 500 % 2048 ∧ 1700 % 2048 ≤ 1700 ∧ 499 % 2048 < 500 ∧ 1700 < 1701 % 2048)
    ∧ ((gb []).fld BOOT_STAT_step = 2 ∧ mayW (gb []) PWR_DOM_OFF 4 = true ∧ (0x240000 : Word) &&& 0x240000 = 0x240000
      ∧ (0x1 : Word) &&& 0x240000 ≠ 0x1 ∧ up.fld BOOT_STAT_step ≠ 1 ∧ up.fld BOOT_STAT_step ≠ 2)
    ∧ ((bit 3 0 && bit 3 1) = true ∧ (bit 1 0 || bit 1 1) = true ∧ (bit 4 0 || bit 4 1) = false
      ∧ (put up [(PWR_SYNC_CTL_twin_en, 1)]).flag PWR_SYNC_CTL_twin_en = true ∧ up.flag PWR_SYNC_CTL_twin_en = false)
    ∧ ((let v := 0x00FF00FF
        bits v 0 8 + 1 ≤ 256 ∧ bits v 8 8 + bits v 16 9 ≤ 256
          ∧ ¬ (bits v 0 8 < bits v 8 8 + bits v 16 9 ∧ bits v 8 8 < bits v 0 8 + 1))
      ∧ up.fld FAB_DISPATCH_CTL_enable = 0 ∧ up.fld MEM_STAGE_TAIL_tail = up.fld MEM_STAGE_HEAD_head
      ∧ up.load.stage = none ∧ ¬ bits 0x01000100 8 8 + bits 0x01000100 16 9 ≤ 256
      ∧ bits 0x0001FF00 0 8 < bits 0x00010000 8 8 + bits 0x00010000 16 9)
    ∧ (tailOk 0 0 16 16 = true ∧ tailOk 0 0 16 17 = false ∧ tailOk 5 5 16 4 = false)
    ∧ (up.fld MEM_LOAD_TAIL_tail = up.fld MEM_LOAD_HEAD_head ∧ up.fld MEM_LOAD_TAIL_tail = up.fld MEM_LOAD_DONE_done
      ∧ (put up [(MEM_LOAD_TAIL_tail, 1)]).fld MEM_LOAD_TAIL_tail ≠ (put up [(MEM_LOAD_TAIL_tail, 1)]).fld MEM_LOAD_HEAD_head) := by
  decide +kernel

/-- A copy of the attestation store at index `n`; spoilt where `k` is 1. -/
def copyOf (n k : Nat) : AttCopy := { next := n, crc := crc32 (leBytes 4 n ++ leBytes 4 0) ^^^ k }
def committing : State := up.modBoot fun b => { b with commit := some 3 }

theorem test_witness_BootAndOwnerRegisterWrites :
    (∀ a ∈ [GEN_OWN_CFG, BOOT_RESET, BOOT_CTL, BOOT_ROLL, BOOT_FUSE, BOOT_ATT_CTL],
      mayW up a 4 = true ∧ mayW (gb []) a 4 = true ∧ mayW committing a 4 = true)
    ∧ (1 ≤ 1 % 64 ∧ 60 % 64 ≤ 60 ∧ 64 % 64 = 0 ∧ 60 < 61 % 64)
    ∧ (up.boot.lastReset = none ∧ up.boot.commit = none ∧ up.fld BOOT_STAT_step = 10 ∧ (gb []).fld BOOT_STAT_step ≠ 10
      ∧ committing.boot.commit.isSome = true)
    ∧ (up.flag BOOT_CTL_resume = false ∧ up.flag BOOT_CTL_go = false ∧ up.fld BOOT_STAT_step ≠ 2
      ∧ (gb []).fld BOOT_STAT_step = 2 ∧ (gb []).pwr.resetLow = false
      ∧ ((gb []).modPwr fun p => { p with resetLow := true }).pwr.resetLow = true
      ∧ (put up [(BOOT_STAT_held, 1)]).flag BOOT_STAT_held = true ∧ up.flag BOOT_STAT_held = false)
    ∧ ((0 : BitVec 7).toNat ≤ up.fuseCount ∧ up.fuseCount < (1 : BitVec 7).toNat
      ∧ (put up [(BOOT_IMG_INFO_sv, 1)]).fld BOOT_IMG_INFO_sv = 1 ∧ up.fld BOOT_IMG_INFO_sv < (1 : BitVec 7).toNat
      ∧ ¬ up.fld BOOT_STAT_step < 4 ∧ (put up [(BOOT_STAT_step, 3)]).fld BOOT_STAT_step < 4)
    ∧ ((0xD5 : BitVec 8) = 0xD5 ∧ (0xD4 : BitVec 8) ≠ 0xD5 ∧ up.fld GEN_OWN_STAT_owner ≠ 4)
    ∧ (up.boot.signing = none ∧ (up.modBoot fun b => { b with signing := some ([], 0) }).boot.signing.isSome = true
      ∧ 3 < up.fld BOOT_STAT_step ∧ (put up [(BOOT_STAT_step, 3)]).fld BOOT_STAT_step ≤ 3
      ∧ up.flag BOOT_ATT_STAT_store_bad = false
      ∧ (put up [(BOOT_ATT_STAT_store_bad, 1)]).flag BOOT_ATT_STAT_store_bad = true
      ∧ ({ up.boot with copyA := copyOf 0 1, copyB := copyOf 0 1 } : BootSt).copy = none
      ∧ ({ up.boot with copyA := copyOf 0 1, copyB := copyOf (2 ^ 20) 0 } : BootSt).copy = some (copyOf (2 ^ 20) 0)
      ∧ ({ up.boot with copyA := copyOf (2 ^ 20 - 1) 0 } : BootSt).copy = some (copyOf (2 ^ 20 - 1) 0)) := by
  decide +kernel

theorem test_witness_TwinTraceAndCartoucheWrites : mayW up FAULT_TWIN_CTL 4 = true ∧ mayW up FAULT_TRACE_RING 8 = true
    ∧ mayW up CART_CMD 4 = true ∧ up.fld TOPO_SLICE_state = 0 ∧ (∀ i < 320, up.sheetIdle i = true)
    ∧ (runs 3 (stw 0 [])).sheetIdle 0 = false
    ∧ up.within 0 (ringSize 1 65536 * 65536) = some .hbm ∧ up.within 0x005FDFFF0010 (ringSize 1 65536 * 65536) = none
    ∧ (put up [(MEM_STAT_tier, 1), (MEM_STAT_cap, 64)]).within 0x100000000000 65536 = some .ddr := by decide +kernel

def period (n : BitVec 15) : PeriodSample :=
  { chains := Vector.replicate 1280 n, temps := Vector.replicate 22 0, inlet := 0, outlet := 0, board := 0,
    power := 0, volts := 0, amps := 0 }

set_option maxRecDepth 20000 in
theorem test_witness_SlackGovernorsAndLimiter :
    (0 ≤ ((leastChain (period 9500) 0).1 : Int) - (gov 40).planSteps
      ∧ ((leastChain (period 9499) 319).1 : Int) - (gov 40).planSteps < 0)
    ∧ (((gov 40).fld (PWR_GOV_CTL_vmin 15) : Int) ≤ (gov 40).fld (PWR_GOV_CTL_vmax 15))
    ∧ (State.reset.fld TIME_SCHED_CTL_plan = 0 ∧ (put (gov 40) [(PWR_GOV_CTL_fixed 9, 1)]).flag (PWR_GOV_CTL_fixed 9) = true
      ∧ (gov 40).flag (PWR_GOV_CTL_fixed 9) = false ∧ (gov 40).fld TIME_SCHED_CTL_plan ≠ 0
      ∧ (put (gov 40) [(PWR_GOV_STAT_throttle 9, 1)]).flag (PWR_GOV_STAT_throttle 9) = true
      ∧ (gov 40).flag (PWR_GOV_STAT_throttle 9) = false)
    ∧ ((255 : Int) < sInt 16 ((gov 40).fld (PWR_GOV_TGT_target 9))
      ∧ sInt 16 ((gov 40).fld (PWR_GOV_TGT_target 9)) + (gov 40).fld (PWR_GOV_TGT_hyst 9) < 385
      ∧ sInt 16 ((gov 40).fld (PWR_GOV_TGT_target 9)) ≤ 256
      ∧ (384 : Int) ≤ sInt 16 ((gov 40).fld (PWR_GOV_TGT_target 9)) + (gov 40).fld (PWR_GOV_TGT_hyst 9))
    ∧ (bankDown.domUp 15 = false)
    ∧ ((put up [(TIME_XING_aligned 14, 1)]).flag (TIME_XING_aligned 14) = true ∧ up.flag (TIME_XING_aligned 14) = false
      ∧ up.time.xing.contains 14 = false ∧ (up.modTime fun t => { t with xing := [14] }).time.xing.contains 14 = true) := by
  decide +kernel

def opened : State := up.modPwr fun p => { p with opened := true }
def bringing (l : List Nat) : State := up.modPwr fun p => { p with bring := l }

theorem test_witness_SupplyResetPinAndPowerDomains : up.pwr.opened = false ∧ opened.pwr.opened = true
    ∧ up.flag PWR_STAT_main = true ∧ State.reset.flag PWR_STAT_main = false
    ∧ (up.alive = true ∧ up.fld BOOT_STAT_step ≠ 1 ∧ State.reset.fld BOOT_STAT_step = 1
      ∧ (up.modBoot fun b => { b with silent := true }).alive = false)
    ∧ (((gb []).modBoot fun b => { b with goWait := true }).boot.goWait = true ∧ (gb []).fld BOOT_STAT_step = 2
      ∧ (gb []).boot.goWait = false)
    ∧ (up.pwr.bring = [] ∧ (bringing [16, 19]).pwr.bring = 16 :: [19] ∧ (bringing [15]).pwr.bring = 15 :: []
      ∧ (bringing [15]).fld BOOT_STAT_step ≠ 4 ∧ (put (bringing [15]) [(BOOT_STAT_step, 4)]).fld BOOT_STAT_step = 4) := by
  decide +kernel

/-- R439: after a trip a warm reset's POWER step leaves the main switch open. -/
theorem test_tripped_stays_open :
    (let s := (put up [(PWR_STAT_main, 1)]).overcurrent
     s.pwr.tripped = true ∧ (s.warmReset.enterStep 4).flag PWR_STAT_main = false
       ∧ (s.moduleReset.enterStep 4).flag PWR_STAT_main = true) := by decide +kernel

theorem test_witness_SupplyResetPinAndPowerDomains_sound : Sound up := sound_of _ (by decide +kernel)

def stepAt (n : Nat) : State := put up [(BOOT_STAT_step, n)]
/-- An image header of one unit of 64 bytes for the module, version 0, one core that enters at 0. -/
def header : List Byte :=
  [0x4E, 0x43, 0x56, 0x46, 1, 0, 0x50, 0x0B, 0xB0, 0, 0, 0, 1, 0, 0, 0] ++ List.replicate 48 0

theorem test_witness_BootStepsGoOn : (put up [(BOOT_STAT_held, 1)]).booting = false
    ∧ (∀ n ∈ [1, 3, 4, 6, 8, 9, 10], (stepAt n).booting = true ∧ (stepAt n).fld BOOT_STAT_step = n)
    ∧ (stepAt 3).boot.xfer = none ∧ imageOk ((stepAt 3).imgRead 0 64) = false ∧ imageOk header = true
    ∧ (((stepAt 3).modBoot fun b => { b with img := smWrite zeroByte b.img 0 header }).imgRead 0 64) = header
    ∧ (leField header 9 1 < ((stepAt 3).modBoot fun b => { b with rb := 1 }).fuseCount
      ∧ (stepAt 3).fuseCount ≤ leField header 9 1)
    ∧ ((4 ≤ 4 ∧ 9 ≤ 9) ∧ ((put up [(BOOT_CTL_hold, 0x21)]).fld BOOT_CTL_hold).testBit (9 - 4) = true
      ∧ ((put up [(BOOT_CTL_hold, 0x21)]).fld BOOT_CTL_hold).testBit (5 - 4) = false ∧ ¬ 10 ≤ 9) := by decide +kernel

/-- The MEMORY step is in its part `k`. -/
def memAt (k : Nat) : State := (stepAt 7).modBoot fun b => { b with memPhase := k }
/-- No module, four in the even places, eight, or three that are no legal population. -/
def spds (n : Nat) : List (Option Spd) :=
  (List.range 8).map fun c =>
    if n = 8 ∨ (n = 4 ∧ c % 2 = 0) ∨ (n = 3 ∧ c < 3) then some { cap := 64, rate := 1 } else none
def eye (n : Fin 9) : Eye := { first := 1, taps := n, margin := 3 }

theorem test_witness_AlignAndMemoryTraining : (stepAt 5).booting = true ∧ (stepAt 7).booting = true
    ∧ (stepAt 7).fld BOOT_STAT_step ≠ 5 ∧ (stepAt 5).fld BOOT_STAT_step = 5 ∧ (stepAt 7).fld BOOT_STAT_step = 7
    ∧ (((Vector.replicate 15 (eye 1)).toList.zipIdx.foldl (fun t e => t.alignOne e.2 e.1) (stepAt 5)).flag BOOT_STAT_failed
        = true
      ∧ ((Vector.replicate 15 (eye 3)).toList.zipIdx.foldl (fun t e => t.alignOne e.2 e.1) (stepAt 5)).flag BOOT_STAT_failed
        = false)
    ∧ (((eye 1).taps : Nat) < 2 ∧ 2 ≤ ((eye 3).taps : Nat) ∧ ((eye 3).taps : Nat) % 2 = 1)
    ∧ ((memAt 1).boot.memPhase = 1 ∧ (memAt 4).boot.memPhase ≠ 1 ∧ (memAt 1).flag MEM_CFG_fallback = true
      ∧ ((List.range 3).filter fun k => decide ((memAt 1).boot.memRate ≤ k)).find?
          (fun r => (List.replicate 8 2).all fun b => decide (b ≤ r)) = some 2
      ∧ ((List.range 3).filter fun k => decide ((memAt 1).boot.memRate ≤ k)).find?
          (fun r => (List.replicate 8 3).all fun b => decide (b ≤ r)) = none
      ∧ ([(memAt 1).boot.memRate].find? fun r => (List.replicate 8 0).all fun b => decide (b ≤ r)) = some 0)
    ∧ ((memAt 2).boot.memPhase = 2 ∧ (put up [(PWR_DOM_OFF_ddr, 1)]).flag PWR_DOM_OFF_ddr = true
      ∧ up.flag PWR_DOM_OFF_ddr = false ∧ populated (spds 0) = [] ∧ populated (spds 4) ≠ [] ∧ (populated (spds 4)).length = 4
      ∧ (populated (spds 8)).length = 8 ∧ spdOk (spds 4) = true ∧ spdOk (spds 8) = true ∧ spdOk (spds 3) = false)
    ∧ ((memAt 3).boot.memPhase = 3
      ∧ (let s := (memAt 3).modLoad fun l => { l with dimms := 0xFF }
         s.dimmChans.filter (fun c => !(List.replicate 8 true).getD c false) = []
           ∧ s.dimmChans.filter (fun c => !(List.replicate 8 false).getD c false) ≠ []))
    ∧ (memAt 4).boot.memPhase = 4 := by decide +kernel

theorem test_witness_BootStepLimits : (put up [(BOOT_STAT_failed, 1)]).booting = false
    ∧ (∀ n ∈ [1, 2, 3, 4, 5, 6, 7, 8, 9, 10], (stepAt n).booting = true ∧ (stepAt n).fld BOOT_STAT_step = n)
    ∧ ((stepAt 3).modBoot fun b => { b with xfer := some 1 }).boot.xfer.isSome = true
    ∧ (∀ k ∈ [1, 2, 3], (memAt k).boot.memPhase = k) ∧ (memAt 4).boot.memPhase ∉ [1, 2, 3] ∧ (memAt 1).boot.memRate < 2
    ∧ 2 ≤ ((memAt 1).modBoot fun b => { b with memRate := 2 }).boot.memRate ∧ (memAt 1).flag MEM_CFG_fallback = true
    ∧ (put (memAt 1) [(MEM_CFG_fallback, 0)]).flag MEM_CFG_fallback = false
    ∧ ((memAt 3).modLoad fun l => { l with dimms := 0x80 }).dimmChans ≠ []
    ∧ (memAt 2).flag PWR_DOM_OFF_ddr = false ∧ (put (memAt 2) [(PWR_DOM_OFF_ddr, 1)]).flag PWR_DOM_OFF_ddr = true := by
  decide +kernel

theorem test_witness_FusesAndAttestationComplete : up.boot.commit = none ∧ committing.boot.commit = some 3
    ∧ (let t := committing.toElapsed (committing.boot.fuseAt + 128000)
       t.fuseCount = 0 ∧ ¬ 3 ≤ (t.modBoot fun b => { b with rb := b.rb ||| 2 ^ 0 }).fuseCount
       ∧ t.boot.waitReset = none ∧ t.boot.pulses < 2)
    ∧ (let t := (committing.modBoot fun b => { b with rb := 3, pulses := 2, waitReset := some 2 })
       t.fuseCount = 2 ∧ 3 ≤ (t.modBoot fun b => { b with rb := b.rb ||| 2 ^ 2 }).fuseCount ∧ 2 ≤ t.boot.pulses
       ∧ t.boot.waitReset = some 2)
    ∧ up.boot.signing = none
    ∧ (up.modBoot fun b => { b with signing := some ([1], 7) }).boot.signing = some ([1], 7) := by decide +kernel

/-! Wiora Link and the cartouche. -/

def wp (st : Nat) (f : WPortSt → WPortSt) : State :=
  (put up [(WLINK_STAT_state 1, st), (WLINK_CTL_enable 1, 1)]).modWport 1 f

theorem test_witness_WioraPortsTrain : (put up [(WLINK_CTL_enable 1, 0)]).wMay 1 = false
    ∧ (∀ st ∈ [0, 1, 2, 3], (wp st id).wMay 1 = true ∧ (wp st id).fld (WLINK_STAT_state 1) = st)
    ∧ ((false && true) = false ∧ (wp 1 id).flag (WLINK_CTL_width_max 1) = false)
    ∧ (wCommon 1 2 = 0 ∧ wCommon 3 2 ≠ 0 ∧ ((wp 3 id).wport 1).fresh = true
      ∧ ((wp 3 fun q => { q with fresh := false }).wport 1).fresh = false
      ∧ (let q := (wp 3 fun q => { q with fresh := false, next := 2, replay := [wflit0, wflit0] }).wport 1
         subMod 10 (subMod 10 (2 : BitVec 10).toNat 1) q.acked ≤ subMod 10 (subMod 10 q.next 1) q.acked
         ∧ subMod 10 (subMod 10 q.next 1) q.acked < subMod 10 (subMod 10 (3 : BitVec 10).toNat 1) q.acked
         ∧ (∀ c < 4, q.countError c 0 0 = false) ∧ q.countError 3 0 1 = true ∧ q.countError 3 1 0 = true))
    ∧ (∀ st ∈ [1, 2, 3], (wp st id).fld (WLINK_STAT_state 1) ≠ 0 ∧ (wp st id).fld (WLINK_STAT_state 1) ≠ 4)
    ∧ (((wp 3 fun q => { q with tries := 2 }).wport 1).tries < 3 ∧ 3 ≤ ((wp 3 fun q => { q with tries := 3 }).wport 1).tries
      ∧ ((wp 1 fun q => { q with retrain := true }).wport 1).retrain = true ∧ ((wp 1 id).wport 1).retrain = false)
    ∧ ((wp 4 id).wactive 1 = true ∧ (wp 3 id).wactive 1 = false ∧ ((wp 4 id).wport 1).graceAt = none
      ∧ ((wp 1 fun q => { q with graceAt := some 9 }).wport 1).graceAt = some 9) := by decide +kernel

def wf (lo : Nat) (v : Nat) (ms : List Nat) : WFlit :=
  { hdr := BitVec.ofNat 48 (1023 * 2 ^ 10 + v * 2 ^ lo), payload := wPayload ms [] }

theorem test_witness_WioraFlitsAreCheckedInOrder : (wp 3 id).wactive 1 = false ∧ (wp 4 id).wactive 1 = true
    ∧ (let q := (wp 4 id).wport 1
       (bits (wf 20 3 []).hdr.toNat 20 2 = 3 ∧ (∃ m ∈ wHeaders (wf 0 0 [1 + 15 * 2 ^ 3]), m.reserved = true)
        ∧ q.countError (bits (wf 24 1 []).hdr.toNat 22 2) (bits (wf 24 1 []).hdr.toNat 24 12) 0 = true
        ∧ q.roomError (List.replicate 257 { cls := 1, op := 3 }) = true
        ∧ subMod 10 (subMod 10 q.next 1) q.acked < subMod 10 0 q.acked)
       ∧ (let f := wf 0 0 []
          bits f.hdr.toNat 20 2 = 0 ∧ (∀ m ∈ wHeaders f, m.reserved ≠ true)
          ∧ q.countError (bits f.hdr.toNat 22 2) (bits f.hdr.toNat 24 12) (bits f.hdr.toNat 36 12) = false
          ∧ q.roomError (wHeaders f) = false
          ∧ ¬ subMod 10 (subMod 10 q.next 1) q.acked < subMod 10 (bits f.hdr.toNat 10 10) q.acked
          ∧ bits f.hdr.toNat 0 10 = q.expect ∧ bits (wf 0 1 []).hdr.toNat 0 10 ≠ q.expect ∧ ∀ x ∈ f.payload, x = 0)
       ∧ bits (wf 20 2 []).hdr.toNat 20 2 = 2 ∧ bits (wf 20 1 []).hdr.toNat 20 2 = 1)
    ∧ (((wp 4 id).wport 1).replay = [] ∧ ((wp 4 fun q => { q with replay := [wflit0], stalls := 6 }).wport 1).stalls < 7
      ∧ 7 ≤ ((wp 4 fun q => { q with replay := [wflit0], stalls := 7 }).wport 1).stalls
      ∧ ((wp 4 fun q => { q with replay := [wflit0] }).wport 1).replay ≠ []) := by decide +kernel

def wmsg (cls op line : Nat) : State := wp 4 fun q => { q with rx := [(0, { cls := cls, op := op, line := line })] }
def batch (open_ reading : Bool) (ac : Nat) : State :=
  (put up [(WLINK_BQ_CFG_enable, 1), (WLINK_BQ_STAT_open, b2n open_)]).modWiora fun w => { w with reading := reading, next := ac }

theorem test_witness_CompanionMessagesAreAnswered :
    (∀ k ∈ [(1, 3), (1, 4), (1, 5), (1, 6), (1, 1), (1, 2), (1, 7), (1, 8), (1, 9), (2, 1), (2, 2), (4, 1), (4, 2), (3, 1),
      (3, 2)], (up.wport 1).rx = [] ∧ up.popMsg 1 k.1 [k.2] = none
        ∧ ((wmsg k.1 k.2 0).wport 1).rx = [] ++ (0, { cls := k.1, op := k.2 }) :: []
        ∧ ((wmsg k.1 k.2 0).popMsg 1 k.1 [k.2]).isSome = true)
    ∧ (({ cls := 2, op := 1 } : WMsg).old = false ∧ ((wp 4 id).wport 1).paceS ≠ some (0 : Nat)
      ∧ ((wp 4 id).dirtyLine 1 0).isNone = true
      ∧ (((wp 4 fun q => { q with tx := [{ cls := 1, op := 7, len := 1, data := List.replicate 64 1 }] }).dirtyLine 1 0).map
          (·.data)) = some (List.replicate 64 1))
    ∧ (up.reqTo 1 { cls := 1, op := 3 } = .refused ∧ up.reqTo 1 { cls := 1, op := 3, line := 2 ^ 20 } = .unmapped
      ∧ up.reqTo 1 { cls := 1, op := 4 } = .control 0 4 ∧ up.reqTo 1 { cls := 1, op := 6, line := 2 ^ 20 - 1, size := 1, word := 14 } = .control 0x3FFFFF8 8
      ∧ (put up [(WLINK_DWIN_valid 1 7, 1), (WLINK_DWIN_size 1 7, 1), (WLINK_DWIN_base 1 7, 1)]).reqTo 1
          { cls := 1, op := 3, line := 2 ^ 24, len := 1 } = .device 0 64
      ∧ (up.agentRead 2 0 64 .clean .plain).2 = .done (List.replicate 64 0))
    ∧ ((batch true false 0).wiora.reading = false ∧ (batch true false 0).flag WLINK_BQ_STAT_open = true
      ∧ up.flag WLINK_BQ_CFG_enable = false ∧ (batch false false 0).ac 0 = 0 ∧ (batch false true 0).wiora.reading = true
      ∧ (batch false true 0).within 0 128 ≠ none ∧ up.within 0x006000000000 128 = none
      ∧ headerOk (List.replicate 128 0) 0 = true ∧ headerOk (List.replicate 128 0) 1 = false
      ∧ ((batch false true 0).fetch .batch 0 128 0 .clean).2 = .got (.data (List.replicate 128 0))
      ∧ inCompanion 0 = false ∧ inWindows 0 = false ∧ up.fld WLINK_BQ_HDR_base = 0
      ∧ (∀ b ∈ unitsOf 0 128, ((batch false true 0).waitRefresh 0 128).isPoison b = false)
      ∧ ((batch false true 0).waitRefresh 0 128).memRead 0 128 = List.replicate 128 0)
    ∧ ((up.wport 1).intDue = false ∧ ((wp 4 fun q => { q with intDue := true, intAt := some 5 }).wport 1).intDue = true
      ∧ ((wp 4 fun q => { q with intDue := true, intAt := some 5 }).wport 1).intAt = some 5
      ∧ ((put up [(WLINK_INT_CFG_enable 1, 1)]).toElapsed 5).flag (WLINK_INT_CFG_enable 1) = true
      ∧ (up.toElapsed 5).flag (WLINK_INT_CFG_enable 1) = false) := by decide +kernel

def cartOn (f : CartSt → CartSt) : State := up.modCart f

theorem test_witness_CartoucheMetersAndRecords :
    (up.cart.on = true ∧ (cartOn fun c => { c with on := false }).cart.on = false ∧ (39999 : BitVec 32).toNat < 40000
      ∧ 40000 ≤ (40000 : BitVec 32).toNat)
    ∧ (up.cartResult 1 0 0xFFFE false = 0 ∧ up.cartResult 1 0 0xFFFF false ≠ 0 ∧ up.cartResult 2 0 0 false ≠ 0
      ∧ (cartOn fun c => { c with slice := 7 }).cartResult 2 0 0 false = 0
      ∧ (cartOn fun c => { c with recs := [{ num := 0, body := [], st := 2 }] }).cartResult 3 1 0 false = 0
      ∧ up.cartResult 3 0 0 false ≠ 0 ∧ bits 1 0 2 = 1)
    ∧ ((cartOn fun c => { c with recs := [{ num := 0, body := [] }] }).cart.recs.find? (fun r => r.st == 1)
        = some { num := 0, body := [] } ∧ up.cart.unsigned = false)
    ∧ (up.cart.slice = 0 ∧ (cartOn fun c => { c with slice := 7, on := false }).cart.slice ≠ 0)
    ∧ (up.reaches 1 = true ∧ (up.modBoot fun b => { b with silent := true }).reaches 1 = false) := by decide +kernel

/-- R217: a flit taken after blocks were added leaves the record of them standing. -/
theorem test_taken_flits_keep_what_was_added (x : RawFlit) :
    (({ added := [0, 1] } : FlowSt).take x 5 true).added = [0, 1] := rfl

end Sys2Proof.Tests
end

section
/-! SUPPORT. The whole command set: every command and every step keeps a state sound (O2, O4). -/

namespace Sys2Proof.Machine

/-- Every command keeps a state good: the dispatch's arms in their order, each by the lemma about its meaning. -/
theorem Good.exec {q : List Instr} {s : State} (c : Instr) (h : Good q s) : NextGood q (exec c s) :=
  match c with
  | .registerWrite .. => h.execRegisterWrite
  | .registerReadClear .. => h.execRegisterReadClear
  | .timeCountRead .. => h.execTimeCountRead
  | .legendWindowWrite .. => h.execLegendWindowWrite
  | .legendRestore .. => h.execLegendRestore
  | .stepBoundary .. => h.execStepBoundary
  | .wordFetch .. => h.execWordFetch
  | .qTailWrite .. => h.execQTailWrite
  | .qRingWrite .. => h.execQRingWrite
  | .sheetSyncWrite .. => h.execSheetSyncWrite
  | .sheetRun .. => h.execSheetRun
  | .mxMatrix .. => h.execMxMatrix
  | .tileLoad .. => h.execTileLoad
  | .vxConvert .. => h.execVxConvert
  | .contourCfgWrite .. => h.execContourCfgWrite
  | .contourClear .. => h.execContourClear
  | .satClear .. => h.execSatClear
  | .vxOutlierAdd .. => h.execVxOutlierAdd
  | .vxGuardReport .. => h.execVxGuardReport
  | .vxGuardDecide .. => h.execVxGuardDecide
  | .vxContourDrain .. => h.execVxContourDrain
  | .vxMarkRead .. => h.execVxMarkRead
  | .vxLoad .. => h.execVxLoad
  | .vxStore .. => h.execVxStore
  | .vxFma .. => h.execVxFma
  | .vxAdd .. => h.execVxAdd
  | .vxMul .. => h.execVxMul
  | .vxMin .. => h.execVxMin
  | .vxMax .. => h.execVxMax
  | .vxCmpLt .. => h.execVxCmpLt
  | .vxCmpLe .. => h.execVxCmpLe
  | .vxCmpEq .. => h.execVxCmpEq
  | .vxNarrowBf16 .. => h.execVxNarrowBf16
  | .vxWidenBf16 .. => h.execVxWidenBf16
  | .vxExp2 .. => h.execVxExp2
  | .vxLog2 .. => h.execVxLog2
  | .vxRcp .. => h.execVxRcp
  | .vxRsqrt .. => h.execVxRsqrt
  | .vxTanh .. => h.execVxTanh
  | .vxErf .. => h.execVxErf
  | .mvCopy .. => h.execMvCopy
  | .mvReduce .. => h.execMvReduce
  | .mvLegendLoad .. => h.execMvLegendLoad
  | .stLoad .. => h.execStLoad
  | .stStore .. => h.execStStore
  | .stControlLoad .. => h.execStControlLoad
  | .stOverlayLoad .. => h.execStOverlayLoad
  | .ovlSelect .. => h.execOvlSelect
  | .ovlCommit .. => h.execOvlCommit
  | .sheetWindowAccess .. => h.execSheetWindowAccess
  | .sheetScrubRead .. => h.execSheetScrubRead
  | .sheetClearDone .. => h.execSheetClearDone
  | .frameBoundary .. => h.execFrameBoundary
  | .crossingLowMargin .. => h.execCrossingLowMargin
  | .planWrite .. => h.execPlanWrite
  | .governorPeriod .. => h.execGovernorPeriod
  | .govCfgWrite .. => h.execGovCfgWrite
  | .holdSymbol .. => h.execHoldSymbol
  | .slipDecision => h.execSlipDecision
  | .slipSymbol .. => h.execSlipSymbol
  | .dxEntryRead .. => h.execDxEntryRead
  | .dispatchEnable .. => h.execDispatchEnable
  | .markFrame .. => h.execMarkFrame
  | .markJump .. => h.execMarkJump
  | .markEnd .. => h.execMarkEnd
  | .entryArm .. => h.execEntryArm
  | .departureDue .. => h.execDepartureDue
  | .overflowSend .. => h.execOverflowSend
  | .lateDeparture .. => h.execLateDeparture
  | .sFlitReceive .. => h.execSFlitReceive
  | .doneSymbol .. => h.execDoneSymbol
  | .pathSelect .. => h.execPathSelect
  | .pathCommit .. => h.execPathCommit
  | .pathBulkLoad .. => h.execPathBulkLoad
  | .pathLoadDone .. => h.execPathLoadDone
  | .bundleAreaWrite .. => h.execBundleAreaWrite
  | .bundleQueueClose => h.execBundleQueueClose
  | .xPacketReceive .. => h.execXPacketReceive
  | .xRequestTimeout .. => h.execXRequestTimeout
  | .tokenExpire .. => h.execTokenExpire
  | .flitTransmit .. => h.execFlitTransmit
  | .linkFlitReceive .. => h.execLinkFlitReceive
  | .nakRepeat .. => h.execNakRepeat
  | .replayTimeout .. => h.execReplayTimeout
  | .linkDetectTimeout .. => h.execLinkDetectTimeout
  | .linkSignalDetected .. => h.execLinkSignalDetected
  | .linkEqualizeDone .. => h.execLinkEqualizeDone
  | .linkEqualizeTimeout .. => h.execLinkEqualizeTimeout
  | .linkAlignDone .. => h.execLinkAlignDone
  | .linkAlignTimeout .. => h.execLinkAlignTimeout
  | .initRecordReceive .. => h.execInitRecordReceive
  | .linkInitTimeout .. => h.execLinkInitTimeout
  | .laneLoss .. => h.execLaneLoss
  | .serLimitExceeded .. => h.execSerLimitExceeded
  | .graceExpire .. => h.execGraceExpire
  | .linkEnable .. => h.execLinkEnable
  | .linkRetrainCmd .. => h.execLinkRetrainCmd
  | .linkWidthMax .. => h.execLinkWidthMax
  | .linkHalfRate .. => h.execLinkHalfRate
  | .linkCfgWrite .. => h.execLinkCfgWrite
  | .surveyStart .. => h.execSurveyStart
  | .surveySend => h.execSurveySend
  | .surveySymbol .. => h.execSurveySymbol
  | .surveyTimeout => h.execSurveyTimeout
  | .circuitMeasure .. => h.execCircuitMeasure
  | .measureTimeout .. => h.execMeasureTimeout
  | .sliceRegWrite .. => h.execSliceRegWrite
  | .permitCommit .. => h.execPermitCommit
  | .fenceRequest .. => h.execFenceRequest
  | .fenceSymbol .. => h.execFenceSymbol
  | .lcoordWrite .. => h.execLcoordWrite
  | .refclkEdge .. => h.execRefclkEdge
  | .refclkLoss .. => h.execRefclkLoss
  | .domainAcqDone .. => h.execDomainAcqDone
  | .ppsEdge .. => h.execPpsEdge
  | .ppsTimeout .. => h.execPpsTimeout
  | .todMessage .. => h.execTodMessage
  | .domainSwitchRequest .. => h.execDomainSwitchRequest
  | .domainRevert => h.execDomainRevert
  | .holdoverLimit => h.execHoldoverLimit
  | .servoStep => h.execServoStep
  | .slewNow .. => h.execSlewNow
  | .beaconSend .. => h.execBeaconSend
  | .beaconSymbol .. => h.execBeaconSymbol
  | .tsClear .. => h.execTsClear
  | .agentMemoryAccess .. => h.execAgentMemoryAccess
  | .refreshWindow .. => h.execRefreshWindow
  | .memoryScrubRead .. => h.execMemoryScrubRead
  | .depotPartWrite .. => h.execDepotPartWrite
  | .stageTailWrite .. => h.execStageTailWrite
  | .stageCopyStart .. => h.execStageCopyStart
  | .stageCopyDone .. => h.execStageCopyDone
  | .loadTailWrite .. => h.execLoadTailWrite
  | .loadRingWrite .. => h.execLoadRingWrite
  | .loadDescriptorBegin .. => h.execLoadDescriptorBegin
  | .loadResponse .. => h.execLoadResponse
  | .loadAttemptTimeout .. => h.execLoadAttemptTimeout
  | .wioraFlitReceive .. => h.execWioraFlitReceive
  | .wioraReplayTimeout .. => h.execWioraReplayTimeout
  | .wioraStateTimeout .. => h.execWioraStateTimeout
  | .wioraTrainDone .. => h.execWioraTrainDone
  | .wioraGraceExpire .. => h.execWioraGraceExpire
  | .wioraEnable .. => h.execWioraEnable
  | .wioraRetrainCmd .. => h.execWioraRetrainCmd
  | .wioraWidthMax .. => h.execWioraWidthMax
  | .wioraHalfRate .. => h.execWioraHalfRate
  | .wioraCfgWrite .. => h.execWioraCfgWrite
  | .dwinWrite .. => h.execDwinWrite
  | .evrWrite .. => h.execEvrWrite
  | .rdncReceive .. => h.execRdncReceive
  | .rdpReceive .. => h.execRdpReceive
  | .wrncReceive .. => h.execWrncReceive
  | .wrpReceive .. => h.execWrpReceive
  | .rdsRdeFromCompanion .. => h.execRdsRdeFromCompanion
  | .snpinvReceive .. => h.execSnpinvReceive
  | .snpdataReceive .. => h.execSnpdataReceive
  | .rddataReceive .. => h.execRddataReceive
  | .cmpReceive .. => h.execCmpReceive
  | .batchOpen .. => h.execBatchOpen
  | .intGapExpire .. => h.execIntGapExpire
  | .bqCfgWrite .. => h.execBqCfgWrite
  | .entdaa .. => h.execEntdaa
  | .setdasa .. => h.execSetdasa
  | .rstdaa => h.execRstdaa
  | .getpid => h.execGetpid
  | .getbcr => h.execGetbcr
  | .getdcr => h.execGetdcr
  | .getstatus => h.execGetstatus
  | .enec => h.execEnec
  | .disec => h.execDisec
  | .rstact .. => h.execRstact
  | .mgmtCtrlRead32 .. => h.execMgmtCtrlRead32
  | .mgmtCtrlWrite32 .. => h.execMgmtCtrlWrite32
  | .mgmtCtrlRead64 .. => h.execMgmtCtrlRead64
  | .mgmtCtrlWrite64 .. => h.execMgmtCtrlWrite64
  | .mgmtMemRead .. => h.execMgmtMemRead
  | .mgmtMemWrite .. => h.execMgmtMemWrite
  | .mgmtImageWrite .. => h.execMgmtImageWrite
  | .ownClaim .. => h.execOwnClaim
  | .ownRenew .. => h.execOwnRenew
  | .ownRelease .. => h.execOwnRelease
  | .ownOffer .. => h.execOwnOffer
  | .ownAccept .. => h.execOwnAccept
  | .ownWithdraw .. => h.execOwnWithdraw
  | .leaseExpire => h.execLeaseExpire
  | .ownCfgWrite .. => h.execOwnCfgWrite
  | .powerUp => h.execPowerUp
  | .moduleReset .. => h.execModuleReset
  | .warmReset .. => h.execWarmReset
  | .computeReset .. => h.execComputeReset
  | .resetPin => h.execResetPin
  | .bootGo .. => h.execBootGo
  | .bootStepAdvance .. => h.execBootStepAdvance
  | .bootStepTimeout => h.execBootStepTimeout
  | .bootResume .. => h.execBootResume
  | .domainPgTimeout => h.execDomainPgTimeout
  | .domOffWrite .. => h.execDomOffWrite
  | .rollbackCommit .. => h.execRollbackCommit
  | .fuseBlowDone .. => h.execFuseBlowDone
  | .dbgLockBlow .. => h.execDbgLockBlow
  | .attestStart .. => h.execAttestStart
  | .attestDone => h.execAttestDone
  | .extest => h.execExtest
  | .samplePreload => h.execSamplePreload
  | .idcode => h.execIdcode
  | .clamp => h.execClamp
  | .highz => h.execHighz
  | .ijtag => h.execIjtag
  | .bypass => h.execBypass
  | .faultPacketReceive .. => h.execFaultPacketReceive
  | .mergeWindowExpire .. => h.execMergeWindowExpire
  | .twinEnable .. => h.execTwinEnable
  | .traceRingWrite .. => h.execTraceRingWrite
  | .cartOpen .. => h.execCartOpen
  | .cartClose .. => h.execCartClose
  | .cartCollect .. => h.execCartCollect
  | .cartSample .. => h.execCartSample
  | .cartSignDone => h.execCartSignDone
  | .cartSupplyLoss => h.execCartSupplyLoss
  | .cartSupplyReturn .. => h.execCartSupplyReturn
  | .tamperSwitch => h.execTamperSwitch
  | .cartReverify => h.execCartReverify
  | .cartReadTimeout .. => h.execCartReadTimeout
  | .inputUndervoltage => h.execInputUndervoltage
  | .inputOvervoltage => h.execInputOvervoltage
  | .inputRecover => h.execInputRecover
  | .overcurrentTrip => h.execOvercurrentTrip
  | .mateOpen => h.execMateOpen
  | .mateClose => h.execMateClose
  | .powerCapWrite .. => h.execPowerCapWrite
  | .syncCtlWrite .. => h.execSyncCtlWrite
  | .wioraLaneLoss _ lane => h.execWioraLaneLoss (_lane := lane)
  | .domainPowerGood => h.execDomainPowerGood
  | .testLogicReset => h.execTestLogicReset
  | .resetNRelease => h.execResetNRelease

/-- A sound state is good, its queue the one it has. -/
theorem Good.of_sound {s : State} (h : Sound s) : Good s.pending s := by
  obtain ⟨hregs, hmem, hparts, -⟩ := h
  simp only [Memory.wf, Parts.wf, Bool.and_eq_true] at hmem hparts
  obtain ⟨hbytes, hpoison⟩ := hmem
  obtain ⟨⟨⟨hports, hsheets⟩, hwports⟩, hdxs⟩ := hparts
  exact ⟨rfl, hregs, hbytes, hpoison, hports, hsheets, hwports, hdxs⟩

/-- A good state whose queue holds well-formed commands is sound. -/
theorem Good.sound {q : List Instr} {s : State} (h : Good q s) (hq : q.all Instr.wf = true) : Sound s where
  regs := h.regs
  mem := by simp [Memory.wf, h.mem, h.poison]
  parts := by simp [Parts.wf, h.ports, h.sheets, h.wports, h.dxs]
  queue := by rw [Queue.wf, h.queue, hq]

/-- The queue may be replaced: nothing else of a good state speaks of it. -/
theorem Good.setQueue {q r : List Instr} {s : State} (h : Good q s) : Good r { s with pending := r } :=
  ⟨rfl, h.regs, h.mem, h.poison, h.ports, h.sheets, h.wports, h.dxs⟩

/-- A step keeps a state good and takes the front of its queue, or lets a tick pass where nothing waits. -/
theorem Good.step {s t : State} (h : Good s.pending s) (hstep : Machine.step s = .next t) :
    Good s.pending.tail t := by
  unfold Machine.step at hstep
  split at hstep
  next hq =>
    obtain rfl : s.pass 1 = t := Host.Outcome.next.inj hstep
    exact hq ▸ h.pass
  next c q hq =>
    have hexec : NextGood q (Machine.exec c { s with pending := q }) := Good.exec c h.setQueue
    rw [hstep] at hexec
    exact hq ▸ hexec

/-- Settles O2: a sound state is good with the queue it has, a step takes that to good with the queue's tail, and the
commands of the tail are among those that were well formed. -/
theorem everyStepKeepsTheStateSound : Obligations.EveryStepKeepsTheStateSound := by
  intro s t hs hstep
  have hgood : Good s.pending.tail t := (Good.of_sound hs).step hstep
  have htail : s.pending.tail.all Instr.wf = true :=
    List.all_eq_true.2 fun c hc => List.all_eq_true.1 hs.queue c (List.mem_of_mem_tail hc)
  exact ⟨hgood.sound htail, hgood.queue⟩

/-- Settles O4: every sparse map of the reset state is empty, and so in canonical form. -/
theorem resetStateIsSound : Obligations.ResetStateIsSound :=
  ⟨⟨rfl, rfl, rfl, rfl⟩, rfl, rfl, rfl⟩

end Sys2Proof.Machine
end

section
/-! SUPPORT. Bits of numbers and fields of registers: a field read after a write (O6). -/

namespace Sys2Proof.Machine

/-! ### Bits of numbers -/

theorem testBit_bits (n lo w i : Nat) : (bits n lo w).testBit i = (decide (i < w) && n.testBit (lo + i)) := by
  simp [bits, Nat.testBit_mod_two_pow, Nat.testBit_shiftRight]

/-- `putBits` as a choice of bits: the low ones, the new ones and the high ones stand side by side. -/
theorem testBit_putBits (n lo w v i : Nat) :
    (putBits n lo w v).testBit i =
      if i < lo then n.testBit i else if i < lo + w then v.testBit (i - lo) else n.testBit i := by
  have hsplit : putBits n lo w v
      = 2 ^ lo * (2 ^ w * (n >>> (lo + w)) + v % 2 ^ w) + n % 2 ^ lo := by
    have hhigh : 2 ^ lo * (2 ^ w * (n >>> (lo + w))) = n >>> (lo + w) * (2 ^ lo * 2 ^ w) := by
      rw [← Nat.mul_assoc, Nat.mul_comm]
    rw [putBits, Nat.pow_add, Nat.mul_add, hhigh, Nat.mul_comm (2 ^ lo) (v % 2 ^ w), Nat.add_comm (_ * (_ * _)),
      Nat.add_comm _ (n % 2 ^ lo), ← Nat.add_assoc]
  rw [hsplit, Nat.testBit_two_pow_mul_add _ (Nat.mod_lt _ (Nat.two_pow_pos lo)),
    Nat.testBit_two_pow_mul_add _ (Nat.mod_lt _ (Nat.two_pow_pos w))]
  simp only [Nat.testBit_mod_two_pow, Nat.testBit_shiftRight]
  split
  · simp [*]
  · split
    · rw [if_pos (by omega), decide_eq_true (by omega), Bool.true_and]
    · rw [if_neg (by omega), show lo + w + (i - lo - w) = i by omega]

/-- The bits put into a number are read back. -/
theorem bits_putBits_same (n lo w v : Nat) : bits (putBits n lo w v) lo w = v % 2 ^ w := by
  refine Nat.eq_of_testBit_eq fun i => ?_
  rw [testBit_bits, testBit_putBits, Nat.testBit_mod_two_pow]
  by_cases hi : i < w
  · rw [if_neg (by omega), if_pos (by omega), Nat.add_sub_cancel_left]
  · rw [decide_eq_false hi, Bool.false_and, Bool.false_and]

/-- Bits put into a number leave a range that shares none with theirs. -/
theorem bits_putBits_disjoint {n lo w v lo' w' : Nat} (h : lo + w ≤ lo' ∨ lo' + w' ≤ lo) :
    bits (putBits n lo w v) lo' w' = bits n lo' w' := by
  refine Nat.eq_of_testBit_eq fun i => ?_
  rw [testBit_bits, testBit_bits, testBit_putBits]
  by_cases hi : i < w'
  · rcases h with h | h
    · rw [if_neg (by omega), if_neg (by omega)]
    · rw [if_pos (by omega)]
  · simp [hi]

/-- Bits put below bit `k` keep a number below `2 ^ k`. -/
theorem putBits_lt {n lo w v k : Nat} (hn : n < 2 ^ k) (hk : lo + w ≤ k) : putBits n lo w v < 2 ^ k := by
  refine Nat.lt_pow_two_of_testBit _ fun i hi => ?_
  rw [testBit_putBits, if_neg (by omega), if_neg (by omega)]
  exact Nat.testBit_lt_two_pow (Nat.lt_of_lt_of_le hn (Nat.pow_le_pow_right (by omega) hi))

/-! ### Fields of registers -/

theorem State.fld_word {s : State} {f : Fld} (h : f.lo + f.width ≤ 32) :
    s.fld f = bits (s.reg f.addr).toNat f.lo f.width := by
  rw [State.fld, if_pos h]

theorem State.fld_double {s : State} {f : Fld} (h : 32 < f.lo + f.width) :
    s.fld f = bits (s.reg64 f.addr) f.lo f.width := by
  rw [State.fld, if_neg (by omega)]

theorem State.setFld_word {s : State} {f : Fld} {v : Nat} (h : f.lo + f.width ≤ 32) :
    s.setFld f v = s.setReg f.addr (BitVec.ofNat 32 (putBits (s.reg f.addr).toNat f.lo f.width v)) := by
  rw [State.setFld, if_pos h]

theorem State.setFld_double {s : State} {f : Fld} {v : Nat} (h : 32 < f.lo + f.width) :
    s.setFld f v = s.setReg64 f.addr (putBits (s.reg64 f.addr) f.lo f.width v) := by
  rw [State.setFld, if_neg (by omega)]

theorem State.reg64_lt (s : State) (a : Nat) : s.reg64 a < 2 ^ 64 := by
  have hlo := (s.reg a).isLt
  have hhi := (s.reg (a + 4)).isLt
  rw [State.reg64]; omega

/-- A 64-bit register reads as written, in a state whose registers are in canonical form. -/
theorem State.reg64_setReg64_same {s : State} {a n : Nat} (h : smWf regReset s.csr = true) (hn : n < 2 ^ 64) :
    (s.setReg64 a n).reg64 a = n := by
  have hlow : (s.setReg64 a n).reg a = BitVec.ofNat 32 n :=
    (State.reg_setReg_other (by omega)).trans (State.reg_setReg_same h)
  have hhigh : (s.setReg64 a n).reg (a + 4) = BitVec.ofNat 32 (n >>> 32) :=
    State.reg_setReg_same (State.csr_setReg_wf h)
  rw [State.reg64, hlow, hhigh, BitVec.toNat_ofNat, BitVec.toNat_ofNat, Nat.shiftRight_eq_div_pow]
  omega

/-- The register of a field of one word, after the field is written. -/
theorem State.toNat_reg_setFld {s : State} {f : Fld} {v : Nat} (h : smWf regReset s.csr = true)
    (hf : f.lo + f.width ≤ 32) :
    ((s.setFld f v).reg f.addr).toNat = putBits (s.reg f.addr).toNat f.lo f.width v := by
  rw [State.setFld_word hf, State.reg_setReg_same h, BitVec.toNat_ofNat,
    Nat.mod_eq_of_lt (putBits_lt (s.reg f.addr).isLt hf)]

/-- A field holds the value written to it, in its width. -/
theorem State.fld_setFld_same {s : State} {f : Fld} {v : Nat} (h : smWf regReset s.csr = true)
    (hf : f.lo + f.width ≤ 64) : (s.setFld f v).fld f = v % 2 ^ f.width := by
  by_cases hword : f.lo + f.width ≤ 32
  · rw [State.fld_word hword, State.toNat_reg_setFld h hword, bits_putBits_same]
  · rw [State.fld_double (by omega), State.setFld_double (by omega),
      State.reg64_setReg64_same h (putBits_lt (s.reg64_lt _) hf), bits_putBits_same]

/-- A field of one word keeps its value when a field of one word that shares no bit with it is written. -/
theorem State.fld_setFld_disjoint {s : State} {f g : Fld} {v : Nat} (h : smWf regReset s.csr = true)
    (hf : f.lo + f.width ≤ 32) (hg : g.lo + g.width ≤ 32)
    (hfg : f.addr ≠ g.addr ∨ f.lo + f.width ≤ g.lo ∨ g.lo + g.width ≤ f.lo) :
    (s.setFld f v).fld g = s.fld g := by
  rw [State.fld_word hg, State.fld_word hg]
  by_cases ha : f.addr = g.addr
  · rw [← ha, State.toNat_reg_setFld h hf, bits_putBits_disjoint (hfg.resolve_left (Decidable.not_not.2 ha))]
  · rw [State.setFld_word hf, State.reg_setReg_other (Ne.symm ha)]

/-- A field of one word keeps its value when a field of other registers is written. -/
theorem State.fld_setFld_other {s : State} {f g : Fld} {v : Nat} (hg : g.lo + g.width ≤ 32)
    (ha : f.addr ≠ g.addr) (ha4 : f.addr + 4 ≠ g.addr) : (s.setFld f v).fld g = s.fld g := by
  rw [State.fld_word hg, State.fld_word hg, State.reg_setFld_other ha.symm ha4.symm]

/-- A write of a field changes the registers alone. -/
theorem State.setFld_eq_csr (s : State) (f : Fld) (v : Nat) : s.setFld f v = { s with csr := (s.setFld f v).csr } := by
  unfold State.setFld
  split <;> rfl

theorem State.setFld_sound {s : State} {f : Fld} {v : Nat} (h : Sound s) : Sound (s.setFld f v) :=
  (Good.of_sound h).setFld.sound h.queue

/-- Settles O6: `putBits` replaces exactly the bits of the field, and a register in canonical form reads as written. -/
theorem writingAFieldWritesOnlyIt : Obligations.WritingAFieldWritesOnlyIt := fun s f _ v hs hg =>
  ⟨State.fld_setFld_same hs.regs, fun hf => State.fld_setFld_disjoint hs.regs hf hg,
    fun _ => State.fld_setFld_other hg, s.setFld_eq_csr f v, State.setFld_sound hs⟩

end Sys2Proof.Machine
end

section
/-! SUPPORT. Control-space accesses as the commands make them: the map's checks, plain writes, halves and reads
(O7, O9, O10, O11). -/

namespace Sys2Proof.Machine

/-! ### Accesses as commands -/

theorem exec_registerWrite (ag : Agent) (a : BitVec 26) (n : Nat) (v : DWord) (s : State) :
    exec (.registerWrite ag a n v) s = .next (s.access ag a.toNat n v.toNat) := rfl

theorem exec_registerReadClear (ag : Agent) (a : BitVec 26) (n : Nat) (s : State) :
    exec (.registerReadClear ag a n) s = .next (s.readAccess ag a.toNat n) := rfl

theorem sizeOk_iff {a n : Nat} : sizeOk a n = true ↔ (n = 4 ∨ n = 8) ∧ a % n = 0 := by
  simp [sizeOk]

theorem sizeOk_eq_false_iff {a n : Nat} : sizeOk a n = false ↔ ¬ ((n = 4 ∨ n = 8) ∧ a % n = 0) := by
  rw [← sizeOk_iff, Bool.not_eq_true]

theorem agentNo_ne_zero (ag : Agent) : agentNo ag ≠ 0 := by cases ag <;> decide

theorem agentNo_le (ag : Agent) : agentNo ag ≤ 4 := by cases ag <;> decide

/-- The record of a bad access holds the byte address and the agent as they are. -/
theorem State.badAccess_agent (s : State) (ag : Agent) (a : BitVec 26) :
    s.badAccess (agentNo ag) a.toNat = s.raise 0x7003 0 0 (a.toNat + agentNo ag * 2 ^ 28) := by
  have hag := agentNo_le ag
  rw [State.badAccess, Nat.mod_eq_of_lt a.isLt, Nat.mod_eq_of_lt (by omega)]

/-- Settles O7: the map's checks come before every other, whoever asks. -/
theorem accessesThatFailTheMapChecks : Obligations.AccessesThatFailTheMapChecks := by
  intro s ag a n v hreach bad
  have hbad : bad = s.badAccess (agentNo ag) a.toNat := (s.badAccess_agent ag a).symm
  rw [exec_registerWrite, exec_registerReadClear, hbad]
  refine ⟨fun hsize => ?_, fun hn halign hmap => ?_⟩
  · have hs := sizeOk_eq_false_iff.2 hsize
    exact ⟨⟨2, by rw [State.access_bad hreach (.inl hs)]⟩, 2, by rw [State.readAccess_size hreach hs]⟩
  · have hs := sizeOk_iff.2 ⟨hn, halign⟩
    exact ⟨⟨2, by rw [State.access_bad hreach (.inr hmap)]⟩,
      2, by rw [State.readAccess_unmapped hreach hs hmap]⟩

/-! ### Writes of plain registers -/

/-- The registers of the obligation on plain writes: one or more of each block, none with a rule of its own. -/
def plainRegs : List Nat :=
  [PWR_THERM_CFG, PWR_DOM_FAIL, TIME_SLIP_CFG, TIME_SLIP_STAT, TIME_WP_CTL, TIME_DOM_CFG, TIME_BCN_CFG,
    LINK_PROTO 0, LINK_PERMIT_CTL 30, FAB_X_CFG, FAB_PATH_STAT, TOPO_CFG, MEM_CFG, MEM_SCRUB, MEM_LOAD_CFG,
    MEM_LOAD_STAT, WLINK_INT_CFG 1, FAULT_CFG, FAULT_STAT, FAULT_TRACE_CTL]

/-- A plain register's block hands its write on to the general rule (R7, R8). -/
theorem State.write32_plain {a : Nat} (h : a ∈ plainRegs) (s : State) (g v : Nat) :
    s.write32 g a v = s.plainWrite a v := by
  simp only [plainRegs, List.mem_cons, List.not_mem_nil, or_false] at h
  rcases h with rfl | rfl | rfl | rfl | rfl | rfl | rfl | rfl | rfl | rfl | rfl | rfl | rfl | rfl | rfl | rfl | rfl
    | rfl | rfl | rfl <;> rfl

/-- The general rule of a write of a mapped word. -/
theorem State.plainWrite_of_regLoc {s : State} {a v : Nat} {l : RegLoc} (h : regLoc a = some l) :
    s.plainWrite a v = s.setReg a (BitVec.ofNat 32 (maskWrite l.desc (s.reg a).toNat v)) := by
  rw [State.plainWrite, h]

/-- A bit of the complement of a mask in a word. -/
theorem testBit_word_sub {m i : Nat} (hi : i < 32) : (0xFFFFFFFF - m % 2 ^ 32).testBit i = !m.testBit i := by
  have hm : m % 2 ^ 32 < 2 ^ 32 := Nat.mod_lt _ (by decide)
  have hsub : 0xFFFFFFFF - m % 2 ^ 32 = 2 ^ 32 - (m % 2 ^ 32 + 1) := by omega
  rw [hsub, Nat.testBit_two_pow_sub_succ hm, Nat.testBit_mod_two_pow]
  simp [hi]

/-- The general rule of a write, bit by bit (R7): a W1C bit written 1 is cleared, an RW bit is set to the value's, every
other bit stays. -/
theorem testBit_maskWrite {d : WordDesc} {old v i : Nat} (hi : i < 32) :
    (maskWrite d old v).testBit i =
      if d.w1c.testBit i && v.testBit i then false else if d.rw.testBit i then v.testBit i else old.testBit i := by
  simp only [maskWrite, Nat.testBit_and, Nat.testBit_or, testBit_word_sub hi]
  -- what is left is the truth table of the two masks and the value
  cases d.w1c.testBit i <;> cases d.rw.testBit i <;> cases v.testBit i <;> simp

/-- Settles O9: the register's block hands the write on to the general rule, which is read bit by bit. -/
theorem registerWritesFollowTheAccessTypes : Obligations.RegisterWritesFollowTheAccessTypes := by
  intro s ag a v d hw hloc hmem
  refine ⟨BitVec.ofNat 32 (maskWrite d (s.reg a.toNat).toNat v.toNat), fun i hi => ?_, ?_⟩
  · simp only [BitVec.getLsbD_ofNat, testBit_maskWrite hi, BitVec.testBit_toNat, hi, decide_true, Bool.true_and]
  · have hown : a.toNat ≠ GEN_OWN_CMD := fun h => absurd (h ▸ hmem) (by decide)
    rw [exec_registerWrite, State.access_word hw hown, State.writeWord_one hloc, State.write32_plain hmem,
      State.plainWrite_of_regLoc hloc]

/-- Settles O10: an owner's write reaches `writeWord`, which keeps a lower half and completes the write
with an upper one. -/
theorem halvesOfWiderRegisters : Obligations.HalvesOfWiderRegisters := by
  intro s ag a v d _ hw hown
  rw [exec_registerWrite, State.access_word hw hown]
  refine ⟨fun hlow => by rw [State.writeWord_low hlow], fun hhigh => ?_⟩
  rw [State.writeWord_high hhigh]
  exact ⟨fun hok => by simp only [hok, Bool.false_eq_true, if_false], fun hno => by simp only [hno, if_true]⟩

/-! ### Reads of a word -/

/-- An agent is refused writes exactly where another owns the module, or none (R373). -/
theorem State.nonOwner_agent_eq_true_iff {s : State} {ag : Agent} :
    s.nonOwner (agentNo ag) = true ↔ s.fld GEN_OWN_STAT_owner ≠ agentNo ag := by
  simp [State.nonOwner, agentNo_ne_zero ag]

theorem State.nonOwner_agent_eq_false_iff {s : State} {ag : Agent} :
    s.nonOwner (agentNo ag) = false ↔ s.fld GEN_OWN_STAT_owner = agentNo ag := by
  rw [← Bool.not_eq_true, State.nonOwner_agent_eq_true_iff, Decidable.not_not]

section
variable {s : State} {g a : Nat} {d : WordDesc}

/-- A register word with nothing to clear for this agent is read and left alone (R7, R373). -/
theorem State.readWord_keep (h : regLoc a = some ⟨d, 0, 1⟩) (ht : a ≠ TIME_COUNT)
    (hk : d.rc = 0 ∨ s.nonOwner g = true) : s.readWord g a = (s, s.view a) := by
  rcases hk with hk | hk <;> simp [State.readWord, h, ht, hk]

/-- The RC fields of a word return to their reset value. -/
theorem State.clearRc_of_regLoc {l : RegLoc} (h : regLoc a = some l) :
    s.clearRc a = s.setReg a (BitVec.ofNat 32
      (((s.reg a).toNat &&& (0xFFFFFFFF - l.desc.rc % 2 ^ 32)) ||| (l.desc.reset &&& l.desc.rc))) := by
  rw [State.clearRc, h]

/-- The owner's read of a word with RC fields clears them (R7). -/
theorem State.readWord_clear (h : regLoc a = some ⟨d, 0, 1⟩) (ht : a ≠ TIME_COUNT) (hrc : d.rc ≠ 0)
    (ho : s.nonOwner g = false) : s.readWord g a = (s.clearRc a, s.view a) := by
  simp [State.readWord, h, ht, hrc, ho]

/-- The owner's read of the low word of a 64-bit RC register clears both words and keeps the high one (R459). -/
theorem State.readWord_low_clear (h : regLoc a = some ⟨d, 0, 2⟩) (ht : a ≠ TIME_COUNT) (hrc : d.rc ≠ 0)
    (ho : s.nonOwner g = false) : s.readWord g a =
      (((s.keepHigh g (a + 4) (BitVec.ofNat 32 (s.view (a + 4)))).clearRc a).clearRc (a + 4), s.view a) := by
  simp [State.readWord, h, ht, hrc, ho]

/-- The high word of a 64-bit RC register that is kept for the agent is returned and used up (R459). -/
theorem State.readWord_high_kept (h : regLoc a = some ⟨d, 1, 2⟩) (hrc : d.rc ≠ 0) {w : Word}
    (hw : State.latched s.latch.high g a = some w) : s.readWord g a = (s.dropHigh g a, w.toNat) := by
  simp [State.readWord, h, hrc, hw]

/-- With none kept it is the word as it stands. -/
theorem State.readWord_high_present (h : regLoc a = some ⟨d, 1, 2⟩) (hrc : d.rc ≠ 0)
    (hw : State.latched s.latch.high g a = none) : s.readWord g a = (s, s.view a) := by
  simp [State.readWord, h, hrc, hw]

end

/-- Settles O11: an access that passes the checks answers what `readWord` shows, and clears what `readWord` clears. -/
theorem registerReadsAndTheirClears : Obligations.RegisterReadsAndTheirClears := by
  intro s ag a d hreach hsize hmap hup hcount _
  have halign : a.toNat % 4 = 0 := (sizeOk_iff.1 hsize).2
  rw [exec_registerReadClear, State.readAccess_word hreach halign hmap hup]
  refine ⟨fun hloc => ⟨fun hkeep => ?_, fun hrc howner => ?_⟩, fun hloc hrc howner => ?_,
    fun hloc hrc => ⟨fun w hw => ?_, fun hw => ?_⟩⟩
  · rw [State.readWord_keep hloc hcount (hkeep.imp_right State.nonOwner_agent_eq_true_iff.2)]
  · rw [State.readWord_clear hloc hcount hrc (State.nonOwner_agent_eq_false_iff.2 howner),
      State.clearRc_of_regLoc hloc]
  · rw [State.readWord_low_clear hloc hcount hrc (State.nonOwner_agent_eq_false_iff.2 howner)]
  · rw [State.readWord_high_kept hloc hrc hw]
  · rw [State.readWord_high_present hloc hrc hw]

end Sys2Proof.Machine
end

section
/-! SUPPORT. The management bus: its commands, their packet error code and their answers (O16). -/

namespace Sys2Proof.Machine

/-! ### The management bus -/

section
variable {s : State}

/-- A management command whose code is right has its effect while the port is served (R368, R381). -/
theorem State.mgmtCmd_of_pecOk {bs : List Byte} {p : Byte} (hup : s.mgmtUp = true) (hp : s.pecOk bs p = true)
    (f : State → State) : s.mgmtCmd bs p f = f s := by
  rw [State.mgmtCmd, State.mgmt, if_pos hup, if_pos hp]

/-- One whose code is wrong has none (R368). -/
theorem State.mgmtCmd_of_not_pecOk {bs : List Byte} {p : Byte} (hup : s.mgmtUp = true) (hp : s.pecOk bs p = false)
    (f : State → State) : s.mgmtCmd bs p f = s := by
  rw [State.mgmtCmd, State.mgmt, if_pos hup, hp, if_neg Bool.false_ne_true]

/-- No code is asked for while PEC is off. -/
theorem State.pecOk_of_off (h : s.flag WLINK_MGMT_pec = false) (bs : List Byte) (p : Byte) : s.pecOk bs p = true := by
  simp [State.pecOk, h]

theorem State.mgmtAnswer_of_off (h : s.flag WLINK_MGMT_pec = false) (st : Nat) (bs : List Byte) :
    s.mgmtAnswer st bs = s.answer st bs := by
  simp [State.mgmtAnswer, h]

/-- With PEC on an answer ends with its code. -/
theorem State.mgmtAnswer_of_on (h : s.flag WLINK_MGMT_pec = true) (st : Nat) (bs : List Byte) :
    s.mgmtAnswer st bs = s.answer st
      (bs ++ [crc8 (BitVec.ofNat 8 (2 * s.mgmtAt + 1) :: BitVec.ofNat 8 st :: bs)]) := by
  simp [State.mgmtAnswer, h]

/-! ### Control space -/

/-- The record of the management agent's bad access (R10). -/
theorem State.badAccess_mgmt (a : Nat) : s.badAccess 3 a = s.raise 0x7003 0 0 (a % 2 ^ 26 + 3 * 2 ^ 28) := rfl

/-- A read of a wrong size or alignment returns all ones and records a bad access (R10). -/
theorem State.mgmtRead_size {a n : Nat} (h : sizeOk a n = false) :
    s.mgmtRead a n = (s.badAccess 3 a).mgmtAnswer 2 (List.replicate n 0xFF) := by
  simp [State.mgmtRead, State.ctrlRead, h]

/-- A read of unmapped registers returns 0 and records a bad access (R10). -/
theorem State.mgmtRead_unmapped {a n : Nat} (hz : sizeOk a n = true) (h : s.allMapped a n = false) :
    s.mgmtRead a n = (s.badAccess 3 a).mgmtAnswer 2 (List.replicate n 0) := by
  simp [State.mgmtRead, State.ctrlRead, hz, h]

/-- A write that the map refuses records a bad access (R10). -/
theorem State.mgmtWrite_bad {a n v : Nat} (h : sizeOk a n = false ∨ s.allMapped a n = false) :
    s.mgmtWrite a n v = (s.badAccess 3 a).mgmtAnswer 2 [] := by
  have hbad : (!sizeOk a n || !s.allMapped a n) = true := by rcases h with h | h <;> simp [h]
  simp [State.mgmtWrite, State.ctrlWrite, hbad]

theorem State.mgmtRead_word {a : Nat} (hz : sizeOk a 4 = true) (hm : s.allMapped a 4 = true)
    (hb : inSheetBlock a = false) :
    s.mgmtRead a 4 = (s.readWord 3 a).1.mgmtAnswer 0 (leBytes 4 (s.readWord 3 a).2) := by
  simp [State.mgmtRead, State.ctrlRead, hz, hm, hb]

theorem State.mgmtRead_double {a : Nat} (hz : sizeOk a 8 = true) (hm : s.allMapped a 8 = true)
    (hb : inSheetBlock a = false) :
    s.mgmtRead a 8 = (s.readDouble 3 a).1.mgmtAnswer 0 (leBytes 8 (s.readDouble 3 a).2) := by
  simp [State.mgmtRead, State.ctrlRead, hz, hm, hb]

/-- The write command of the management agent that the checks let through outside the sheets. -/
theorem State.mgmtWrite_owner {a n v : Nat} (hz : sizeOk a n = true) (hm : s.allMapped a n = true)
    (hb : inSheetBlock a = false) (hn : s.nonOwner 3 = false) (ho : a ≠ GEN_OWN_CMD) :
    s.mgmtWrite a n v = (if n = 8 then s.writeDouble 3 a v else s.writeWord 3 a v).mgmtAnswer 0 [] := by
  simp [State.mgmtWrite, State.ctrlWrite, hz, hm, hb, hn, ho]

/-- A 64-bit register read by an agent that does not own the module is read and left alone (R373). -/
theorem State.readDouble_nonOwner {a g : Nat} {d : WordDesc} (h : regLoc a = some ⟨d, 0, 2⟩)
    (hn : s.nonOwner g = true) : s.readDouble g a = (s, s.view a + s.view (a + 4) * 2 ^ 32) := by
  simp [State.readDouble, h, hn]

/-! ### Device memory -/

/-- A read that the device memory map refuses reads all ones (R305). -/
theorem State.mgmtMemRead_refused {a : Nat} (h : s.accessOk a 8 = false) (ecc : Ecc) :
    s.mgmtMemRead a ecc = (s.refuseAt a).mgmtAnswer 2 (List.replicate 8 0xFF) := by
  simp [State.mgmtMemRead, State.agentRead, h]

/-- A read of a memory device is done with the bytes found there. -/
theorem State.mgmtMemRead_data {a : Nat} {ecc : Ecc} {t : State} {bs : List Byte} (h : s.accessOk a 8 = true)
    (hc : inCompanion a = false) (hg : s.devGet 3 a 8 0 ecc = (t, .data bs)) :
    s.mgmtMemRead a ecc = t.mgmtAnswer 0 bs := by
  simp [State.mgmtMemRead, State.agentRead, h, hc, hg]

/-- Poison gives no bytes (R413). -/
theorem State.mgmtMemRead_poison {a dev : Nat} {ecc : Ecc} {t : State} (h : s.accessOk a 8 = true)
    (hc : inCompanion a = false) (hg : s.devGet 3 a 8 0 ecc = (t, .poison dev)) :
    s.mgmtMemRead a ecc = t.mgmtAnswer 2 [] := by
  simp [State.mgmtMemRead, State.agentRead, h, hc, hg]

/-- A write is refused where its access is (R305). -/
theorem State.writeOk_eq_false {a n : Nat} (h : s.accessOk a n = false) : s.writeOk a n = false := by
  simp [State.writeOk, h]

theorem State.mgmtMemWrite_refused {a n : Nat} {bs : List Byte} (hlen : bs.length = n) (h : s.writeOk a n = false) :
    s.mgmtMemWrite a bs = (s.refuseAt a).mgmtAnswer 2 [] := by
  simp [State.mgmtMemWrite, State.agentWrite, hlen, h, AccRes.status]

theorem State.mgmtMemWrite_nonOwner {a n : Nat} {bs : List Byte} (hlen : bs.length = n) (h : s.writeOk a n = true)
    (hn : s.nonOwner 3 = true) : s.mgmtMemWrite a bs = (s.ownRefuse 3).mgmtAnswer 1 [] := by
  simp [State.mgmtMemWrite, State.agentWrite, hlen, h, hn, AccRes.status]

/-- The owner's write outside the companion windows that leaves no poisoned unit standing in part is done. -/
theorem State.mgmtMemWrite_owner {a n : Nat} {bs : List Byte} (hlen : bs.length = n) (h : s.writeOk a n = true)
    (hn : s.nonOwner 3 = false) (hc : inCompanion a = false) (hp : s.partPoison a n = none) :
    s.mgmtMemWrite a bs = (s.devPut 3 a 0 bs).mgmtAnswer 0 [] := by
  simp [State.mgmtMemWrite, State.agentWrite, hlen, h, hn, hc, hp, AccRes.status]

@[simp] theorem length_leBytes (k n : Nat) : (leBytes k n).length = k := by
  induction k generalizing n with
  | zero => rfl
  | succ k ih => simp [leBytes, ih]

/-! ### The image and bytes that no rule names -/

theorem State.mgmtImage_refused {o : Nat} {bs : List Byte}
    (h : s.fld BOOT_STAT_step ≠ 2 ∨ bs.length = 0 ∨ 256 < bs.length ∨ imgSize < o + bs.length) :
    s.mgmtImage o bs = s.mgmtAnswer 2 [] := by
  simp only [State.mgmtImage, if_pos h]

theorem State.mgmtImage_nonOwner {o : Nat} {bs : List Byte}
    (h : ¬ (s.fld BOOT_STAT_step ≠ 2 ∨ bs.length = 0 ∨ 256 < bs.length ∨ imgSize < o + bs.length))
    (hn : s.nonOwner 3 = true) : s.mgmtImage o bs = (s.ownRefuse 3).mgmtAnswer 1 [] := by
  simp only [State.mgmtImage, if_neg h, hn, if_true]

theorem State.mgmtImage_owner {o : Nat} {bs : List Byte}
    (h : ¬ (s.fld BOOT_STAT_step ≠ 2 ∨ bs.length = 0 ∨ 256 < bs.length ∨ imgSize < o + bs.length))
    (hn : s.nonOwner 3 = false) : s.mgmtImage o bs = (s.imgWrite o bs).mgmtAnswer 0 [] := by
  simp only [State.mgmtImage, if_neg h, hn, Bool.false_eq_true, if_false]

/-- A command byte that no rule names is answered with status 2 (R369). -/
theorem State.mgmtOther_unnamed {c o : Nat} {bs : List Byte} (h : c = 0 ∨ 6 < c ∧ c ≠ 0x10) :
    s.mgmtOther c o bs = s.mgmtAnswer 2 [] := by
  rw [State.mgmtOther, if_neg (by omega), if_neg (by omega)]

/-! ### The commands whose code is right -/

variable {a : BitVec 32} {b : BitVec 48} {p : Byte} (hup : s.mgmtUp = true)
include hup

theorem exec_mgmtCtrlRead32 (hp : s.pecOk (mgmtBytes 1 4 a.toNat []) p = true) :
    exec (.mgmtCtrlRead32 ⟨a, p⟩) s = .next (s.mgmtRead a.toNat 4) :=
  congrArg _ (State.mgmtCmd_of_pecOk hup hp _)

theorem exec_mgmtCtrlWrite32 {d : Word} (hp : s.pecOk (mgmtBytes 2 4 a.toNat (leBytes 4 d.toNat)) p = true) :
    exec (.mgmtCtrlWrite32 a ⟨d, p⟩) s = .next (s.mgmtWrite a.toNat 4 d.toNat) :=
  congrArg _ (State.mgmtCmd_of_pecOk hup hp _)

theorem exec_mgmtCtrlRead64 (hp : s.pecOk (mgmtBytes 3 4 a.toNat []) p = true) :
    exec (.mgmtCtrlRead64 ⟨a, p⟩) s = .next (s.mgmtRead a.toNat 8) :=
  congrArg _ (State.mgmtCmd_of_pecOk hup hp _)

theorem exec_mgmtCtrlWrite64 {d : DWord} (hp : s.pecOk (mgmtBytes 4 4 a.toNat (leBytes 8 d.toNat)) p = true) :
    exec (.mgmtCtrlWrite64 a ⟨d, p⟩) s = .next (s.mgmtWrite a.toNat 8 d.toNat) :=
  congrArg _ (State.mgmtCmd_of_pecOk hup hp _)

theorem exec_mgmtMemRead {ecc : Ecc} (hp : s.pecOk (mgmtBytes 5 6 b.toNat []) p = true) :
    exec (.mgmtMemRead ⟨b, p⟩ ecc) s = .next (s.mgmtMemRead b.toNat ecc) :=
  congrArg _ (State.mgmtCmd_of_pecOk hup hp _)

theorem exec_mgmtMemWrite {d : DWord} (hp : s.pecOk (mgmtBytes 6 6 b.toNat (leBytes 8 d.toNat)) p = true) :
    exec (.mgmtMemWrite b ⟨d, p⟩) s = .next (s.mgmtMemWrite b.toNat (leBytes 8 d.toNat)) :=
  congrArg _ (State.mgmtCmd_of_pecOk hup hp _)

theorem exec_mgmtImageWrite {c : Byte} {bs : List Byte} (hp : s.pecOk (mgmtBytes c.toNat 4 a.toNat bs) p = true) :
    exec (.mgmtImageWrite ⟨c, a⟩ ⟨bs, p⟩) s = .next (s.mgmtOther c.toNat a.toNat bs) :=
  congrArg _ (State.mgmtCmd_of_pecOk hup hp _)

/-- Command 0x10 carries image data (R385). -/
theorem exec_mgmtImageWrite_image {bs : List Byte} (hp : s.pecOk (mgmtBytes 0x10 4 a.toNat bs) p = true) :
    exec (.mgmtImageWrite ⟨0x10, a⟩ ⟨bs, p⟩) s = .next (s.mgmtImage a.toNat bs) :=
  exec_mgmtImageWrite hup (c := 0x10) hp

theorem exec_mgmtImageWrite_badPec {c : Byte} {bs : List Byte}
    (hp : s.pecOk (mgmtBytes c.toNat 4 a.toNat bs) p = false) :
    exec (.mgmtImageWrite ⟨c, a⟩ ⟨bs, p⟩) s = .next s :=
  congrArg _ (State.mgmtCmd_of_not_pecOk hup hp _)

end

/-- Settles O16: a command whose code is right is the access it names, by agent 3, and each access is taken through the
checks that its clause names. -/
theorem managementAccessesAnswerWithStatus : Obligations.ManagementAccessesAnswerWithStatus := by
  intro s hup ok
  refine ⟨fun a p => ⟨fun hsize d => ?_, fun hsize hmap d => ?_, fun hsize hmap hsheet hcount w hloc => ?_,
    fun hsize hmap hsheet _ w hloc => ?_⟩, fun a d ecc p => ⟨fun hp => ?_, fun hp => ?_⟩, fun o bs p hp => ?_,
    fun c o bs p => ⟨fun hc hp => ?_, fun hp => ?_, fun hoff => ?_, fun hon st => ?_⟩⟩
  · exact ⟨fun hp => by rw [exec_mgmtCtrlRead32 hup hp, State.mgmtRead_size hsize, State.badAccess_mgmt],
      fun hp => by rw [exec_mgmtCtrlWrite32 hup hp, State.mgmtWrite_bad (.inl hsize), State.badAccess_mgmt]⟩
  · exact ⟨fun hp => by rw [exec_mgmtCtrlRead64 hup hp, State.mgmtRead_unmapped hsize hmap, State.badAccess_mgmt],
      fun hp => by rw [exec_mgmtCtrlWrite64 hup hp, State.mgmtWrite_bad (.inr hmap), State.badAccess_mgmt]⟩
  · refine ⟨fun hkeep hp => ?_, fun hn ho d hp => ?_⟩
    · rw [exec_mgmtCtrlRead32 hup hp, State.mgmtRead_word hsize hmap hsheet, State.readWord_keep hloc hcount hkeep]
    · rw [exec_mgmtCtrlWrite32 hup hp, State.mgmtWrite_owner hsize hmap hsheet hn ho, if_neg (by decide),
        State.writeWord_one hloc]
  · refine ⟨fun hn hp => ?_, fun hn ho d hfree hp => ?_⟩
    · rw [exec_mgmtCtrlRead64 hup hp, State.mgmtRead_double hsize hmap hsheet, State.readDouble_nonOwner hloc hn]
    · rw [exec_mgmtCtrlWrite64 hup hp, State.mgmtWrite_owner hsize hmap hsheet hn ho, if_pos rfl,
        State.writeDouble_two hloc, if_neg (by simp [hfree])]
  · rw [exec_mgmtMemRead hup hp]
    exact ⟨fun ha => by rw [State.mgmtMemRead_refused ha], fun ha hc t =>
      ⟨fun bs hg => by rw [State.mgmtMemRead_data ha hc hg],
        fun dev hg => by rw [State.mgmtMemRead_poison ha hc hg]⟩⟩
  · have hlen : (leBytes 8 d.toNat).length = 8 := length_leBytes 8 _
    rw [exec_mgmtMemWrite hup hp]
    exact ⟨fun ha => by rw [State.mgmtMemWrite_refused hlen (State.writeOk_eq_false ha)],
      fun hw hn => by rw [State.mgmtMemWrite_nonOwner hlen hw hn],
      fun hw hn hc hpoison => by rw [State.mgmtMemWrite_owner hlen hw hn hc hpoison]⟩
  · rw [exec_mgmtImageWrite_image hup hp]
    exact ⟨fun hbad => by rw [State.mgmtImage_refused hbad],
      fun hbad hn => by rw [State.mgmtImage_nonOwner hbad hn],
      fun hbad hn => by rw [State.mgmtImage_owner hbad hn, State.imgWrite]⟩
  · rw [exec_mgmtImageWrite hup hp, State.mgmtOther_unnamed hc]
  · exact exec_mgmtImageWrite_badPec hup hp
  · exact ⟨State.pecOk_of_off hoff bs p, fun st => State.mgmtAnswer_of_off hoff st bs⟩
  · exact ⟨_, State.mgmtAnswer_of_on hon st bs⟩

end Sys2Proof.Machine
end

section
/-! SUPPORT. Where the registers of replicated blocks stand in the map, and what the registers hold at reset (O5). -/

namespace Sys2Proof.Machine

/-! ### The index of a block -/

/-- Sheets below 160 stand in the first SHEET block, the others in the second (R457). -/
theorem sheetBase_cases (i : Nat) : i < 160 ∧ sheetBase i = 0x1000000 + 0x10000 * i
    ∨ 160 ≤ i ∧ sheetBase i = 0x2000000 + 0x10000 * (i - 160) := by
  unfold sheetBase
  split <;> omega

section
variable {i o : Nat}

theorem sheetBase_add_mod (ho : o < 0x10000) : (sheetBase i + o) % 0x10000 = o := by
  rcases sheetBase_cases i with ⟨-, h⟩ | ⟨-, h⟩ <;> omega

variable (hi : i < 320) (ho : o < 0x10000)
include hi ho

theorem blockRows_sheet : blockRows (sheetBase i + o) = (rowsSHEET, o) := by
  have hmod := sheetBase_add_mod (i := i) ho
  rcases sheetBase_cases i with ⟨hlt, h⟩ | ⟨hle, h⟩
  · rw [blockRows, hmod]
    iterate 8 rw [if_neg (by omega)]
    rw [if_pos (by omega)]
  · rw [blockRows, hmod]
    iterate 10 rw [if_neg (by omega)]
    rw [if_pos (by omega)]

theorem inSheetBlock_sheet : inSheetBlock (sheetBase i + o) = true := by
  simp only [inSheetBlock, Bool.or_eq_true, Bool.and_eq_true, decide_eq_true_eq]
  rcases sheetBase_cases i with ⟨hlt, h⟩ | ⟨hle, h⟩ <;> omega

theorem sheetOf_sheet : sheetOf (sheetBase i + o) = i := by
  rcases sheetBase_cases i with ⟨hlt, h⟩ | ⟨hle, h⟩
  · rw [sheetOf, if_pos (by omega)]; omega
  · rw [sheetOf, if_neg (by omega)]; omega

/-- A register of a sheet is the one of the block's index at its offset (R456, R457). -/
theorem regLoc_sheet : regLoc (sheetBase i + o) = rowsSHEET.findSome? (rowWord · o) := by
  have hlink : ¬ (0x400000 ≤ sheetBase i + o ∧ sheetBase i + o < 0x5F0000 ∧ 0x5100 ≤ o) := by
    rcases sheetBase_cases i with ⟨-, h⟩ | ⟨-, h⟩ <;> omega
  simp only [regLoc, blockRows_sheet hi ho, if_neg hlink]

end

/-- The 31 fabric ports stand side by side in block LINK (R457); the permit region's reserved range lies above. -/
theorem regLoc_link {p o : Nat} (hp : p < 31) (ho : o < 0x5100) :
    regLoc (0x400000 + o + p * 0x10000) = rowsLINK.findSome? (rowWord · o) := by
  have hmod : (0x400000 + o + p * 0x10000) % 0x10000 = o := by omega
  have hrows : blockRows (0x400000 + o + p * 0x10000) = (rowsLINK, o) := by
    rw [blockRows, hmod]
    iterate 4 rw [if_neg (by omega)]
    rw [if_pos (by omega)]
  have hpermit : ¬ 0x5100 ≤ o := by omega
  simp only [regLoc, hrows, hpermit, and_false, if_false]

theorem inSheetBlock_link {p o : Nat} (hp : p < 31) (ho : o < 0x10000) :
    inSheetBlock (0x400000 + o + p * 0x10000) = false := by
  simp only [inSheetBlock, Bool.or_eq_false_iff, Bool.and_eq_false_iff, decide_eq_false_iff_not]
  omega

/-! ### Values at reset -/

/-- At reset a register reads the value of the map (R7). -/
theorem State.reg_reset (a : Nat) : State.reset.reg a = regReset a := rfl

/-- The reset value that a block's index gives the register at an offset. -/
def rowsReset (rows : List RegRow) (o : Nat) : Word :=
  ((rows.findSome? (rowWord · o)).map fun l => BitVec.ofNat 32 l.desc.reset).getD 0

/-- The registers of a fabric port, below its permit table's end, but for LINK_TS_CTL. -/
theorem regReset_link {p o : Nat} (hp : p < 31) (ho : o < 0x5100) (hts : o ≠ 0x100) :
    regReset (0x400000 + o + p * 0x10000) = rowsReset rowsLINK o := by
  have hmod : (0x400000 + o + p * 0x10000) % 0x10000 = o := by omega
  have hsheet := inSheetBlock_link hp (show o < 0x10000 by omega)
  cases hrow : rowsLINK.findSome? (rowWord · o) <;>
    simp [regReset, rowsReset, regLoc_link hp ho, hrow, hmod, hsheet, hts]

/-- LINK_TS_CTL is enabled at reset on the ports that may be global (R303). -/
theorem regReset_linkTsCtl {p : Nat} (hp : p < 31) :
    regReset (0x400100 + p * 0x10000) = if 15 ≤ p then 1 else 0 := by
  have hmod : (0x400100 + p * 0x10000) % 0x10000 = 0x100 := by omega
  have hsheet : inSheetBlock (0x400100 + p * 0x10000) = false := inSheetBlock_link (o := 0x100) hp (by decide)
  have hloc : regLoc (0x400100 + p * 0x10000) = some ⟨⟨0x1, 0x0, 0x2, 0x0, 0x0⟩, 0, 1⟩ :=
    regLoc_link (o := 0x100) hp (by decide)
  have hglobal : 0x400000 + 0x10000 * 15 ≤ 0x400100 + p * 0x10000 ↔ 15 ≤ p := by omega
  have hblock : 0x400100 + p * 0x10000 < 0x5F0000 := by omega
  simp only [regReset, hmod, hsheet, hloc, hglobal, hblock]
  simp

/-- The registers of a sheet but for its legend store and its rings. -/
theorem regReset_sheet {i o : Nat} (hi : i < 320) (ho : o < 0x10000) (hlegend : o < 0x8000 ∨ 0x8800 ≤ o)
    (hring : o ∉ [0x100, 0x120, 0x140, 0x160]) : regReset (sheetBase i + o) = rowsReset rowsSHEET o := by
  have hmod := sheetBase_add_mod (i := i) ho
  have hsheet := inSheetBlock_sheet hi ho
  have hlink : ¬ sheetBase i + o < 0x5F0000 := by rcases sheetBase_cases i with ⟨-, h⟩ | ⟨-, h⟩ <;> omega
  simp only [List.mem_cons, List.not_mem_nil, or_false, not_or] at hring
  obtain ⟨h0, h1, h2, h3⟩ := hring
  cases hrow : rowsSHEET.findSome? (rowWord · o) <;>
    simp [regReset, rowsReset, regLoc_sheet hi ho, hrow, hmod, hsheet, hlink, h0, h1, h2, h3]
  all_goals omega

/-- The ring of engine `e` begins at word 512 e of the control store, with 512 words (R166). -/
theorem regReset_sheetRing {i e : Nat} (hi : i < 320) (he : e < 4) :
    regReset (SHEET_Q_RING i e) = BitVec.ofNat 32 (0x200000 + 0x200 * e) := by
  have ho : 0x100 + 32 * e < 0x10000 := by omega
  have hdiv : (0x100 + 32 * e - 0x100) / 0x20 = e := by omega
  rw [SHEET_Q_RING, Nat.add_assoc]
  simp only [regReset, sheetBase_add_mod ho, inSheetBlock_sheet hi ho, hdiv, Bool.true_and, Bool.and_eq_true,
    Bool.or_eq_true, decide_eq_true_eq, beq_iff_eq]
  rw [if_neg (by omega), if_pos (by omega)]

/-- Settles O5: the replicated registers read what their block's index gives at their offset, whatever the copy. -/
theorem resetValuesOfTheRegisters : Obligations.ResetValuesOfTheRegisters := by
  simp only [Obligations.ResetValuesOfTheRegisters, State.reg_reset]
  refine ⟨fun p hp => ⟨?_, ?_, ?_, ?_, ?_, ?_, regReset_linkTsCtl hp⟩, by decide, by decide, ?_,
    fun i hi e he => regReset_sheetRing hi he, fun i hi => ?_⟩
  · exact regReset_link (o := 0x0) hp (by decide) (by decide)
  · exact regReset_link (o := 0x4) hp (by decide) (by decide)
  · exact regReset_link (o := 0x20) hp (by decide) (by decide)
  · exact regReset_link (o := 0x24) hp (by decide) (by decide)
  · exact regReset_link (o := 0x28) hp (by decide) (by decide)
  · exact regReset_link (o := 0x1000) hp (by decide) (by decide)
  · decide
  · exact regReset_sheet (o := 0x3c) hi (by decide) (by decide) (by decide)

end Sys2Proof.Machine
end

section
/-! SUPPORT. Writes of a sheet's registers: which operation each register's write is, and what it does (O24). -/

namespace Sys2Proof.Machine

/-! ### The operation of a write -/

/-- A register outside the SHEET blocks is none of a sheet's. -/
theorem sheet_ne {i o a : Nat} (hi : i < 320) (ho : o < 0x10000) (ha : inSheetBlock a = false) :
    sheetBase i + o ≠ a := fun h => by
  have hsheet := inSheetBlock_sheet hi ho
  rw [h, ha] at hsheet
  exact absurd hsheet (by decide)

theorem sheetBase_ge (i : Nat) : 0x1000000 ≤ sheetBase i := by
  rcases sheetBase_cases i with ⟨-, h⟩ | ⟨-, h⟩ <;> omega

/-- Outside twin mode a write of a sheet's register is that sheet's alone (R414). -/
theorem State.write32_sheet {s : State} {g i o v : Nat} (hi : i < 320) (ho : o < 0x10000) (htwin : s.twinOn = false) :
    s.write32 g (sheetBase i + o) v = s.sheetOne i (sheetBase i + o) v := by
  have hbase := sheetBase_ge i
  rw [State.write32]
  iterate 6 rw [if_neg (by omega)]
  rw [if_pos (inSheetBlock_sheet hi ho), sheetOf_sheet hi ho, State.sheetWrite, htwin]
  exact if_pos rfl

/-- The register at each offset and the operation that a write of it is (R46, R81, R137, R162, R163). -/
theorem State.sheetOne_at (s : State) (i o v : Nat) :
    s.sheetOne i (sheetBase i + o) v =
      if 0x8000 ≤ o ∧ o < 0x8800 then s.legendWrite i ((o - 0x8000) / 4) v
      else if o = 0x8800 then s.legendCtl i v
      else if o = 0x8830 then s.safeCtl i (BitVec.ofNat 32 v)
      else if (0x8860 ≤ o ∧ o < 0x8870) ∨ (0x200 ≤ o ∧ o < 0x300) then
        s.holdWrite i (sheetBase i + o) (BitVec.ofNat 32 v)
      else if 0x100 ≤ o ∧ o < 0x180 ∧ o % 32 = 0 then s.ringWrite i ((o - 0x100) / 32) v
      else if 0x100 ≤ o ∧ o < 0x180 ∧ o % 32 = 4 then s.tailWrite i ((o - 0x100) / 32) v
      else s.plainWrite (sheetBase i + o) v := by
  have hctl : sheetBase i + o = SHEET_LEGEND_CTL i ↔ o = 0x8800 := Nat.add_left_cancel_iff
  have hsafe : sheetBase i + o = SHEET_SAFE_CTL i ↔ o = 0x8830 := Nat.add_left_cancel_iff
  have hsub : sheetBase i + o - sheetBase i = o := Nat.add_sub_cancel_left ..
  rw [State.sheetOne, hsub]
  simp only [hctl, hsafe]

/-- The registers whose writes wait for the next step boundary (R137). -/
theorem State.sheetOne_hold {s : State} {i o v : Nat} (ho : 0x8860 ≤ o ∧ o < 0x8870 ∨ 0x200 ≤ o ∧ o < 0x300) :
    s.sheetOne i (sheetBase i + o) v = s.holdWrite i (sheetBase i + o) (BitVec.ofNat 32 v) := by
  rw [State.sheetOne_at]
  iterate 3 rw [if_neg (by omega)]
  rw [if_pos ho]

/-- The registers of one word that stand side by side. -/
theorem rowWord_of_lt {off n k : Nat} {w : WordDesc} (hk : k < n) :
    rowWord ⟨off, n, 4, [w]⟩ (off + 4 * k) = some ⟨w, 0, 1⟩ := by
  simp [rowWord, hk]

/-- No check of its own refuses a 64-bit value to a sheet's register. -/
theorem State.refuses64_sheet (s : State) {i o v : Nat} (hi : i < 320) (ho : o < 0x10000) :
    s.refuses64 (sheetBase i + o) v = false := by
  have hne : ∀ a, inSheetBlock a = false → sheetBase i + o ≠ a := fun _ => sheet_ne hi ho
  rw [State.refuses64, if_neg (hne _ rfl), if_neg (hne _ rfl), if_neg (hne _ rfl)]

/-- A 64-bit value is written to a sheet's register as two words, the lower first. -/
theorem State.write64_sheet (s : State) {g i o v : Nat} (hi : i < 320) (ho : o < 0x10000) :
    s.write64 g (sheetBase i + o) v
      = (s.write32 g (sheetBase i + o) (v % 2 ^ 32)).write32 g (sheetBase i + o + 4) (v / 2 ^ 32 % 2 ^ 32) := by
  have hne : ∀ a, inSheetBlock a = false → sheetBase i + o ≠ a := fun _ => sheet_ne hi ho
  rw [State.write64, if_neg (hne _ rfl), if_neg (hne _ rfl), if_neg (hne _ rfl),
    if_neg (not_or.2 ⟨hne _ rfl, hne _ rfl⟩), if_neg (not_or.2 ⟨hne _ rfl, hne _ rfl⟩), if_neg (hne _ rfl)]

theorem ofNat_mod_word (v : Nat) : BitVec.ofNat 32 (v % 2 ^ 32) = BitVec.ofNat 32 v :=
  BitVec.eq_of_toNat_eq (by simp)

section
variable {s : State} {ag : Agent} {i o a v : Nat} {d : WordDesc} (hi : i < 320) (htwin : s.twinOn = false)
  (ha : a = sheetBase i + o)
include hi htwin ha

/-- A 32-bit write that the module takes of a sheet's register of one word. -/
theorem State.access_sheetWord (ho : o < 0x10000) (hloc : rowsSHEET.findSome? (rowWord · o) = some ⟨d, 0, 1⟩)
    (hw : Writable s ag a 4) : s.access ag a 4 v = (s.sheetOne i a v).answer 0 [] := by
  subst ha
  rw [State.access_word hw (sheet_ne hi ho rfl), State.writeWord_one ((regLoc_sheet hi ho).trans hloc),
    State.write32_sheet hi ho htwin]

/-- A 64-bit write that the module takes of a sheet's held register of two words: both wait, the lower first (R137). -/
theorem State.access_sheetDouble (ho : 0x200 ≤ o ∧ o + 4 < 0x300)
    (hloc : rowsSHEET.findSome? (rowWord · o) = some ⟨d, 0, 2⟩) (hw : Writable s ag a 8) :
    s.access ag a 8 v = (((s.holdWrite i a (BitVec.ofNat 32 v)).holdWrite i (a + 4)
      (BitVec.ofNat 32 (v / 2 ^ 32))).dropLow [a]).answer 0 [] := by
  subst ha
  have hlt : o < 0x10000 := by omega
  have htwin' : (s.holdWrite i (sheetBase i + o) (BitVec.ofNat 32 v)).twinOn = false := htwin
  rw [State.access_double hw (sheet_ne hi hlt rfl), State.writeDouble_two ((regLoc_sheet hi hlt).trans hloc),
    s.refuses64_sheet hi hlt, if_neg (by decide), s.write64_sheet hi hlt, State.write32_sheet hi hlt htwin,
    State.sheetOne_hold (.inr ⟨ho.1, by omega⟩), ofNat_mod_word, Nat.add_assoc,
    State.write32_sheet hi (by omega) htwin', State.sheetOne_hold (.inr ⟨by omega, ho.2⟩), ofNat_mod_word]

/-- A 32-bit write of a register that waits for the next step boundary (R137). -/
theorem State.access_hold (ho : 0x8860 ≤ o ∧ o < 0x8870 ∨ 0x200 ≤ o ∧ o < 0x300)
    (hloc : rowsSHEET.findSome? (rowWord · o) = some ⟨d, 0, 1⟩) (hw : Writable s ag a 4) :
    s.access ag a 4 v = (s.holdWrite i a (BitVec.ofNat 32 v)).answer 0 [] := by
  rw [State.access_sheetWord hi htwin ha (by omega) hloc hw, ha, State.sheetOne_hold ho]

end

/-! ### The registers of the commands -/

section
variable {s : State} {ag : Agent} {i v : Nat} (hi : i < 320) (htwin : s.twinOn = false)
include hi htwin

theorem State.access_legend {k : Nat} (hk : k < 512) (hw : Writable s ag (SHEET_LEGEND i k) 4) :
    s.access ag (SHEET_LEGEND i k) 4 v = (s.legendWrite i k v).answer 0 [] := by
  have hloc : rowsSHEET.findSome? (rowWord · (0x8000 + 4 * k)) = some ⟨⟨0xffffffff, 0, 0, 0, 0⟩, 0, 1⟩ := by
    simp only [rowsSHEET, List.findSome?_cons, rowWord_of_lt hk]
  have hindex : (0x8000 + 4 * k - 0x8000) / 4 = k := by omega
  have ha : SHEET_LEGEND i k = sheetBase i + (0x8000 + 4 * k) := Nat.add_assoc ..
  rw [State.access_sheetWord hi htwin ha (by omega) hloc hw, ha, State.sheetOne_at, if_pos (by omega), hindex]

theorem State.access_legendCtl (hw : Writable s ag (SHEET_LEGEND_CTL i) 4) :
    s.access ag (SHEET_LEGEND_CTL i) 4 v = (s.legendCtl i v).answer 0 [] := by
  have ha : SHEET_LEGEND_CTL i = sheetBase i + 0x8800 := rfl
  rw [State.access_sheetWord hi htwin ha (by decide) rfl hw, ha, State.sheetOne_at, if_neg (by decide),
    if_pos rfl]

theorem State.access_safeCtl (hw : Writable s ag (SHEET_SAFE_CTL i) 4) :
    s.access ag (SHEET_SAFE_CTL i) 4 v = (s.safeCtl i (BitVec.ofNat 32 v)).answer 0 [] := by
  have ha : SHEET_SAFE_CTL i = sheetBase i + 0x8830 := rfl
  rw [State.access_sheetWord hi htwin ha (by decide) rfl hw, ha, State.sheetOne_at, if_neg (by decide),
    if_neg (by decide), if_pos rfl]

theorem State.access_sheetCtl (hw : Writable s ag (SHEET_CTL i) 4) :
    s.access ag (SHEET_CTL i) 4 v = (s.plainWrite (SHEET_CTL i) v).answer 0 [] := by
  have ha : SHEET_CTL i = sheetBase i + 0x4 := rfl
  rw [State.access_sheetWord hi htwin ha (by decide) rfl hw, SHEET_CTL, State.sheetOne_at]
  iterate 6 rw [if_neg (by decide)]

theorem State.access_ring {e : Nat} (he : e < 4) (hw : Writable s ag (SHEET_Q_RING i e) 4) :
    s.access ag (SHEET_Q_RING i e) 4 v = (s.ringWrite i e v).answer 0 [] := by
  have hloc : ∀ n < 4, rowsSHEET.findSome? (rowWord · (0x100 + 32 * n)) =
      some ⟨⟨0xfff7ff, 0, 0, 0, 0x200000⟩, 0, 1⟩ := by decide
  have hindex : (0x100 + 32 * e - 0x100) / 32 = e := by omega
  have ha : SHEET_Q_RING i e = sheetBase i + (0x100 + 32 * e) := Nat.add_assoc ..
  rw [State.access_sheetWord hi htwin ha (by omega) (hloc e he) hw, ha, State.sheetOne_at]
  iterate 4 rw [if_neg (by omega)]
  rw [if_pos (by omega), hindex]

theorem State.access_tail {e : Nat} (he : e < 4) (hw : Writable s ag (SHEET_Q_TAIL i e) 4) :
    s.access ag (SHEET_Q_TAIL i e) 4 v = (s.tailWrite i e v).answer 0 [] := by
  have hloc : ∀ n < 4, rowsSHEET.findSome? (rowWord · (0x104 + 32 * n)) = some ⟨⟨0xffffffff, 0, 0, 0, 0⟩, 0, 1⟩ := by
    decide
  have hindex : (0x104 + 32 * e - 0x100) / 32 = e := by omega
  have ha : SHEET_Q_TAIL i e = sheetBase i + (0x104 + 32 * e) := Nat.add_assoc ..
  rw [State.access_sheetWord hi htwin ha (by omega) (hloc e he) hw, ha, State.sheetOne_at]
  iterate 5 rw [if_neg (by omega)]
  rw [if_pos (by omega), hindex]

theorem State.access_flags (hw : Writable s ag (SHEET_FLAGS i) 8) : s.access ag (SHEET_FLAGS i) 8 v =
    (((s.holdWrite i (SHEET_FLAGS i) (BitVec.ofNat 32 v)).holdWrite i (SHEET_FLAGS i + 4)
      (BitVec.ofNat 32 (v / 2 ^ 32))).dropLow [SHEET_FLAGS i]).answer 0 [] :=
  State.access_sheetDouble hi htwin (o := 0x200) rfl (by decide) rfl hw

theorem State.access_ct {n : Nat} (hn : n < 16) (hw : Writable s ag (SHEET_CT i n) 4) :
    s.access ag (SHEET_CT i n) 4 v = (s.holdWrite i (SHEET_CT i n) (BitVec.ofNat 32 v)).answer 0 [] := by
  have hloc : ∀ n < 16, rowsSHEET.findSome? (rowWord · (0x240 + 4 * n)) = some ⟨⟨0xffffffff, 0, 0, 0, 0⟩, 0, 1⟩ := by
    decide
  exact State.access_hold hi htwin (Nat.add_assoc ..) (by omega) (hloc n hn) hw

theorem State.access_cmpCtl {m : Nat} (hm : m < 8) (hw : Writable s ag (SHEET_CMP_CTL i m) 4) :
    s.access ag (SHEET_CMP_CTL i m) 4 v = (s.holdWrite i (SHEET_CMP_CTL i m) (BitVec.ofNat 32 v)).answer 0 [] := by
  have hloc : ∀ n < 8, rowsSHEET.findSome? (rowWord · (0x280 + 4 * n)) = some ⟨⟨0x3f, 0, 0, 0, 0⟩, 0, 1⟩ := by
    decide
  exact State.access_hold hi htwin (Nat.add_assoc ..) (by omega) (hloc m hm) hw

theorem State.access_cmpVal {m : Nat} (hm : m < 8) (hw : Writable s ag (SHEET_CMP_VAL i m) 8) :
    s.access ag (SHEET_CMP_VAL i m) 8 v = (((s.holdWrite i (SHEET_CMP_VAL i m) (BitVec.ofNat 32 v)).holdWrite i
      (SHEET_CMP_VAL i m + 4) (BitVec.ofNat 32 (v / 2 ^ 32))).dropLow [SHEET_CMP_VAL i m]).answer 0 [] := by
  have hloc : ∀ n < 8, rowsSHEET.findSome? (rowWord · (0x2c0 + 8 * n)) = some ⟨⟨0xffffffff, 0, 0, 0, 0⟩, 0, 2⟩ := by
    decide
  exact State.access_sheetDouble hi htwin (Nat.add_assoc ..) (by omega) (hloc m hm) hw

theorem State.access_contourCfg {b : Nat} (hb : b < 4) (hw : Writable s ag (SHEET_CONTOUR_CFG i b) 4) :
    s.access ag (SHEET_CONTOUR_CFG i b) 4 v
      = (s.holdWrite i (SHEET_CONTOUR_CFG i b) (BitVec.ofNat 32 v)).answer 0 [] := by
  have hloc : ∀ n < 4, rowsSHEET.findSome? (rowWord · (0x8860 + 4 * n)) = some ⟨⟨0x3ff, 0, 0, 0, 0⟩, 0, 1⟩ := by
    decide
  exact State.access_hold hi htwin (Nat.add_assoc ..) (by omega) (hloc b hb) hw

end

/-! ### What the operations do -/

section
variable {s : State} {i e k v : Nat}

theorem State.legendWrite_busy (h : s.engIdle i 0 = false) :
    s.legendWrite i k v = s.raise 0x1011 (unitSheet i) 0 0 := by
  rw [State.legendWrite, h]; exact if_pos rfl

theorem State.legendWrite_badEven (h : s.engIdle i 0 = true) (heven : legendBad (v % 65536) = true) :
    s.legendWrite i k v = s.legendRefuse i (2 * k / 16) (2 * k % 16) 0 := by
  rw [State.legendWrite, if_neg (by simp [h]), if_pos heven]

theorem State.legendWrite_badOdd (h : s.engIdle i 0 = true) (heven : legendBad (v % 65536) = false)
    (hodd : legendBad (v / 65536 % 65536) = true) :
    s.legendWrite i k v = s.legendRefuse i ((2 * k + 1) / 16) ((2 * k + 1) % 16) 0 := by
  rw [State.legendWrite, if_neg (by simp [h]), if_neg (by simp [heven]), if_pos hodd]

theorem State.legendWrite_legal (h : s.engIdle i 0 = true) (heven : legendBad (v % 65536) = false)
    (hodd : legendBad (v / 65536 % 65536) = false) :
    s.legendWrite i k v = s.setReg (SHEET_LEGEND i k) (BitVec.ofNat 32 v) := by
  rw [State.legendWrite, if_neg (by simp [h]), if_neg (by simp [heven]), if_neg (by simp [hodd])]

theorem State.engIdle_setIf (c : Bool) (f : Fld) : (s.setIf c f v).engIdle i e = s.engIdle i e := by
  rw [State.engIdle, State.sheet_setIf, State.engIdle]

/-- Restore, with bad cleared where asked (R46). -/
theorem State.legendCtl_restore (clearBad : Bool) : s.legendCtl i (1 + b2n clearBad * 2 ^ 31) =
    let u := s.setIf clearBad (SHEET_LEGEND_CTL_bad i) 0
    if s.engIdle i 0 then u.legendReload i else u.raise 0x1011 (unitSheet i) 0 0 := by
  have hbits : bit (1 + b2n clearBad * 2 ^ 31) 31 = clearBad ∧ bit (1 + b2n clearBad * 2 ^ 31) 0 = true := by
    cases clearBad <;> decide
  obtain ⟨hbad, hrestore⟩ := hbits
  simp only [State.legendCtl, hbad, hrestore, if_true, State.engIdle_setIf]

/-- A ring that may be placed: its engine is idle with an empty queue, it fits the control store and meets no other
ring (R163). -/
def State.RingFits (s : State) (i e v : Nat) : Prop :=
  s.engIdle i e = true ∧ s.fld (SHEET_Q_HEAD_head i e) = s.fld (SHEET_Q_TAIL_tail i e) ∧ bits v 12 12 ≠ 0
    ∧ bits v 0 11 + bits v 12 12 ≤ 2048
    ∧ ∀ k < 4, k ≠ e →
        ringsMeet (bits v 0 11) (bits v 12 12) (s.fld (SHEET_Q_RING_base i k)) (s.fld (SHEET_Q_RING_size i k)) = false

theorem State.ringWrite_of_fits (h : s.RingFits i e v) :
    s.ringWrite i e v =
      (s.setFld (SHEET_Q_RING_base i e) (bits v 0 11)).setFld (SHEET_Q_RING_size i e) (bits v 12 12) := by
  obtain ⟨hidle, hempty, hsize, hend, hmeet⟩ := h
  refine if_neg ?_
  simpa [hidle, hempty, hsize, Nat.not_lt.2 hend] using hmeet

theorem State.ringWrite_of_not_fits (h : ¬ s.RingFits i e v) :
    s.ringWrite i e v = s.raise 0x2030 (unitSheet i) 0 0 := by
  refine if_pos (Decidable.byContradiction fun hok => h ?_)
  simp only [Bool.or_eq_true, not_or, Bool.not_eq_true', Bool.not_eq_false, bne_iff_ne, ne_eq, Decidable.not_not,
    beq_iff_eq, Nat.blt_eq, Nat.not_lt, Bool.not_eq_true, List.any_eq_false, List.mem_filter, List.mem_range, and_imp] at hok
  obtain ⟨⟨⟨⟨hidle, hempty⟩, hsize⟩, hend⟩, hmeet⟩ := hok
  exact ⟨hidle, hempty, hsize, hend, hmeet⟩

/-- A word keeps its low bits. -/
theorem bits_ofNat_word {lo w : Nat} (h : lo + w ≤ 32) : bits (BitVec.ofNat 32 v).toNat lo w = bits v lo w := by
  refine Nat.eq_of_testBit_eq fun j => ?_
  rw [testBit_bits, testBit_bits, BitVec.toNat_ofNat, Nat.testBit_mod_two_pow]
  by_cases hj : j < w
  · rw [decide_eq_true (show lo + j < 32 by omega), Bool.true_and]
  · rw [decide_eq_false hj, Bool.false_and, Bool.false_and]

/-- calib acts at once (R89). -/
theorem State.safeCtl_noClear (h : bits v 8 8 = 0) :
    s.safeCtl i (BitVec.ofNat 32 v) = s.setFld (SHEET_SAFE_CTL_calib i) (bits v 0 1) := by
  simp only [State.safeCtl, bits_ofNat_word (show 0 + 1 ≤ 32 by decide), bits_ofNat_word (show 8 + 8 ≤ 32 by decide), h,
    if_true]

/-- A clear waits for the next step boundary (R81, R84). -/
theorem State.safeCtl_clear (h : bits v 8 8 ≠ 0) : s.safeCtl i (BitVec.ofNat 32 v) =
    (s.setFld (SHEET_SAFE_CTL_calib i) (bits v 0 1)).holdWrite i (SHEET_SAFE_CTL i) (BitVec.ofNat 32 v) := by
  simp only [State.safeCtl, bits_ofNat_word (show 0 + 1 ≤ 32 by decide), bits_ofNat_word (show 8 + 8 ≤ 32 by decide), h,
    if_false]

end

/-- The register index of an engine. -/
theorem engNo_lt (e : Engine) : engNo e < 4 := by cases e <;> decide

/-- The answer of a command that is one access. -/
theorem next_answer {s t u : State} (ha : s = t.answer 0 []) (ht : t = u) :
    (Host.Outcome.next s : Out) = .next (u.answer 0 []) := by rw [ha, ht]

/-- Settles O24: a write that the module takes reaches the operation of its register, whose case decides. -/
theorem sheetRegisterWrites : Obligations.SheetRegisterWrites := by
  intro s ag i htwin hold
  have hi := i.isLt
  refine ⟨?_, ?_, ?_, ?_, ?_, ?_, ?_⟩
  · intro k v hw lo hi'
    have ha := State.access_legend (v := v.toNat) hi htwin k.isLt hw
    refine ⟨fun h => next_answer ha (State.legendWrite_busy h), fun h =>
      ⟨fun heven => next_answer ha (State.legendWrite_badEven h heven),
        fun heven hodd => next_answer ha (State.legendWrite_badOdd h heven hodd),
        fun heven hodd => next_answer ha ?_⟩⟩
    rw [State.legendWrite_legal h heven hodd, BitVec.ofNat_toNat, BitVec.setWidth_eq]
  · intro hw clearBad u
    have ha := State.access_legendCtl (v := 1 + b2n clearBad * 2 ^ 31) hi htwin hw
    rw [State.legendCtl_restore] at ha
    exact ⟨fun h => next_answer ha (if_pos h), fun h => next_answer ha (if_neg (by simp [h]))⟩
  · intro e v n
    refine ⟨fun hw => ?_, fun hw => ?_⟩
    · have ha := State.access_tail (v := v.toNat) hi htwin (engNo_lt e) hw
      exact ⟨fun hok => next_answer ha (if_neg hok), fun hbad => next_answer ha (if_pos hbad)⟩
    · have ha := State.access_ring (v := v.toNat) hi htwin (engNo_lt e) hw
      exact ⟨fun hok => next_answer ha (State.ringWrite_of_fits hok),
        fun hbad => next_answer ha (State.ringWrite_of_not_fits hbad)⟩
  · intro v lo hi'
    refine ⟨fun hw => ?_, fun n hw => ?_, fun m hw => ?_, fun m hw => ?_⟩
    · exact congrArg _ (State.access_flags hi htwin hw)
    · exact next_answer (State.access_ct hi htwin n.isLt hw) (by rw [ofNat_mod_word]; rfl)
    · exact next_answer (State.access_cmpCtl hi htwin m.isLt hw) (by rw [ofNat_mod_word]; rfl)
    · exact congrArg _ (State.access_cmpVal hi htwin m.isLt hw)
  · exact fun hw run => congrArg _ (State.access_sheetCtl hi htwin hw)
  · intro b v hw
    exact next_answer (State.access_contourCfg hi htwin b.isLt hw) (by rw [BitVec.ofNat_toNat, BitVec.setWidth_eq]; rfl)
  · intro hw m c d u
    have hc := State.access_safeCtl (v := c) hi htwin hw
    have hd := State.access_safeCtl (v := d) hi htwin hw
    exact ⟨fun h => next_answer hc (State.safeCtl_clear h), fun h => next_answer hc (State.safeCtl_noClear h),
      fun h => next_answer hd (State.safeCtl_clear h), fun h => next_answer hd (State.safeCtl_noClear h)⟩

end Sys2Proof.Machine
end

section
/-! SUPPORT. One iteration of a matrix word, of a tile load and of an outlier-add word (O28). -/

namespace Sys2Proof.Machine

/-! ### The commands -/

theorem exec_mxMatrix (i : Sheet) (ecc : Ecc) (s : State) : exec (.mxMatrix i ecc) s = .next (s.mxMatrix i ecc) := rfl

theorem exec_tileLoad (i : Sheet) (ecc : Ecc) (s : State) : exec (.tileLoad i ecc) s = .next (s.tileLoad i ecc) := rfl

theorem exec_vxOutlierAdd (i : Sheet) (ecc : Ecc) (s : State) :
    exec (.vxOutlierAdd i ecc) s = .next (s.outlierAdd i ecc) := rfl

section
variable {s : State} {i : Nat} {ecc : Ecc} {w : QWord}

/-! ### Matrix words -/

/-- A matrix word that does not clear is refused, before its first addition, where a row of its holds another datum
(R56). -/
def State.MxDatumBad (s : State) (i : Nat) (w : QWord) : Prop :=
  w.iter = 0 ∧ w.f 283 1 = 0 ∧ ∃ r ∈ w.mxRows, (s.sheet i).rowDatum r w.mxDatum = false

theorem State.mxDatumBad_iff : s.MxDatumBad i w ↔
    w.iter = 0 ∧ w.f 283 1 = 0 ∧ !(w.mxRows.all fun r => (s.sheet i).rowDatum r w.mxDatum) := by
  simp [State.MxDatumBad]

theorem State.mxMatrix_of_none (h : s.running i 0 0 = none) : s.mxMatrix i ecc = s := by
  rw [State.mxMatrix, h]

theorem State.mxMatrix_of_bad (h : s.running i 0 0 = some w) (hbad : s.MxDatumBad i w) :
    s.mxMatrix i ecc = s.datumHalt i 0 w := by
  rw [State.mxMatrix, h]
  exact if_pos (State.mxDatumBad_iff.1 hbad)

theorem State.mxMatrix_of_noTile (h : s.running i 0 0 = some w) (hok : ¬ s.MxDatumBad i w)
    (htile : (s.sheet i).takeTile w = none) : s.mxMatrix i ecc = s := by
  rw [State.mxMatrix, h]
  simp only [if_neg (mt State.mxDatumBad_iff.2 hok), htile]

/-! ### Tile loading -/

theorem State.tileLoad_of_none (h : s.tileWord i = none) : s.tileLoad i ecc = s := by
  rw [State.tileLoad, h]

/-- The tile that a word loads: the one begun in the shadow latch, or a fresh one. -/
def SheetSt.dueTile (x : SheetSt) (w : QWord) : Tile :=
  let fresh : Tile := { half := w.f 247 1, tile := w.f 240 7, wfmt := w.f 248 4, data := [], loaded := 0 }
  match x.shadow with
  | some u => if u.names w then u else fresh
  | none => fresh

theorem State.tileLoad_of_complete (h : s.tileWord i = some w) (hfull : ((s.sheet i).dueTile w).complete = true) :
    s.tileLoad i ecc = s := by
  rw [State.tileLoad, h]
  exact if_pos hfull

/-- 2 KiB of the tile enter the shadow latch where no error is read (R105). -/
theorem State.tileLoad_of_read {t : State} {tile : Tile} {off : Nat} (h : s.tileWord i = some w)
    (htile : (s.sheet i).dueTile w = tile) (hopen : tile.complete = false)
    (hoff : halfBase tile.half + 2048 * (tile.tile + tile.loaded) = off)
    (hread : s.engEcc i 0 w ecc (storeUnits off 2048) = (t, true)) :
    s.tileLoad i ecc = t.modSheet i fun x =>
      { x with shadow := some { tile with data := tile.data ++ x.read off 2048, loaded := tile.loaded + 1 }
               moved := true } := by
  subst hoff htile
  rw [State.tileLoad, h]
  refine (if_neg (Bool.eq_false_iff.1 hopen)).trans ?_
  dsimp only
  split
  next heq => cases hread.symm.trans heq
  next heq =>
    obtain rfl := congrArg Prod.fst (hread.symm.trans heq)
    rfl

/-! ### Outlier add -/

theorem State.outlierAdd_of_none (h : s.running i 1 0x11 = none) : s.outlierAdd i ecc = s := by
  rw [State.outlierAdd, h]

/-- An outlier-add word is refused, before its first addition, where its row holds another datum (R56). -/
def State.OutlierDatumBad (s : State) (i : Nat) (w : QWord) : Prop :=
  w.iter = 0 ∧ (s.sheet i).rowDatum (w.f 191 3) (BitVec.ofNat 10 (w.f 181 10)) = false

theorem State.outlierDatumBad_iff : s.OutlierDatumBad i w ↔
    w.iter = 0 ∧ !((s.sheet i).rowDatum (w.f 191 3) (BitVec.ofNat 10 (w.f 181 10))) := by
  simp [State.OutlierDatumBad]

theorem State.outlierAdd_of_bad (h : s.running i 1 0x11 = some w) (hbad : s.OutlierDatumBad i w) :
    s.outlierAdd i ecc = s.datumHalt i 1 w := by
  rw [State.outlierAdd, h]
  exact if_pos (State.outlierDatumBad_iff.1 hbad)

end

/-- Settles O28: where the word executes, holds its datum and has its tile, and no error is read, each engine's
operation is the update that its clause writes out. -/
theorem matrixAndOutlierWordsAddExactly : Obligations.MatrixAndOutlierWordsAddExactly := by
  intro s i ecc
  rw [exec_mxMatrix, exec_tileLoad, exec_vxOutlierAdd]
  refine ⟨fun h => congrArg _ (State.mxMatrix_of_none h), fun h => congrArg _ (State.outlierAdd_of_none h),
    fun h => congrArg _ (State.tileLoad_of_none h), ?_, ?_, ?_⟩
  · intro w h bad
    refine ⟨fun hbad => congrArg _ (State.mxMatrix_of_bad h hbad),
      fun hok htile => congrArg _ (State.mxMatrix_of_noTile h hok htile), ?_⟩
    intro hok tile x' htile x side o clear t hread parts old new u v
    have hread' : s.engEcc i 0 w ecc (w.mxUnits w.iter o clear) = (t, true) := hread
    rw [State.mxMatrix, h]
    simp only [if_neg (mt State.mxDatumBad_iff.2 hok), htile]
    -- the model keeps a column's entries and its count of zeroed products in one list of pairs
    rw [hread']
    simp only [List.map_map]
    rfl
  · intro w h fresh tile off
    exact ⟨fun hfull => congrArg _ (State.tileLoad_of_complete h hfull),
      fun hopen t hread => congrArg _ (State.tileLoad_of_read h rfl hopen rfl hread)⟩
  · intro w h x row datum bad wf base side o off recs blk units
    refine ⟨fun hbad => congrArg _ (State.outlierAdd_of_bad h hbad), fun hok t hread => congrArg _ ?_⟩
    have hread' : s.engEcc i 1 w ecc units = (t, true) := hread
    rw [State.outlierAdd, h]
    simp only [if_neg (mt State.outlierDatumBad_iff.2 hok)]
    rw [hread']

end Sys2Proof.Machine
end

section
/-! SUPPORT. One iteration of a copy move, a reduce move and a legend load (O30). -/

namespace Sys2Proof.Machine

/-! ### The commands -/

theorem exec_mvCopy (i : Sheet) (ecc : Ecc) (s : State) : exec (.mvCopy i ecc) s = .next (s.moveCopy i ecc) := rfl

theorem exec_mvReduce (i : Sheet) (ecc : Ecc) (s : State) : exec (.mvReduce i ecc) s = .next (s.moveReduce i ecc) := rfl

theorem exec_mvLegendLoad (i : Sheet) (ecc : Ecc) (s : State) :
    exec (.mvLegendLoad i ecc) s = .next (s.moveLegend i ecc) := rfl

section
variable {s t : State} {i : Nat} {ecc : Ecc} {w : QWord}

/-! ### Where a move goes -/

/-- Reads without an uncorrectable error leave a sheet as it is or count a corrected one (R127). -/
theorem State.sheetEcc_eq_none {j : Nat} {units : List (Nat × Nat)} (h : s.sheetEcc j ecc units = (t, none)) :
    t = s ∨ t = s.sheetCe j := by
  unfold State.sheetEcc at h
  split at h
  · exact .inl (congrArg Prod.fst h).symm
  · split at h
    · exact .inr (congrArg Prod.fst h).symm
    · exact .inl (congrArg Prod.fst h).symm
  · split at h
    · cases congrArg Prod.snd h
    · exact .inl (congrArg Prod.fst h).symm

/-- An engine goes on where its reads hold no uncorrectable error (R128). -/
theorem State.engEcc_eq_true {e : Nat} {units : List (Nat × Nat)} (h : s.engEcc i e w ecc units = (t, true)) :
    s.sheetEcc i ecc units = (t, none) := by
  unfold State.engEcc at h
  split at h
  next => cases congrArg Prod.snd h
  next hread =>
    cases h
    exact hread

/-- Reads of sheets leave twin mode as it is. -/
theorem State.twinOn_sheetEcc {j : Nat} {units : List (Nat × Nat)} (hj : j < 416)
    (h : s.sheetEcc j ecc units = (t, none)) : t.twinOn = s.twinOn := by
  rcases State.sheetEcc_eq_none h with rfl | rfl
  · rfl
  · have hbelow : sheetBase j + 0x34 < FAULT_TWIN_STAT := by
      rw [FAULT_TWIN_STAT]
      rcases sheetBase_cases j with ⟨-, hj⟩ | ⟨-, hj⟩ <;> omega
    have hword : sheetBase j + 0x30 ≠ FAULT_TWIN_STAT := by omega
    have hnext : sheetBase j + 0x30 + 4 ≠ FAULT_TWIN_STAT := by omega
    have hother : (s.sheetCe j).fld FAULT_TWIN_STAT_active = s.fld FAULT_TWIN_STAT_active :=
      State.fld_setFld_other (by decide) hword hnext
    rw [State.twinOn, State.flag, hother, State.twinOn, State.flag]

theorem State.moveDest_congr (h : t.twinOn = s.twinOn) : t.moveDest i w = s.moveDest i w := by
  rw [State.moveDest, h, State.moveDest]

theorem State.moveDest_lt (hi : i < 320) : s.moveDest i w < 416 := by
  have hsheet : w.f 160 8 < 256 := Nat.mod_lt _ (by decide)
  have hdie : w.f 168 1 < 2 := Nat.mod_lt _ (by decide)
  rw [State.moveDest, sheetDie]
  split <;> omega

theorem State.meshDest_staging (h : w.f 169 1 = 1) : t.meshDest i w = none := if_pos h

theorem State.meshDest_sheet (h : w.f 169 1 = 0) (htwin : t.twinOn = s.twinOn) :
    t.meshDest i w = some (s.moveDest i w) := by
  rw [State.meshDest, if_neg (by rw [h]; decide), State.moveDest_congr htwin]

theorem QWord.f_bad (b : Bool) (lo n : Nat) : ({ w with bad := b } : QWord).f lo n = w.f lo n := rfl

theorem QWord.tag_bad (b : Bool) : ({ w with bad := b } : QWord).tag = w.tag := rfl

/-! ### What an iteration of a move reads and writes -/

/-- The bytes of an iteration of a copy move, or the blocks of one of a reduce move (R154). -/
def QWord.moveLen (w : QWord) : Nat := countOf (w.f 194 16)

/-- The window offset that an iteration of a copy move reads at. -/
def QWord.moveSrc (w : QWord) : Nat := ((w.agd 0).at w.iter).toNat

/-- The accumulator entry that an iteration of a reduce move reads from. -/
def QWord.srcEntry (w : QWord) : Nat := ((w.agd 0).at w.iter).toNat / 24

/-- The accumulator entry that an iteration of a reduce move adds to. -/
def QWord.dstEntry (w : QWord) : Nat := ((w.agd 80).at w.iter).toNat / 24

/-! ### Copy moves -/

theorem State.moveCopy_of_none (h : s.running i 2 0 = none) : s.moveCopy i ecc = s := by
  rw [State.moveCopy, h]

/-- A copy move to a sheet that is not up waits. -/
theorem State.moveCopy_of_down (h : s.running i 2 0 = some w) (hmesh : w.f 169 1 = 0)
    (hdown : s.sheetUp (s.moveDest i w) = false) : s.moveCopy i ecc = s := by
  rw [State.moveCopy, h]
  exact if_pos ⟨hmesh, by simp [hdown]⟩

section
variable (h : s.running i 2 0 = some w) (hread : s.engEcc i 2 w ecc (storeUnits w.moveSrc w.moveLen) = (t, true))
include h hread

/-- A copy move into staging (R205). -/
theorem State.moveCopy_staging (hstage : w.f 169 1 = 1) :
    let bs := (t.sheet i).read w.moveSrc w.moveLen
    s.moveCopy i ecc =
      (((t.meshPass i none bs).moveStage i w (w.f 170 24 * 256 + w.iter * w.moveLen) bs).moveEnd i w).advance i 2 w := by
  rw [State.moveCopy, h]
  refine (if_neg (by simp [hstage])).trans ?_
  dsimp only [QWord.moveLen, QWord.moveSrc] at hread ⊢
  simp only [hread, State.meshDest_staging hstage, if_pos hstage]

/-- A copy move to a sheet of the module (R121). -/
theorem State.moveCopy_sheet (hi : i < 320) (hmesh : w.f 169 1 = 0) (hup : s.sheetUp (s.moveDest i w) = true) :
    let bs := (t.sheet i).read w.moveSrc w.moveLen
    s.moveCopy i ecc =
      (((t.meshPass i (some (s.moveDest i w)) bs).modSheet (s.moveDest i w) fun x =>
        x.write ((w.agd 80).at w.iter).toNat bs).moveEnd i w).advance i 2 w := by
  have htwin := State.twinOn_sheetEcc (by omega) (State.engEcc_eq_true hread)
  have hne : ¬ w.f 169 1 = 1 := by rw [hmesh]; decide
  rw [State.moveCopy, h]
  refine (if_neg (by simp [hup])).trans ?_
  dsimp only [QWord.moveLen, QWord.moveSrc] at hread ⊢
  simp only [hread, State.meshDest_sheet hmesh htwin, if_neg hne]

end

/-! ### Reduce moves -/

theorem State.moveReduce_of_none (h : s.running i 2 1 = none) : s.moveReduce i ecc = s := by
  rw [State.moveReduce, h]

/-- A reduce move to a sheet that is not up waits. -/
theorem State.moveReduce_of_down (h : s.running i 2 1 = some w) (hmesh : w.f 169 1 = 0)
    (hdown : s.sheetUp (s.moveDest i w) = false) : s.moveReduce i ecc = s := by
  rw [State.moveReduce, h]
  exact if_pos ⟨hmesh, by simp [hdown]⟩

section
variable {dest src dst : Nat}

/-- A reduce move into staging reads the entries it moves. -/
theorem State.reduceEcc_staging (hstage : w.f 169 1 = 1)
    (hread : s.engEcc i 2 w ecc (entryUnits src (32 * countOf (w.f 194 16))) = (t, true)) :
    s.reduceEcc i dest w src dst ecc = (t, true) := by
  simp only [State.reduceEcc, hread, hstage, if_true]

/-- A reduce move over the mesh reads the entries it adds to as well (R123, R128). -/
theorem State.reduceEcc_sheet {a : State} (hmesh : w.f 169 1 = 0)
    (hread : s.engEcc i 2 w ecc (entryUnits src (32 * countOf (w.f 194 16))) = (a, true))
    (hrecv : a.sheetEcc dest (eccFrom (32 * countOf (w.f 194 16)) ecc)
      (entryUnits dst (32 * countOf (w.f 194 16))) = (t, none)) :
    s.reduceEcc i dest w src dst ecc = (t, true) := by
  simp [State.reduceEcc, hread, hmesh, State.recvEcc, hrecv]

end

section
variable {a : State} (h : s.running i 2 1 = some w)
  (hread : s.engEcc i 2 w ecc (entryUnits w.srcEntry (32 * w.moveLen)) = (a, true))
include h hread

/-- A reduce move into staging (R205). -/
theorem State.moveReduce_staging (hstage : w.f 169 1 = 1) :
    let ps := (a.sheet i).packed w.srcEntry w.moveLen (w.f 215 8)
    let k := (ps.filter (·.esc.isSome)).length
    let u := (a.meshPass i none (ps.flatMap fun p => p.main ++ p.esc.getD [])).count (SHEET_ESC_CNT_escaped i) k
    s.moveReduce i ecc = ((u.reduceStage i w w.moveLen ps).moveEnd i w).advance i 2 { w with esc := w.esc + k } := by
  have hmesh : ¬ w.f 169 1 = 0 := by rw [hstage]; decide
  rw [State.moveReduce, h]
  refine (if_neg (by simp [hstage])).trans ?_
  dsimp only [QWord.moveLen, QWord.srcEntry] at hread ⊢
  simp only [State.reduceEcc_staging hstage hread, State.meshDest_staging hstage, if_pos hstage, hmesh, false_and,
    decide_false, Bool.or_false, Bool.false_eq_true, if_false]

/-- A reduce move over the mesh: the blocks are added at the destination `dest`, or its entries are marked, where the
datums are found to differ at the first iteration (`mis`) and in the word's iterations after it (R122, R123). `u` is the
state in which the packed blocks `ps` have passed the mesh. -/
theorem State.moveReduce_sheet {dest : Nat} {ps : List Packed} {u : State} {mis : Bool} (hi : i < 320)
    (hmesh : w.f 169 1 = 0) (hdest : s.moveDest i w = dest) (hup : s.sheetUp dest = true)
    (hrecv : a.sheetEcc dest (eccFrom (32 * w.moveLen) ecc) (entryUnits w.dstEntry (32 * w.moveLen)) = (t, none))
    (hps : (t.sheet i).packed w.srcEntry w.moveLen (w.f 215 8) = ps)
    (hu : (t.meshPass i (some dest) (ps.flatMap fun p => p.main ++ p.esc.getD [])).count (SHEET_ESC_CNT_escaped i)
      (ps.filter (·.esc.isSome)).length = u)
    (hmis : decide (w.iter = 0 ∧ ((u.sheet dest).entry w.dstEntry).datum ≠ ((t.sheet i).entry w.srcEntry).datum) = mis) :
    s.moveReduce i ecc =
      ((((if mis then u.reduceBad dest w.tag else u).reduceAt dest w.dstEntry w.tag (w.bad || mis) ps).moveEnd i
        { w with bad := w.bad || mis }).advance i 2
          { w with bad := w.bad || mis, esc := w.esc + (ps.filter (·.esc.isSome)).length }) := by
  subst hdest
  have htwin : t.twinOn = s.twinOn :=
    (State.twinOn_sheetEcc (State.moveDest_lt hi) hrecv).trans
      (State.twinOn_sheetEcc (by omega) (State.engEcc_eq_true hread))
  rw [State.moveReduce, h]
  refine (if_neg (by simp [hup])).trans ?_
  rw [QWord.srcEntry, QWord.dstEntry] at hmis
  dsimp only [QWord.moveLen, QWord.srcEntry, QWord.dstEntry] at hread hrecv hps ⊢
  simp only [State.reduceEcc_sheet hmesh hread hrecv, State.meshDest_sheet hmesh htwin, hmesh, true_and, hps, hu, hmis,
    QWord.f_bad, QWord.tag_bad, if_neg (show ¬ 0 = 1 by decide)]

end

/-! ### Legend loads -/

theorem State.moveLegend_of_none (h : s.running i 2 2 = none) : s.moveLegend i ecc = s := by
  rw [State.moveLegend, h]

/-- A legend load waits while the matrix engine executes a word (R43). -/
theorem State.moveLegend_of_busy (h : s.running i 2 2 = some w) (hbusy : s.mxBusy i = true) :
    s.moveLegend i ecc = s := by
  rw [State.moveLegend, h]
  exact if_pos hbusy

/-- The units that an iteration of a legend load reads: the first one reads every slot it is to load. -/
def QWord.slotUnits (w : QWord) : List (Nat × Nat) :=
  if w.iter = 0 then (List.range w.rep).flatMap fun k => storeUnits ((w.agd 0).at k).toNat 32
  else storeUnits ((w.agd 0).at w.iter).toNat 32

section
variable (h : s.running i 2 2 = some w) (hidle : s.mxBusy i = false)
  (hread : s.engEcc i 2 w ecc w.slotUnits = (t, true))
include h hidle hread

/-- One iteration of a legend load: `found` is the entry that is not valid, looked for by the first iteration (R45). -/
theorem State.moveLegend_of_found {found : Option (Nat × Nat)}
    (hfound : (if w.iter = 0 then (t.sheet i).badLegend w else none) = found) :
    let u := found.elim t fun f => t.legendRefuse i f.1 f.2 w.tag
    s.moveLegend i ecc =
      (if w.bad || found.isSome then u
        else u.loadSlot i (w.f 223 6 + w.iter) ((u.sheet i).read ((w.agd 0).at w.iter).toNat 32)).advance i 2
          { w with bad := w.bad || found.isSome } := by
  rw [State.moveLegend, h]
  refine (if_neg (by simp [hidle])).trans ?_
  rw [QWord.slotUnits] at hread
  simp only [hread, hfound, QWord.f_bad]
  cases found <;> rfl

/-- A legend load with an entry that is not valid loads nothing and records it (R45). -/
theorem State.moveLegend_refused {slot e : Nat} (hfirst : w.iter = 0)
    (hbad : (t.sheet i).badLegend w = some (slot, e)) :
    s.moveLegend i ecc = (t.legendRefuse i slot e w.tag).advance i 2 { w with bad := true } := by
  simp only [State.moveLegend_of_found h hidle hread ((if_pos hfirst).trans hbad), Option.elim_some, Option.isSome_some,
    Bool.or_true, if_true]

/-- A refused legend load's other iterations load nothing. -/
theorem State.moveLegend_skipped (hrefused : w.bad = true) (hlater : w.iter ≠ 0) :
    s.moveLegend i ecc = t.advance i 2 w := by
  simp only [State.moveLegend_of_found h hidle hread (if_neg hlater), Option.elim_none, Option.isSome_none,
    Bool.or_false, if_pos hrefused]

/-- A legend load of valid entries loads one slot of 16 (R43). -/
theorem State.moveLegend_loaded (hok : w.bad = false) (hvalid : w.iter = 0 → (t.sheet i).badLegend w = none) :
    s.moveLegend i ecc =
      (t.loadSlot i (w.f 223 6 + w.iter) ((t.sheet i).read ((w.agd 0).at w.iter).toNat 32)).advance i 2 w := by
  have hfound : (if w.iter = 0 then (t.sheet i).badLegend w else none) = none := by
    split
    · exact hvalid ‹_›
    · rfl
  simp only [State.moveLegend_of_found h hidle hread hfound, Option.elim_none, Option.isSome_none, Bool.or_false,
    if_neg (Bool.eq_false_iff.1 hok)]

end

end

/-- Settles O30: where the word executes, its destination can take it and no error is read, each kind of move is the
update that its clause writes out. -/
theorem moveWordsReachTheirDestination : Obligations.MoveWordsReachTheirDestination := by
  intro s i ecc
  rw [exec_mvCopy, exec_mvReduce, exec_mvLegendLoad]
  refine ⟨fun h => congrArg _ (State.moveCopy_of_none h), fun h => congrArg _ (State.moveReduce_of_none h),
    fun h => congrArg _ (State.moveLegend_of_none h), ?_, fun _ _ => rfl, ?_, ?_⟩
  · intro w h dest len src
    refine ⟨fun hmesh hdown => congrArg _ (State.moveCopy_of_down h hmesh hdown), ?_⟩
    intro t hread bs
    exact ⟨fun hstage => congrArg _ (State.moveCopy_staging h hread hstage),
      fun hmesh hup => congrArg _ (State.moveCopy_sheet h hread i.isLt hmesh hup)⟩
  · intro w h dest len src dst n units
    refine ⟨fun hmesh hdown => congrArg _ (State.moveReduce_of_down h hmesh hdown), ?_⟩
    intro a t hread hstaged hrecv ps k bytes w'
    refine ⟨fun hstage => congrArg _ ?_, fun hmesh hup => ?_⟩
    · obtain rfl := hstaged hstage
      exact State.moveReduce_staging h hread hstage
    · intro u mis
      refine ⟨fun hmis => congrArg _ ?_, fun hmis => congrArg _ ?_⟩
      · have hstep := State.moveReduce_sheet h hread i.isLt hmesh rfl hup (hrecv hmesh) rfl rfl
          (decide_eq_true hmis)
        rwa [if_pos rfl, Bool.or_true] at hstep
      · have hstep := State.moveReduce_sheet h hread i.isLt hmesh rfl hup (hrecv hmesh) rfl rfl
          (decide_eq_false hmis)
        rwa [if_neg Bool.false_ne_true, Bool.or_false] at hstep
  · intro w h off units
    refine ⟨fun hbusy => congrArg _ (State.moveLegend_of_busy h hbusy), ?_⟩
    intro hidle t hread
    exact ⟨fun slot e hfirst hbad => congrArg _ (State.moveLegend_refused h hidle hread hfirst hbad),
      fun hrefused hlater => congrArg _ (State.moveLegend_skipped h hidle hread hrefused hlater),
      fun hok hvalid => congrArg _ (State.moveLegend_loaded h hidle hread hok hvalid)⟩

end Sys2Proof.Machine
end

section
/-! SUPPORT. The step boundary, what its waits ask for and consume, and what its signals do (O25). -/

namespace Sys2Proof.Machine

/-! ### The boundary -/

theorem exec_stepBoundary (i : Sheet) (lag : Lag) (s : State) :
    exec (.stepBoundary i lag) s = .next (s.stepBoundary i lag) := rfl

section
variable {s : State} {i x : Nat} {w : QWord}

theorem State.stepBoundary_of_down (lag : Lag) (h : s.sheetUp i = false) : s.stepBoundary i lag = s :=
  if_pos (by simp [h])

/-- The four parts of R137, in order. -/
theorem State.stepBoundary_of_up (lag : Lag) (h : s.sheetUp i = true) : s.stepBoundary i lag =
    iter 4 (fun e t => t.evalHead i e)
      (((iter 4 (fun e t => t.retire i e) (s.sample i lag)).applyIncs i).applyWrites i) :=
  if_neg (by simp [h])

/-- The sample of the time counter never falls back (R173). -/
theorem State.time_le_sample (i : Nat) (lag : Lag) (h : Sound s) :
    (s.sheet i).time ≤ ((s.sample i lag).sheet i).time := by
  have hparts := h.parts
  simp only [Parts.wf, Bool.and_eq_true] at hparts
  obtain ⟨⟨⟨-, hsheets⟩, -⟩, -⟩ := hparts
  have hsample : ((s.sample i lag).sheet i).time = max (s.sheet i).time _ :=
    congrArg SheetSt.time (State.sheet_modSheet_same hsheets)
  exact hsample ▸ Nat.le_max_left ..

/-! ### Selectors (R135, R136) -/

section
variable {sel k : Nat} (hsel : sel = 0x1000 * k + x) (hx : x < 0x1000)
include hsel hx

theorem selKind_eq : selKind sel = k := by rw [selKind]; omega

theorem selArg_eq : selArg sel = x := by rw [selArg]; omega

/-- What a wait of each kind asks for (R135). -/
theorem State.waitHolds_of_sel (s : State) (i c : Nat) : s.waitHolds i (sel, c) =
    if k = 1 ∨ k = 3 then s.flagN i (x % 64)
    else if k = 2 then !s.flagN i (x % 64)
    else if k = 4 then decide (countOf c ≤ s.ct i (x % 16))
    else if k = 5 then s.cmpTrue i (x % 8)
    else if k = 8 then decide (countOf c ≤ s.ac x - s.acUnseen i x)
    else true := by
  simp only [State.waitHolds, selKind_eq hsel hx, selArg_eq hsel hx, State.acView]

/-- What a wait of each kind consumes (R135). -/
theorem State.consume_of_sel (s : State) (i c : Nat) : s.consume i (sel, c) =
    if k = 3 then s.setFlagN i (x % 64) false
    else if k = 4 then s.setFld (SHEET_CT_count i (x % 16)) (s.ct i (x % 16) - countOf c)
    else s := by
  simp only [State.consume, selKind_eq hsel hx, selArg_eq hsel hx]

end

/-- A retiring word adds `n` to comparator `m` of its sheet; past 2^64 the value is a free one. -/
def State.cmpAdd (s : State) (i m n : Nat) : State :=
  let v := s.fld (SHEET_CMP_VAL_value i m) + n
  if v < 2 ^ 64 then s.setFld (SHEET_CMP_VAL_value i m) v
  else (s.draw 64).2.setFld (SHEET_CMP_VAL_value i m) (s.draw 64).1

/-- A retiring word releases `n` of arrival counter `x`, unless its die is the suppressed twin (R415). -/
def State.releaseSignal (s : State) (i x n : Nat) (w : QWord) : State :=
  let t := s.digest i w.tag 2 x w.twin (leBytes 4 n)
  if t.suppressed i then t else t.acRelease i x n w.tag

/-- What a signal of each kind does (R136). -/
theorem State.applySignal_of_sel {sel k c : Nat} (hsel : sel = 0x1000 * k + x) (hx : x < 0x1000)
    (h : w.signal = (sel, c)) : s.applySignal i w =
      if k = 1 then s.setFlagN i (x % 64) true
      else if k = 2 then s.setFlagN i (x % 64) false
      else if k = 4 then s.ctAdd i (x % 16) (countOf c) w.tag
      else if k = 6 then s.cmpAdd i (x % 8) (countOf c)
      else if k = 8 then s.releaseSignal i x (countOf c) w
      else s := by
  simp only [State.applySignal, h, selKind_eq hsel hx, selArg_eq hsel hx]
  rfl

end

/-- A count of 0 stands for 65,536. -/
theorem countOf_eq (c : Nat) : countOf c = if c = 0 then 65536 else c := rfl

/-- Settles O25: the boundary is its parts in order, and each kind of selector is read off its kind and its number. -/
theorem stepBoundariesRunInOrder : Obligations.StepBoundariesRunInOrder := by
  intro s i lag
  rw [exec_stepBoundary]
  refine ⟨fun h => congrArg _ (State.stepBoundary_of_down lag h),
    fun h => congrArg _ (State.stepBoundary_of_up lag h), State.time_le_sample i lag, ?_, ?_, ?_, ?_, ?_⟩
  · intro x hx c
    have hwait (sel k : Nat) (hsel : sel = 0x1000 * k + x) := State.waitHolds_of_sel hsel (by omega) s i c
    have huse (sel k : Nat) (hsel : sel = 0x1000 * k + x) := State.consume_of_sel hsel (by omega) s i c
    simp [hwait _ 1 rfl, hwait _ 2 rfl, hwait _ 3 rfl, huse _ 1 rfl, huse _ 2 rfl, huse _ 3 rfl, Nat.mod_eq_of_lt hx]
  · intro x hx c
    have hsel : 0x4000 + x = 0x1000 * 4 + x := rfl
    simp [State.waitHolds_of_sel hsel (by omega), State.consume_of_sel hsel (by omega), Nat.mod_eq_of_lt hx, countOf_eq]
  · intro x hx c
    have hsel : 0x5000 + x = 0x1000 * 5 + x := rfl
    simp [State.waitHolds_of_sel hsel (by omega), State.consume_of_sel hsel (by omega), Nat.mod_eq_of_lt hx]
  · intro x hx c
    have hsel : 0x8000 + x = 0x1000 * 8 + x := rfl
    refine ⟨?_, by simp [State.consume_of_sel hsel hx]⟩
    simp only [State.waitHolds_of_sel hsel hx]
    exact decide_eq_true_iff
  · intro w c n
    refine ⟨fun x hx => ⟨fun h => ?_, fun h => ?_⟩, fun x hx h => ?_, fun x hx h => ?_, fun x hx h => ?_⟩
    · simp [State.applySignal_of_sel (k := 1) rfl (by omega) h, Nat.mod_eq_of_lt hx]
    · simp [State.applySignal_of_sel (k := 2) rfl (by omega) h, Nat.mod_eq_of_lt hx]
    · simp [State.applySignal_of_sel (k := 4) rfl (by omega) h, Nat.mod_eq_of_lt hx, countOf_eq, n]
    · have hadd : s.applySignal i w = s.cmpAdd i x n := by
        simp [State.applySignal_of_sel (k := 6) rfl (by omega) h, Nat.mod_eq_of_lt hx, countOf_eq, n]
      exact ⟨fun hlt => hadd.trans (if_pos hlt), fun hle => ⟨_, hadd.trans (if_neg (Nat.not_lt.2 hle))⟩⟩
    · exact State.applySignal_of_sel (k := 8) rfl hx h

end Sys2Proof.Machine
end

section
/-! SUPPORT. One iteration of conversion, guard report, guard decide, contour drain, mark read, vector load and vector
store (O29). -/

namespace Sys2Proof.Machine

/-! ### The commands -/

theorem exec_vxConvert (i : Sheet) (ecc : Ecc) (s : State) : exec (.vxConvert i ecc) s = .next (s.convert i ecc) := rfl

theorem exec_vxGuardReport (i : Sheet) (s : State) : exec (.vxGuardReport i) s = .next (s.guardReport i) := rfl

theorem exec_vxGuardDecide (i : Sheet) (ecc : Ecc) (s : State) :
    exec (.vxGuardDecide i ecc) s = .next (s.guardDecide i ecc) := rfl

theorem exec_vxContourDrain (i : Sheet) (ecc : Ecc) (s : State) :
    exec (.vxContourDrain i ecc) s = .next (s.contourDrain i ecc) := rfl

theorem exec_vxMarkRead (i : Sheet) (ecc : Ecc) (s : State) :
    exec (.vxMarkRead i ecc) s = .next (s.markRead i ecc) := rfl

theorem exec_vxLoad (i : Sheet) (ecc : Ecc) (s : State) : exec (.vxLoad i ecc) s = .next (s.vectorLoad i ecc) := rfl

theorem exec_vxStore (i : Sheet) (ecc : Ecc) (s : State) : exec (.vxStore i ecc) s = .next (s.vectorStore i ecc) := rfl

section
variable {s t : State} {i : Nat} {ecc : Ecc} {w : QWord}

/-! ### A head word of another class -/

theorem State.convert_of_none (h : s.running i 1 0x10 = none) : s.convert i ecc = s := by
  rw [State.convert, h]

theorem State.guardReport_of_none (h : s.running i 1 0x19 = none) : s.guardReport i = s := by
  rw [State.guardReport, h]

theorem State.guardDecide_of_none (h : s.running i 1 0x1A = none) : s.guardDecide i ecc = s := by
  rw [State.guardDecide, h]

theorem State.contourDrain_of_none (h : s.running i 1 0x18 = none) : s.contourDrain i ecc = s := by
  rw [State.contourDrain, h]

theorem State.markRead_of_none (h : s.running i 1 0x12 = none) : s.markRead i ecc = s := by
  rw [State.markRead, h]

theorem State.vectorLoad_of_none (h : s.running i 1 1 = none) : s.vectorLoad i ecc = s := by
  rw [State.vectorLoad, h]

theorem State.vectorStore_of_none (h : s.running i 1 2 = none) : s.vectorStore i ecc = s := by
  rw [State.vectorStore, h]

/-! ### Conversion -/

/-- The accumulator entry that an iteration of a conversion word begins at (R152). -/
def QWord.convEntry (w : QWord) : Nat := w.f 174 11 + 64 * w.iter

theorem State.convert_of_read (h : s.running i 1 0x10 = some w)
    (hread : s.engEcc i 1 w ecc (entryUnits w.convEntry 64) = (t, true)) :
    let es := t.convEntries i w.convEntry
    let bs := t.convBlocks i w w.iter es
    let u := t.convCounts i w bs
    let v := if w.f 168 3 = 0 then u
      else u.tally i (w.f 168 3 - 4) (es.map fun e => (e.inv, e.a.natAbs, e.d))
    s.convert i ecc =
      ((w.convWrites w.iter bs).foldl (fun z p => z.modSheet i fun x => x.write p.1 p.2) v).advance i 1 w := by
  rw [State.convert, h]
  dsimp only [QWord.convEntry, entryUnits] at hread ⊢
  simp only [hread]

/-! ### The guard pass -/

/-- The entries of a block of 32 whose first holds `n` and whose others hold 0 (R93). -/
def reportEntries (first n : Nat) : List (Nat × AccEntry × AccEntry) :=
  (List.range 32).map fun j =>
    let e : AccEntry := if j = 0 then { val := BitVec.ofNat 192 n } else {}
    (first + j, e, e)

theorem State.guardReport_of_running (h : s.running i 1 0x19 = some w) : s.guardReport i =
    ((s.setFld (SHEET_SAT_count i (w.f 160 2)) 0).putEntries i
      (reportEntries (256 * w.f 162 3 + 32 * w.f 165 3) (s.fld (SHEET_SAT_count i (w.f 160 2))))).advance i 1 w := by
  rw [State.guardReport, h]
  rfl

/-- The first entry of the block that a decide word reads (R94). -/
def QWord.guardEntry (w : QWord) : Nat := 256 * w.f 160 3 + 32 * w.f 163 3

/-- Whether one of the 32 entries from entry `n` is marked. -/
def SheetSt.marked (x : SheetSt) (n : Nat) : Bool :=
  (List.range 32).any fun j => (x.entry (n + j)).ovf || (x.entry (n + j)).under || (x.entry (n + j)).inv

/-- A decide word whose outcome is `take`: counted, written to its flag and to the latch, and raised as HOLD, unless the
sheet is in calibration (R90, R94, R95, R209). -/
def State.guardAct (s : State) (i : Nat) (w : QWord) (take : Bool) : State :=
  let calib := s.flag (SHEET_SAFE_CTL_calib i)
  let counted := if take then
      s.count (if calib then SHEET_GUARD_CNT_would i else SHEET_GUARD_CNT_taken i) 1
    else s
  let written := (counted.setFlagN i (w.f 166 6) (take && !calib)).guardLatch i w (take && !calib)
  let held := written.digest i w.tag 4 0 w.twin []
  if take && !calib then if held.suppressed i then held else held.raiseHold w.tag else written

theorem State.guardDecide_of_read (h : s.running i 1 0x1A = some w)
    (hread : s.engEcc i 1 w ecc (entryUnits w.guardEntry 32) = (t, true)) :
    let x := t.sheet i
    let a := if x.marked w.guardEntry then t.raise 0x1044 (unitSheet i) w.tag 0 else t
    let take := x.marked w.guardEntry || decide ((x.entry w.guardEntry).a > (w.f 172 32 : Nat))
    s.guardDecide i ecc = (a.guardAct i w take).advance i 1 w := by
  rw [State.guardDecide, h]
  dsimp only [QWord.guardEntry, entryUnits] at hread ⊢
  simp only [blockEntry, hread]
  rfl

/-! ### Contour drain -/

theorem State.contourDrain_of_read (h : s.running i 1 0x18 = some w)
    (hread : s.engEcc i 1 w ecc (storeUnits ((w.agd 0).at 0).toNat 512) = (t, true)) : s.contourDrain i ecc =
    (iter 64 (fun k z => z.drainBin i (w.f 160 2) ((w.agd 0).at 0).toNat k) t).advance i 1 w := by
  rw [State.contourDrain, h]
  simp only [hread]

/-! ### Mark read, load and store -/

/-- The accumulator entry that an iteration of a mark read begins at (R150). -/
def QWord.markEntry (w : QWord) : Nat := w.f 169 11 + 64 * w.iter

theorem State.markRead_of_read (h : s.running i 1 0x12 = some w)
    (hread : s.engEcc i 1 w ecc (entryUnits w.markEntry 64) = (t, true)) : s.markRead i ecc =
    (t.setVreg i (w.f 160 9 + w.iter * w.f 180 4)
      ((List.range 64).map fun l => markWord ((t.sheet i).entry (w.markEntry + l)))).advance i 1 w := by
  rw [State.markRead, h]
  dsimp only [QWord.markEntry, entryUnits] at hread ⊢
  simp only [hread]

theorem State.vectorLoad_of_read (h : s.running i 1 1 = some w)
    (hread : s.engEcc i 1 w ecc
      (storeUnits ((w.agd 0).at w.iter).toNat (if w.f 169 1 = 1 then 128 else 256)) = (t, true)) :
    let bs := (t.sheet i).read ((w.agd 0).at w.iter).toNat (if w.f 169 1 = 1 then 128 else 256)
    s.vectorLoad i ecc = (t.setVreg i (w.f 160 9 + w.iter * w.f 170 4) ((List.range 64).map fun l =>
      if w.f 169 1 = 1 then widenBf16 (leField bs (2 * l) 2) else leField bs (4 * l) 4)).advance i 1 w := by
  rw [State.vectorLoad, h]
  simp only [hread]

/-- The vector register that an iteration of a vector store reads (R150). -/
def QWord.storeReg (w : QWord) : Nat := w.f 160 9 + w.iter * w.f 170 4

section
variable (h : s.running i 1 2 = some w)
  (hread : s.engEcc i 1 w ecc (storeUnits (vregOff w.storeReg) 256) = (t, true))
include h hread

/-- A vector store narrowed to BF16 (R150). -/
theorem State.vectorStore_narrow (hnarrow : w.f 169 1 = 1) :
    let ls := ((t.sheet i).vreg w.storeReg).map narrowLane
    s.vectorStore i ecc = ((t.laneFlags i ls).modSheet i fun x =>
      x.write ((w.agd 0).at w.iter).toNat (ls.flatMap fun l => leBytes 2 l.code)).advance i 1 w := by
  rw [State.vectorStore, h]
  dsimp only [QWord.storeReg] at hread ⊢
  simp only [hread, if_pos hnarrow]

/-- A vector store of whole lanes (R150). -/
theorem State.vectorStore_whole (hwhole : w.f 169 1 ≠ 1) :
    s.vectorStore i ecc = (t.modSheet i fun x =>
      x.write ((w.agd 0).at w.iter).toNat (((t.sheet i).vreg w.storeReg).flatMap (leBytes 4))).advance i 1 w := by
  rw [State.vectorStore, h]
  dsimp only [QWord.storeReg] at hread ⊢
  simp only [hread, if_neg hwhole]

end

end

/-- Settles O29: where the word executes and no error is read, each class of word is the update that its clause writes
out. -/
theorem conversionGuardAndMarkWords : Obligations.ConversionGuardAndMarkWords := by
  intro s i ecc acc
  rw [exec_vxConvert, exec_vxGuardReport, exec_vxGuardDecide, exec_vxContourDrain, exec_vxMarkRead, exec_vxLoad,
    exec_vxStore]
  exact ⟨fun h => congrArg _ (State.convert_of_none h), fun h => congrArg _ (State.guardReport_of_none h),
    fun h => congrArg _ (State.guardDecide_of_none h), fun h => congrArg _ (State.contourDrain_of_none h),
    fun h => congrArg _ (State.markRead_of_none h), fun h => congrArg _ (State.vectorLoad_of_none h),
    fun h => congrArg _ (State.vectorStore_of_none h),
    fun w t h hread => congrArg _ (State.convert_of_read h hread),
    fun w h => congrArg _ (State.guardReport_of_running h),
    fun w t h hread => congrArg _ (State.guardDecide_of_read h hread),
    fun w t h hread => congrArg _ (State.contourDrain_of_read h hread),
    fun w t h hread => congrArg _ (State.markRead_of_read h hread),
    fun w t h hread => congrArg _ (State.vectorLoad_of_read h hread),
    fun w t h hread => ⟨fun hnarrow => congrArg _ (State.vectorStore_narrow h hread hnarrow),
      fun hwhole => congrArg _ (State.vectorStore_whole h hread hwhole)⟩⟩

end Sys2Proof.Machine
end

section
/-! SUPPORT. One iteration of load, store, control load and overlay load; the sheet scrub and the end of a clear
(O31). -/

namespace Sys2Proof.Machine

/-! ### The commands -/

theorem exec_stLoad (i : Sheet) (ecc : Ecc) (s : State) : exec (.stLoad i ecc) s = .next (s.storeLoad i ecc) := rfl

theorem exec_stStore (i : Sheet) (ecc : Ecc) (s : State) : exec (.stStore i ecc) s = .next (s.storeWord i ecc) := rfl

theorem exec_stControlLoad (i : Sheet) (ecc : Ecc) (s : State) :
    exec (.stControlLoad i ecc) s = .next (s.controlLoad i ecc) := rfl

theorem exec_stOverlayLoad (i : Sheet) (ecc : Ecc) (s : State) :
    exec (.stOverlayLoad i ecc) s = .next (s.overlayLoad i ecc) := rfl

theorem exec_sheetScrubRead (i : Sheet) (ecc : Ecc) (s : State) :
    exec (.sheetScrubRead i ecc) s = .next (s.sheetScrub i ecc) := rfl

/-- Clearing ends on a sheet that is up (R130). -/
theorem exec_sheetClearDone (i : Sheet) (s : State) :
    exec (.sheetClearDone i) s = .next (if s.sheetUp i then s.setFld (SHEET_STATUS_clearing i) 0 else s) := rfl

section
variable {s t v : State} {i : Nat} {ecc : Ecc} {w : QWord} {m : MemSide} {bs : List Byte}

/-! ### What loads share -/

/-- A load waits on a busy stream buffer half (R107). -/
theorem State.loadStep_of_stall (h : s.stallAt i w m.len = some t) : s.loadStep i w m ecc = t := by
  rw [State.loadStep, h]

section
variable (hfree : s.stallAt i w m.len = none)
include hfree

/-- A load waits for its bytes. -/
theorem State.loadStep_of_wait
    (hbytes : s.loadBytes i w (m.g.at w.iter).toNat m.len ((w.agd 0).at w.iter).toNat ecc = (t, none)) :
    s.loadStep i w m ecc = t := by
  rw [State.loadStep, hfree]
  simp only [hbytes]

/-- The bytes of a load go to the sheet's window and are tallied where the scales hold no error (R79, R156). -/
theorem State.loadStep_of_bytes
    (hbytes : s.loadBytes i w (m.g.at w.iter).toNat m.len ((w.agd 0).at w.iter).toNat ecc = (v, some bs))
    (hread : v.engEcc i 3 w (eccFrom (if s.suppressed i then 0 else readUnits (m.g.at w.iter).toNat m.len) ecc)
      (w.tallyUnits m.len) = (t, true)) :
    s.loadStep i w m ecc =
      ((if t.suppressed i then t else t.deliver i ((w.agd 0).at w.iter).toNat bs).loadTally i w bs).advance i 3 w := by
  rw [State.loadStep, hfree]
  simp only [hbytes, hread]

end

theorem State.storeLoad_of_none (h : s.running i 3 0 = none) : s.storeLoad i ecc = s := by
  rw [State.storeLoad, h]

theorem State.storeLoad_of_running (h : s.running i 3 0 = some w) :
    s.storeLoad i ecc = s.loadStep i w w.memSide ecc := by
  rw [State.storeLoad, h]

/-! ### Store -/

theorem State.storeWord_of_none (h : s.running i 3 1 = none) : s.storeWord i ecc = s := by
  rw [State.storeWord, h]

/-- The memory address that an iteration of a store writes to (R157). -/
def QWord.storeAddr (w : QWord) : Nat := (w.memSide.g.at w.iter).toNat

/-- The window offset that an iteration of a store reads at. -/
def QWord.storeOff (w : QWord) : Nat := ((w.agd 0).at w.iter).toNat

section
variable (h : s.running i 3 1 = some w) (hfresh : w.part = [])
  (hread : s.engEcc i 3 w ecc (storeUnits w.storeOff w.memSide.len) = (t, true))
include h hfresh hread

/-- In calibration a store to a companion is dropped and counted (R89). -/
theorem State.storeWord_of_dropped (hcomp : inCompanion w.storeAddr = true)
    (hcalib : t.flag (SHEET_SAFE_CTL_calib i) = true) :
    s.storeWord i ecc = (t.count (SHEET_CALIB_DROP_count i) 1).advance i 3 w := by
  rw [State.storeWord, h]
  dsimp only [QWord.storeAddr, QWord.storeOff] at hcomp hread ⊢
  simp [hfresh, hread, hcomp, hcalib]

/-- Any other store is digested, and leaves the sheet unless its die is the suppressed twin (R414). -/
theorem State.storeWord_of_kept (hkept : inCompanion w.storeAddr = false ∨ t.flag (SHEET_SAFE_CTL_calib i) = false) :
    let bs := (t.sheet i).read w.storeOff w.memSide.len
    let u := t.digest i w.tag 1 w.storeAddr w.twin bs
    s.storeWord i ecc = if u.suppressed i then u.advance i 3 w else u.storeOut i w w.storeAddr bs := by
  have hgo : ¬ (inCompanion w.storeAddr && t.flag (SHEET_SAFE_CTL_calib i)) = true := by
    rw [Bool.and_eq_true]
    rcases hkept with hkept | hkept <;> simp [hkept]
  rw [State.storeWord, h]
  dsimp only [QWord.storeAddr, QWord.storeOff] at hgo hread ⊢
  simp only [hfresh, hread, List.isEmpty_nil, Bool.not_true, Bool.false_eq_true, if_false, if_neg hgo]

end

section
variable {a : Nat} (hdev : inCompanion a = false)
include hdev

/-- A store to device memory (R157). -/
theorem State.storeOut_of_data (hdata : s.touchesSched a bs.length = false) :
    s.storeOut i w a bs = (s.devPut 0 a w.tag bs).advance i 3 w := by
  rw [State.storeOut, if_neg (Bool.eq_false_iff.1 hdev), if_neg (Bool.eq_false_iff.1 hdata)]

/-- The schedule region takes no store of a sheet. -/
theorem State.storeOut_of_sched (hsched : s.touchesSched a bs.length = true) :
    s.storeOut i w a bs = (s.raise 0x6010 (unitSheet i) w.tag 16).advance i 3 w := by
  rw [State.storeOut, if_neg (Bool.eq_false_iff.1 hdev), if_pos hsched]

end

/-! ### Control load -/

theorem State.controlLoad_of_none (h : s.running i 3 2 = none) : s.controlLoad i ecc = s := by
  rw [State.controlLoad, h]

/-- The size of the ring that a control load writes to (R157, R161). -/
def State.ctlSize (s : State) (i : Nat) (w : QWord) : Nat := max (s.fld (SHEET_Q_RING_size i (w.f 255 2))) 1

/-- A control load's ring has no room for its words (R162). -/
def State.CtlFull (s : State) (i : Nat) (w : QWord) : Prop :=
  w.iter = 0 ∧ s.ctlSize i w <
    subMod 32 (s.fld (SHEET_Q_TAIL_tail i (w.f 255 2))) (s.fld (SHEET_Q_HEAD_head i (w.f 255 2)))
      + w.memSide.len / 64 * w.rep

/-- The window offset of word `k` of an iteration of a control load. -/
def State.ctlSlot (s : State) (i : Nat) (w : QWord) (k : Nat) : Nat :=
  0x380000 + 64 * (s.fld (SHEET_Q_RING_base i (w.f 255 2))
    + (s.fld (SHEET_Q_TAIL_tail i (w.f 255 2)) + w.iter * (w.memSide.len / 64) + k) % 2 ^ 32 % s.ctlSize i w)

theorem State.controlLoad_of_full (h : s.running i 3 2 = some w) (hfull : s.CtlFull i w) : s.controlLoad i ecc = s := by
  rw [State.controlLoad, h]
  exact if_pos hfull

/-- A control load writes its words at the tail of its ring (R157). -/
theorem State.controlLoad_of_bytes (h : s.running i 3 2 = some w) (hroom : ¬ s.CtlFull i w)
    (hreads : s.suppressed i = false)
    (hbytes : s.loadBytes i w (w.memSide.g.at w.iter).toNat w.memSide.len 0 ecc = (t, some bs))
    (hwrites : t.suppressed i = false) : s.controlLoad i ecc =
      (iter (w.memSide.len / 64) (fun k u => u.deliver i (s.ctlSlot i w k) ((bs.drop (64 * k)).take 64)) t).advance
        i 3 w := by
  rw [State.controlLoad, h]
  refine (if_neg hroom).trans ?_
  simp only [hreads, hbytes, hwrites, Bool.false_eq_true, if_false]
  rfl

/-! ### Overlay load -/

theorem State.overlayLoad_of_none (h : s.running i 3 3 = none) : s.overlayLoad i ecc = s := by
  rw [State.overlayLoad, h]

/-- An overlay load whose descriptor is read goes on as a load. -/
theorem State.overlayLoad_of_latched (h : s.running i 3 3 = some w) (hlatch : w.latch ≠ []) :
    s.overlayLoad i ecc = s.loadStep i w (descSide w.latch) ecc := by
  rw [State.overlayLoad, h]
  exact if_neg (by simpa using hlatch)

theorem State.overlayLoad_of_fresh (h : s.running i 3 3 = some w) (hlatch : w.latch = []) :
    s.overlayLoad i ecc = s.overlayBegin i w ecc := by
  rw [State.overlayLoad, h]
  exact if_pos (by rw [hlatch]; rfl)

/-- The slot of the open batch that an overlay load names (R97). -/
def State.batchSlot (s : State) (w : QWord) : Nat := s.wiora.slots.getD (w.f 257 5) 0

/-- The overlay entry in that slot. -/
def State.slotOvl (s : State) (w : QWord) : OvlEntry := s.ovl (s.batchSlot w % 1024)

theorem State.overlayBegin_of_empty (hempty : bit (s.batchSlot w) 15 = false) :
    s.overlayBegin i w ecc = s.setHead i 3 { w with phase := .skipped } :=
  if_pos (congrArg not hempty)

section
variable (hslot : bit (s.batchSlot w) 15 = true)
include hslot

theorem State.overlayBegin_of_invalid (hstate : (s.slotOvl w).state ≠ 2) :
    s.overlayBegin i w ecc = s.haltEngine i 3 0x1042 w.tag (s.batchSlot w % 1024) :=
  (if_neg (Bool.eq_false_iff.1 (congrArg not hslot))).trans (if_pos hstate)

variable (hstate : (s.slotOvl w).state = 2)
include hstate

theorem State.overlayBegin_of_past (hpast : (s.slotOvl w).layers ≤ w.f 262 16) :
    s.overlayBegin i w ecc = s.haltEngine i 3 0x1043 w.tag (s.batchSlot w % 1024) :=
  ((if_neg (Bool.eq_false_iff.1 (congrArg not hslot))).trans (if_neg (Decidable.not_not.2 hstate))).trans (if_pos hpast)

/-- The descriptor read is checked, and kept in the word where it has no fault (R98, R158). -/
theorem State.overlayBegin_of_read {d : List Byte} (hlayer : w.f 262 16 < (s.slotOvl w).layers)
    (hread : (s.ovlResolve (s.batchSlot w % 1024)).fetch (.word i 3)
      ((s.slotOvl w).descAddr + 64 * w.f 262 16 + 32 * w.f 278 1) 32 w.tag ecc = (t, .got (.data d))) :
    s.overlayBegin i w ecc =
      (t.ovlFault w d).elim (t.setHead i 3 { w with latch := d }) fun code => t.haltEngine i 3 code w.tag 0 := by
  refine ((if_neg (Bool.eq_false_iff.1 (congrArg not hslot))).trans (if_neg (Decidable.not_not.2 hstate))).trans
    ((if_neg (Nat.not_le.2 hlayer)).trans ?_)
  dsimp only [State.batchSlot, State.slotOvl] at hread
  simp only [hread]
  cases t.ovlFault w d <;> rfl

end

/-! ### The scrub -/

theorem State.sheetScrub_of_off (h : s.sheetUp i = false ∨ s.flag (SHEET_SCRUB_enable i) = false) :
    s.sheetScrub i ecc = s :=
  if_pos (by rcases h with h | h <;> simp [h])

/-- The tick at which a sheet's scrub reads next, once for each multiple of 64 (R129). -/
def State.scrubTick (s : State) (i : Nat) : Nat :=
  if (s.sheet i).scrubAt = some s.time.elapsed then s.nextAfter 0 64 else s.nextAt 0 64

/-- The state in which the scrub reads its unit. -/
def State.scrubDue (s : State) (i : Nat) : State :=
  (s.toTick (s.scrubTick i)).modSheet i fun x => { x with scrubAt := some (s.toTick (s.scrubTick i)).time.elapsed }

/-- A scrub read of a unit without an uncorrectable error moves on to the next, and after the last to the first
(R129). -/
theorem State.sheetScrub_of_read (hup : s.sheetUp i = true) (hon : s.flag (SHEET_SCRUB_enable i) = true)
    (hread : (s.scrubDue i).sheetEcc i ecc (storeUnits (8 * ((s.scrubDue i).sheet i).scrub) 8) = (t, none)) :
    let k := ((s.scrubDue i).sheet i).scrub
    s.sheetScrub i ecc =
      if k + 1 < scrubUnits then t.modSheet i fun x => { x with scrub := k + 1 }
      else (t.modSheet i fun x => { x with scrub := 0 }).setFld (SHEET_SCRUB_passes i)
        ((t.fld (SHEET_SCRUB_passes i) + 1) % 2 ^ 24) := by
  refine (if_neg (by simp [hup, hon])).trans ?_
  dsimp only [State.scrubDue, State.scrubTick] at hread ⊢
  simp only [hread]
  rfl

end

/-- What a load does, its memory side given: the clauses that a load and an overlay load share. -/
theorem loadStep_clauses {s : State} {i : Nat} {ecc : Ecc} {w : QWord} {m : MemSide} {c : Instr}
    (hc : exec c s = .next (s.loadStep i w m ecc)) :
    let off := ((w.agd 0).at w.iter).toNat
    (∀ t, s.stallAt i w m.len = some t → exec c s = .next t)
    ∧ (s.stallAt i w m.len = none →
        (∀ t, s.loadBytes i w (m.g.at w.iter).toNat m.len off ecc = (t, none) → exec c s = .next t)
        ∧ (∀ v t bs, s.loadBytes i w (m.g.at w.iter).toNat m.len off ecc = (v, some bs) →
            v.engEcc i 3 w (eccFrom (if s.suppressed i then 0 else readUnits (m.g.at w.iter).toNat m.len) ecc)
              (w.tallyUnits m.len) = (t, true) →
            exec c s = .next
              (((if t.suppressed i then t else t.deliver i off bs).loadTally i w bs).advance i 3 w))) :=
  ⟨fun _ hstall => hc.trans (congrArg _ (State.loadStep_of_stall hstall)), fun hfree =>
    ⟨fun _ hwait => hc.trans (congrArg _ (State.loadStep_of_wait hfree hwait)),
      fun _ _ _ hbytes hread => hc.trans (congrArg _ (State.loadStep_of_bytes hfree hbytes hread))⟩⟩

/-- Settles O31: where the word executes and what it reads arrives without an error, each class of word is the update
that its clause writes out; the scrub and the end of a clear are read off their definitions. -/
theorem storeEngineWordsMoveTheirBytes : Obligations.StoreEngineWordsMoveTheirBytes := by
  intro s i ecc loads
  rw [exec_stStore, exec_stControlLoad, exec_sheetScrubRead, exec_sheetClearDone]
  refine ⟨fun h => congrArg _ (State.storeLoad_of_none h), fun h => congrArg _ (State.storeWord_of_none h),
    fun h => congrArg _ (State.controlLoad_of_none h), fun h => congrArg _ (State.overlayLoad_of_none h),
    fun w h => loadStep_clauses (congrArg _ (State.storeLoad_of_running h)), ?_, ?_, ?_,
    fun h => congrArg _ (State.sheetScrub_of_off h), ?_, fun h => congrArg _ (if_pos h),
    fun h => congrArg _ (if_neg (Bool.eq_false_iff.1 h))⟩
  · intro w h hfresh a n off t hread bs u
    refine ⟨fun hcomp hcalib => congrArg _ (State.storeWord_of_dropped h hfresh hread hcomp hcalib),
      fun hkept => ?_⟩
    have hstep := State.storeWord_of_kept h hfresh hread hkept
    have hout (hsend : u.suppressed i = false) := hstep.trans (if_neg (Bool.eq_false_iff.1 hsend))
    exact ⟨fun hsup => congrArg _ (hstep.trans (if_pos hsup)),
      fun hsend hdev hdata => congrArg _ ((hout hsend).trans (State.storeOut_of_data hdev hdata)),
      fun hsend hdev hsched => congrArg _ ((hout hsend).trans (State.storeOut_of_sched hdev hsched)),
      fun hsend _ => congrArg _ (hout hsend)⟩
  · intro w h q tail size per full slot
    exact ⟨fun hfull => congrArg _ (State.controlLoad_of_full h hfull), fun hroom hreads t bs hbytes hwrites =>
      congrArg _ (State.controlLoad_of_bytes h hroom hreads hbytes hwrites)⟩
  · intro w h slot e u a
    refine ⟨fun hlatch => loadStep_clauses (congrArg _ (State.overlayLoad_of_latched h hlatch)), fun hlatch => ?_⟩
    rw [exec_stOverlayLoad, State.overlayLoad_of_fresh h hlatch]
    refine ⟨fun hempty => congrArg _ (State.overlayBegin_of_empty hempty),
      fun hslot hstate => congrArg _ (State.overlayBegin_of_invalid hslot hstate),
      fun hslot hstate hpast => congrArg _ (State.overlayBegin_of_past hslot hstate hpast),
      fun hslot hstate hlayer t d hread => ?_⟩
    rw [State.overlayBegin_of_read hslot hstate hlayer hread]
    exact ⟨fun hclean => by rw [hclean, Option.elim_none], fun code hfault => by rw [hfault, Option.elim_some]⟩
  · intro hup hon z a k b hread
    have hstep := State.sheetScrub_of_read hup hon hread
    exact ⟨fun hmore => congrArg _ (hstep.trans (if_pos hmore)),
      fun hlast => congrArg _ (hstep.trans (if_neg (Nat.not_lt.2 hlast)))⟩

end Sys2Proof.Machine
end

section
/-! SUPPORT. Writes of the fabric's overlay, path, dispatch and token-queue registers (O38). -/

namespace Sys2Proof.Machine

/-! ### The operation of a write -/

section
variable {s : State} {ag : Agent} {a v : Nat}

/-- A 32-bit write that the module takes of a register of one word in block FAB (R456). -/
theorem State.access_fab {d : WordDesc} (hfab : 0x600000 ≤ a ∧ a < 0x800000) (hloc : regLoc a = some ⟨d, 0, 1⟩)
    (hw : Writable s ag a 4) : s.access ag a 4 v = (s.fabWrite a v).answer 0 [] := by
  have hown : a ≠ GEN_OWN_CMD := by rw [GEN_OWN_CMD]; omega
  rw [State.access_word hw hown, State.writeWord_one hloc, State.write32]
  iterate 4 rw [if_neg (by omega)]
  rw [if_pos hfab.2]

theorem State.access_ovlSel (hw : Writable s ag FAB_OVL_SEL 4) :
    s.access ag FAB_OVL_SEL 4 v = (s.ovlSelect v).answer 0 [] := State.access_fab (by decide) rfl hw

theorem State.access_ovlCtl (hw : Writable s ag FAB_OVL_CTL 4) :
    s.access ag FAB_OVL_CTL 4 1 = s.ovlCommit.answer 0 [] := State.access_fab (by decide) rfl hw

theorem State.access_pathSel (hw : Writable s ag FAB_PATH_SEL 4) :
    s.access ag FAB_PATH_SEL 4 v = (s.pathSelect v).answer 0 [] := State.access_fab (by decide) rfl hw

theorem State.access_pathCommit (hw : Writable s ag FAB_PATH_CTL 4) :
    s.access ag FAB_PATH_CTL 4 1 = s.pathCommit.answer 0 [] := State.access_fab (by decide) rfl hw

theorem State.access_pathBulk (hw : Writable s ag FAB_PATH_CTL 4) :
    s.access ag FAB_PATH_CTL 4 2 = s.pathBulk.answer 0 [] := State.access_fab (by decide) rfl hw

theorem State.access_dispatchCtl (hw : Writable s ag FAB_DISPATCH_CTL 4) :
    s.access ag FAB_DISPATCH_CTL 4 v = (s.dispatchCtl v).answer 0 [] := State.access_fab (by decide) rfl hw

/-- The register of a command on the token queue, and its fields (R221, R228). -/
def bundleReg : BundleReg → Nat × Nat
  | .ctl => (FAB_BUNDLE_CTL, 0xFFF03)
  | .area => (FAB_BUNDLE_AREA, 0xFFFFFFFF)
  | .aux => (FAB_BUNDLE_AUX, 0xFFFF)

theorem exec_bundleAreaWrite (r : BundleReg) (w : Word) (hw : Writable s ag (bundleReg r).1 4) :
    exec (.bundleAreaWrite ag r w) s =
      .next ((s.bundleWrite (bundleReg r).1 (bundleReg r).2 w.toNat).answer 0 []) := by
  cases r <;> exact congrArg _ (State.access_fab (by decide) rfl hw)

end

/-! ### What the operations do -/

section
variable {s : State} {v : Nat}

/-- The entry that a commit writes: the words of the data window, with the count of the entry selected (R101). -/
def State.ovlNew (s : State) : OvlEntry :=
  { w := (List.range 8).map fun k => if k = 6 then 0 else s.reg (FAB_OVL_DATA k)
    busy := (s.ovl (s.fld FAB_OVL_SEL_entry)).busy }

/-- The entry selected is active and in use, so that a commit is refused (R99). -/
def State.OvlBusy (s : State) : Prop :=
  (s.ovl (s.fld FAB_OVL_SEL_entry)).state = 2 ∧ (s.ovl (s.fld FAB_OVL_SEL_entry)).busy ≠ 0

theorem State.ovlCommit_of_busy (h : s.OvlBusy) :
    s.ovlCommit = (s.setFld FAB_OVL_STAT_refused 1).raise 0x1041 0 0 0 := if_pos h

theorem State.ovlCommit_of_illegal (h : ¬ s.OvlBusy) (hill : ovlIllegal s.ovlNew = true) :
    s.ovlCommit = (s.setFld FAB_OVL_STAT_refused 1).raise 0x1040 0 0 0 := (if_neg h).trans (if_pos hill)

theorem State.ovlCommit_of_legal (h : ¬ s.OvlBusy) (hok : ovlIllegal s.ovlNew = false) :
    s.ovlCommit = s.setOvl (s.fld FAB_OVL_SEL_entry)
      (if (∀ x ∈ s.ovlNew.w, x = 0) ∧ s.ovlNew.busy = 0 then {} else s.ovlNew) := by
  have hempty : (s.ovlNew.w.all (· == 0) && s.ovlNew.busy == 0) = true ↔
      (∀ x ∈ s.ovlNew.w, x = 0) ∧ s.ovlNew.busy = 0 := by
    simp only [Bool.and_eq_true, List.all_eq_true, beq_iff_eq]
  exact ((if_neg h).trans (if_neg (Bool.eq_false_iff.1 hok))).trans
    (congrArg _ (ite_congr (propext hempty) (fun _ => rfl) fun _ => rfl))

theorem State.pathCommit_of_loading (h : s.fab.pathLoad.isSome = true) : s.pathCommit = s.pathRefuse 0 := if_pos h

theorem State.pathCommit_of_idle (h : s.fab.pathLoad = none) : s.pathCommit =
    s.setPath (s.fld FAB_PATH_SEL_index)
      ((List.range 8).foldr (fun k acc => (s.reg (FAB_PATH_DATA k)).toNat + 2 ^ 32 * acc) 0) :=
  if_neg (by simp [h])

theorem State.pathBulk_of_refused (h : s.fab.pathLoad.isSome = true ∨ s.fld FAB_DISPATCH_CTL_enable ≠ 0) :
    s.pathBulk = s.pathRefuse 0 := if_pos (by simpa using h)

theorem State.pathBulk_of_taken (hidle : s.fab.pathLoad = none) (hoff : s.fld FAB_DISPATCH_CTL_enable = 0) :
    s.pathBulk = (s.modFab fun f => { f with pathLoad := some (s.fld FAB_PATH_LOAD_addr * 64) }).setFld
      FAB_PATH_STAT_loading 1 := if_neg (by simp [hidle, hoff])

/-- The engines of `new` that were off in `old` start at their base, and `new` is enabled (R199). -/
def State.enableEngines (s : State) (old new : Nat) : State :=
  (iter 16 (fun e t => if bit new e && !bit old e then t.dxStart e else t) s).setFld FAB_DISPATCH_CTL_enable new

theorem State.dispatchCtl_of_taken
    (h : s.fab.pathLoad = none ∨ v % 65536 &&& s.fld FAB_DISPATCH_CTL_enable = v % 65536) :
    s.dispatchCtl v = s.enableEngines (s.fld FAB_DISPATCH_CTL_enable) (v % 65536) := by
  have hkeep : (if s.fab.pathLoad.isSome then v % 65536 &&& s.fld FAB_DISPATCH_CTL_enable else v % 65536)
      = v % 65536 := by
    rcases h with h | h
    · simp [h]
    · rw [h, ite_self]
  simp only [State.dispatchCtl, hkeep, ne_eq, not_true_eq_false, if_false, State.enableEngines]

/-- During a bulk load no new engine is enabled (R463). -/
theorem State.dispatchCtl_of_loading (h : s.fab.pathLoad.isSome = true)
    (hnew : v % 65536 &&& s.fld FAB_DISPATCH_CTL_enable ≠ v % 65536) :
    s.dispatchCtl v = (s.raise 0x4003 0 0 0).enableEngines (s.fld FAB_DISPATCH_CTL_enable)
      (v % 65536 &&& s.fld FAB_DISPATCH_CTL_enable) := by
  simp only [State.dispatchCtl, if_pos h, if_pos hnew, State.enableEngines]

end

/-- Settles O38: a write that the module takes reaches the operation of its register, whose case decides. -/
theorem fabricRegisterWrites : Obligations.FabricRegisterWrites := by
  intro s ag
  refine ⟨fun v hw => congrArg _ (State.access_ovlSel hw), ?_, fun v hw => congrArg _ (State.access_pathSel hw),
    ?_, ?_, ?_⟩
  · intro hw n old new
    have ha := State.access_ovlCtl hw
    exact ⟨fun hactive hbusy => next_answer ha (State.ovlCommit_of_busy ⟨hactive, hbusy⟩), fun hfree =>
      ⟨fun hill => next_answer ha (State.ovlCommit_of_illegal hfree hill),
        fun hok => next_answer ha (State.ovlCommit_of_legal hfree hok)⟩⟩
  · intro hw no
    have hcommit := State.access_pathCommit hw
    have hbulk := State.access_pathBulk hw
    exact ⟨fun h => next_answer hcommit (State.pathCommit_of_loading h),
      fun h => next_answer hcommit (State.pathCommit_of_idle h),
      fun h => next_answer hbulk (State.pathBulk_of_refused h),
      fun hidle hoff => next_answer hbulk (State.pathBulk_of_taken hidle hoff)⟩
  · intro v hw old new run
    have ha := State.access_dispatchCtl (v := v.toNat) hw
    exact ⟨fun h => next_answer ha (State.dispatchCtl_of_taken h),
      fun h hnew => next_answer ha (State.dispatchCtl_of_loading h hnew)⟩
  · intro r v am hw t
    rw [exec_bundleAreaWrite r v hw]
    exact ⟨fun hfits => next_answer rfl (if_neg (Nat.not_lt.2 hfits)), fun hpast => next_answer rfl (if_pos hpast)⟩

end Sys2Proof.Machine
end

section
/-! SUPPORT. One iteration of a lane operation (O27). -/

namespace Sys2Proof.Machine

/-! ### Operands -/

/-- `b` is read by the operations of two operands or more, `c` by the fused multiply-add alone (R151). -/
theorem laneUses_eq (op : Nat) : laneUses op = (true, decide (op ≤ 7), decide (op = 0)) := by
  unfold laneUses
  split
  next h => simp [h]
  next h0 =>
    split
    next h7 => simp [h0, h7]
    next h7 => simp [h0, h7]

/-- Lane `l` of vector register `v` (R110). -/
def SheetSt.lane (x : SheetSt) (v l : Nat) : Nat := leField (x.read (vregOff v) 256) (4 * l) 4

theorem SheetSt.getD_vreg {x : SheetSt} {v l : Nat} (hl : l < 64) : (x.vreg v).getD l 0 = x.lane v l := by
  simp [SheetSt.vreg, SheetSt.lane, hl]

/-- An operand that an operation does not read is 0 in every lane. -/
theorem SheetSt.getD_operand {x : SheetSt} {v l : Nat} (p : Prop) [Decidable p] (hl : l < 64) :
    (if p then x.vreg v else []).getD l 0 = if p then x.lane v l else 0 := by
  by_cases hp : p
  · rw [if_pos hp, if_pos hp, SheetSt.getD_vreg hl]
  · rw [if_neg hp, if_neg hp, List.getD_nil]

/-- The vector register that an iteration of a lane word finds by the number at bit `b` and the iterations' stride
(R144, R151). -/
def QWord.laneReg (w : QWord) (b : Nat) : Nat := w.f b 9 + w.iter * w.f 196 4

/-- The protected units that an iteration of operation `op` reads. -/
def QWord.laneUnits (w : QWord) (op : Nat) : List (Nat × Nat) :=
  storeUnits (vregOff (w.laneReg 169)) 256 ++ (if op ≤ 7 then storeUnits (vregOff (w.laneReg 178)) 256 else [])
    ++ (if op = 0 then storeUnits (vregOff (w.laneReg 187)) 256 else [])

/-- The 64 results of an iteration of operation `op` whose lanes are `f`. -/
def SheetSt.laneResults (x : SheetSt) (w : QWord) (op : Nat) (f : Nat → Nat → Nat → Lane) : List Lane :=
  (List.range 64).map fun l => f (x.lane (w.laneReg 169) l) (if op ≤ 7 then x.lane (w.laneReg 178) l else 0)
    (if op = 0 then x.lane (w.laneReg 187) l else 0)

/-- The results, each operand read as a whole register first. -/
theorem SheetSt.laneResults_eq_vreg (x : SheetSt) (w : QWord) (op : Nat) (f : Nat → Nat → Nat → Lane) :
    x.laneResults w op f = (List.range 64).map fun l => f ((x.vreg (w.laneReg 169)).getD l 0)
      ((if op ≤ 7 then x.vreg (w.laneReg 178) else []).getD l 0)
      ((if op = 0 then x.vreg (w.laneReg 187) else []).getD l 0) := by
  refine List.map_congr_left fun l hl => ?_
  have hlane : l < 64 := List.mem_range.1 hl
  rw [SheetSt.getD_vreg hlane, SheetSt.getD_operand _ hlane, SheetSt.getD_operand _ hlane]

/-! ### One iteration -/

section
variable {s t : State} {i op : Nat} {ecc : Ecc} {f : Nat → Nat → Nat → Lane} {w : QWord}

theorem State.laneWord_of_none (h : s.running i 1 0 = none) : s.laneWord i op ecc f = s := by
  rw [State.laneWord, h]

theorem State.laneWord_of_other (h : s.running i 1 0 = some w) (hop : w.f 200 8 ≠ op) :
    s.laneWord i op ecc f = s := by
  rw [State.laneWord, h]
  exact if_pos hop

theorem State.laneWord_of_halt (h : s.running i 1 0 = some w) (hop : w.f 200 8 = op)
    (hread : s.engEcc i 1 w ecc (w.laneUnits op) = (t, false)) : s.laneWord i op ecc f = t := by
  rw [State.laneWord, h]
  refine (if_neg (Decidable.not_not.2 hop)).trans ?_
  dsimp only [QWord.laneUnits, QWord.laneReg] at hread
  simp only [laneUses_eq, decide_eq_true_eq, hread]

theorem State.laneWord_of_read (h : s.running i 1 0 = some w) (hop : w.f 200 8 = op)
    (hread : s.engEcc i 1 w ecc (w.laneUnits op) = (t, true)) :
    let ls := (t.sheet i).laneResults w op f
    s.laneWord i op ecc f = ((t.setVreg i (w.laneReg 160) (ls.map (·.code))).laneFlags i ls).advance i 1 w := by
  rw [State.laneWord, h]
  refine (if_neg (Decidable.not_not.2 hop)).trans ?_
  dsimp only [QWord.laneUnits, QWord.laneReg] at hread
  simp only [laneUses_eq, decide_eq_true_eq, hread, SheetSt.laneResults_eq_vreg, QWord.laneReg]

/-- With no error in its reads an iteration reads the state as it is. -/
theorem State.laneWord_of_clean (h : s.running i 1 0 = some w) (hop : w.f 200 8 = op) :
    let ls := (s.sheet i).laneResults w op f
    s.laneWord i op .clean f = ((s.setVreg i (w.laneReg 160) (ls.map (·.code))).laneFlags i ls).advance i 1 w :=
  State.laneWord_of_read h hop rfl

end

/-- The clauses of operation `op` whose lanes are `f`, for the command `c`. -/
def LaneRow (s : State) (i : Nat) (ecc : Ecc) (c : Instr) (op : Nat) (f : Nat → Nat → Nat → Lane) : Prop :=
  (s.running i 1 0 = none → exec c s = .next s)
  ∧ ∀ w, s.running i 1 0 = some w →
    (w.f 200 8 ≠ op → exec c s = .next s)
    ∧ (w.f 200 8 = op →
        (∀ t, s.engEcc i 1 w ecc (w.laneUnits op) = (t, false) → exec c s = .next t)
        ∧ (∀ t, s.engEcc i 1 w ecc (w.laneUnits op) = (t, true) →
            let ls := (t.sheet i).laneResults w op f
            exec c s = .next
              (((t.setVreg i (w.laneReg 160) (ls.map (·.code))).laneFlags i ls).advance i 1 w)))

/-- A command that is one iteration of a lane word meets the clauses of its operation. -/
theorem laneRow_of_exec {s : State} {i op : Nat} {ecc : Ecc} {c : Instr} {f : Nat → Nat → Nat → Lane}
    (hc : exec c s = .next (s.laneWord i op ecc f)) : LaneRow s i ecc c op f :=
  ⟨fun h => hc.trans (congrArg _ (State.laneWord_of_none h)), fun _ h =>
    ⟨fun hop => hc.trans (congrArg _ (State.laneWord_of_other h hop)), fun hop =>
      ⟨fun _ hread => hc.trans (congrArg _ (State.laneWord_of_halt h hop hread)),
        fun _ hread => hc.trans (congrArg _ (State.laneWord_of_read h hop hread))⟩⟩⟩

/-- Settles O27: each of the 16 commands is one iteration of a lane word with its row's operation and lanes, so that its
clauses, and those without an error, are the iteration's. -/
theorem laneOperationsWriteTheirRegister : Obligations.LaneOperationsWriteTheirRegister := by
  intro s i ecc k va vb vc made row at_
  have hrow {c : Instr} {op : Nat} {f : Nat → Nat → Nat → Lane} (hc : exec c s = .next (s.laneWord i op ecc f)) :
      row c op f := laneRow_of_exec hc
  have hclean {c : Instr} {op : Nat} {f : Nat → Nat → Nat → Lane} (hc : exec c s = .next (s.laneWord i op .clean f)) :
      ∀ w, at_ w op → exec c s = .next (made s op f w) :=
    fun _ ⟨h, hop⟩ => hc.trans (congrArg _ (State.laneWord_of_clean h hop))
  clear_value row made at_
  exact ⟨hrow rfl, hrow rfl, hrow rfl, hrow rfl, hrow rfl, hrow rfl, hrow rfl, hrow rfl,
    hrow rfl, hrow rfl, hrow rfl, hrow rfl, hrow rfl, hrow rfl, hrow rfl, hrow rfl,
    hclean rfl, hclean rfl, hclean rfl, hclean rfl, hclean rfl, hclean rfl, hclean rfl, hclean rfl,
    hclean rfl, hclean rfl, hclean rfl, hclean rfl, hclean rfl, hclean rfl, hclean rfl, hclean rfl⟩

end Sys2Proof.Machine
end

section
/-! SUPPORT. Reads and writes of device memory and of sheet windows by agents and X requests (O32). -/

namespace Sys2Proof.Machine

section
variable {s t : State} {ag a n tag : Nat} {ecc : Ecc} {whom : AwayTo} {bs : List Byte}

/-! ### What an access answers -/

theorem State.memAccess_of_unreached (h : s.reaches ag = false) (req : MemOp) :
    s.memAccess ag a req ecc whom = s := by
  simp [State.memAccess, h]

section
variable (hr : s.reaches ag = true)
include hr

/-- A read of another form reads all ones (R305). -/
theorem State.memAccess_read_refused (h : s.accessOk a n = false) :
    s.memAccess ag a (.read n) ecc whom = (s.refuseAt a).answer 2 (List.replicate n 0xFF) := by
  simp [State.memAccess, hr, State.agentRead, h]

section
variable (h : s.accessOk a n = true) (hc : inCompanion a = false)
include h hc

theorem State.memAccess_read_data (hg : s.devGet ag a n 0 ecc = (t, .data bs)) :
    s.memAccess ag a (.read n) ecc whom = t.answer 0 bs := by
  simp [State.memAccess, hr, State.agentRead, h, hc, hg]

/-- Poison gives no bytes (R314). -/
theorem State.memAccess_read_poison {dev : Nat} (hg : s.devGet ag a n 0 ecc = (t, .poison dev)) :
    s.memAccess ag a (.read n) ecc whom = t.answer 3 [] := by
  simp [State.memAccess, hr, State.agentRead, h, hc, hg, AccRes.status]

end

theorem State.memAccess_write_refused (h : s.writeOk a bs.length = false) :
    s.memAccess ag a (.write bs) ecc whom = (s.refuseAt a).answer 2 [] := by
  simp [State.memAccess, hr, State.agentWrite, h, AccRes.status]

section
variable (h : s.writeOk a bs.length = true)
include h

/-- A write by an agent that does not own the module (R373). -/
theorem State.memAccess_write_nonOwner (hn : s.nonOwner ag = true) :
    s.memAccess ag a (.write bs) ecc whom = (s.ownRefuse ag).answer 1 [] := by
  simp [State.memAccess, hr, State.agentWrite, h, hn, AccRes.status]

variable (hn : s.nonOwner ag = false) (hc : inCompanion a = false)
include hn hc

theorem State.memAccess_write_done (hp : s.partPoison a bs.length = none) :
    s.memAccess ag a (.write bs) ecc whom = (s.devPut ag a 0 bs).answer 0 [] := by
  simp [State.memAccess, hr, State.agentWrite, h, hn, hc, hp, AccRes.status]

/-- A write that would leave part of a poisoned unit standing (R314). -/
theorem State.memAccess_write_partPoison {u : Nat} (hp : s.partPoison a bs.length = some u) :
    s.memAccess ag a (.write bs) ecc whom = (s.raise 0x6022 (unitDev (s.devOf u)) 0 (s.devOf u)).answer 2 [] := by
  simp [State.memAccess, hr, State.agentWrite, h, hn, hc, hp, AccRes.status]

end

end

/-! ### Memory devices -/

/-- A read without errors of units that hold no poison once the refresh windows are over (R311, R314). -/
theorem State.memGet_clean (h : (unitsOf a n).all (fun u => !(s.waitRefresh a n).isPoison u) = true) :
    s.memGet a n tag .clean = (s.waitRefresh a n, .data ((s.waitRefresh a n).memRead a n)) := by
  have hnone : (unitsOf a n).filter (s.waitRefresh a n).isPoison = [] := by
    simpa [List.filter_eq_nil_iff] using h
  simp [State.memGet, State.memEcc, hnone]

/-- An access of one of the two forms is of at least one byte (R305). -/
theorem State.pos_of_accessOk (h : s.accessOk a n = true) : 0 < n := by
  rcases Nat.eq_zero_or_pos n with rfl | hn
  · simp [State.accessOk] at h
  · exact hn

theorem State.accessOk_of_writeOk (h : s.writeOk a n = true) : s.accessOk a n = true := by
  simp only [State.writeOk, Bool.and_eq_true] at h
  exact h.1

/-! ### Sheet windows -/

section
variable {i o : Nat}

theorem winOf_window (ho : o < winSize) : winOf (winBase + i * winSize + o) = (i, o) := by
  have hdiff : winBase + i * winSize + o - winBase = o + i * winSize := by omega
  have hpos : 0 < winSize := by decide
  simp only [winOf, hdiff, Nat.add_mul_div_right _ _ hpos, Nat.add_mul_mod_self_right, Nat.div_eq_of_lt ho,
    Nat.mod_eq_of_lt ho, Nat.zero_add]

/-- An access that stays inside one window has one part. -/
theorem winParts_window (hn : 0 < n) (ho : o + n ≤ winSize) :
    winParts (winBase + i * winSize + o) n = [(i, o, 0, n)] := by
  have hlt : o < winSize := by omega
  have hend : winOf (winBase + i * winSize + o + n - 1) = (i, o + n - 1) := by
    rw [Nat.add_assoc _ o n, Nat.add_sub_assoc (by omega)]
    exact winOf_window (by omega)
  have hlo : max (winBase + i * winSize + o) (winBase + i * winSize) = winBase + i * winSize + o :=
    Nat.max_eq_left (Nat.le_add_right _ _)
  have hhi : min (winBase + i * winSize + o + n) (winBase + (i + 1) * winSize) = winBase + i * winSize + o + n := by
    rw [Nat.succ_mul, ← Nat.add_assoc, Nat.add_assoc _ o n]
    exact Nat.min_eq_left (Nat.add_le_add_left ho _)
  simp only [winParts, if_neg (Nat.ne_of_gt hn), hend, winOf_window hlt, Nat.sub_self, Nat.zero_add, List.range_one,
    List.map_singleton, Nat.add_zero, hlo, hhi, Nat.add_sub_cancel_left]

theorem inWindows_window (hi : i < 320) (ho : o < winSize) : inWindows (winBase + i * winSize + o) = true := by
  have hbelow : (i + 1) * winSize ≤ 320 * winSize := Nat.mul_le_mul_right _ hi
  simp only [inWindows, decide_eq_true_eq]
  unfold winSize at *
  omega

theorem inCompanion_window (hi : i < 320) (ho : o < winSize) : inCompanion (winBase + i * winSize + o) = false := by
  simp only [inCompanion, decide_eq_false_iff_not]
  unfold winSize winBase at *
  omega

/-- A read without errors outside the reserved regions of the window of a sheet that is up (R125, R126). -/
theorem State.devGet_window (hi : i < 320) (hn : 0 < n) (ho : o + n ≤ winSize) (hup : s.sheetUp i = true)
    (hres : touches 5 o n = false) :
    s.devGet ag (winBase + i * winSize + o) n tag .clean = (s, .data ((s.sheet i).read o n)) := by
  have hget : s.winGet ag i o n tag .clean = (s, .data ((s.sheet i).read o n)) := by
    simp [State.winGet, hup, hres, State.sheetEcc]
  rw [State.devGet, if_pos (inWindows_window hi (by omega)), winParts_window hn ho]
  simp [State.winGets, hget]

/-- A write outside the reserved regions and the accumulator bank, outside twin mode (R126). -/
theorem State.devPut_window (hi : i < 320) (hn : 0 < bs.length) (ho : o + bs.length ≤ winSize)
    (hup : s.sheetUp i = true) (htwin : s.twinOn = false) (hacc : touches 3 o bs.length = false)
    (hres : touches 5 o bs.length = false) :
    s.devPut ag (winBase + i * winSize + o) tag bs = s.modSheet i fun x => x.write o bs := by
  have hput : s.winWrite ag i o tag bs = s.modSheet i fun x => x.write o bs := by
    have htwin' : (s.modSheet i fun x => x.write o bs).twinOn = false := htwin
    simp [State.winWrite, hup, hres, hacc, htwin']
  rw [State.devPut, if_pos (inWindows_window hi (by omega)), winParts_window hn ho]
  simp [hput]

end

end

/-! ### The commands -/

theorem exec_sheetWindowAccess (who : Option Agent) (i : Sheet) (off : BitVec 22) (req : MemOp) (ecc : Ecc)
    (s : State) : exec (.sheetWindowAccess who i off req ecc) s =
      .next (s.memAccess (whoNo who) (winBase + i * winSize + off.toNat) req ecc .plain) := rfl

theorem exec_agentMemoryAccess (who : Option Agent) (addr : BitVec 48) (req : MemOp) (ecc : Ecc) (s : State) :
    exec (.agentMemoryAccess who addr req ecc) s = .next (s.memAccess (whoNo who) addr.toNat req ecc .plain) := rfl

/-- An access by its address and one by its place in a sheet's window are the same access (R125). -/
theorem exec_access_of_memAccess {s t : State} {who : Option Agent} {addr : BitVec 48} {req : MemOp} {ecc : Ecc}
    (h : s.memAccess (whoNo who) addr.toNat req ecc .plain = t) :
    exec (.agentMemoryAccess who addr req ecc) s = .next t
    ∧ ∀ (i : Sheet) (off : BitVec 22), winBase + i * winSize + off.toNat = addr.toNat →
        exec (.sheetWindowAccess who i off req ecc) s = .next t := by
  refine ⟨congrArg _ h, fun i off ha => ?_⟩
  rw [exec_sheetWindowAccess, ha, h]

/-- Settles O32: both ways to an access are one `memAccess`, whose checks are taken in order; inside one window its one
part is the window's bytes. -/
theorem deviceMemoryAccesses : Obligations.DeviceMemoryAccesses := by
  intro s who addr ecc ag a runs
  have hruns {req : MemOp} {t : State} (h : s.memAccess ag a req ecc .plain = t) : runs req t :=
    exec_access_of_memAccess h
  clear_value runs
  refine ⟨fun hr req => hruns (State.memAccess_of_unreached hr req), fun hr =>
    ⟨fun n h => hruns (State.memAccess_read_refused hr h), fun n h hc =>
      ⟨fun t bs hg => hruns (State.memAccess_read_data hr h hc hg),
        fun t d hg => hruns (State.memAccess_read_poison hr h hc hg)⟩,
      fun bs h => hruns (State.memAccess_write_refused hr h),
      fun bs h hn => hruns (State.memAccess_write_nonOwner hr h hn), fun bs h hn hc =>
      ⟨fun hp => hruns (State.memAccess_write_done hr h hn hc hp),
        fun u hp => hruns (State.memAccess_write_partPoison hr h hn hc hp)⟩, ?_, ?_⟩⟩
  · intro n h hc hwin hclean
    rw [exec_agentMemoryAccess]
    have hg : s.devGet ag a n 0 .clean = (s.waitRefresh a n, .data ((s.waitRefresh a n).memRead a n)) := by
      rw [State.devGet, hwin]
      exact State.memGet_clean hclean
    exact congrArg _ (State.memAccess_read_data hr h hc hg)
  · intro i off hup o w
    have ho : o < winSize := off.isLt
    have hc : inCompanion w = false := inCompanion_window i.isLt ho
    refine ⟨fun n h hin hres => ?_, fun bs h hn hp htwin hin hacc hres => ?_⟩
    · exact congrArg _ (State.memAccess_read_data hr h hc
        (State.devGet_window i.isLt (State.pos_of_accessOk h) hin hup hres))
    · have hpos := State.pos_of_accessOk (State.accessOk_of_writeOk h)
      rw [exec_sheetWindowAccess, State.memAccess_write_done hr h hn hc hp,
        State.devPut_window i.isLt hpos hin hup htwin hacc hres]

end Sys2Proof.Machine
end

section
/-! SUPPORT. The fetch of an engine's next word from its ring into its queue (O26). -/

namespace Sys2Proof.Machine

theorem exec_wordFetch (i : Sheet) (eng : Engine) (ecc : Ecc) (s : State) :
    exec (.wordFetch i eng ecc) s = .next (s.wordFetch i (engNo eng) ecc) := rfl

/-- A word is there to fetch, its queue has room, and this sheet is the one that fetches it (R161, R414). -/
def State.CanFetch (s : State) (i e : Nat) : Prop :=
  s.sheetUp i = true ∧ s.suppressed i = false ∧ s.fld (SHEET_Q_TAIL_tail i e) ≠ s.fld (SHEET_Q_HEAD_head i e)
    ∧ ((s.sheet i).queue e).length < 64

/-- The window offset of the head word of an engine's ring (R161). -/
def State.fetchOff (s : State) (i e : Nat) : Nat :=
  0x380000 + 64 * ((s.fld (SHEET_Q_RING_base i e)
    + s.fld (SHEET_Q_HEAD_head i e) % max (s.fld (SHEET_Q_RING_size i e)) 1) % 2048)

/-- Word `w` enters the queue of an engine, whose head counter moves on past it (R161). -/
def State.enqueue (s : State) (i e : Nat) (w : QWord) : State :=
  (s.modSheet i fun x => x.setQueue e (x.queue e ++ [w])).setFld (SHEET_Q_HEAD_head i e) ((w.num + 1) % 2 ^ 32)

section
variable {s t : State} {i e : Nat} {ecc : Ecc}

/-- The guard under which the model leaves a fetch out is that no word can be fetched. -/
theorem State.not_canFetch_iff : ¬ s.CanFetch i e ↔
    (!s.sheetUp i || s.suppressed i || s.fld (SHEET_Q_TAIL_tail i e) == s.fld (SHEET_Q_HEAD_head i e)
      || decide (64 ≤ ((s.sheet i).queue e).length)) = true := by
  simp only [State.CanFetch, Bool.or_eq_true, Bool.not_eq_true', beq_iff_eq, decide_eq_true_eq,
    Classical.not_and_iff_not_or_not, Bool.not_eq_true, Bool.not_eq_false, ne_eq, Classical.not_not, Nat.not_lt,
    or_assoc]

theorem State.wordFetch_of_not_canFetch (h : ¬ s.CanFetch i e) : s.wordFetch i e ecc = s :=
  if_pos (State.not_canFetch_iff.1 h)

/-- An uncorrectable error in the word's bytes halts the engine, and nothing is fetched (R128). -/
theorem State.wordFetch_of_error {unit : Nat × Nat} (h : s.CanFetch i e)
    (hread : s.sheetEcc i ecc (storeUnits (s.fetchOff i e) 64) = (t, some unit)) :
    s.wordFetch i e ecc = t.haltEngine i e 0x6112 0 0 := by
  refine (if_neg (mt State.not_canFetch_iff.2 (Classical.not_not.2 h))).trans ?_
  dsimp only [State.fetchOff] at hread
  simp only [hread]

/-- The word read enters the queue, and in twin mode the queue of the twin too (R161, R414). -/
theorem State.wordFetch_of_read (h : s.CanFetch i e)
    (hread : s.sheetEcc i ecc (storeUnits (s.fetchOff i e) 64) = (t, none)) :
    let w : QWord := { num := s.fld (SHEET_Q_HEAD_head i e), raw := leNat ((t.sheet i).read (s.fetchOff i e) 64) }
    s.wordFetch i e ecc = if s.twinOn then (t.enqueue i e w).enqueue (twinOf i) e w else t.enqueue i e w := by
  refine (if_neg (mt State.not_canFetch_iff.2 (Classical.not_not.2 h))).trans ?_
  dsimp only [State.fetchOff] at hread ⊢
  simp only [hread]
  rfl

end

/-- Settles O26: where no word can be fetched the command changes nothing; where one can, it is read at the ring's head,
and the read's outcome decides between the halt and the queue. -/
theorem wordsAreFetchedFromTheirRing : Obligations.WordsAreFetchedFromTheirRing := by
  intro s i eng ecc
  rw [exec_wordFetch]
  exact ⟨fun hno => congrArg _ (State.wordFetch_of_not_canFetch hno), fun hcan =>
    ⟨fun _ _ hread => congrArg _ (State.wordFetch_of_error hcan hread),
      fun _ hread => congrArg _ (State.wordFetch_of_read hcan hread)⟩⟩

end Sys2Proof.Machine
end

section
/-! SUPPORT. The step, and the reads of the time counter (O1, O12). -/

namespace Sys2Proof.Machine

/-- A step with a command at the front of the queue is that command on the state with the queue's rest. -/
theorem step_of_pending {s : State} {c : Instr} {q : List Instr} (h : s.pending = c :: q) :
    step s = exec c { s with pending := q } := by rw [step, h]

/-- With none waiting one tick passes. -/
theorem step_of_empty {s : State} (h : s.pending = []) : step s = .next (s.pass 1) := by rw [step, h]

/-- Settles O1: the step is its two cases. -/
theorem stepRunsTheFrontCommand : Obligations.StepRunsTheFrontCommand := fun _ =>
  ⟨fun _ _ h => step_of_pending h, fun h => step_of_empty h⟩

/-! ### Reads of TIME_COUNT -/

theorem exec_timeCountRead_low (ag : Agent) (s : State) :
    exec (.timeCountRead ag .low) s = .next (s.readAccess ag TIME_COUNT 4) := rfl

theorem exec_timeCountRead_high (ag : Agent) (s : State) :
    exec (.timeCountRead ag .high) s = .next (s.readAccess ag (TIME_COUNT + 4) 4) := rfl

theorem exec_timeCountRead_both (ag : Agent) (s : State) :
    exec (.timeCountRead ag .both) s = .next (s.readAccess ag TIME_COUNT 8) := rfl

/-- The word descriptor of both halves of TIME_COUNT: read-only, 0 at reset. -/
def timeCountDesc : WordDesc := ⟨0, 0, 0, 0, 0⟩

theorem regLoc_timeCount : regLoc TIME_COUNT = some ⟨timeCountDesc, 0, 2⟩ := rfl

theorem regLoc_timeCount_high : regLoc (TIME_COUNT + 4) = some ⟨timeCountDesc, 1, 2⟩ := rfl

section
variable {s : State} {ag : Agent}

theorem State.view_timeCount (s : State) : s.view TIME_COUNT = s.time.tick % 2 ^ 32 := rfl

theorem State.view_timeCount_high (s : State) : s.view (TIME_COUNT + 4) = s.time.tick / 2 ^ 32 % 2 ^ 32 := rfl

/-- From the boot sequence's fifth step on every register of the map is mapped (R382). -/
theorem State.mapped_of_step {a : Nat} (hstep : 5 ≤ s.fld BOOT_STAT_step) (hloc : (regLoc a).isSome = true) :
    s.mapped a = true := by
  simp [State.mapped, State.blockUp, hloc, hstep]

theorem State.allMapped_word {a : Nat} (hm : s.mapped a = true) : s.allMapped a 4 = true := by
  simp [State.allMapped, hm]

theorem State.allMapped_double {a : Nat} (hlow : s.mapped a = true) (hhigh : s.mapped (a + 4) = true) :
    s.allMapped a 8 = true := by
  simp [State.allMapped, hlow, hhigh]

/-- A 64-bit read outside the sheets answers status 0 with its bytes (R7, R10). -/
theorem State.readAccess_double {a : Nat} (hr : s.reaches (agentNo ag) = true) (hz : a % 8 = 0)
    (hm : s.allMapped a 8 = true) (hs : inSheetBlock a = false) :
    s.readAccess ag a 8 = (s.readDouble (agentNo ag) a).1.answer 0 (leBytes 8 (s.readDouble (agentNo ag) a).2) := by
  simp [State.readAccess, State.ctrlRead, sizeOk, hr, hz, hm, hs]

/-- The value of a 64-bit register read at once, whoever reads it. -/
theorem State.readDouble_value {a g : Nat} {d : WordDesc} (h : regLoc a = some ⟨d, 0, 2⟩) :
    (s.readDouble g a).2 = s.view a + s.view (a + 4) * 2 ^ 32 := by
  simp [State.readDouble, h]

/-- The low word is read with the high word kept for the agent (R169). -/
theorem State.readWord_timeCount (s : State) (g : Nat) : s.readWord g TIME_COUNT =
    (s.keepHigh g (TIME_COUNT + 4) (BitVec.ofNat 32 (s.view (TIME_COUNT + 4))), s.view TIME_COUNT) := by
  simp [State.readWord, regLoc_timeCount]

/-- The high word kept for the agent is returned and used up (R169). -/
theorem State.readWord_timeCount_high {g : Nat} {w : Word}
    (hw : State.latched s.latch.high g (TIME_COUNT + 4) = some w) :
    s.readWord g (TIME_COUNT + 4) = (s.dropHigh g (TIME_COUNT + 4), w.toNat) := by
  simp [State.readWord, regLoc_timeCount_high, hw]

end

/-- The low bytes of a number are those of its low bits. -/
theorem leBytes_mod (k n : Nat) : leBytes k (n % 256 ^ k) = leBytes k n := by
  induction k generalizing n with
  | zero => rfl
  | succ k ih =>
    have hlow : BitVec.ofNat 8 (n % 256 ^ (k + 1)) = BitVec.ofNat 8 n := by
      refine BitVec.eq_of_toNat_eq ?_
      rw [BitVec.toNat_ofNat, BitVec.toNat_ofNat]
      exact Nat.mod_mod_of_dvd n (Nat.dvd_mul_left 256 _)
    have hrest : n % 256 ^ (k + 1) / 256 = n / 256 % 256 ^ k := by
      rw [Nat.pow_succ', Nat.mod_mul_right_div_self]
    rw [leBytes, leBytes, hlow, hrest, ih]

/-- Settles O12: a 64-bit read shows both halves of one count; the low word is read with the high word kept. -/
theorem timeCountReadsAreCoherent : Obligations.TimeCountReadsAreCoherent := by
  intro s ag hreach hstep htick hi
  have hlow : s.mapped TIME_COUNT = true := State.mapped_of_step hstep rfl
  have hhigh : s.mapped (TIME_COUNT + 4) = true := State.mapped_of_step hstep rfl
  have hboth : exec (.timeCountRead ag .both) s = .next ((s.readDouble (agentNo ag) TIME_COUNT).1.answer 0
      (leBytes 8 s.time.tick)) := by
    have hvalue : s.view TIME_COUNT + s.view (TIME_COUNT + 4) * 2 ^ 32 = s.time.tick := by
      rw [State.view_timeCount, State.view_timeCount_high]; omega
    rw [exec_timeCountRead_both, State.readAccess_double hreach rfl (State.allMapped_double hlow hhigh) rfl,
      State.readDouble_value regLoc_timeCount, hvalue]
  refine ⟨fun hn => ⟨0, ?_⟩, ⟨_, hboth, rfl⟩, ⟨0, ?_⟩, fun w hw => ⟨0, ?_⟩⟩
  · rw [hboth, State.readDouble_nonOwner regLoc_timeCount (State.nonOwner_agent_eq_true_iff.2 hn)]
  · have hbytes : leBytes 4 (s.time.tick % 2 ^ 32) = leBytes 4 s.time.tick := leBytes_mod 4 _
    rw [exec_timeCountRead_low, State.readAccess_word hreach rfl (State.allMapped_word hlow)
        (fun h => absurd h (by decide)),
      State.readWord_timeCount, State.view_timeCount, State.view_timeCount_high, ofNat_mod_word, hbytes]
  · rw [exec_timeCountRead_high, State.readAccess_word hreach rfl (State.allMapped_word hhigh)
        (fun h => absurd h (by decide)),
      State.readWord_timeCount_high hw]

end Sys2Proof.Machine
end

section
/-! SUPPORT. The limits of the boot sequence's steps, and what ALIGN and MEMORY find (O54, O55). -/

namespace Sys2Proof.Machine

theorem exec_bootStepTimeout (s : State) : exec .bootStepTimeout s = .next s.bootTimeout := rfl

theorem exec_bootStepAdvance (r : BootResult) (s : State) : exec (.bootStepAdvance r) s = .next (s.bootAdvance r) := rfl

/-- The time at which a limit of `n` ticks from the step's beginning is reached (R381, R310). -/
def State.limitAt (s : State) (n : Nat) : State := s.toElapsed (s.boot.since + n)

section
variable {s : State}

/-! ### The limits of the steps (R381) -/

/-- A module that is unpowered, held or failed meets no limit. -/
theorem State.bootTimeout_of_not_booting (h : s.booting = false) : s.bootTimeout = s := if_pos (by simp [h])

/-- WAIT and READY have none. -/
theorem State.bootTimeout_of_no_limit (h : s.fld BOOT_STAT_step = 2 ∨ s.fld BOOT_STAT_step = 10) :
    s.bootTimeout = s := by
  rcases h with h | h <;> simp [State.bootTimeout, h]

section
variable (hb : s.booting = true)
include hb

theorem State.bootTimeout_standby (h : s.fld BOOT_STAT_step = 1) :
    s.bootTimeout = (s.limitAt 64000000).modBoot fun b => { b with silent := true } := by
  simp [State.bootTimeout, State.limitAt, hb, h]

theorem State.bootTimeout_verify (h : s.fld BOOT_STAT_step = 3) :
    s.bootTimeout = if s.boot.xfer.isSome then (s.limitAt 25600000).verifyFail 0x8004 4
      else (s.limitAt 25600000).backToWait := by
  simp [State.bootTimeout, State.limitAt, hb, h]

theorem State.bootTimeout_power (h : s.fld BOOT_STAT_step = 4) :
    s.bootTimeout = ((s.limitAt 128000000).raiseBoot 0x8040 4).stepFail := by
  simp [State.bootTimeout, State.limitAt, hb, h]

theorem State.bootTimeout_align (h : s.fld BOOT_STAT_step = 5) :
    s.bootTimeout = (iter 15 (fun c t => if t.flag (TIME_XING_aligned c) then t else t.raise 0x3010 (unitXing c) 0 c)
      (s.limitAt 1280000)).stepFail := by
  simp [State.bootTimeout, State.limitAt, hb, h]

theorem State.bootTimeout_time (h : s.fld BOOT_STAT_step = 6) :
    s.bootTimeout = ((s.limitAt 12800000000).raise 0x3067 0 0 0).stepFail := by
  simp [State.bootTimeout, State.limitAt, hb, h]

theorem State.bootTimeout_memory (h : s.fld BOOT_STAT_step = 7) : s.bootTimeout = s.memTimeout := by
  simp [State.bootTimeout, hb, h]

theorem State.bootTimeout_links (h : s.fld BOOT_STAT_step = 8) :
    s.bootTimeout = (s.limitAt 1280000000).enterStep 9 := by
  simp [State.bootTimeout, State.limitAt, hb, h]

theorem State.bootTimeout_survey (h : s.fld BOOT_STAT_step = 9) :
    s.bootTimeout = s.surveyTimeout.enterStep 10 := by
  simp [State.bootTimeout, hb, h]

end

/-! ### The limits of the steps of MEMORY (R310) -/

/-- The passing of time leaves what says whether a lower rate may be tried. -/
theorem State.nextRate_toElapsed (s : State) (n : Nat) :
    ((s.toElapsed n).flag MEM_CFG_fallback && Nat.blt (s.toElapsed n).boot.memRate 2)
      = (s.flag MEM_CFG_fallback && decide (s.boot.memRate < 2)) := by
  have hblt : Nat.blt s.boot.memRate 2 = decide (s.boot.memRate < 2) := by
    rw [Bool.eq_iff_iff, Nat.blt_eq, decide_eq_true_iff]
  rw [State.flag_toElapsed, State.toElapsed_boot, hblt]

/-- The stacks try the next lower rate, where MEM_CFG allows it. -/
theorem State.memTimeout_nextRate (h : s.boot.memPhase = 1) (hf : s.flag MEM_CFG_fallback = true)
    (hr : s.boot.memRate < 2) : s.memTimeout = (s.limitAt 256000000).modBoot fun b =>
      { b with memRate := b.memRate + 1, since := (s.limitAt 256000000).time.elapsed } := by
  rw [State.memTimeout, if_pos h, State.limitAt]
  dsimp only
  rw [State.nextRate_toElapsed, if_pos (by simp [hf, hr])]

/-- With no rate left each stack is named and the step fails. -/
theorem State.memTimeout_noRate (h : s.boot.memPhase = 1)
    (hno : s.flag MEM_CFG_fallback = false ∨ 2 ≤ s.boot.memRate) : s.memTimeout =
      (iter 8 (fun i t => t.raise 0x6001 (unitDev i) 0 i) (s.limitAt 256000000)).stepFail := by
  have hlast : ¬ (s.flag MEM_CFG_fallback && decide (s.boot.memRate < 2)) = true := by
    rcases hno with hno | hno
    · simp [hno]
    · simp [Nat.not_lt.2 hno]
  rw [State.memTimeout, if_pos h, State.limitAt]
  dsimp only
  rw [State.nextRate_toElapsed, if_neg hlast]

theorem State.memTimeout_modules (h : s.boot.memPhase = 2) : s.memTimeout =
    if s.flag PWR_DOM_OFF_ddr then (s.setFld MEM_STAT_tier 0).memEnter 4 else (s.limitAt 128000000).tierOff [] := by
  simp [State.memTimeout, State.limitAt, h]

theorem State.memTimeout_training (h : s.boot.memPhase = 3) :
    s.memTimeout = (s.limitAt 1280000000).tierOff s.dimmChans := by
  simp [State.memTimeout, State.limitAt, h]

theorem State.memTimeout_clearing (h : s.boot.memPhase ∉ [1, 2, 3]) :
    s.memTimeout = ((s.limitAt 6400000000).raise 0x6003 0 0 0).stepFail := by
  simp only [List.mem_cons, List.not_mem_nil, or_false, not_or] at h
  obtain ⟨h1, h2, h3⟩ := h
  rw [State.memTimeout, if_neg h1, if_neg h2, if_neg h3, State.limitAt]

/-- The DDR5 tier is disabled with a record for each of the channels named (R310). -/
theorem State.tierOff_of_ne_nil {cs : List Nat} (h : cs ≠ []) : s.tierOff cs =
    ((cs.foldl (fun t c => t.raise 0x6002 (unitDev (8 + c)) 0 (8 + c)) s).setFld MEM_STAT_tier 3).memEnter 4 := by
  simp [State.tierOff, h]

/-- It is disabled with one record where no channel is named. -/
theorem State.tierOff_nil (s : State) : s.tierOff [] = ((s.raise 0x6002 0 0 0).setFld MEM_STAT_tier 3).memEnter 4 := rfl

end

/-- Settles O55: the step's case of the limit, and for MEMORY the case of the step of R310 in progress. -/
theorem bootStepLimits : Obligations.BootStepLimits := by
  intro s
  rw [exec_bootStepTimeout]
  refine ⟨?_, ?_⟩
  · rintro (h | h)
    · rw [State.bootTimeout_of_not_booting h]
    · rw [State.bootTimeout_of_no_limit h]
  intro hb at_ fail
  refine ⟨fun h => ?_, fun h hx => ?_, fun h => ?_, fun h => ?_, fun h => ?_, fun h hx => ?_, ?_, fun h => ?_,
    fun h => ?_⟩
  · exact congrArg _ (State.bootTimeout_standby hb h)
  · exact congrArg _ ((State.bootTimeout_verify hb h).trans (if_pos hx))
  · exact congrArg _ (State.bootTimeout_power hb h)
  · exact congrArg _ (State.bootTimeout_align hb h)
  · exact congrArg _ (State.bootTimeout_time hb h)
  · exact congrArg _ ((State.bootTimeout_verify hb h).trans (if_neg (by simp [hx])))
  · intro h off
    rw [State.bootTimeout_memory hb h]
    refine ⟨fun hp hf hr => ?_, fun hp hno => ?_, fun hp hon => ?_, fun hp hoff => ?_, fun hp hch => ?_,
      fun hp => ?_⟩
    · exact congrArg _ (State.memTimeout_nextRate hp hf hr)
    · exact congrArg _ (State.memTimeout_noRate hp hno)
    · exact congrArg _ ((State.memTimeout_modules hp).trans (if_neg (by simp [hon])))
    · exact congrArg _ ((State.memTimeout_modules hp).trans (if_pos hoff))
    · exact congrArg _ ((State.memTimeout_training hp).trans (State.tierOff_of_ne_nil hch))
    · exact congrArg _ (State.memTimeout_clearing hp)
  · exact congrArg _ (State.bootTimeout_links hb h)
  · exact congrArg _ (State.bootTimeout_survey hb h)

/-! ### What a step finds (R171, R309, R310) -/

section
variable {s : State}

section
variable (hb : s.booting = true)
include hb

theorem State.bootAdvance_eyes (eyes : Vector Eye 15) :
    s.bootAdvance (.eyes eyes) = if s.fld BOOT_STAT_step = 5 then s.align eyes else s := by
  simp [State.bootAdvance, hb]

theorem State.bootAdvance_hbm (h : Vector (Fin 4) 8) : s.bootAdvance (.hbm h) =
    if s.fld BOOT_STAT_step = 7 ∧ s.boot.memPhase = 1 then s.trainHbm (h.toList.map (·.val)) else s := by
  simp [State.bootAdvance, hb]

theorem State.bootAdvance_spd (d : Vector (Option Spd) 8) : s.bootAdvance (.spd d) =
    if s.fld BOOT_STAT_step = 7 ∧ s.boot.memPhase = 2 then s.findDdr d.toList else s := by
  simp [State.bootAdvance, hb]

theorem State.bootAdvance_ddr (g : Vector Bool 8) : s.bootAdvance (.ddr g) =
    if s.fld BOOT_STAT_step = 7 ∧ s.boot.memPhase = 3 then s.trainDdr g.toList else s := by
  simp [State.bootAdvance, hb]

theorem State.bootAdvance_memoryDone (h : s.fld BOOT_STAT_step = 7) :
    s.bootAdvance .done = if s.boot.memPhase = 4 then s.memClear else s := by
  simp [State.bootAdvance, hb, h]

end

/-- A crossing whose eye is not open fails its step. -/
theorem State.alignOne_closed {c : Nat} {e : Eye} (h : (e.taps : Nat) < 2) :
    s.alignOne c e = (s.raise 0x3010 (unitXing c) 0 c).stepFail := if_pos h

/-- An eye of an odd number of taps has one middle tap. -/
theorem State.alignOne_odd {c : Nat} {e : Eye} (h : 2 ≤ (e.taps : Nat)) (hodd : (e.taps : Nat) % 2 = 1) :
    s.alignOne c e = ((s.setFld (TIME_XING_tap c) ((e.first.val + (e.taps - 1) / 2) % 8)).setFld (TIME_XING_margin c)
      e.margin.toNat).setFld (TIME_XING_aligned c) 1 := by
  simp [State.alignOne, Nat.not_lt.2 h, hodd]

/-- The stacks train at the first rate that all of them reach. -/
theorem State.trainHbm_reached {best : List Nat} {r : Nat}
    (h : (s.hbmRates.find? fun r => best.all fun b => decide (b ≤ r)) = some r) :
    s.trainHbm best = (if r = 0 then (s.setFld MEM_STAT_hbm_ok 0xFF).setFld MEM_STAT_hbm_got r
      else iter 8 (fun i t => t.raise 0x6004 (unitDev i) 0 i)
        ((s.setFld MEM_STAT_hbm_ok 0xFF).setFld MEM_STAT_hbm_got r)).memEnter 2 := by
  simp only [State.trainHbm, h]

/-- With none, each stack that does not reach the last one is named and the step fails. -/
theorem State.trainHbm_none {best : List Nat}
    (h : (s.hbmRates.find? fun r => best.all fun b => decide (b ≤ r)) = none) :
    s.trainHbm best = (best.zipIdx.foldl (fun t (e : Nat × Nat) =>
      if e.1 ≤ s.hbmRates.getLastD 2 then t.setFld MEM_STAT_hbm_ok (t.fld MEM_STAT_hbm_ok ||| 2 ^ e.2)
      else t.raise 0x6001 (unitDev e.2) 0 e.2) s).stepFail := by
  simp only [State.trainHbm, h]

/-- Without its domain or without modules the tier is absent. -/
theorem State.findDdr_absent {spd : List (Option Spd)} (h : s.flag PWR_DOM_OFF_ddr = true ∨ populated spd = []) :
    s.findDdr spd = (s.setFld MEM_STAT_tier 0).memEnter 4 := if_pos (by simpa using h)

/-- The modules found are kept; an illegal population disables the tier, a legal one is trained. -/
theorem State.findDdr_present {spd : List (Option Spd)} (hon : s.flag PWR_DOM_OFF_ddr = false)
    (hch : populated spd ≠ []) : s.findDdr spd =
      let u := s.modLoad fun l => { l with dimms := (populated spd).foldl (fun m c => m ||| 2 ^ c) 0 }
      if spdOk spd then
        ((u.setFld MEM_STAT_tier (if (populated spd).length = 4 then 1 else 2)).setFld MEM_STAT_cap
          ((spd.filterMap id).head?.elim 0 fun x => x.cap.toNat)).memEnter 3
      else u.tierOff [] := by
  cases hok : spdOk spd <;> simp [State.findDdr, hon, hch, hok]

/-- The modules that trained are recorded; the tier is disabled where one did not. -/
theorem State.trainDdr_eq (s : State) (good : List Bool) : s.trainDdr good =
    let u := s.setFld MEM_STAT_ddr_ok
      ((s.dimmChans.filter fun c => good.getD c false).foldl (fun m c => m ||| 2 ^ c) 0)
    let bad := s.dimmChans.filter fun c => !good.getD c false
    if bad = [] then u.memEnter 4 else u.tierOff bad := by
  simp only [State.trainDdr, List.isEmpty_iff]

end

/-- Settles O54: a result in its own step is what the step does with it; in another it is nothing. -/
theorem alignAndMemoryTraining : Obligations.AlignAndMemoryTraining := by
  intro s hb
  have hskip {k : Nat} {t : State} (h : s.fld BOOT_STAT_step ≠ 7 ∨ s.boot.memPhase ≠ k) :
      (if s.fld BOOT_STAT_step = 7 ∧ s.boot.memPhase = k then t else s) = s :=
    if_neg (Classical.not_and_iff_not_or_not.2 h)
  refine ⟨fun eyes h => ?_, ?_, fun c e h => State.alignOne_closed h, fun c e h hodd => State.alignOne_odd h hodd,
    ?_, ?_, ?_, fun h => ⟨fun hp => ?_, fun hp => ?_⟩, fun k => rfl⟩
  · rw [exec_bootStepAdvance, State.bootAdvance_eyes hb, if_neg h]
  · intro eyes h t
    rw [exec_bootStepAdvance, State.bootAdvance_eyes hb, if_pos h]
    exact ⟨fun hf => congrArg _ (if_pos hf), fun hf => congrArg _ (if_neg (Bool.eq_false_iff.1 hf))⟩
  · intro h best rates reach
    rw [exec_bootStepAdvance, State.bootAdvance_hbm hb]
    refine ⟨fun hno => congrArg _ (hskip hno), fun hs hp => ?_⟩
    rw [if_pos ⟨hs, hp⟩]
    exact ⟨fun r hr => congrArg _ (State.trainHbm_reached hr), fun hr => congrArg _ (State.trainHbm_none hr)⟩
  · intro d ch u
    rw [exec_bootStepAdvance, State.bootAdvance_spd hb]
    refine ⟨fun hno => congrArg _ (hskip hno), fun hs hp => ?_⟩
    rw [if_pos ⟨hs, hp⟩]
    refine ⟨fun h => congrArg _ (State.findDdr_absent h), fun hon hch hbad => ?_, fun hon hch hok => ?_⟩
    · exact congrArg _ ((State.findDdr_present hon hch).trans (if_neg (by simp [hbad])))
    · exact congrArg _ ((State.findDdr_present hon hch).trans (if_pos hok))
  · intro g bad u
    rw [exec_bootStepAdvance, State.bootAdvance_ddr hb]
    refine ⟨fun hno => congrArg _ (hskip hno), fun hs hp => ?_⟩
    rw [if_pos ⟨hs, hp⟩, State.trainDdr_eq]
    exact ⟨fun hbad => congrArg _ (if_pos hbad),
      fun hbad => congrArg _ ((if_neg hbad).trans (State.tierOff_of_ne_nil hbad))⟩
  · exact congrArg _ ((State.bootAdvance_memoryDone hb h).trans (if_pos hp))
  · exact congrArg _ ((State.bootAdvance_memoryDone hb h).trans (if_neg hp))

end Sys2Proof.Machine
end

section
/-! SUPPORT. HOLD, SLIP and STOP: what the symbols and the origin's decision do (O36). -/

namespace Sys2Proof.Machine

theorem exec_holdSymbol (p : Port) (s : State) : exec (.holdSymbol p) s = .next (s.holdHear p) := rfl

theorem exec_slipSymbol (p : Port) (s : State) : exec (.slipSymbol p) s = .next (s.slipHear p) := rfl

theorem exec_slipDecision (s : State) :
    exec .slipDecision s = .next ((s.toTick (s.nextAt 57344 65536)).checkHolds).takeDecision := rfl

section
variable {s : State}

/-! ### HOLD (R182, R406, R408) -/

/-- A HOLD symbol acts on the state without it: it counts at the origin, and goes up elsewhere. -/
theorem State.holdHear_of_pop {p : Nat} {y : List Byte} {u : State} (h : s.popSymbol p 2 = some (y, u)) :
    s.holdHear p = if u.flag TOPO_ORIGIN_self then u.holdAtOrigin (bit (leField y 1 1) 0)
      else u.holdUp (bit (leField y 1 1) 0) (leField y 2 2) (leField y 4 6) (leField y 10 3) := by
  simp only [State.holdHear, h]

theorem State.holdAtOrigin_of_idle (load : Bool) (h : s.fld TOPO_SLICE_state ≠ 1 ∨ s.stopOrdered = true) :
    s.holdAtOrigin load = s := if_pos h

theorem State.holdAtOrigin_of_active (load : Bool) (hs : s.fld TOPO_SLICE_state = 1) (ho : s.stopOrdered = false) :
    s.holdAtOrigin load =
      s.modTime fun t => { t with gotHold := t.gotHold || !load, gotLoadHold := t.gotLoadHold || load } :=
  if_neg (by simp [hs, ho])

/-! ### The decision (R182, R186, R408) -/

/-- What the origin has received since the last decision is forgotten. -/
def State.forgetHolds (s : State) : State :=
  s.modTime fun t => { t with gotHold := false, gotLoadHold := false, stopRec := none }

/-- The run of slip frames has reached its limit: a STOP with its record. -/
def State.orderRunStop (s : State) : State :=
  ((s.raise 0x3040 0 0 0).order true false 0x3040 (s.raise 0x3040 0 0 0).lcoord).modTime
    fun t => { t with stopRec := none }

theorem State.takeDecision_elsewhere (h : s.flag TOPO_ORIGIN_self = false ∨ s.fld TOPO_SLICE_state ≠ 1) :
    s.takeDecision = s := if_pos (by simpa using h)

section
variable (hself : s.flag TOPO_ORIGIN_self = true) (hs : s.fld TOPO_SLICE_state = 1)
include hself hs

/-- The origin of an active slice orders a recorded stop first. -/
theorem State.takeDecision_stop {code subject : Nat} (h : s.time.stopRec = some (code, subject)) :
    s.takeDecision = s.forgetHolds.order true false code subject := by
  rw [State.takeDecision, if_neg (by simp [hself, hs])]
  simp only [h]
  rfl

/-- With none it orders what its HOLDs call for. -/
theorem State.takeDecision_holds (h : s.time.stopRec = none) : s.takeDecision =
    if s.time.gotHold then
      if ringSize (s.fld TIME_SLIP_CFG_max_consec) 256 ≤ s.time.consec then s.forgetHolds.orderRunStop
      else s.forgetHolds.order false false 0 0
    else if s.time.gotLoadHold then s.forgetHolds.order false true 0 0
    else s.forgetHolds := by
  rw [State.takeDecision, if_neg (by simp [hself, hs])]
  simp only [h]
  rfl

end

/-! ### SLIP and STOP (R185, R407, R411) -/

/-- The state once the first symbol has gone on to the children. -/
def State.toldChildren (s : State) (y : List Byte) : State := s.children.foldl (fun t c => t.sendSymbol c y) s

/-- A SLIP that comes too late is not applied: its delay is counted in frames, and the slice stops with 0x3021. -/
def State.lateSlip (s : State) (f : Nat) : State :=
  let m := (sInt 48 s.schedFrame - (s.frame - f : Nat)).toNat
  let v := (s.modTime fun x => { x with slipAt := x.slipAt ++ [m] }).setFld TIME_SLIP_STAT_late_slip 1
  (v.emit { v.mkRec 0x3021 0 0 0 1 with subject := s.fld TOPO_ORIGIN_coord }).modTime
    fun x => { x with stopNext := some (0x3021, s.fld TOPO_ORIGIN_coord) }

/-- A SLIP or STOP symbol goes on to the children, and waits for its boundary or is late. -/
theorem State.slipHear_of_pop {p : Nat} {y : List Byte} {u : State} (h : s.popSymbol p 3 = some (y, u)) :
    s.slipHear p =
      let t := u.toldChildren y
      let k := leField y 1 1
      let f := leField y 4 6
      let code := leField y 10 2
      let subject := leField y 12 4 % 2 ^ 17
      if f ≤ t.time.boundary then
        if bit k 0 then t.modTime fun x => { x with stopNext := some (code, subject) } else t.lateSlip f
      else t.modTime fun x => { x with orders := x.orders ++ [(f, bit k 0, bit k 1, code, subject)] } := by
  simp only [State.slipHear, h]
  rfl

end

/-- Settles O36: each symbol acts on the state without it, and the decision is read off what the origin received. -/
theorem holdSlipAndStopSymbols : Obligations.HoldSlipAndStopSymbols := by
  intro s p
  refine ⟨?_, ?_, ?_⟩
  · intro y u hpop load
    rw [exec_holdSymbol, State.holdHear_of_pop hpop]
    refine ⟨fun hself => ?_, fun hself => ?_⟩
    · rw [if_neg (Bool.eq_false_iff.1 hself)]
    · rw [if_pos hself]
      exact ⟨fun hidle => congrArg _ (State.holdAtOrigin_of_idle load hidle),
        fun hs ho => congrArg _ (State.holdAtOrigin_of_active load hs ho)⟩
  · intro u v
    have hexec : exec .slipDecision s = .next u.takeDecision := exec_slipDecision s
    rw [hexec]
    refine ⟨fun h => congrArg _ (State.takeDecision_elsewhere h), fun hself hs => ?_⟩
    refine ⟨fun code subject hstop => congrArg _ (State.takeDecision_stop hself hs hstop), ?_⟩
    intro hstop limit
    rw [State.takeDecision_holds hself hs hstop]
    refine ⟨fun hhold hlt => ?_, fun hhold hle => ?_, fun hhold hload => ?_, fun hhold hload => ?_⟩
    · exact congrArg _ ((if_pos hhold).trans (if_neg (Nat.not_le.2 hlt)))
    · exact congrArg _ ((if_pos hhold).trans (if_pos hle))
    · exact congrArg _ ((if_neg (Bool.eq_false_iff.1 hhold)).trans (if_pos hload))
    · exact congrArg _ ((if_neg (Bool.eq_false_iff.1 hhold)).trans (if_neg (Bool.eq_false_iff.1 hload)))
  · intro y u hpop t k f code subject
    rw [exec_slipSymbol, State.slipHear_of_pop hpop]
    refine ⟨fun hlt => ?_, fun hle hstop => ?_, fun hle hslip => ?_⟩
    · exact congrArg _ (if_neg (Nat.not_le.2 hlt))
    · exact congrArg _ ((if_pos hle).trans (if_pos hstop))
    · exact congrArg _ ((if_pos hle).trans (if_neg (Bool.eq_false_iff.1 hslip)))

end Sys2Proof.Machine
end

section
/-! SUPPORT. The frame boundary: its steps in order, what the first ones do, and a boundary with nothing to do (O37). -/

namespace Sys2Proof.Machine

/-! ### The boundary -/

theorem exec_frameBoundary (temps : Vector (BitVec 8) 16) (s : State) :
    exec (.frameBoundary temps) s =
      .next ((if s.time.boundary < s.frame then s else s.endFrame).boundary temps) := rfl

/-- A function that changes nothing may be applied any number of times. -/
theorem iter_of_fixed {σ : Type} {n : Nat} {f : Nat → σ → σ} {s : σ} (h : ∀ i, f i s = s) : iter n f s = s := by
  have hfold : ∀ l : List Nat, l.foldl (fun t i => f i t) s = s := by
    intro l
    induction l with
    | nil => rfl
    | cons i l ih => rw [List.foldl_cons, h i, ih]
  exact hfold _

section
variable {s : State}

/-- An update of the time part that changes nothing. -/
theorem State.modTime_of_fixed {f : TimeSt → TimeSt} (h : f s.time = s.time) : s.modTime f = s := by
  rw [State.modTime, h]

/-- An update of the fabric part that changes nothing. -/
theorem State.modFab_of_fixed {f : FabSt → FabSt} (h : f s.fab = s.fab) : s.modFab f = s := by
  rw [State.modFab, h]

/-! ### What each step does with nothing to do -/

/-- Without an order the run of slip frames ends (R186). -/
theorem State.boundarySlip_of_no_orders (k : Nat) (h : s.time.orders = []) : s.boundarySlip k =
    (s.modTime fun t => { t with orders := [] }).modTime
      fun t => { t with slipFrame := false, loadOnly := false, consec := 0 } := by
  simp only [State.boundarySlip, State.modTime, h, List.filter_nil]

theorem State.boundaryTwin_of_none (h : s.fault.twin = []) : s.boundaryTwin = s := by
  rw [State.boundaryTwin, h, State.twinCompare]

theorem State.boundarySheets_of_none (wasSlip : Bool) (h : s.sheets = []) : s.boundarySheets wasSlip = s := by
  simp [State.boundarySheets, h]

theorem State.boundaryStop_of_none (ho : s.time.orders = []) (hn : s.time.stopNext = none) : s.boundaryStop = s := by
  have htime : (s.modTime fun t =>
      { t with orders := t.orders.filter (fun o => decide (s.frame < o.1)), stopNext := none }) = s :=
    State.modTime_of_fixed (by rw [ho, List.filter_nil, ← ho, ← hn])
  simp [State.boundaryStop, ho, hn, htime]

/-- A stop named for the boundary is applied (R410, R411). -/
theorem State.boundaryStop_of_order {f c j : Nat} {l : Bool} (ho : s.time.orders = [(f, true, l, c, j)])
    (hf : f ≤ s.frame) :
    s.boundaryStop = (s.modTime fun t => { t with orders := [], stopNext := none }).applyStop c j := by
  have hpast : ¬ s.frame < f := Nat.not_lt.2 hf
  simp [State.boundaryStop, State.modTime, ho, hf, hpast]

theorem State.applyFence_of_none (h : s.topo.fence = none) : s.applyFence = s := by
  rw [State.applyFence, h]

theorem State.applyLcoord_of_none (h : s.topo.lcoord = none) : s.applyLcoord = s := by
  rw [State.applyLcoord, h]

theorem State.boundaryWaypoint_of_off (k : Nat) (wasSlip : Bool) (h : s.flag TIME_WP_CTL_enable = false) :
    s.boundaryWaypoint k wasSlip = s := by
  rw [State.boundaryWaypoint, h]; rfl

theorem State.treeDone_of_none (h : s.fab.deps = []) : s.treeDone = s := by
  simp [State.treeDone, h]

theorem State.bundleBoundary_of_none (he : s.fab.expertPend = []) (hl : s.laneUnits = 0) : s.bundleBoundary = s := by
  have hpend : (s.modFab fun f => { f with expertPend := [] }) = s := State.modFab_of_fixed (by rw [← he])
  simp [State.bundleBoundary, he, hpend, hl]

theorem State.boundaryGuard_of_none (k : Nat) (wasSlip : Bool) (h : s.fab.guardClear = none) :
    s.boundaryGuard k wasSlip = s := by
  rw [State.boundaryGuard, h]

/-- No flit waits for its entry. -/
theorem State.dropUntaken_of_none (p : Nat) (hp : s.ports = []) (ho : s.fab.own = []) : s.dropUntaken p = s := by
  have hown : (s.modFab fun f => { f with own := f.own.filter fun e => !decide (e.1 < s.frame * 65536) }) = s :=
    State.modFab_of_fixed (by rw [ho, List.filter_nil, ← ho])
  have hpool : (s.port p).pool = [] := by rw [State.port, hp]; rfl
  simp [State.dropUntaken, hpool, ho, hown]

/-- What the frame kept is cleared. -/
theorem State.boundaryClear_of_none (hp : s.ports = []) (ho : s.fab.own = []) : s.boundaryClear =
    ((s.modFab fun f => { f with abandoned := [] }).modTime fun t => { t with holdLinks := [] }).setFld
      TIME_SLIP_STAT_hold_pending 0 := by
  rw [State.boundaryClear, iter_of_fixed fun p => State.dropUntaken_of_none p hp ho]

/-- Nothing is ordered, nothing armed, and no sheet or port in use. -/
structure State.Quiet (s : State) : Prop where
  orders : s.time.orders = []
  stopNext : s.time.stopNext = none
  twin : s.fault.twin = []
  sheets : s.sheets = []
  fence : s.topo.fence = none
  lcoord : s.topo.lcoord = none
  waypoints : s.flag TIME_WP_CTL_enable = false
  expertPend : s.fab.expertPend = []
  deps : s.fab.deps = []
  lanes : s.laneUnits = 0
  guardClear : s.fab.guardClear = none
  ports : s.ports = []
  own : s.fab.own = []

/-- What the time part holds beside its orders does not matter. -/
theorem State.Quiet.modTime {f : TimeSt → TimeSt} (h : s.Quiet) (ho : (f s.time).orders = [])
    (hn : (f s.time).stopNext = none) : (s.modTime f).Quiet :=
  { h with orders := ho, stopNext := hn }

/-- A boundary with nothing to do ends the run of slip frames and what the frame kept, and takes the temperatures. -/
theorem State.boundary_of_quiet (h : s.Quiet) (temps : Vector (BitVec 8) 16) : s.boundary temps =
    let c := (((s.modTime fun t =>
      { t with boundary := s.frame, slipFrame := false, loadOnly := false, consec := 0, holdLinks := [] }).modFab
        fun f => { f with abandoned := [] }).setFld TIME_SLIP_STAT_hold_pending 0).boundaryTemps temps
    if c.flag PWR_SYNC_CTL_frame_en then c.syncRise else c := by
  let v := s.modTime fun t => { t with boundary := s.frame, slipFrame := false, loadOnly := false, consec := 0 }
  have hv : v.Quiet := h.modTime h.orders h.stopNext
  have hslip (k : Nat) : (s.modTime fun t => { t with boundary := s.frame }).boundarySlip k = v := by
    rw [State.boundarySlip_of_no_orders k (by exact h.orders)]
    simp only [State.modTime, ← h.orders, v]
  have hsheets (k : Nat) (wasSlip : Bool) :
      (v.boundaryTwin.boundarySheets wasSlip).boundaryStop.applyFence.applyLcoord.boundaryWaypoint k wasSlip = v := by
    rw [State.boundaryTwin_of_none hv.twin, State.boundarySheets_of_none wasSlip hv.sheets,
      State.boundaryStop_of_none hv.orders hv.stopNext, State.applyFence_of_none hv.fence,
      State.applyLcoord_of_none hv.lcoord, State.boundaryWaypoint_of_off k wasSlip hv.waypoints]
  have hfabric (k : Nat) (wasSlip : Bool) : v.treeDone.bundleBoundary.boundaryGuard k wasSlip = v := by
    rw [State.treeDone_of_none hv.deps, State.bundleBoundary_of_none hv.expertPend hv.lanes,
      State.boundaryGuard_of_none k wasSlip hv.guardClear]
  rw [State.boundary]
  simp only [hslip, hsheets, hfabric, State.boundaryClear_of_none hv.ports hv.own]
  rfl

end

/-- Settles O37: the boundary is its steps in order, and each of the first steps is read off what was ordered. -/
theorem frameBoundaryRunsItsSteps : Obligations.FrameBoundaryRunsItsSteps := by
  intro s temps
  refine ⟨?_, fun k h => State.boundarySlip_of_no_orders k h, fun k l => rfl,
    fun f l c j ho hf => State.boundaryStop_of_order ho hf, fun c j => rfl, fun h => State.applyFence_of_none h,
    fun h => ?_, fun w h => ?_, ?_⟩
  · exact exec_frameBoundary temps s
  · rw [State.applyFence, h]; rfl
  · rw [State.applyLcoord, h]
  · intro hframe ho hn ht hs hf hl hw he hd hlanes hg hp hown
    have hquiet : s.Quiet := ⟨ho, hn, ht, hs, hf, hl, hw, he, hd, hlanes, hg, hp, hown⟩
    rw [exec_frameBoundary, if_pos hframe, State.boundary_of_quiet hquiet]

end Sys2Proof.Machine
end

section
/-! SUPPORT. Writes of the plan, governor, domain, power, depot, staging and loading registers (O48). -/

namespace Sys2Proof.Machine

/-! ### The operation of a write -/

section
variable {s : State} {ag : Agent} {a v : Nat}

/-- A 32-bit write that the module takes of a register of one word. -/
theorem State.access_reg {d : WordDesc} (hown : a ≠ GEN_OWN_CMD) (hloc : regLoc a = some ⟨d, 0, 1⟩)
    (hw : Writable s ag a 4) : s.access ag a 4 v = (s.write32 (agentNo ag) a v).answer 0 [] := by
  rw [State.access_word hw hown, State.writeWord_one hloc]

theorem State.access_plan (hw : Writable s ag TIME_SCHED_CTL 4) :
    s.access ag TIME_SCHED_CTL 4 v = (s.planWrite v).answer 0 [] := State.access_reg (by decide) rfl hw

theorem State.access_domCtl (hw : Writable s ag TIME_DOM_CTL 4) :
    s.access ag TIME_DOM_CTL 4 v = (s.domCtl v).answer 0 [] := State.access_reg (by decide) rfl hw

theorem State.access_powerCap (hw : Writable s ag PWR_IN_CFG 4) :
    s.access ag PWR_IN_CFG 4 v = (s.powerCap v).answer 0 [] := State.access_reg (by decide) rfl hw

theorem State.access_domOff (hw : Writable s ag PWR_DOM_OFF 4) :
    s.access ag PWR_DOM_OFF 4 v = (s.domOff v).answer 0 [] := State.access_reg (by decide) rfl hw

theorem State.access_sync (hw : Writable s ag PWR_SYNC_CTL 4) :
    s.access ag PWR_SYNC_CTL 4 v = (s.syncWrite v).answer 0 [] := State.access_reg (by decide) rfl hw

theorem State.access_depotPart (hw : Writable s ag MEM_DEPOT_PART 4) :
    s.access ag MEM_DEPOT_PART 4 v = (s.depotPart v).answer 0 [] := State.access_reg (by decide) rfl hw

theorem State.access_stageTail (hw : Writable s ag MEM_STAGE_TAIL 4) :
    s.access ag MEM_STAGE_TAIL 4 v = (s.stageTail v).answer 0 [] := State.access_reg (by decide) rfl hw

theorem State.access_loadTail (hw : Writable s ag MEM_LOAD_TAIL 4) :
    s.access ag MEM_LOAD_TAIL 4 v = (s.loadTail v).answer 0 [] := State.access_reg (by decide) rfl hw

/-- A register of a bank's governor, at offset `o` of its 32 bytes (R177). -/
theorem State.write32_gov {n o g : Nat} (hn : n < 16) (ho : o < 8) :
    s.write32 g (0x201000 + o + 32 * n) v = s.govWrite n (decide (o = 0)) v := by
  have hmod : (0x201000 + o + 32 * n) % 32 = o := by omega
  have hindex : (0x201000 + o + 32 * n - PWR_GOV_CTL 0) / 32 = n := by rw [PWR_GOV_CTL]; omega
  rw [State.write32, if_neg (by omega), if_pos (by omega), State.pwrWrite, if_neg (by rw [PWR_IN_CFG]; omega),
    if_neg (by rw [PWR_DOM_OFF]; omega), if_neg (by rw [PWR_SYNC_CTL]; omega),
    if_pos (by simp only [PWR_GOV_CTL]; omega), hmod, hindex]

theorem State.access_govCtl {n : Nat} (hn : n < 16) (hw : Writable s ag (PWR_GOV_CTL n) 4) :
    s.access ag (PWR_GOV_CTL n) 4 v = (s.govWrite n true v).answer 0 [] := by
  have hloc : ∀ n < 16, regLoc (PWR_GOV_CTL n) = some ⟨⟨0x13f3f3f, 0, 0, 0, 0x383c00⟩, 0, 1⟩ := by decide
  rw [State.access_reg (by rw [PWR_GOV_CTL, GEN_OWN_CMD]; omega) (hloc n hn) hw]
  exact congrArg (State.answer · 0 []) (State.write32_gov (o := 0) hn (by decide))

theorem State.access_govTgt {n : Nat} (hn : n < 16) (hw : Writable s ag (PWR_GOV_TGT n) 4) :
    s.access ag (PWR_GOV_TGT n) 4 v = (s.govWrite n false v).answer 0 [] := by
  have hloc : ∀ n < 16, regLoc (PWR_GOV_TGT n) = some ⟨⟨0xffffffff, 0, 0, 0, 0x800100⟩, 0, 1⟩ := by decide
  rw [State.access_reg (by rw [PWR_GOV_TGT, GEN_OWN_CMD]; omega) (hloc n hn) hw]
  exact congrArg (State.answer · 0 []) (State.write32_gov (o := 4) hn (by decide))

end
/-! ### What the operations do -/

section
variable {s : State} {n v : Nat}

theorem State.planWrite_taken (h : v % 65536 ≤ 61440) : s.planWrite v = s.setFld TIME_SCHED_CTL_plan (v % 65536) :=
  if_pos h

theorem State.planWrite_refused (h : 61440 < v % 65536) : s.planWrite v = s.raise 0x3001 0 0 0 :=
  if_neg (Nat.not_le.2 h)

/-- The codes of a governor stand in legal order (R177). -/
def GovCodesOk (v : Nat) : Prop := bits v 0 6 ≤ bits v 16 6 ∧ bits v 16 6 ≤ bits v 8 6 ∧ bits v 8 6 ≤ 60

theorem State.govWrite_taken (h : GovCodesOk v) :
    s.govWrite n true v = s.setReg (PWR_GOV_CTL n) (BitVec.ofNat 32 (v &&& 0x013F3F3F)) := if_pos h

theorem State.govWrite_refused (h : ¬ GovCodesOk v) : s.govWrite n true v = s.raise 0x9020 (unitBank n) 0 0 := if_neg h

theorem State.powerCap_taken (h : 500 ≤ v % 2048 ∧ v % 2048 ≤ 1700) :
    s.powerCap v = s.setFld PWR_IN_CFG_cap (v % 2048) := if_pos h

theorem State.powerCap_refused (h : v % 2048 < 500 ∨ 1700 < v % 2048) : s.powerCap v = s.raise 0x9012 0 0 0 :=
  if_neg (by omega)

/-- A word has no bits outside a mask where the numbers say so. -/
theorem and_eq_self_iff_toNat (w m : Word) : w &&& m = w ↔ w.toNat &&& m.toNat = w.toNat := by
  rw [← BitVec.toNat_inj, BitVec.toNat_and]

/-- The domains may be switched off now, and only those two that may be (R444). -/
def State.DomOffOk (s : State) (w : Word) : Prop :=
  (s.fld BOOT_STAT_step = 1 ∨ s.fld BOOT_STAT_step = 2) ∧ w &&& 0x240000 = w

theorem State.domOff_taken {w : Word} (h : s.DomOffOk w) : s.domOff w.toNat = s.setReg PWR_DOM_OFF w := by
  obtain ⟨hstep, hmask⟩ := h
  refine (if_pos ⟨hstep, (and_eq_self_iff_toNat w 0x240000).1 hmask⟩).trans ?_
  rw [BitVec.ofNat_toNat, BitVec.setWidth_eq]

theorem State.domOff_refused {w : Word} (h : ¬ s.DomOffOk w) : s.domOff w.toNat = s.raise 0x9011 0 0 0 :=
  if_neg fun hok => h ⟨hok.1, (and_eq_self_iff_toNat w 0x240000).2 hok.2⟩

/-- The value of PWR_SYNC_CTL asks for both uses of SYNC, or for one while the other is on (R449). -/
def State.syncMeets (s : State) (v : Nat) : Bool :=
  (bit v 0 && bit v 1) || (bit v 0 && s.flag PWR_SYNC_CTL_twin_en) || (bit v 1 && s.flag PWR_SYNC_CTL_frame_en)

/-- The enables of PWR_SYNC_CTL as written, with the refused flag cleared where it is written 1. -/
def State.syncEnables (s : State) (v : Nat) : State :=
  ((if bit v 2 then s.setFld PWR_SYNC_CTL_refused 0 else s).setFld PWR_SYNC_CTL_frame_en (b2n (bit v 0))).setFld
    PWR_SYNC_CTL_twin_en (b2n (bit v 1))

theorem State.syncWrite_refused (h : s.syncMeets v = true) :
    s.syncWrite v = (s.setFld PWR_SYNC_CTL_refused 1).raise 0x9040 0 0 0 := if_pos h

theorem State.syncWrite_taken (h : s.syncMeets v = false) : s.syncWrite v =
    if bit v 0 || bit v 1 then s.syncEnables v else (s.syncEnables v).modPwr fun p => { p with syncAt := none } :=
  if_neg (Bool.eq_false_iff.1 h)

/-- A partition inside the depot whose parts do not meet, while dispatch is off and the stager has nothing to do
(R318). -/
def State.PartitionOk (s : State) (v : Nat) : Prop :=
  bits v 0 8 + 1 ≤ 256 ∧ bits v 8 8 + bits v 16 9 ≤ 256
    ∧ ¬ (bits v 0 8 < bits v 8 8 + bits v 16 9 ∧ bits v 8 8 < bits v 0 8 + 1)
    ∧ s.fld FAB_DISPATCH_CTL_enable = 0 ∧ s.fld MEM_STAGE_TAIL_tail = s.fld MEM_STAGE_HEAD_head
    ∧ s.load.stage = none

theorem State.depotPart_taken (h : s.PartitionOk v) :
    s.depotPart v = s.setReg MEM_DEPOT_PART (BitVec.ofNat 32 (v &&& 0x01FFFFFF)) := by
  obtain ⟨hsched, hstage, hmeet, hoff, hempty, hidle⟩ := h
  refine if_neg ?_
  simpa [hoff, hempty, hidle, Nat.not_lt.2 hsched, Nat.not_lt.2 hstage] using hmeet

theorem State.depotPart_refused (h : ¬ s.PartitionOk v) :
    s.depotPart v = (s.setFld MEM_DEPOT_STAT_refused 1).raise 0x6030 (unitDev 16) 0 16 := by
  refine if_pos (Decidable.byContradiction fun hok => h ?_)
  simp only [Bool.or_eq_true, not_or, decide_eq_true_eq, bne_iff_ne, ne_eq, Decidable.not_not, Bool.not_eq_true,
    Option.isSome_eq_false_iff, Option.isNone_iff_eq_none, Nat.not_lt] at hok
  obtain ⟨⟨⟨⟨hsched, hstage, hmeet⟩, hoff⟩, hempty⟩, hidle⟩ := hok
  exact ⟨hsched, hstage, hmeet, hoff, hempty, hidle⟩

/-- The loader has nothing under way: its tail, head and done counts are equal (R328). -/
def State.LoaderIdle (s : State) : Prop :=
  s.fld MEM_LOAD_TAIL_tail = s.fld MEM_LOAD_HEAD_head ∧ s.fld MEM_LOAD_TAIL_tail = s.fld MEM_LOAD_DONE_done

theorem State.refuses64_loadRing_eq_false_iff : s.refuses64 MEM_LOAD_RING v = false ↔ s.LoaderIdle := by
  have hrefuses : s.refuses64 MEM_LOAD_RING v = (s.fld MEM_LOAD_TAIL_tail != s.fld MEM_LOAD_HEAD_head
      || s.fld MEM_LOAD_TAIL_tail != s.fld MEM_LOAD_DONE_done) := rfl
  rw [hrefuses, Bool.or_eq_false_iff, bne_eq_false_iff_eq, bne_eq_false_iff_eq, State.LoaderIdle]

theorem State.write64_loadRing (g : Nat) : s.write64 g MEM_LOAD_RING v = s.loadRing v := rfl

section
variable {ag : Agent} (hw : Writable s ag MEM_LOAD_RING 8)
include hw

theorem State.access_loadRing_taken (h : s.LoaderIdle) : s.access ag MEM_LOAD_RING 8 v =
    ((s.setReg64 MEM_LOAD_RING (v &&& 0xFFFFFFFFFFFFFFC0)).dropLow [MEM_LOAD_RING]).answer 0 [] := by
  have hfree : s.refuses64 MEM_LOAD_RING v = false := State.refuses64_loadRing_eq_false_iff.2 h
  have hring : s.loadRing v = s.setReg64 MEM_LOAD_RING (v &&& 0xFFFFFFFFFFFFFFC0) := if_pos h
  rw [State.access_double hw (by decide), State.writeDouble_two rfl, hfree, State.write64_loadRing, hring]
  rfl

/-- Written while the loader has work, the ring stays where it is. -/
theorem State.access_loadRing_kept (h : ¬ s.LoaderIdle) : s.access ag MEM_LOAD_RING 8 v = s.answer 0 [] := by
  have hbusy : s.refuses64 MEM_LOAD_RING v = true :=
    eq_true_of_ne_false fun hfree => h (State.refuses64_loadRing_eq_false_iff.1 hfree)
  have hring : s.loadRing v = s := if_neg h
  rw [State.access_double hw (by decide), State.writeDouble_two rfl, hbusy, State.write64_loadRing, hring]
  rfl

end

/-! ### The domains of the time reference (R291, R295) -/

/-- A field of one bit is its bit of the register. -/
theorem State.flag_eq_bit {f : Fld} (hw : f.width = 1) (hlo : f.lo < 32) :
    s.flag f = bit (s.reg f.addr).toNat f.lo := by
  rw [State.flag, State.fld_word (by omega), hw, bits, bit, Nat.testBit_eq_decide_div_mod_eq, Nat.shiftRight_eq_div_pow]
  exact decide_eq_decide.2 (by omega)

/-- The general rule of a write leaves the fields of other registers. -/
theorem State.fld_plainWrite_other {a : Nat} {g : Fld} (hg : g.lo + g.width ≤ 32) (ha : g.addr ≠ a) :
    (s.plainWrite a v).fld g = s.fld g := by
  rw [State.fld_word hg, State.fld_word hg, State.plainWrite]
  split
  · rw [State.reg_setReg_other ha]
  · rfl

theorem State.domState_plainWrite_domCtl (d : Nat) : (s.plainWrite TIME_DOM_CTL v).domState d = s.domState d := by
  rw [State.domState, State.domState, State.fld_plainWrite_other (by decide) (by decide),
    State.fld_plainWrite_other (by decide) (by decide)]

/-- The switch bit alone asks for a switch of domain. -/
theorem State.domCtl_switch (hslew : s.flag TIME_DOM_CTL_slew_now = false) :
    let x := s.withBits TIME_DOM_CTL 2 1 1
    s.domCtl x = (s.plainWrite TIME_DOM_CTL x).switchRequest := by
  intro x
  have hswitch : bit x 2 = true := by simp [x, bit, State.withBits, testBit_putBits]
  have hno : bit x 3 = false := by
    rw [State.flag_eq_bit rfl (by decide)] at hslew
    simpa [x, bit, State.withBits, testBit_putBits, TIME_DOM_CTL_slew_now] using hslew
  rw [State.domCtl, hswitch, hno]
  rfl

/-- The slew_now bit alone asks for a held slew. -/
theorem State.domCtl_slew (hswitch : s.flag TIME_DOM_CTL_switch = false) :
    let x := s.withBits TIME_DOM_CTL 3 1 1
    s.domCtl x = (s.plainWrite TIME_DOM_CTL x).slewNow := by
  intro x
  have hslew : bit x 3 = true := by simp [x, bit, State.withBits, testBit_putBits]
  have hno : bit x 2 = false := by
    rw [State.flag_eq_bit rfl (by decide)] at hswitch
    simpa [x, bit, State.withBits, testBit_putBits, TIME_DOM_CTL_switch] using hswitch
  rw [State.domCtl, hslew, hno]
  rfl

/-- What a request to switch does is read off the domains as they stood before the write. -/
theorem State.switchRequest_plainWrite : (s.plainWrite TIME_DOM_CTL v).switchRequest =
    if s.domState (1 - s.fld TIME_DOM_STAT_sel) = 3 then
      (s.plainWrite TIME_DOM_CTL v).domSwitch (1 - s.fld TIME_DOM_STAT_sel)
    else (s.plainWrite TIME_DOM_CTL v).raise 0x3061 0 0 (2 ^ 31) := by
  rw [State.switchRequest, State.fld_plainWrite_other (by decide) (by decide), State.domState_plainWrite_domCtl]

theorem State.slewNow_plainWrite : (s.plainWrite TIME_DOM_CTL v).slewNow =
    if s.flag TIME_DOM_STAT_held = true ∧ s.domState (s.fld TIME_DOM_STAT_sel) = 3 then
      ((s.plainWrite TIME_DOM_CTL v).setFld TIME_DOM_STAT_held 0).setFld TIME_DOM_STAT_slewing 1
    else s.plainWrite TIME_DOM_CTL v := by
  have hheld : (s.plainWrite TIME_DOM_CTL v).flag TIME_DOM_STAT_held = s.flag TIME_DOM_STAT_held := by
    rw [State.flag, State.flag, State.fld_plainWrite_other (by decide) (by decide)]
  simp only [State.slewNow, State.mayServo, hheld, State.domState_plainWrite_domCtl,
    State.fld_plainWrite_other (show TIME_DOM_STAT_sel.lo + TIME_DOM_STAT_sel.width ≤ 32 by decide)
      (show TIME_DOM_STAT_sel.addr ≠ TIME_DOM_CTL by decide), Bool.and_eq_true, decide_eq_true_eq]

end

/-- Settles O48: a write that the module takes reaches the operation of its register, whose case decides. -/
theorem timePowerAndMemoryRegisterWrites : Obligations.TimePowerAndMemoryRegisterWrites := by
  intro s ag
  refine ⟨fun v hw => ?_, fun n v => ⟨?_, fun hw => ?_⟩, ?_, fun v hw => ?_, fun v hw => ?_, ?_, ?_, ?_, ?_, ?_⟩
  · have ha := State.access_plan (v := v.toNat) hw
    exact ⟨fun h => next_answer ha (State.planWrite_taken h), fun h => next_answer ha (State.planWrite_refused h)⟩
  · intro hw good
    have ha := State.access_govCtl (v := v.toNat) n.isLt hw
    exact ⟨fun h => next_answer ha (State.govWrite_taken h), fun h => next_answer ha (State.govWrite_refused h)⟩
  · refine next_answer (State.access_govTgt (v := v.toNat) n.isLt hw) ?_
    exact congrArg (s.setReg (PWR_GOV_TGT n)) (by rw [BitVec.ofNat_toNat, BitVec.setWidth_eq])
  · intro hw hswitch hslew u d
    have hreq : s.domCtl (s.withBits TIME_DOM_CTL 2 1 1) = _ :=
      (State.domCtl_switch hslew).trans State.switchRequest_plainWrite
    have hnow : s.domCtl (s.withBits TIME_DOM_CTL 3 1 1) = _ :=
      (State.domCtl_slew hswitch).trans State.slewNow_plainWrite
    have ha (v : Nat) := State.access_domCtl (v := v) hw
    refine ⟨fun h => next_answer (ha _) (hreq.trans (if_pos h)),
      fun h => next_answer (ha _) (hreq.trans (if_neg h)), ?_⟩
    intro u track
    refine ⟨fun hheld htrack => next_answer (ha _) (hnow.trans (if_pos ⟨hheld, htrack⟩)), fun hno => ?_⟩
    exact next_answer (ha _) (hnow.trans (if_neg (Classical.not_and_iff_not_or_not.2
      (hno.imp_left Bool.eq_false_iff.1))))
  · have ha := State.access_powerCap (v := v.toNat) hw
    exact ⟨fun h => next_answer ha (State.powerCap_taken h), fun h => next_answer ha (State.powerCap_refused h)⟩
  · have ha := State.access_domOff (v := v.toNat) hw
    exact ⟨fun h => next_answer ha (State.domOff_taken h), fun h => next_answer ha (State.domOff_refused h)⟩
  · intro v hw f t bad u w
    have ha := State.access_sync (v := v.toNat) hw
    exact ⟨fun h => next_answer ha (State.syncWrite_refused h),
      fun h hon => next_answer ha ((State.syncWrite_taken h).trans (if_pos hon)),
      fun h hoff => next_answer ha ((State.syncWrite_taken h).trans (if_neg (Bool.eq_false_iff.1 hoff)))⟩
  · intro v hw sb gb gl good
    have ha := State.access_depotPart (v := v.toNat) hw
    exact ⟨fun h => next_answer ha (State.depotPart_taken h), fun h => next_answer ha (State.depotPart_refused h)⟩
  · intro v hw good
    have ha := State.access_stageTail (v := v.toNat) hw
    exact ⟨fun h => next_answer ha (if_pos h), fun h => next_answer ha (if_neg (Bool.eq_false_iff.1 h))⟩
  · intro v hw good
    have ha := State.access_loadTail (v := v.toNat) hw
    exact ⟨fun h => next_answer ha (if_pos h), fun h => next_answer ha (if_neg (Bool.eq_false_iff.1 h))⟩
  · intro v hw t
    exact ⟨fun hhead hdone => congrArg _ (State.access_loadRing_taken hw ⟨hhead, hdone⟩),
      fun hno => congrArg _ (State.access_loadRing_kept hw (Classical.not_and_iff_not_or_not.2 hno))⟩

end Sys2Proof.Machine
end

section
/-! SUPPORT. The governor period: slack, the governors' codes and the limiter, and a crossing's low margin (O51). -/

namespace Sys2Proof.Machine

theorem exec_governorPeriod (x : PeriodSample) (s : State) : exec (.governorPeriod x) s = .next (s.period x) := rfl

theorem exec_crossingLowMargin (c : Fin 15) (m : BitVec 3) (s : State) :
    exec (.crossingLowMargin c m) s = .next (s.lowMargin c m.toNat) := rfl

/-! ### Slack (R175) -/

/-- `c` is the first of the first `k` chains whose count is the least of theirs, `n`. -/
def FirstLeast (f : Nat → Nat) (k n c : Nat) : Prop := c < k ∧ f c = n ∧ (∀ j < k, n ≤ f j) ∧ ∀ j < c, n < f j

/-- One more chain takes the place of the least so far where its count is less. -/
theorem FirstLeast.next {f : Nat → Nat} {k : Nat} {m : Nat × Nat} (h : FirstLeast f k m.1 m.2) :
    FirstLeast f (k + 1) (if f k < m.1 then (f k, k) else m).1 (if f k < m.1 then (f k, k) else m).2 := by
  obtain ⟨hlt, heq, hleast, hfirst⟩ := h
  split
  case isTrue hless =>
    refine ⟨Nat.lt_succ_self k, rfl, fun j hj => ?_, fun j hj => Nat.lt_of_lt_of_le hless (hleast j hj)⟩
    rcases Nat.lt_succ_iff_lt_or_eq.1 hj with hj | rfl
    · exact Nat.le_of_lt (Nat.lt_of_lt_of_le hless (hleast j hj))
    · exact Nat.le_refl _
  case isFalse hmore =>
    refine ⟨Nat.lt_succ_of_lt hlt, heq, fun j hj => ?_, hfirst⟩
    rcases Nat.lt_succ_iff_lt_or_eq.1 hj with hj | rfl
    · exact hleast j hj
    · exact Nat.not_lt.1 hmore

/-- The least of the four counts and the first chain that has it. -/
theorem firstLeast_leastChain (x : PeriodSample) (i : Nat) :
    FirstLeast (chainOf x i) 4 (leastChain x i).1 (leastChain x i).2 := by
  have hone : FirstLeast (chainOf x i) 1 (chainOf x i 0, 0).1 (chainOf x i 0, 0).2 :=
    ⟨Nat.one_pos, rfl, fun j hj => Nat.lt_one_iff.1 hj ▸ Nat.le_refl _, fun j hj => absurd hj (Nat.not_lt_zero j)⟩
  exact hone.next.next.next

section
variable {s : State}

/-- What a sheet latches, but for the record of a slack below 0. -/
def State.latched4 (s : State) (x : PeriodSample) (i : Nat) : State :=
  ((iter 4 (fun k t => t.setFld (SHEET_SLACK_C_count i k) (chainOf x i k)) s).setFld (SHEET_SLACK_slack i)
    (uNat 16 (((leastChain x i).1 : Int) - s.planSteps))).setFld (SHEET_SLACK_chain i) (leastChain x i).2

theorem State.latchSlack_eq (s : State) (x : PeriodSample) (i : Nat) : s.latchSlack x i =
    if ((leastChain x i).1 : Int) - s.planSteps < 0 then
      ((s.latched4 x i).setFld (SHEET_SLACK_neg i) 1).count (SHEET_SLACK_NEG_CNT_count i) 1
    else s.latched4 x i := rfl

/-! ### The governor (R176, R177) -/

/-- The code within the governor's limits. -/
def State.govFit (s : State) (n : Nat) (v : Int) : Int :=
  min (max v (s.fld (PWR_GOV_CTL_vmin n))) (s.fld (PWR_GOV_CTL_vmax n))

theorem State.govFit_within {n : Nat} (v : Int)
    (h : (s.fld (PWR_GOV_CTL_vmin n) : Int) ≤ s.fld (PWR_GOV_CTL_vmax n)) :
    (s.fld (PWR_GOV_CTL_vmin n) : Int) ≤ s.govFit n v ∧ s.govFit n v ≤ s.fld (PWR_GOV_CTL_vmax n) :=
  ⟨Int.le_min.2 ⟨Int.le_max_right .., h⟩, Int.min_le_right ..⟩

/-- The governor stands at its start code: fixed, or with no plan. -/
def State.GovStill (s : State) (n : Nat) : Prop :=
  s.flag (PWR_GOV_CTL_fixed n) = true ∨ s.fld TIME_SCHED_CTL_plan = 0

/-- The next code is one within the limits, always. -/
theorem State.govNext_fits (n : Nat) (slack : Int) : ∃ v, s.govNext n slack = s.govFit n v := ⟨_, rfl⟩

theorem State.govNext_still {n : Nat} (slack : Int) (h : s.GovStill n) :
    s.govNext n slack = s.govFit n (s.fld (PWR_GOV_CTL_vstart n)) :=
  congrArg (s.govFit n) (if_pos (by simpa [State.GovStill] using h))

/-- A governor that is not still moves as the limiter, or else the slack, says. -/
theorem State.govNext_moving {n : Nat} (slack : Int) (h : ¬ s.GovStill n) : s.govNext n slack =
    s.govFit n (
      if s.flag (PWR_GOV_STAT_throttle n) then s.fld (PWR_GOV_STAT_code n) - 1
      else if slack < sInt 16 (s.fld (PWR_GOV_TGT_target n)) then s.fld (PWR_GOV_STAT_code n) + 1
      else if sInt 16 (s.fld (PWR_GOV_TGT_target n)) + s.fld (PWR_GOV_TGT_hyst n) < slack then
        s.fld (PWR_GOV_STAT_code n) - 1
      else s.fld (PWR_GOV_STAT_code n)) :=
  congrArg (s.govFit n) (if_neg (by simpa [State.GovStill] using h))

/-- A bank that is down has no governor. -/
theorem State.govern_of_down {n : Nat} (h : s.domUp n = false) : s.govern n = s := if_pos (by simp [h])

/-! ### A crossing's margin (R172) -/

theorem State.lowMargin_open {c m : Nat}
    (h : m ≠ 0 ∨ (s.setFld (TIME_XING_margin c) m).flag (TIME_XING_aligned c) = false) :
    s.lowMargin c m = s.setFld (TIME_XING_margin c) m := by
  refine if_neg fun hlow => ?_
  rcases h with h | h
  · exact h (Nat.lt_one_iff.1 hlow.1)
  · exact absurd hlow.2 (Bool.eq_false_iff.1 h)

theorem State.lowMargin_closed {c : Nat} (h : (s.setFld (TIME_XING_margin c) 0).flag (TIME_XING_aligned c) = true) :
    s.lowMargin c 0 =
      let w := (s.setFld (TIME_XING_margin c) 0).setFld (TIME_XING_low_margin c) 1
      if s.time.xing.contains c then w
      else (w.modTime fun t => { t with xing := t.xing ++ [c] }).raise 0x3011 (unitXing c) 0 c := by
  have htime : ((s.setFld (TIME_XING_margin c) 0).setFld (TIME_XING_low_margin c) 1).time = s.time := by
    rw [State.setFld_time, State.setFld_time]
  rw [State.lowMargin, if_pos ⟨Nat.one_pos, h⟩]
  dsimp only
  rw [htime]

end

/-- Settles O51: the period is its parts in order; slack, codes and margins are read off their cases. -/
theorem slackGovernorsAndLimiter : Obligations.SlackGovernorsAndLimiter := by
  intro s x
  refine ⟨exec_governorPeriod x s, ?_, ?_, fun n h => State.govern_of_down h, ?_⟩
  · intro i _ n c
    obtain ⟨hlt, heq, hleast, hfirst⟩ := firstLeast_leastChain x i
    refine ⟨hlt, heq, hleast, hfirst, ?_⟩
    intro slack u w
    exact ⟨fun h => (s.latchSlack_eq x i).trans (if_neg (Int.not_lt.2 h)),
      fun h => (s.latchSlack_eq x i).trans (if_pos h)⟩
  · intro n slack lo hi code aim fit still
    refine ⟨fun h => ?_, fun h => State.govNext_still slack h, fun h ht => ?_, fun h ht => ?_⟩
    · obtain ⟨v, hv⟩ := State.govNext_fits (s := s) n slack
      rw [hv]
      exact State.govFit_within v h
    · exact (State.govNext_moving slack h).trans (congrArg fit (if_pos ht))
    · have hmove := (State.govNext_moving slack h).trans (congrArg fit (if_neg (Bool.eq_false_iff.1 ht)))
      refine ⟨fun hlow => hmove.trans (congrArg fit (if_pos hlow)), fun hhigh => ?_, fun hge hle => ?_⟩
      · exact hmove.trans (congrArg fit ((if_neg (by omega)).trans (if_pos hhigh)))
      · exact hmove.trans (congrArg fit ((if_neg (Int.not_lt.2 hge)).trans (if_neg (Int.not_lt.2 hle))))
  · intro c m u
    rw [exec_crossingLowMargin]
    refine ⟨fun h => ?_, ?_⟩
    · have hm : m.toNat ≠ 0 ∨ u.flag (TIME_XING_aligned c) = false :=
        h.imp_left fun hne hz => hne (BitVec.eq_of_toNat_eq hz)
      exact congrArg _ (State.lowMargin_open hm)
    · rintro rfl ha w
      have hlow := State.lowMargin_closed ha
      exact ⟨fun h => congrArg _ (hlow.trans (if_pos h)),
        fun h => congrArg _ (hlow.trans (if_neg (Bool.eq_false_iff.1 h)))⟩

end Sys2Proof.Machine
end

section
/-! SUPPORT. What leaves on a fabric port when its line is free, and the INIT record that comes in (O21). -/

namespace Sys2Proof.Machine

theorem exec_flitTransmit (p : Port) (s : State) : exec (.flitTransmit p) s = .next (s.lineFree p) := rfl

theorem exec_initRecordReceive (p : Port) (f : RawFlit) (s : State) :
    exec (.initRecordReceive p f) s = .next (s.initReceive p f) := rfl

section
variable {s u : State} {p : Nat}

/-! ### The line of a port -/

theorem State.lineFree_init (h : s.fld (LINK_STAT_state p) = 4) : s.lineFree p = s.initSend p := if_pos h

/-- On a port that trains what is late is marked and held to. -/
theorem State.lineFree_training (hinit : s.fld (LINK_STAT_state p) ≠ 4) (hactive : s.fld (LINK_STAT_state p) ≠ 5) :
    s.lineFree p = (s.markLate p).checkHold p := (if_neg hinit).trans (if_neg hactive)

section
variable (h : s.fld (LINK_STAT_state p) = 5)
include h

/-- On an ACTIVE port a flit leaves; an S flit that left ends what it was the last of. -/
theorem State.lineFree_sFlit {t : State} {o : OutFlit} (ht : (s.probeRetry p).transmit p = (t, some o)) :
    s.lineFree p = (t.sLeft o).checkHold p := by
  have hinit : s.fld (LINK_STAT_state p) ≠ 4 := by omega
  simp only [State.lineFree, if_neg hinit, if_pos h, ht]

theorem State.lineFree_other {t : State} (ht : (s.probeRetry p).transmit p = (t, none)) :
    s.lineFree p = t.checkHold p := by
  have hinit : s.fld (LINK_STAT_state p) ≠ 4 := by omega
  simp only [State.lineFree, if_neg hinit, if_pos h, ht]

end

/-! ### Symbols (R237, R239) -/

/-- Erasing the front of a list, element by element, leaves its rest. -/
theorem foldl_erase_append {α : Type} [BEq α] [LawfulBEq α] (l r : List α) :
    l.foldl (fun m y => m.erase y) (l ++ r) = r := by
  induction l with
  | nil => rfl
  | cons y l ih => rw [List.cons_append, List.foldl_cons, List.erase_cons_head, ih]

/-- A fold that keeps its state and collects each element collects the list. -/
theorem foldl_collect {σ β : Type} {f : σ × List β → β → σ × List β} {u : σ} {l : List β}
    (h : ∀ y ∈ l, ∀ acc, f (u, acc) y = (u, acc ++ [y])) (acc : List β) : l.foldl f (u, acc) = (u, acc ++ l) := by
  induction l generalizing acc with
  | nil => rw [List.foldl_nil, List.append_nil]
  | cons y l ih =>
    rw [List.foldl_cons, h y List.mem_cons_self, ih fun z hz => h z (List.mem_cons_of_mem y hz), List.append_assoc,
      List.singleton_append]

theorem partition_nil {α : Type} (q : α → Bool) : ([] : List α).partition q = ([], []) := rfl

/-- A symbol that is no beacon leaves as it is. -/
theorem State.stampBeacon_of_plain {y : List Byte} (h : leField y 0 1 ≠ 5) : s.stampBeacon p y = (s, y) := if_pos h

section
variable {ys : List (List Byte)} (hplain : ∀ y ∈ ys, leField y 0 1 ≠ 5)
include hplain

/-- Symbols that are no beacons wait for no beacon-free slot. -/
theorem State.sendable_of_plain (u : State) (p : Nat) : u.sendable p ys = ys.take 16 := by
  have hprobe : (ys.filter fun y => !isProbe y) = ys :=
    List.filter_eq_self.2 fun y hy => by simp [isProbe, hplain y hy]
  simp only [State.sendable, hprobe, ite_self]

/-- They leave as they are. -/
theorem State.putSymbols_of_plain (u : State) (p : Nat) (sh : Bool) : u.putSymbols p ys sh =
    (u.modPort p fun q => { q with txC := ys.foldl (fun l y => l.erase y) q.txC }).putNew p
      ((blankFlit 2 ys.flatten).setH 128 5 ys.length) sh := by
  rw [State.putSymbols, foldl_collect fun y hy acc => by rw [State.stampBeacon_of_plain (hplain y hy)]]
  rfl

end

/-! ### What is sent (R238, R245, R276)

`u` is the state once what is late is marked and what the permit table does not admit is discarded. -/

section
variable (hu : (s.markLate p).dropDenied p = u)
include hu

theorem State.transmit_replay {i : Nat} {f : RawFlit} (hi : (u.port p).replayAt = some i)
    (hf : (u.port p).replay[i]? = some f) : s.transmit p = (u.putReplay p i f, none) := by
  simp only [State.transmit, hu, hi, hf]

section
variable (hr : (u.port p).replayAt = none)
include hr

/-- With 512 flits unacknowledged only an idle flit leaves. -/
theorem State.transmit_full (hfull : 512 ≤ (u.port p).replay.length) : s.transmit p = (u.putIdle p, none) := by
  simp only [State.transmit, hu, hr, decide_eq_true hfull, if_true]

section
variable (hroom : (u.port p).replay.length < 512)
include hroom

/-- The S flit that may start now leaves its queue and takes a credit. -/
theorem State.transmit_sFlit {o : OutFlit} {sh : Bool} (ho : u.pickS p = some o)
    (hc : (u.port p).credit 0 = some sh) : s.transmit p =
      let v := (u.modPort p fun q =>
        { q with txS := q.txS.erase o
                 lastSlot := some (u.time.tick - u.time.tick % slotTicks p)
                 slices := o.flit.slice :: (if q.sliceFrame = u.frame then q.slices else [])
                 sliceFrame := u.frame }).putNew p o.flit sh
      (if o.inPort < 31 then v.poolSent o.inPort o.poolId else v, some o) := by
  simp only [State.transmit, hu, hr, decide_eq_false (Nat.not_le.2 hroom), ho, hc]
  rfl

section
variable (hpick : u.pickS p = none)
include hpick

/-- Without one up to 16 symbols leave, where the permit table admits them all and none is a beacon. -/
theorem State.transmit_symbols {sh : Bool} (hne : (u.port p).txC ≠ []) (hc : (u.port p).credit 2 = some sh)
    (hall : ∀ y ∈ (u.port p).txC, u.admitsOut p 2 (leField y 2 2) = true ∧ leField y 0 1 ≠ 5) :
    s.transmit p = ((u.modPort p fun q => { q with txC := q.txC.drop 16 }).putNew p
      ((blankFlit 2 ((u.port p).txC.take 16).flatten).setH 128 5 ((u.port p).txC.take 16).length) sh, none) := by
  have hpart : (u.port p).txC.partition (fun y => u.admitsOut p 2 (leField y 2 2)) = ((u.port p).txC, []) := by
    rw [List.partition_eq_filter_filter, List.filter_eq_self.2 fun y hy => (hall y hy).1,
      List.filter_eq_nil_iff.2 fun y hy => by simp [(hall y hy).1]]
  have hplain : ∀ y ∈ (u.port p).txC, leField y 0 1 ≠ 5 := fun y hy => (hall y hy).2
  have hleft : (u.modPort p fun q => { q with txC := ((u.port p).txC.take 16).foldl (fun l y => l.erase y) q.txC })
      = u.modPort p fun q => { q with txC := q.txC.drop 16 } := by
    have herase := foldl_erase_append ((u.port p).txC.take 16) ((u.port p).txC.drop 16)
    rw [List.take_append_drop] at herase
    rw [State.modPort, State.modPort, herase]
  have hput := State.putSymbols_of_plain (ys := (u.port p).txC.take 16)
    (fun y hy => hplain y (List.mem_of_mem_take hy)) u p sh
  rw [hleft] at hput
  obtain ⟨y, ys, hys⟩ : ∃ y ys, (u.port p).txC.take 16 = y :: ys :=
    List.exists_cons_of_ne_nil (by simpa using hne)
  have hsend : u.sendable p (u.port p).txC = y :: ys := (State.sendable_of_plain hplain u p).trans hys
  simp only [State.transmit, hu, hr, decide_eq_false (Nat.not_le.2 hroom), hpick, hpart, List.foldl_nil,
    List.isEmpty_nil, if_true, Bool.false_eq_true, if_false, hsend, hc]
  rw [← hys, hput]

/-- With no symbol that waits, the first X flit that the permit table admits leaves. -/
theorem State.transmit_xFlit {o : OutFlit} {rest : List OutFlit} {sh : Bool} (hempty : (u.port p).txC = [])
    (hx : ((u.dropDeniedX p).port p).txX = o :: rest) (hc : (u.port p).credit 1 = some sh) : s.transmit p =
      let v := ((u.dropDeniedX p).modPort p fun q => { q with txX := rest }).putNew p o.flit sh
      (if o.inPort < 31 then v.poolSent o.inPort o.poolId else v, none) := by
  have hsend : u.sendable p [] = [] := State.sendable_of_plain (by simp) u p
  simp only [State.transmit, hu, hr, decide_eq_false (Nat.not_le.2 hroom), hpick, hempty, partition_nil,
    List.foldl_nil, List.isEmpty_nil, if_true, Bool.false_eq_true, if_false, hsend, hx, hc]

theorem State.transmit_idle (hempty : (u.port p).txC = []) (hx : ((u.dropDeniedX p).port p).txX = []) :
    s.transmit p = ((u.dropDeniedX p).putIdle p, none) := by
  have hsend : u.sendable p [] = [] := State.sendable_of_plain (by simp) u p
  simp only [State.transmit, hu, hr, decide_eq_false (Nat.not_le.2 hroom), hpick, hempty, partition_nil,
    List.foldl_nil, List.isEmpty_nil, if_true, Bool.false_eq_true, if_false, hsend, hx]

end
end
end
end

/-! ### The record that comes in (R250) -/

/-- The record of a good idle flit in INIT is counted where it equals the one before, and starts the count anew where
it does not; `b` is the state with the freed counts taken. -/
theorem State.initReceive_good {f : RawFlit} {b : State} (hinit : s.fld (LINK_STAT_state p) = 4)
    (hcrc : f.crcOk = true) (hcls : f.cls = 3) (hcw : (s.port p).badCw ≠ some ((s.port p).rxBits / 5140))
    (hb : (s.modPort p fun q => { q with rxBits := q.rxBits + 2304 }).initFreed p f = (b, false)) :
    s.initReceive p f =
      let pay := padTo 256 f.payload
      ((b.modPort p fun q =>
        { q with good := if q.initRec = pay.take 16 then q.good + 1 else 1, initRec := pay.take 16 }).hearStamp p
        (leField pay 40 1 % 16) (leField pay 40 1 / 16) (leField pay 32 4) (leField pay 36 4)
        b.shortStamp).tryEstablish p := by
  have htake : s.takeBits p .clean = (s.modPort p fun q => { q with rxBits := q.rxBits + 2304 }, false) :=
    congrArg (Prod.mk _) (beq_eq_false_iff_ne.2 hcw)
  simp only [State.initReceive, hinit, ne_eq, not_true_eq_false, if_false, htake, hcrc, Bool.not_true, Bool.or_self,
    Bool.false_eq_true, hcls, hb]
  rfl

/-- Settles O21: the line's command is followed case by case, of the port's state and of what waits there. -/
theorem freeLineSendsTheNextFlit : Obligations.FreeLineSendsTheNextFlit := by
  intro s p
  refine ⟨fun h => ?_, fun hinit hactive => ?_, fun h => ?_, fun f b hinit hcrc hcls hcw hb => ?_⟩
  · rw [exec_flitTransmit, State.lineFree_init h]
    rfl
  · rw [exec_flitTransmit, State.lineFree_training hinit hactive]
  · intro u
    have hu : ((s.probeRetry p).markLate p).dropDenied p = u := rfl
    refine ⟨fun i f hi hf => ?_, fun hr => ⟨fun hfull => ?_, fun hroom => ⟨fun o sh ho hc => ?_, fun hpick =>
      ⟨fun sh hne hc hall => ?_, fun hempty => ⟨fun o rest sh hx hc => ?_, fun hx => ?_⟩⟩⟩⟩⟩
    · rw [exec_flitTransmit, State.lineFree_other h (State.transmit_replay hu hi hf)]
      rfl
    · rw [exec_flitTransmit, State.lineFree_other h (State.transmit_full hu hr hfull)]
    · exact congrArg _ (State.lineFree_sFlit h (State.transmit_sFlit hu hr hroom ho hc))
    · exact congrArg _ (State.lineFree_other h (State.transmit_symbols hu hr hroom hpick hne hc hall))
    · exact congrArg _ (State.lineFree_other h (State.transmit_xFlit hu hr hroom hpick hempty hx hc))
    · exact congrArg _ (State.lineFree_other h (State.transmit_idle hu hr hroom hpick hempty hx))
  · rw [exec_initRecordReceive, State.initReceive_good hinit hcrc hcls hcw hb]

end

end Sys2Proof.Machine
end

section
/-! SUPPORT. Departures that come due, late ones, overflow transfers and the image of a path load (O40). -/

namespace Sys2Proof.Machine

theorem exec_departureDue (e : Fin 16) (tag : BitVec 24) (ecc : Ecc) (s : State) :
    exec (.departureDue e tag ecc) s = .next (s.departureDue e tag.toNat ecc) := rfl

theorem exec_lateDeparture (p : Fin 32) (s : State) : exec (.lateDeparture p) s = .next (s.lateDeparture p) := rfl

theorem exec_overflowSend (tag : BitVec 24) (s : State) :
    exec (.overflowSend tag) s = .next (s.overflowSend tag.toNat) := rfl

theorem exec_pathLoadDone (fail : Option (BitVec 16)) (comp : List Byte) (s : State) :
    exec (.pathLoadDone fail comp) s = .next (s.pathLoadDone (fail.map (·.toNat)) comp) := rfl

/-! ### What a departure that is ready sends (R206 to R210) -/

/-- What makes an unguarded departure from staging ready, that no overflow form is called for. -/
def State.depReady (s : State) (d : ArmedDep) : Prop :=
  s.depMay d = true ∧ enClass d.entry ≠ 3 ∧ s.guardFails d.entry = false ∧ srcDevice d.entry = false
    ∧ s.allFilled (srcUnit d.entry) (enLength d.entry + escUnits (s.escTally d.entry)) = true
    ∧ (enReduce d.entry = false ∨ s.escTally d.entry ≤ enR d.entry)

/-- The flits of a departure from staging. -/
def State.depPieces (s : State) (d : ArmedDep) : List Piece :=
  pieces (enLength d.entry) (s.escTally d.entry) 0
    (s.stageRead (256 * srcUnit d.entry) (256 * (enLength d.entry + escUnits (s.escTally d.entry))))

section
variable {s : State} {d : ArmedDep}

/-- A guard that fails sends a void flit (R209). -/
theorem State.depSend_void {bs : List Byte} {late : Bool} (hclass : enClass d.entry ≠ 3)
    (hguard : s.guardFails d.entry = true) :
    s.depSend d bs late = s.launch d [{ idx := 0, form := 2, last := true, payload := [] }] late := by
  simp only [State.depSend, if_neg hclass, if_pos hguard]

section
variable {bs : List Byte} {late : Bool} (hclass : enClass d.entry ≠ 3) (hguard : s.guardFails d.entry = false)
include hclass hguard

/-- A reduce transfer with more escapes than its entry has room for is held for an overflow frame (R210). -/
theorem State.depSend_overflow (hreduce : enReduce d.entry = true) (hroom : enR d.entry < s.escTally d.entry) :
    s.depSend d bs late = (s.setDep { d with overflow := true }).raiseHold d.tag := by
  have hover : (enReduce d.entry && Nat.blt (enR d.entry) (s.escTally d.entry)) = true := by
    simp [hreduce, hroom]
  simp only [State.depSend, if_neg hclass, hguard, Bool.false_eq_true, if_false, if_pos hover]

theorem State.depSend_data (hroom : enReduce d.entry = false ∨ s.escTally d.entry ≤ enR d.entry) :
    s.depSend d bs late = s.launch d (pieces (enLength d.entry) (s.escTally d.entry) 0 bs) late := by
  have hfits : (enReduce d.entry && Nat.blt (enR d.entry) (s.escTally d.entry)) = false := by
    rcases hroom with h | h
    · rw [h, Bool.false_and]
    · have hblt : Nat.blt (enR d.entry) (s.escTally d.entry) = false := by simp [← Bool.not_eq_true, Nat.blt_eq, h]
      rw [hblt, Bool.and_false]
  simp only [State.depSend, if_neg hclass, hguard, hfits, Bool.false_eq_true, if_false]

end

/-- A source in staging that is filled is read at once (R204). -/
theorem State.source_filled {ecc : Ecc} (hsrc : srcDevice d.entry = false)
    (hfill : s.allFilled (srcUnit d.entry) (enLength d.entry + escUnits (s.escTally d.entry)) = true) :
    s.source d ecc = (s, .ready (s.stageRead (256 * srcUnit d.entry)
      (256 * (enLength d.entry + escUnits (s.escTally d.entry))))) := by
  simp only [State.source, hsrc, Bool.false_eq_true, if_false, hfill, if_true]

section
variable {ecc : Ecc} {late : Bool}

theorem State.depTry_mayNot (h : s.treeDone.depMay d = false) : s.depTry d ecc late = (s.treeDone, false) := by
  simp only [State.depTry, h, Bool.not_false, if_true]

theorem State.depTry_void (hmay : s.treeDone.depMay d = true) (hclass : enClass d.entry ≠ 3)
    (hguard : s.treeDone.guardFails d.entry = true) : s.depTry d ecc late =
      (s.treeDone.launch d [{ idx := 0, form := 2, last := true, payload := [] }] late, true) := by
  simp only [State.depTry, hmay, Bool.not_true, Bool.false_eq_true, if_false, if_neg hclass, hguard, if_true,
    State.depSend_void hclass hguard]

theorem State.depTry_ready (h : s.treeDone.depReady d) :
    s.depTry d ecc late = (s.treeDone.launch d (s.treeDone.depPieces d) late, true) := by
  obtain ⟨hmay, hclass, hguard, hsrc, hfill, hroom⟩ := h
  simp only [State.depTry, hmay, Bool.not_true, Bool.false_eq_true, if_false, if_neg hclass, hguard,
    State.source_filled hsrc hfill, State.depSend_data hclass hguard hroom]
  rfl

end

/-- The one flit of a departure on a path that is no tree joins its first port's queue (R207, R213). -/
theorem State.launch_single {x : Piece} (htree : pathTree (s.pathEntry (enPath d.entry)) = false) :
    s.launch d [x] false =
      let t := ((s.setDep { d with sent := true, leftAt := none }).flightStart d false).trace 3 d.tag (unitDx d.dx) 0
      let again := t.fab.deps.any fun u => u.dx == d.dx && u.idx == d.idx && u.due == d.due && u.contested
      t.queueOut (pathHop (s.pathEntry (enPath d.entry)) 0)
        { flit := mkSFlit (s.fld TOPO_SLICE_id) d.tag (enPath d.entry) 1 x.idx x.form (enAc d.entry) (enW d.entry)
            (enR d.entry) x.e x.last x.payload
          slot := d.due + x.idx * pathSpacing (s.pathEntry (enPath d.entry)), late := again, final := true
          rank := d.dx + 1, claim := claimOf d.due d.idx } := by
  simp only [State.launch, htree, Bool.false_eq_true, if_false, Bool.or_false, Bool.false_or, List.foldl_cons,
    List.foldl_nil, List.getLast?_singleton, beq_self_eq_true]
  rfl

/-! ### A departure that comes due (R180, R205, R206) -/

/-- A departure not sent, not late and not held, of engine `e`. -/
def ArmedDep.comesDue (e tag : Nat) (d : ArmedDep) : Bool :=
  d.dx == e && d.tag == tag && !d.sent && !d.late && !d.overflow

/-- A departure becomes late and is counted. -/
def State.slowDep (s : State) (d : ArmedDep) : State :=
  (s.setDep { d with late := true }).count TIME_LATE_CNT_count 1

section
variable {e tag : Nat} {ecc : Ecc}

theorem State.departureDue_none (h : s.fab.deps.find? (ArmedDep.comesDue e tag) = none) :
    s.departureDue e tag ecc = s := by
  unfold ArmedDep.comesDue at h
  simp only [State.departureDue, h]

section
variable (h : s.fab.deps.find? (ArmedDep.comesDue e tag) = some d)
include h

theorem State.departureDue_mayNot (hmay : (s.toTick d.due).mayDepart = false) :
    s.departureDue e tag ecc = (s.toTick d.due).dropDep d := by
  unfold ArmedDep.comesDue at h
  simp only [State.departureDue, h, hmay, Bool.not_false, if_true]

section
variable (hmay : (s.toTick d.due).mayDepart = true)
include hmay

/-- Looked at after its tick it is late before it is tried. -/
theorem State.departureDue_after (hdue : d.due < s.time.tick) : s.departureDue e tag ecc =
    (((s.toTick d.due).slowDep d).depTry { d with late := true } ecc true).1.checkHolds := by
  unfold ArmedDep.comesDue at h
  simp only [State.departureDue, h, hmay, Bool.not_true, Bool.false_eq_true, if_false, decide_eq_true hdue, if_true]
  rfl

section
variable (hdue : s.time.tick ≤ d.due)
include hdue

theorem State.departureDue_leaves {t : State} (ht : (s.toTick d.due).depTry d ecc false = (t, true)) :
    s.departureDue e tag ecc = t.checkHolds := by
  unfold ArmedDep.comesDue at h
  simp only [State.departureDue, h, hmay, Bool.not_true, Bool.false_eq_true, if_false,
    decide_eq_false (Nat.not_lt.2 hdue), ht]

/-- One that cannot leave at its tick becomes late. -/
theorem State.departureDue_waits {t : State} (ht : (s.toTick d.due).depTry d ecc false = (t, false)) :
    s.departureDue e tag ecc = (t.slowDep d).checkHolds := by
  unfold ArmedDep.comesDue at h
  simp only [State.departureDue, h, hmay, Bool.not_true, Bool.false_eq_true, if_false,
    decide_eq_false (Nat.not_lt.2 hdue), ht]
  rfl

end
end
end
end

/-! ### Late departures (R180) and overflow transfers (R210) -/

theorem State.lateDeparture_mayNot {p : Nat} (h : s.mayDepart = false) : s.lateDeparture p = s := by
  simp only [State.lateDeparture, h, Bool.not_false, if_true]

/-- The only late departure of a port is tried. -/
theorem State.lateDeparture_single {p : Nat} (hmay : s.mayDepart = true)
    (h : s.fab.deps.filter (fun x => x.isLate && s.depPort x == p) = [d]) :
    s.lateDeparture p = (s.depTry d .clean true).1.checkHolds := by
  simp only [State.lateDeparture, hmay, Bool.not_true, Bool.false_eq_true, if_false, h, List.foldl_cons,
    List.foldl_nil, insertDue]

/-- A transfer held for an overflow frame. -/
def ArmedDep.heldOver (tag : Nat) (d : ArmedDep) : Bool := d.tag == tag && d.overflow && !d.sent

section
variable {tag : Nat}

theorem State.overflowSend_none (h : s.fab.deps.find? (ArmedDep.heldOver tag) = none) : s.overflowSend tag = s := by
  unfold ArmedDep.heldOver at h
  simp only [State.overflowSend, h]

/-- Outside a slip frame, or where its conditions do not hold, it stays. -/
theorem State.overflowSend_stays (h : s.fab.deps.find? (ArmedDep.heldOver tag) = some d)
    (hstays : (!s.time.slipFrame || !s.mayDepart || !s.depMay d) = true) : s.overflowSend tag = s := by
  unfold ArmedDep.heldOver at h
  simp only [State.overflowSend, h, hstays, if_true]

theorem State.overflowSend_leaves (h : s.fab.deps.find? (ArmedDep.heldOver tag) = some d)
    (hslip : s.time.slipFrame = true) (hmay : s.mayDepart = true) (hdep : s.depMay d = true) : s.overflowSend tag =
      let n := enLength d.entry + escUnits (s.escTally d.entry)
      let bs := overflowBytes (pathNb (s.pathEntry (enPath d.entry))) (enW d.entry)
        (s.stageRead (256 * srcUnit d.entry) (256 * n))
      (s.launch d (pieces (ceilDiv bs.length 256) 0 1 bs) true).checkHolds := by
  unfold ArmedDep.heldOver at h
  simp only [State.overflowSend, h, hslip, hmay, hdep, Bool.not_true, Bool.or_self, Bool.false_eq_true, if_false]

/-- Where none is held, the frame is no slip frame or nothing may depart, nothing happens. -/
theorem State.overflowSend_idle (h : s.fab.deps.find? (ArmedDep.heldOver tag) = none ∨ s.time.slipFrame = false
    ∨ s.mayDepart = false) : s.overflowSend tag = s := by
  cases hd : s.fab.deps.find? (ArmedDep.heldOver tag) with
  | none => exact State.overflowSend_none hd
  | some d =>
    refine State.overflowSend_stays hd ?_
    rcases h with h | h | h
    · simp [hd] at h
    · simp [h]
    · simp [h]

end

/-! ### The image of a path load (R463) -/

theorem State.pathLoadDone_none {fail : Option Nat} {comp : List Byte} (h : s.fab.pathLoad = none) :
    s.pathLoadDone fail comp = s := by
  simp only [State.pathLoadDone, h]

/-- The image is taken entry by entry, and the load is over. -/
def State.takeImage (s : State) (n : Nat) (bs : List Byte) : State :=
  ((((chunks 32 n bs).zipIdx).foldl (fun t x => t.setPath x.2 (leNat x.1)) s).modFab fun f =>
    { f with pathLoad := none }).setFld FAB_PATH_STAT_loading 0

/-- `bs` holds the first `n` entries of the image at `a`: the companion's answer, or what this device's memory holds. -/
theorem State.pathLoadDone_some {fail : Option Nat} {comp bs : List Byte} {a n : Nat} (h : s.fab.pathLoad = some a)
    (hn : min (s.pathGood a comp) (fail.getD 65536) = n) (hcomp : inCompanion a = true → bs = comp)
    (hown : inCompanion a = false → ∃ t, s.devGet 0 a (32 * n) 0 .clean = (t, .data bs)) :
    s.pathLoadDone fail comp =
      (if n < 65536 then (s.takeImage n bs).pathRefuse n else s.takeImage n bs).xPump := by
  cases ha : inCompanion a with
  | true =>
    obtain rfl := hcomp ha
    simp only [State.pathLoadDone, h, hn, ha, if_true]
    rfl
  | false =>
    obtain ⟨t, ht⟩ := hown ha
    simp only [State.pathLoadDone, h, hn, ha, Bool.false_eq_true, if_false, ht]
    rfl

end

/-- Settles O40: each command is followed through its branches, and what leaves is what `depTry` makes of it. -/
theorem departuresLeaveInTheirSlotOrLate : Obligations.DeparturesLeaveInTheirSlotOrLate := by
  intro s e tag ecc mine ready flits
  refine ⟨fun h => ?_, ?_, fun p => ⟨fun hmay => ?_, fun d hmay hone => ⟨?_, fun hready => ?_⟩⟩, ?_,
    fun d bs late hclass hguard hreduce hroom => State.depSend_overflow hclass hguard hreduce hroom,
    fun d x htree => State.launch_single htree, fun fail comp => ⟨fun h => ?_, ?_⟩⟩
  · rw [exec_departureDue, State.departureDue_none h]
  · intro d h u z slow
    refine ⟨fun hmay => ?_, fun hmay hdue => ⟨?_, fun hready => ?_⟩, fun hmay hdue => ⟨fun hready => ?_,
      fun hdep hclass hguard => ?_, fun hdep => ?_, fun t ht => ?_, fun t ht => ?_⟩⟩
    · rw [exec_departureDue, State.departureDue_mayNot h hmay]
    · rw [exec_departureDue, State.departureDue_after h hmay hdue]
      rfl
    · have hlate : ((s.toTick d.due).slowDep d).treeDone.depReady { d with late := true } := hready
      rw [exec_departureDue, State.departureDue_after h hmay hdue, State.depTry_ready hlate]
      rfl
    · rw [exec_departureDue, State.departureDue_leaves h hmay hdue (State.depTry_ready hready)]
      rfl
    · rw [exec_departureDue, State.departureDue_leaves h hmay hdue (State.depTry_void hdep hclass hguard)]
    · rw [exec_departureDue, State.departureDue_waits h hmay hdue (State.depTry_mayNot hdep)]
      rfl
    · rw [exec_departureDue, State.departureDue_leaves h hmay hdue ht]
    · rw [exec_departureDue, State.departureDue_waits h hmay hdue ht]
      rfl
  · rw [exec_lateDeparture, State.lateDeparture_mayNot hmay]
  · rw [exec_lateDeparture, State.lateDeparture_single hmay hone]
  · rw [exec_lateDeparture, State.lateDeparture_single hmay hone, State.depTry_ready hready]
    rfl
  · intro isOver
    refine ⟨fun h => ?_, fun d hd hdep => ?_, fun d hd hslip hmay hdep => ?_⟩
    · rw [exec_overflowSend, State.overflowSend_idle h]
    · rw [exec_overflowSend, State.overflowSend_stays hd (by simp [hdep])]
    · rw [exec_overflowSend, State.overflowSend_leaves hd hslip hmay hdep]
  · rw [exec_pathLoadDone, State.pathLoadDone_none h]
  · intro a h n bs hcomp hown u v
    have hdone := State.pathLoadDone_some (fail := fail.map (·.toNat)) (n := n) h rfl hcomp hown
    refine ⟨fun hn => ?_, fun hn => ?_⟩
    · rw [exec_pathLoadDone, hdone, if_pos hn]
      rfl
    · rw [exec_pathLoadDone, hdone, if_neg (Nat.not_lt.2 hn)]
      rfl

end Sys2Proof.Machine
end

section
/-! SUPPORT. The dispatch engines: reading a table entry, the marks, and arming the head entry (O39). -/

namespace Sys2Proof.Machine

theorem exec_dxEntryRead (e : Fin 16) (ecc : Ecc) (s : State) :
    exec (.dxEntryRead e ecc) s = .next (s.dxRead e ecc) := rfl

theorem exec_entryArm (e : Fin 16) (s : State) : exec (.entryArm e) s = .next (s.entryArm e) := rfl

section
variable {s : State} {e : Nat}

/-! ### Reading an entry (R194, R195, R314, R317) -/

section
variable {ecc : Ecc}

theorem State.dxRead_idle (h : s.dxOn e = false ∨ (s.dx e).sawEnd = true ∨ 256 ≤ (s.dx e).queue.length) :
    s.dxRead e ecc = s := by
  refine if_pos ?_
  rcases h with h | h | h <;> simp [h]

/-- The engine's index moves on. -/
def State.dxStep (s : State) (e : Nat) : State :=
  s.setFld (FAB_DX_POS_index e) ((s.fld (FAB_DX_POS_index e) + 1) % 2 ^ 25)

/-- What an engine reads, its index moved on. -/
def State.dxReadAt (s : State) (e i : Nat) (ecc : Ecc) : State :=
  match s.memGet (tableAddr i) 16 0 ecc with
  | (t, .data bs) => (t.memPut (s.windowAddr e i) 0 bs).dxWindow e i (s.windowAddr e i) (eccFrom 1 ecc)
  | (t, .poison d) => t.dxPoison e d
  | (t, .down) => t

theorem State.dxRead_runs (hon : s.dxOn e = true) (hend : (s.dx e).sawEnd = false)
    (hroom : (s.dx e).queue.length < 256) :
    s.dxRead e ecc = (s.dxStep e).dxReadAt e (s.fld (FAB_DX_POS_index e)) ecc := by
  refine if_neg ?_
  simp [hon, hend, hroom]

theorem State.dxReadAt_poison {i dv : Nat} {t : State} (h : s.memGet (tableAddr i) 16 0 ecc = (t, .poison dv)) :
    s.dxReadAt e i ecc = t.dxPoison e dv := by
  simp only [State.dxReadAt, h]

theorem State.dxWindow_data {i w : Nat} {t : State} {bs : List Byte} (h : s.memGet w 16 0 ecc = (t, .data bs)) :
    s.dxWindow e i w ecc = t.dxQueue e i (leNat bs) := by
  simp only [State.dxWindow, h]

/-- The entry is copied into the engine's window and read there. -/
theorem State.dxReadAt_data {i : Nat} {t t' : State} {bs bs' : List Byte}
    (h : s.memGet (tableAddr i) 16 0 ecc = (t, .data bs))
    (h' : (t.memPut (s.windowAddr e i) 0 bs).memGet (s.windowAddr e i) 16 0 (eccFrom 1 ecc) = (t', .data bs')) :
    s.dxReadAt e i ecc = t'.dxQueue e i (leNat bs') := by
  simp only [State.dxReadAt, h]
  exact State.dxWindow_data h'

end

/-! ### Marks (R199, R201) -/

section
variable {kind : Nat}

theorem State.takeMark_empty (h : s.dxHead e = none) : s.takeMark e kind = none := by
  simp only [State.takeMark, h]

section
variable {j en : Nat} (hhead : s.dxHead e = some (j, en))
include hhead

theorem State.takeMark_other (h : enClass en ≠ 2 ∨ bits en 28 2 ≠ kind) : s.takeMark e kind = none := by
  have hother : ¬ (enClass en = 2 ∧ markKind en = kind) := fun hmark => h.elim (· hmark.1) (· hmark.2)
  simp only [State.takeMark, hhead, if_neg hother]

section
variable (hclass : enClass en = 2) (hkind : bits en 28 2 = kind)
include hclass hkind

theorem State.takeMark_malformed (hbad : markBad en = true) :
    s.takeMark e kind = some (0, (s.dxPop e).dxRefuse e en) := by
  have hmark : enClass en = 2 ∧ markKind en = kind := ⟨hclass, hkind⟩
  simp only [State.takeMark, hhead, if_pos hmark, if_pos hbad]

theorem State.takeMark_good (hgood : markBad en = false) : s.takeMark e kind = some (en, s.dxPop e) := by
  have hmark : enClass en = 2 ∧ markKind en = kind := ⟨hclass, hkind⟩
  simp only [State.takeMark, hhead, if_pos hmark, hgood, Bool.false_eq_true, if_false]

end
end

/-- The entry 0, which stands for a refused mark, is no mark. -/
theorem ne_zero_of_enClass_two {en : Nat} (h : enClass en = 2) : en ≠ 0 := by
  rintro rfl
  exact absurd h (by decide)

/-- A mark command does `act` with a good mark of its kind at the engine's head. -/
def State.onMark (s : State) (e kind : Nat) (act : Nat → State → State) : State :=
  match s.takeMark e kind with
  | some (en, u) => if en = 0 then u else act en u
  | none => s

section
variable {act : Nat → State → State}

theorem State.onMark_none (h : s.takeMark e kind = none) : s.onMark e kind act = s := by
  simp only [State.onMark, h]

theorem State.onMark_malformed {j en : Nat} (hhead : s.dxHead e = some (j, en)) (hclass : enClass en = 2)
    (hkind : bits en 28 2 = kind) (hbad : markBad en = true) :
    s.onMark e kind act = (s.dxPop e).dxRefuse e en := by
  simp only [State.onMark, State.takeMark_malformed hhead hclass hkind hbad, if_true]

theorem State.onMark_good {j en : Nat} (hhead : s.dxHead e = some (j, en)) (hclass : enClass en = 2)
    (hkind : bits en 28 2 = kind) (hgood : markBad en = false) : s.onMark e kind act = act en (s.dxPop e) := by
  simp only [State.onMark, State.takeMark_good hhead hclass hkind hgood, if_neg (ne_zero_of_enClass_two hclass)]

end
end

/-- `o` comes of a command for marks of kind `kind` alone: it leaves the state with no entry or another entry at the
head, and refuses a malformed mark. -/
def State.TakesMark (s : State) (e kind : Nat) (o : Out) : Prop :=
  (s.dxHead e = none → o = .next s)
  ∧ (∀ j en, s.dxHead e = some (j, en) → (enClass en ≠ 2 ∨ bits en 28 2 ≠ kind) → o = .next s)
  ∧ (∀ j en, s.dxHead e = some (j, en) → enClass en = 2 → bits en 28 2 = kind → markBad en = true →
      o = .next ((s.dxPop e).dxRefuse e en))

theorem State.takesMark_onMark (s : State) (e kind : Nat) (act : Nat → State → State) :
    s.TakesMark e kind (.next (s.onMark e kind act)) :=
  ⟨fun h => congrArg _ (State.onMark_none (State.takeMark_empty h)),
    fun _ _ h hother => congrArg _ (State.onMark_none (State.takeMark_other h hother)),
    fun _ _ h hclass hkind hbad => congrArg _ (State.onMark_malformed h hclass hkind hbad)⟩

/-- A frame mark moves the engine's schedule frame on by its count, at least 1. -/
def State.frameMark (e en : Nat) (u : State) : State :=
  u.setDx e { u.dx e with frame := (u.dx e).frame + max (bits en 55 16) 1 }

/-- The jumps that a counted jump still makes, this one included. -/
def DxSt.jumps (x : DxSt) (n : Nat) : Nat := if x.active then x.lc else n - 1

/-- A jump goes to its target: always without a count, else as many times as its count says. -/
def State.jumpMark (e en : Nat) (u : State) : State :=
  if bits en 55 16 = 0 then u.jumpTo e (bits en 30 25)
  else if 0 < (u.dx e).jumps (bits en 55 16) then
    (u.setDx e { u.dx e with lc := (u.dx e).jumps (bits en 55 16) - 1, active := true }).jumpTo e (bits en 30 25)
  else u.setDx e { u.dx e with lc := (u.dx e).jumps (bits en 55 16), active := false }

/-- An end stops the engine and shows it done. -/
def State.endMark (e _en : Nat) (u : State) : State :=
  (u.setDx e { u.dx e with stopped := true }).setFld (FAB_DX_STAT_done e) 1

theorem exec_markFrame (e : Fin 16) (s : State) :
    exec (.markFrame e) s = .next (s.onMark e 0 (State.frameMark e)) := rfl

theorem exec_markJump (e : Fin 16) (s : State) :
    exec (.markJump e) s = .next (s.onMark e 1 (State.jumpMark e)) := rfl

theorem exec_markEnd (e : Fin 16) (s : State) :
    exec (.markEnd e) s = .next (s.onMark e 2 (State.endMark e)) := rfl

/-! ### Arming (R200, R201, R216) -/

/-- An entry armed ahead of its engine's command costs that command. -/
theorem State.entryArm_ahead (hat : (s.dx e).aheadAt = s.time.tick) (hn : 0 < (s.dx e).ahead) :
    s.entryArm e = s.setDx e { s.dx e with ahead := (s.dx e).ahead - 1 } := if_pos ⟨hat, hn⟩

/-- This command's own entry is no longer ahead of it. -/
def State.armedOne (s : State) (e : Nat) : State := s.setDx e { s.dx e with ahead := (s.dx e).ahead - 1 }

section
variable (hahead : ¬ ((s.dx e).aheadAt = s.time.tick ∧ 0 < (s.dx e).ahead))
include hahead

theorem State.entryArm_empty (h : s.dxHead e = none) : s.entryArm e = s := by
  simp only [State.entryArm, if_neg hahead, h]

theorem State.entryArm_head {j en : Nat} (h : s.dxHead e = some (j, en)) (hclass : enClass en ≠ 2) :
    s.entryArm e = (s.toTick (s.dueOf (s.dx e).frame en - 256)).armTick.armedOne e := by
  simp only [State.entryArm, if_neg hahead, h, if_neg hclass]
  rfl

end

/-- Whether an entry due at `due` lies before the one before it. -/
def DxSt.goesBack (d : DxSt) (due : Nat) : Prop := ∃ l, d.lastDue = some l ∧ due < l

/-- The engine without the entry, which is counted as taken ahead at the present tick. -/
def State.dxTaken (s : State) (e j en : Nat) : State :=
  s.setDx e { s.dx e with queue := (s.dx e).queue.erase (j, en), lastDue := some (s.dueOf (s.dx e).frame en)
                          ahead := (if (s.dx e).aheadAt = s.time.tick then (s.dx e).ahead else 0) + 1
                          aheadAt := s.time.tick }

section
variable {j en : Nat}

theorem State.takeOff_back (h : (s.dx e).goesBack (s.dueOf (s.dx e).frame en)) :
    s.takeOff (e, j, en) = (s.dxTaken e j en).raise 0x4002 (unitDx e) (enTag en) 0 := by
  obtain ⟨l, hl, hlt⟩ := h
  simp only [State.takeOff, hl, decide_eq_true hlt, if_true]
  rfl

theorem State.takeOff_inOrder (h : ¬ (s.dx e).goesBack (s.dueOf (s.dx e).frame en)) :
    s.takeOff (e, j, en) = s.dxTaken e j en := by
  cases hl : (s.dx e).lastDue with
  | none =>
    simp only [State.takeOff, hl, Bool.false_eq_true, if_false]
    rfl
  | some l =>
    have hle : ¬ s.dueOf (s.dx e).frame en < l := fun hlt => h ⟨l, hl, hlt⟩
    simp only [State.takeOff, hl, decide_eq_false hle, Bool.false_eq_true, if_false]
    rfl

/-- Where one entry alone is to be armed, it is taken off and armed. -/
theorem State.armTick_single (h : (List.range 16).flatMap s.armable = [(e, j, en)]) :
    s.armTick = (s.takeOff (e, j, en)).armEntry (e, j, en) := by
  by_cases hclass : enClass en = 1 <;> simp [State.armTick, h, hclass]

theorem State.armEntry_bad (h : s.entryBad en = true) : s.armEntry (e, j, en) = s.dxRefuse e en := if_pos h

section
variable (hgood : s.entryBad en = false)
include hgood

theorem State.armEntry_departure (hclass : enClass en ≠ 1) : s.armEntry (e, j, en) =
    s.armDeparture e j en (s.dx e).frame (s.dueOf (s.dx e).frame en) := by
  simp only [State.armEntry, hgood, Bool.false_eq_true, if_false, if_neg hclass]

theorem State.armEntry_transit (hclass : enClass en = 1) :
    s.armEntry (e, j, en) = s.armTransit e en (s.dueOf (s.dx e).frame en) := by
  simp only [State.armEntry, hgood, Bool.false_eq_true, if_false, if_pos hclass]

end

/-- A join that finds no free unit is lost (R216). -/
theorem State.armTransit_noUnit {due : Nat} (hjoin : enJoin en = true) (hru : s.freeRu = none) :
    s.armTransit e en due = s.raise 0x4013 (unitDx e) (enTag en) 0 := by
  simp only [State.armTransit, hjoin, hru, Option.isNone_none, Bool.and_self, if_true]

end
end

/-- Settles O39: the mark commands share one form, and an entry that is armed alone is taken off and then armed. -/
theorem dispatchEnginesReadAndArm : Obligations.DispatchEnginesReadAndArm := by
  intro s e ecc d
  refine ⟨fun h => ?_, fun hon hend hroom => ⟨fun t dv h => ?_, fun t bs t' bs' h h' => ?_⟩, ⟨?_, ?_, ?_⟩,
    fun j en hhead hclass hgood => ⟨fun hkind => ?_, fun hkind => ?_, fun hkind => ?_⟩, fun hat hn => ?_,
    fun hahead => ⟨fun h => ?_, fun j en hhead hclass => ⟨?_, fun hone b hback hnot => ?_⟩⟩, fun u => rfl⟩
  · rw [exec_dxEntryRead, State.dxRead_idle h]
  · rw [exec_dxEntryRead, State.dxRead_runs hon hend hroom]
    exact congrArg _ (State.dxReadAt_poison h)
  · rw [exec_dxEntryRead, State.dxRead_runs hon hend hroom]
    exact congrArg _ (State.dxReadAt_data h h')
  · exact s.takesMark_onMark e 0 (State.frameMark e)
  · exact s.takesMark_onMark e 1 (State.jumpMark e)
  · exact s.takesMark_onMark e 2 (State.endMark e)
  · rw [exec_markFrame, State.onMark_good hhead hclass hkind hgood]
    rfl
  · rw [exec_markJump, State.onMark_good hhead hclass hkind hgood]
    refine ⟨fun hn => ?_, fun hn hlc => ?_, fun hn hlc => ?_⟩
    · exact congrArg _ (if_pos hn)
    · exact congrArg _ ((if_neg hn).trans (if_pos hlc))
    · have hlast : ((s.dxPop e).dx e).jumps (bits en 55 16) = 0 := hlc
      rw [State.jumpMark, if_neg hn, hlast]
      rfl
  · rw [exec_markEnd, State.onMark_good hhead hclass hkind hgood]
    rfl
  · rw [exec_entryArm, State.entryArm_ahead hat hn]
  · rw [exec_entryArm, State.entryArm_empty hahead h]
  · rw [exec_entryArm, State.entryArm_head hahead hhead hclass]
    rfl
  · have htaken : (s.toTick (s.dueOf d.frame en - 256)).takeOff (e, j, en) = b := by
      by_cases hlate : ((s.toTick (s.dueOf d.frame en - 256)).dx e).goesBack
          ((s.toTick (s.dueOf d.frame en - 256)).dueOf d.frame en)
      · exact (State.takeOff_back hlate).trans (hback hlate).symm
      · exact (State.takeOff_inOrder hlate).trans (hnot hlate).symm
    have harm : exec (.entryArm e) s = .next ((b.armEntry (e, j, en)).armedOne e) := by
      rw [exec_entryArm, State.entryArm_head hahead hhead hclass, State.armTick_single hone, htaken]
    rw [harm]
    refine ⟨fun hbad => ?_, fun hgood hother => ?_, fun hgood htransit => ?_, fun hgood htransit hjoin hru => ?_⟩
    · rw [State.armEntry_bad hbad]
      rfl
    · rw [State.armEntry_departure hgood hother]
      rfl
    · rw [State.armEntry_transit hgood htransit]
      rfl
    · rw [State.armEntry_transit hgood htransit, State.armTransit_noUnit hjoin hru]
      rfl

end Sys2Proof.Machine
end

section
/-! SUPPORT. The close of the token queue: the order of its records and the selection for each expert (O41). -/

namespace Sys2Proof.Machine

theorem exec_bundleQueueClose (s : State) : exec .bundleQueueClose s = .next s.bundleClose := rfl

/-! ### The order of the records (R222) -/

/-- The token index of a record. -/
def recToken (bs : List Byte) : Nat := leField bs 0 4

/-- Records in the order of their token indices. -/
def TokSorted (l : List (List Byte)) : Prop := l.Pairwise fun a b => recToken a ≤ recToken b

theorem insertTok_perm (bs : List Byte) (l : List (List Byte)) : (insertTok bs l).Perm (bs :: l) := by
  induction l with
  | nil => exact .refl _
  | cons a l ih =>
    simp only [insertTok]
    split
    · exact .refl _
    · exact (ih.cons a).trans (.swap bs a l)

theorem TokSorted.insertTok {bs : List Byte} {l : List (List Byte)} (h : TokSorted l) :
    TokSorted (insertTok bs l) := by
  induction l with
  | nil => exact List.pairwise_singleton _ _
  | cons a l ih =>
    obtain ⟨ha, hl⟩ := List.pairwise_cons.1 h
    simp only [Machine.insertTok]
    split
    next hlt =>
      refine List.pairwise_cons.2 ⟨fun b hb => ?_, h⟩
      rcases List.mem_cons.1 hb with rfl | hb
      · exact Nat.le_of_lt hlt
      · exact Nat.le_trans (Nat.le_of_lt hlt) (ha b hb)
    next hle =>
      refine List.pairwise_cons.2 ⟨fun b hb => ?_, ih hl⟩
      rcases List.mem_cons.1 ((insertTok_perm bs l).mem_iff.1 hb) with rfl | hb
      · exact Nat.not_lt.1 hle
      · exact ha b hb

/-- Records inserted one after the other are those that were there and those inserted. -/
theorem foldl_insertTok_perm (l acc : List (List Byte)) :
    (l.foldl (fun acc b => insertTok b acc) acc).Perm (l ++ acc) := by
  induction l generalizing acc with
  | nil => exact .refl _
  | cons b l ih => exact (ih _).trans (((insertTok_perm b acc).append_left l).trans List.perm_middle)

theorem TokSorted.foldl_insertTok (l : List (List Byte)) {acc : List (List Byte)} (h : TokSorted acc) :
    TokSorted (l.foldl (fun acc b => Machine.insertTok b acc) acc) := by
  induction l generalizing acc with
  | nil => exact h
  | cons b l ih => exact ih h.insertTok

theorem sortTok_perm (l : List (List Byte)) : (sortTok l).Perm l :=
  (foldl_insertTok_perm l []).trans (.of_eq (List.append_nil l))

theorem tokSorted_sortTok (l : List (List Byte)) : TokSorted (sortTok l) :=
  TokSorted.foldl_insertTok l List.Pairwise.nil

/-! ### The selection (R222) -/

/-- What the selection has made of the records so far: the count of each expert, the chosen records and the others. -/
abbrev Selection := SMap Nat × List (List Byte) × List (List Byte)

/-- The next record is chosen where its expert has not yet as many as its cap. -/
def State.selectRec (s : State) (acc : Selection) (b : List Byte) : Selection :=
  if smGet (fun _ => 0) acc.1 (recExpert b) < s.fld (FAB_EXPERT_cap (recExpert b)) then
    (smSet (fun _ => 0) acc.1 (recExpert b) (smGet (fun _ => 0) acc.1 (recExpert b) + 1), acc.2.1 ++ [b], acc.2.2)
  else (acc.1, acc.2.1, acc.2.2 ++ [b])

theorem State.selectRecs_eq_foldl (s : State) (l : List (List Byte)) :
    s.selectRecs l = (l.foldl s.selectRec ([], [], [])).2 := rfl

/-- How many of the records are expert `e`'s. -/
def ofExpert (e : Nat) (l : List (List Byte)) : Nat := (l.filter fun b => recExpert b == e).length

theorem ofExpert_append_single_same (b : List Byte) (l : List (List Byte)) :
    ofExpert (recExpert b) (l ++ [b]) = ofExpert (recExpert b) l + 1 := by
  simp [ofExpert]

theorem ofExpert_append_single_other {e : Nat} {b : List Byte} (h : e ≠ recExpert b) (l : List (List Byte)) :
    ofExpert e (l ++ [b]) = ofExpert e l := by
  simp [ofExpert, h.symm]

/-- The selection after the records `l`: each is chosen or not, and no expert is over its cap. -/
structure State.Selected (s : State) (l : List (List Byte)) (acc : Selection) : Prop where
  wf : smWf (fun _ => 0) acc.1 = true
  counted : ∀ e, smGet (fun _ => 0) acc.1 e = ofExpert e acc.2.1
  capped : ∀ e, ofExpert e acc.2.1 ≤ s.fld (FAB_EXPERT_cap e)
  perm : (acc.2.1 ++ acc.2.2).Perm l

section
variable {s : State} {l : List (List Byte)} {acc : Selection}

theorem State.selected_nil (s : State) : s.Selected [] ([], [], []) :=
  ⟨rfl, fun _ => rfl, fun _ => Nat.zero_le _, .refl _⟩

theorem State.Selected.selectRec (h : s.Selected l acc) (b : List Byte) :
    s.Selected (l ++ [b]) (s.selectRec acc b) := by
  obtain ⟨hwf, hcount, hcap, hperm⟩ := h
  unfold State.selectRec
  split
  next hroom =>
    rw [hcount] at hroom ⊢
    refine ⟨smWf_smSet hwf, fun e => ?_, fun e => ?_, ?_⟩
    · rcases Decidable.em (e = recExpert b) with rfl | he
      · rw [smGet_smSet_same hwf, ofExpert_append_single_same]
      · rw [smGet_smSet_other he, ofExpert_append_single_other he, hcount]
    · rcases Decidable.em (e = recExpert b) with rfl | he
      · rw [ofExpert_append_single_same]
        exact hroom
      · rw [ofExpert_append_single_other he]
        exact hcap e
    · have hmove : (acc.2.1 ++ [b] ++ acc.2.2).Perm (acc.2.1 ++ acc.2.2 ++ [b]) := by
        simpa using (List.perm_append_comm (l₁ := [b]) (l₂ := acc.2.2)).append_left acc.2.1
      exact hmove.trans (hperm.append_right [b])
  next =>
    refine ⟨hwf, hcount, hcap, ?_⟩
    rw [← List.append_assoc]
    exact hperm.append_right [b]

theorem State.Selected.foldl (h : s.Selected l acc) (l' : List (List Byte)) :
    s.Selected (l ++ l') (l'.foldl s.selectRec acc) := by
  induction l' generalizing l acc with
  | nil => rwa [List.append_nil]
  | cons b l' ih => simpa using ih (h.selectRec b)

theorem State.selected_selectRecs (s : State) (l : List (List Byte)) :
    s.Selected l (l.foldl s.selectRec ([], [], [])) := by
  simpa using s.selected_nil.foldl l

end

/-! ### The close (R221 to R224) -/

/-- The records of each lane, none for a lane without a filled terminator. -/
def State.laneLists (s : State) : List (Option (List (List Byte))) :=
  (List.range s.lanes).map fun p => s.laneRecs (s.qbase + p * s.laneUnits) s.laneUnits (s.laneUnits + 1)

/-- The records in the order in which they are chosen: those kept from the frame before, then those of the lanes. -/
def State.queueRecs (s : State) : List (List Byte) :=
  sortTok (s.fab.bqDefer.map (·.2)) ++ sortTok (s.laneLists.filterMap id).flatten

/-- The queue is closed with the chosen records `sel`, and the lanes' units are freed. -/
def State.closeQueue (s : State) (sel : List (List Byte)) : State :=
  let n := sel.foldl (fun m b => smSet (fun _ => 0) m (recExpert b) (smGet (fun _ => 0) m (recExpert b) + 1))
    ([] : SMap Nat)
  let v := s.modFab fun f => { f with bqClosed := true, bqSel := sel.map fun b => (recExpert b, b), bqCount := n }
  v.setFill v.qbase (v.lanes * v.laneUnits) false

section
variable {s : State}

/-- It stays open with no lane units, or while a lane has no filled terminator. -/
theorem State.bundleClose_open (h : s.laneUnits = 0 ∨ ∃ l ∈ s.laneLists, l = none) : s.bundleClose = s := by
  unfold State.bundleClose
  split
  next => rfl
  next hunits =>
    obtain ⟨l, hmem, rfl⟩ := h.resolve_left hunits
    refine if_neg fun hall => ?_
    cases List.all_eq_true.1 hall none hmem

theorem State.bundleClose_closed (hunits : s.laneUnits ≠ 0) (hall : ∀ l ∈ s.laneLists, l ≠ none) :
    s.bundleClose = (s.deferRecs (s.selectRecs s.queueRecs).2).closeQueue (s.selectRecs s.queueRecs).1 := by
  have hsome : s.laneLists.all (·.isSome) = true :=
    List.all_eq_true.2 fun l hl => Option.isSome_iff_ne_none.2 (hall l hl)
  exact (if_neg hunits).trans (if_pos hsome)

end

/-- Settles O41: the order is insertion sort's, and the cap holds by the invariant of the selection. -/
theorem tokenQueueClosesSorted : Obligations.TokenQueueClosesSorted := by
  intro s ls
  refine ⟨fun h => ?_, fun hunits hall => ?_, fun l => ⟨sortTok_perm l, tokSorted_sortTok l⟩,
    fun l => (s.selected_selectRecs l).perm, fun l e => (s.selected_selectRecs l).capped e⟩
  · rw [exec_bundleQueueClose, State.bundleClose_open h]
  · rw [exec_bundleQueueClose, State.bundleClose_closed hunits hall]
    rfl

end Sys2Proof.Machine
end

section
/-! SUPPORT. S flits taken by the entries armed for them, and DONE symbols (O42). -/

namespace Sys2Proof.Machine

theorem exec_sFlitReceive (p : Port) (s : State) : exec (.sFlitReceive p) s = .next (s.receiveS p) := rfl

theorem exec_doneSymbol (p : Port) (s : State) : exec (.doneSymbol p) s = .next (s.doneHear p) := rfl

section
variable {s : State}

/-! ### Which flit is taken (R211) -/

/-- What taking a pool entry leads to, where it is an S flit that waits and that an armed entry takes. -/
def State.takeWaiting (s : State) (p : Nat) (x : PoolFlit) : Option State :=
  if x.waiting && x.flit.cls == 0 then s.takeFlit p x.id x.at0 x.flit else none

theorem State.receiveS_eq (s : State) (p : Nat) :
    s.receiveS p = ((s.port p).pool.findSome? (s.takeWaiting p)).getD s := by
  unfold State.receiveS
  change (match (s.port p).pool.findSome? (s.takeWaiting p) with | some t => t | none => s) = _
  cases (s.port p).pool.findSome? (s.takeWaiting p) <;> rfl

theorem State.takeWaiting_waiting {p : Nat} {x : PoolFlit} (hw : x.waiting = true) (hc : x.flit.cls = 0) :
    s.takeWaiting p x = s.takeFlit p x.id x.at0 x.flit := if_pos (by simp [hw, hc])

theorem State.takeWaiting_eq_none {p : Nat} {x : PoolFlit}
    (h : x.waiting = true → x.flit.cls = 0 → s.takeFlit p x.id x.at0 x.flit = none) :
    s.takeWaiting p x = none := by
  unfold State.takeWaiting
  split
  next hx =>
    obtain ⟨hw, hc⟩ := Bool.and_eq_true_iff.1 hx
    exact h hw (beq_iff_eq.1 hc)
  next => rfl

theorem State.receiveS_none {p : Nat} (h : ∀ x ∈ (s.port p).pool, s.takeWaiting p x = none) : s.receiveS p = s := by
  rw [State.receiveS_eq, List.findSome?_eq_none_iff.2 h]
  rfl

/-- The first flit in order of arrival that is taken decides. -/
theorem State.receiveS_first {p : Nat} {pre post : List PoolFlit} {x : PoolFlit} {t : State}
    (hpool : (s.port p).pool = pre ++ x :: post) (hpre : ∀ y ∈ pre, s.takeWaiting p y = none)
    (hx : s.takeWaiting p x = some t) : s.receiveS p = t := by
  rw [State.receiveS_eq, hpool, List.findSome?_append, List.findSome?_eq_none_iff.2 hpre,
    List.findSome?_cons_of_isSome (by rw [hx]; rfl), hx]
  rfl

section
variable {p id at0 : Nat} {f : RawFlit}

theorem State.takeFlit_entry {t : ArmedTr} {isB : Bool} (h : s.findTr p f.tag = some (t, isB)) :
    s.takeFlit p id at0 f = some (s.takeBy t isB p id at0 f) := by
  simp only [State.takeFlit, h]

/-- A flit of a transfer that was given up is discarded. -/
theorem State.takeFlit_abandoned (h : s.findTr p f.tag = none) (ha : s.fab.abandoned.contains (p, f.tag) = true) :
    s.takeFlit p id at0 f = some (s.dropFlit p id) := by
  simp only [State.takeFlit, h, if_pos ha]

end

/-! ### What its entry makes of it (R203, R211, R212) -/

/-- A flit disagrees with its entry: in its fields W and r, where the entry is no join, or in its route. -/
def State.flitWrong (s : State) (t : ArmedTr) (f : RawFlit) : Prop :=
  (enJoin t.entry = false ∧ (f.W ≠ enW t.entry ∨ f.r ≠ enR t.entry)) ∨ routeBad t.entry (s.pathEntry f.path) f = true

theorem State.flitWrong_iff (s : State) (t : ArmedTr) (f : RawFlit) : s.flitWrong t f ↔
    (!enJoin t.entry && (f.W != enW t.entry || f.r != enR t.entry)
      || routeBad t.entry (s.pathEntry f.path) f) = true := by
  simp [State.flitWrong]

theorem State.failFlow_bad (t : ArmedTr) (code unit : Nat) : (s.failFlow t code unit).2.bad = true := rfl

section
variable {t : ArmedTr} {isB : Bool} {id at0 : Nat} {f : RawFlit}

theorem State.takeBy_bad {p : Nat} (hbad : t.bad = true) : s.takeBy t isB p id at0 f = s.badFlit t isB p id at0 f :=
  if_pos hbad

theorem State.takeBy_wrong {p : Port} (hbad : t.bad = false) (h : s.flitWrong t f) : s.takeBy t isB p id at0 f =
    (s.failFlow { t with slice := f.slice } 0x4011 (unitPort p)).1.badFlit
      (s.failFlow { t with slice := f.slice } 0x4011 (unitPort p)).2 isB p id at0 f := by
  simp only [State.takeBy, hbad, Bool.false_eq_true, if_false, if_pos ((s.flitWrong_iff t f).1 h), if_pos p.isLt]

theorem State.takeBy_right {p : Nat} (hbad : t.bad = false) (h : ¬ s.flitWrong t f) : s.takeBy t isB p id at0 f =
    if enJoin t.entry then s.joinFlit t isB p id at0 f else s.plainFlit t p id at0 f := by
  simp only [State.takeBy, hbad, Bool.false_eq_true, if_false, if_neg (mt (s.flitWrong_iff t f).2 h)]

end

/-! ### Forwarding without a delivery (R212, R213) -/

section
variable {t : ArmedTr}

theorem ArmedTr.delivers_of_not_local (h : enLocal t.entry = false) : t.delivers = false := by
  simp [ArmedTr.delivers, h]

theorem State.fenceLocal_of_not_local (h : enLocal t.entry = false) : s.fenceLocal t = (s, t) := by
  simp [State.fenceLocal, ArmedTr.delivers_of_not_local h]

theorem State.startLocal_of_not_local {path w : Nat} {void : Bool} (h : enLocal t.entry = false) :
    s.startLocal t path w void = (s, { t with localDone := true }) := by
  simp [State.startLocal, h]

theorem State.writeFlit_of_not_local {f : RawFlit} (h : enLocal t.entry = false) : s.writeFlit t f = s := by
  simp [State.writeFlit, ArmedTr.delivers_of_not_local h]

theorem State.deliverReduce_of_not_local (h : enLocal t.entry = false) : s.deliverReduce t = (s, t) := by
  unfold State.deliverReduce
  split
  next => rfl
  next => exact if_pos (by simp [ArmedTr.delivers_of_not_local h])

end

/-- The entry once it has taken a flit, its last or not. -/
def ArmedTr.takePlain (t : ArmedTr) (at0 : Nat) (f : RawFlit) : ArmedTr :=
  let g := if t.a.first.isNone then { t with waitDone := outPorts t.entry, localDone := true } else t
  { g with slice := f.slice, a := t.a.take f at0 false }

theorem ArmedTr.takePlain_entry (t : ArmedTr) (at0 : Nat) (f : RawFlit) : (t.takePlain at0 f).entry = t.entry := by
  unfold ArmedTr.takePlain
  split <;> rfl

/-- A flit of an entry without local destination that is not its transfer's last is forwarded, and the entry waits. -/
theorem State.plainFlit_forwards {t : ArmedTr} {p id at0 : Nat} {f : RawFlit} (hlocal : enLocal t.entry = false)
    (hmore : (t.takePlain at0 f).a.isDone = false) : s.plainFlit t p id at0 f =
      ((s.poolTake p id (outPorts t.entry).length).forward (t.takePlain at0 f) p id at0 f).setTr
        { t.takePlain at0 f with allOut := false } := by
  have hbegin : (if t.a.first.isNone then
        s.startLocal { t with slice := f.slice, a := t.a.take f at0 (enLocal t.entry && f.W != 0)
                              waitDone := outPorts t.entry } f.path f.W (f.form == 2)
      else s.fenceLocal { t with slice := f.slice, a := t.a.take f at0 (enLocal t.entry && f.W != 0) })
      = (s, t.takePlain at0 f) := by
    unfold ArmedTr.takePlain
    split
    · refine (State.startLocal_of_not_local ?_).trans ?_
      · exact hlocal
      · rw [hlocal]
        rfl
    · refine (State.fenceLocal_of_not_local ?_).trans ?_
      · exact hlocal
      · rw [hlocal]
        rfl
  have hentry := t.takePlain_entry at0 f
  unfold State.plainFlit
  simp only [hbegin, hentry, State.writeFlit_of_not_local (hentry ▸ hlocal),
    State.deliverReduce_of_not_local (hentry ▸ hlocal), hmore, Bool.false_eq_true, if_false]

/-- A flit with one out-port joins that port's queue, 48 ticks after its planned tick. -/
theorem State.forward_single {t : ArmedTr} {p id at0 q : Nat} {f : RawFlit} (h : outPorts t.entry = [q]) :
    s.forward t p id at0 f =
      let planned := t.due + f.index * pathSpacing (s.pathEntry f.path)
      (s.countOther f 1).queueOut q
        { flit := f.setH 168 4 ((f.hop + 1) % 16), slot := planned + 48, late := decide (planned < at0)
          ready := at0 + 48, inPort := p, poolId := id, claim := claimOf (planned + 48) 0 } := by
  simp only [State.forward, h, List.length_singleton, List.foldl_cons, List.foldl_nil]

/-! ### DONE (R220) -/

section
variable {p k : Nat}

theorem State.popSymbol_nil (h : (s.port p).symIn = []) : s.popSymbol p k = none := by
  simp only [State.popSymbol, h]

section
variable {id : Nat} {y : List Byte} {rest : List (Nat × List Byte)} (h : (s.port p).symIn = (id, y) :: rest)
include h

theorem State.popSymbol_other (hk : leField y 0 1 ≠ k) : s.popSymbol p k = none := by
  simp only [State.popSymbol, h, if_neg hk]

theorem State.popSymbol_kind (hk : leField y 0 1 = k) :
    s.popSymbol p k = some (y, (s.modPort p fun q => { q with symIn := rest }).freeC p id) := by
  simp only [State.popSymbol, h, if_pos hk]

end

theorem State.doneHear_none (h : s.popSymbol p 1 = none) : s.doneHear p = s := by
  simp only [State.doneHear, h]

section
variable {y : List Byte} {u : State} (h : s.popSymbol p 1 = some (y, u))
include h

/-- DONE of one of an entry's out-ports. -/
theorem State.doneHear_entry {t : ArmedTr}
    (ht : u.fab.trans.find? (fun t => t.tag == leField y 4 3 && t.waitDone.contains p) = some t) :
    s.doneHear p =
      let z := { t with waitDone := t.waitDone.filter (· != p), lost := t.lost || bit (leField y 1 1) 0 }
      (u.setTr z).settle z := by
  simp only [State.doneHear, h, ht]

/-- DONE of a transfer of this module's own. -/
theorem State.doneHear_own
    (ht : u.fab.trans.find? (fun t => t.tag == leField y 4 3 && t.waitDone.contains p) = none) :
    s.doneHear p =
      u.modFab fun f => { f with flights := f.flights.eraseP fun e => e.tag == leField y 4 3 && !e.own } := by
  simp only [State.doneHear, h, ht]

end
end
end

/-- Settles O42: the pool is searched in order, and the entry found decides by its marks, its form and its route. -/
theorem flitsAreTakenByTheirEntry : Obligations.FlitsAreTakenByTheirEntry := by
  intro s p
  refine ⟨fun h => ?_, fun pre x post hpool hw hc hpre => ⟨fun t isB ht => ?_, fun ht ha => ?_⟩,
    fun t isB id at0 f => ⟨State.takeBy_bad, fun hbad hwrong u b hub => ?_, State.takeBy_right⟩,
    fun t id at0 f hlocal => State.plainFlit_forwards hlocal,
    fun t id at0 q f hq => State.forward_single hq, fun h => ?_, fun id y rest h => ⟨fun hk => ?_, ?_⟩⟩
  · rw [exec_sFlitReceive, State.receiveS_none fun x hx => State.takeWaiting_eq_none (h x hx)]
  · rw [exec_sFlitReceive, State.receiveS_first hpool (fun y hy => State.takeWaiting_eq_none (hpre y hy))
      ((State.takeWaiting_waiting hw hc).trans (State.takeFlit_entry ht))]
  · rw [exec_sFlitReceive, State.receiveS_first hpool (fun y hy => State.takeWaiting_eq_none (hpre y hy))
      ((State.takeWaiting_waiting hw hc).trans (State.takeFlit_abandoned ht ha))]
  · have hfail : (s.failFlow { t with slice := f.slice } 0x4011 (unitPort p)).2.bad = true := State.failFlow_bad _ _ _
    have htake := State.takeBy_wrong (isB := isB) (p := p) (id := id) (at0 := at0) hbad hwrong
    rw [hub] at hfail htake
    exact ⟨hfail, htake⟩
  · rw [exec_doneSymbol, State.doneHear_none (State.popSymbol_nil h)]
  · rw [exec_doneSymbol, State.doneHear_none (State.popSymbol_other h hk)]
  · intro hk u tag
    refine ⟨fun t ht => ?_, fun ht => ?_⟩
    · rw [exec_doneSymbol, State.doneHear_entry (State.popSymbol_kind h hk) ht]
    · rw [exec_doneSymbol, State.doneHear_own (State.popSymbol_kind h hk) ht]

end Sys2Proof.Machine
end

section
/-! SUPPORT. X flits and packets at their destination, fault packets and the X timers (O43). -/

namespace Sys2Proof.Machine

theorem exec_xPacketReceive (p : Port) (ecc : Ecc) (s : State) :
    exec (.xPacketReceive p ecc) s = .next (s.xReceive p ecc false) := rfl

theorem exec_faultPacketReceive (p : Port) (s : State) :
    exec (.faultPacketReceive p) s = .next (s.xReceive p .clean true) := rfl

theorem exec_xRequestTimeout (n : BitVec 16) (s : State) :
    exec (.xRequestTimeout n) s = .next (s.xTimeout n.toNat) := rfl

theorem exec_tokenExpire (c : BitVec 17) (t : BitVec 15) (s : State) :
    exec (.tokenExpire c t) s = .next (s.tokenExpire c.toNat t.toNat) := rfl

theorem exec_mergeWindowExpire (n : Fin 64) (s : State) :
    exec (.mergeWindowExpire n) s = .next (s.mergeExpire n) := rfl

section
variable {s : State}

/-! ### The first flit that waits (R202, R225) -/

section
variable {p : Nat} {ecc : Ecc} {fault : Bool}

theorem State.xReceive_idle (h : s.fab.pathLoad ≠ none ∨ (s.port p).xWaiting = []) : s.xReceive p ecc fault = s := by
  unfold State.xReceive
  split
  next => rfl
  next hload =>
    have hempty : (s.port p).xWaiting = [] := h.resolve_left fun hne => hload (Option.isSome_iff_ne_none.2 hne)
    rw [hempty, State.xStep]

theorem State.xReceive_free (hload : s.fab.pathLoad = none) {l : List PoolFlit} (h : (s.port p).xWaiting = l) :
    s.xReceive p ecc fault = s.xStep p ecc fault l := by
  rw [State.xReceive, hload, h]
  rfl

section
variable {x : PoolFlit} {l : List PoolFlit}

theorem State.xStep_tree (htree : pathTree (s.pathEntry x.flit.path) = true) :
    s.xStep p ecc false (x :: l) = s.poolFree p x.id := by
  simp only [State.xStep, if_pos htree, Bool.false_eq_true, if_false]

section
variable (htree : pathTree (s.pathEntry x.flit.path) = false)
include htree

theorem State.xStep_transit (hhop : s.xHop x.flit ≠ 31) : s.xStep p ecc false (x :: l) = s.xForward p x := by
  simp only [State.xStep, htree, Bool.false_eq_true, if_false, if_pos hhop]

section
variable (hhop : s.xHop x.flit = 31)
include hhop

/-- A whole packet is for the command that handles its kind. -/
theorem State.xStep_whole {es : List PoolFlit} (hfirst : x.flit.first = true)
    (hwhole : wholePacket x.flit (x :: l) = some es) (hkind : (packetOf (es.map (·.flit))).isFault = fault) :
    s.xStep p ecc fault (x :: l) = s.xDeliver p es ecc := by
  simp only [State.xStep, htree, hhop, hfirst, hwhole, hkind, Bool.false_eq_true, Bool.not_true, ne_eq,
    not_true_eq_false, if_false, if_true]

theorem State.xStep_ackOnly (hack : x.flit.ackOnly = true)
    (hnone : (s.port p).xWaiting.any (fun u => u.flit.first && u.flit.xsource == x.flit.xsource
      && u.flit.xseq == x.flit.xseq) = false) :
    s.xStep p ecc false (x :: l) = ((s.poolFree p x.id).xHeader x.flit.xsource x.flit).xPump := by
  have hflags := hack
  simp only [RawFlit.ackOnly, Bool.and_eq_true, Bool.not_eq_true'] at hflags
  obtain ⟨⟨hfirst, -⟩, -⟩ := hflags
  simp only [State.xStep, htree, hhop, hfirst, hnone, hack, Bool.false_eq_true, Bool.not_false, ne_eq,
    not_true_eq_false, if_false, if_true]

end
end
end
end

/-! ### A packet taken (R226, R259) -/

section
variable {c port : Nat} {k : XPacket} {ecc : Ecc}

/-- A duplicate of a held request: its response, if there is one yet, is sent again. -/
theorem State.xTake_held {t : XTok} (h : s.xHeld c k = some t) : s.xTake c port k ecc =
    if t.reply.op = 0 then s
    else s.xResend { dest := c, port := port, pkt := t.reply, who := .response, sentAt := s.time.elapsed } := by
  simp only [State.xTake, h]

/-- The number expected from source `c` goes on by one. -/
def State.xNext (s : State) (c : Nat) : State :=
  s.setXin c { s.xin c with expect := ((s.xin c).expect + 1) % 65536 }

section
variable (h : s.xHeld c k = none)
include h

theorem State.xTake_inOrder (hseq : k.xseq = (s.xin c).expect) : s.xTake c port k ecc =
    if 0x80 ≤ k.op then ((s.xNext c).xComplete c k).xAckSend c port else (s.xNext c).xTokened c port k ecc := by
  simp only [State.xTake, h, if_pos hseq, State.xNext]

theorem State.xTake_outOfOrder (hseq : k.xseq ≠ (s.xin c).expect) (hop : k.op ≠ 1) : s.xTake c port k ecc =
    if subMod 16 k.xseq (s.xin c).expect < 32768 then (s.count FAB_X_STAT_seq 1).xAckSend c port
    else s.count FAB_X_STAT_seq 1 := by
  simp only [State.xTake, h, if_neg hseq, if_neg (fun hread => hop (And.left hread))]

end

theorem State.xTokened_none (h : k.token = none) : s.xTokened c port k ecc = s.xPerform c port k ecc := by
  simp only [State.xTokened, h]

theorem State.xTokened_full (h : k.token ≠ none) (hfull : 4096 ≤ s.x.toks.length) :
    s.xTokened c port k ecc = s.xRespond c port k (0x80 + k.op) 2 [] := by
  obtain ⟨t, ht⟩ := Option.ne_none_iff_exists'.1 h
  simp only [State.xTokened, ht, if_pos hfull]

theorem State.xPerform_read {t : State} {bs : List Byte} (hop : k.op = 1)
    (hread : s.agentRead 0 k.addr k.len ecc (.x c port k) = (t, .done bs)) :
    s.xPerform c port k ecc = t.xAnswer c port k (.done bs) := by
  simp only [State.xPerform, if_pos hop, hread]

theorem State.xPerform_fault (hop : k.op = 3) (hfault : k.isFault = true) : s.xPerform c port k ecc =
    (((chunks 32 (k.len / 32) k.data).map recOf).foldl (fun t r => t.takeRec r) s).xRespond c port k 0x83 0 [] := by
  simp [State.xPerform, State.xMessage, hop, hfault]

end

/-! ### Timers (R257, R259, R405) -/

section
variable {n : Nat}

/-- A request of this module's own with number `n`. -/
def XOut.asks (n : Nat) (o : XOut) : Bool := o.pkt.xseq == n && o.who != .response && o.who != .filler

theorem State.xTimeout_none (h : s.x.out.find? (XOut.asks n) = none) : s.xTimeout n = s := by
  unfold XOut.asks at h
  simp only [State.xTimeout, h]

theorem State.xTimeout_lost {o : XOut} (h : s.x.out.find? (XOut.asks n) = some o) : s.xTimeout n =
    (s.toElapsed (o.sentAt + s.fld (LINK_CFG_grace o.port) * 1280 + 131072)).xLost o := by
  unfold XOut.asks at h
  simp only [State.xTimeout, h]

end

section
variable {c t : Nat}

theorem State.tokenExpire_none (h : s.x.toks.find? (fun e => e.src == c && e.token == t) = none) :
    s.tokenExpire c t = s := by
  simp only [State.tokenExpire, h]

/-- The tick until which a token is held. -/
def XTok.limit (e : XTok) : Nat :=
  match e.ackedAt with
  | some a => a + 131072
  | none => e.at0 + 1024 * 65536

theorem State.tokenExpire_some {e : XTok} (h : s.x.toks.find? (fun e => e.src == c && e.token == t) = some e) :
    s.tokenExpire c t =
      (s.toElapsed e.limit).modX fun x => { x with toks := x.toks.filter fun e => !(e.src == c && e.token == t) } := by
  simp only [State.tokenExpire, h]
  rfl

end

section
variable {n : Nat}

theorem State.mergeExpire_none (h : s.fault.merge.find? (fun e => e.slot == n) = none) : s.mergeExpire n = s := by
  simp only [State.mergeExpire, h]

theorem State.mergeExpire_some {e : MergeEntry} (h : s.fault.merge.find? (fun e => e.slot == n) = some e) :
    s.mergeExpire n =
      let u := (s.toElapsed (e.at0 + 65536)).modFault fun f => { f with merge := f.merge.filter fun v => v.slot != n }
      if e.extra = 0 then u
      else u.sendParent { e.entry with count := min e.extra 65535, flags := e.entry.flags ||| 8 } := by
  simp only [State.mergeExpire, h]

end
end

/-- Settles O43: each branch of the receiving commands, of the taking of a packet and of the timers is one equation. -/
theorem xPacketsReachTheirDestination : Obligations.XPacketsReachTheirDestination := by
  intro s p ecc
  refine ⟨fun h => ?_, fun x l hload hwait htree => ?_,
    fun x l hload hwait htree => ⟨fun hhop => ?_, fun hhop hfirst es hwhole => ⟨fun hkind => ?_, fun hkind => ?_⟩,
      fun hhop hack hnone => ?_⟩,
    fun x l => rfl, fun c port k => ?_, fun r => rfl, fun n => ⟨fun h => ?_, fun o h => ?_⟩,
    fun c t => ⟨fun h => ?_, fun e h => ?_⟩, fun n => ⟨fun h => ?_, fun e h => ⟨fun hextra => ?_, fun hextra => ?_⟩⟩⟩
  · rw [exec_xPacketReceive, exec_faultPacketReceive, State.xReceive_idle h, State.xReceive_idle h]
    exact ⟨rfl, rfl⟩
  · rw [exec_xPacketReceive, State.xReceive_free hload hwait, State.xStep_tree htree]
  · rw [exec_xPacketReceive, State.xReceive_free hload hwait, State.xStep_transit htree hhop]
  · rw [exec_xPacketReceive, State.xReceive_free hload hwait, State.xStep_whole htree hhop hfirst hwhole hkind]
  · rw [exec_faultPacketReceive, State.xReceive_free hload hwait, State.xStep_whole htree hhop hfirst hwhole hkind]
  · rw [exec_xPacketReceive, State.xReceive_free hload hwait, State.xStep_ackOnly htree hhop hack hnone]
  · refine ⟨fun t h => State.xTake_held h,
      fun h hseq => ⟨fun hop => ?_, fun hop htok => ?_, fun hop htok hfull => ?_⟩,
      fun h hseq hop => State.xTake_outOfOrder h hseq hop, fun hop t bs hread => State.xPerform_read hop hread,
      State.xPerform_fault⟩
    · rw [State.xTake_inOrder h hseq, if_pos hop]
      rfl
    · rw [State.xTake_inOrder h hseq, if_neg (Nat.not_le.2 hop), State.xTokened_none htok]
      rfl
    · rw [State.xTake_inOrder h hseq, if_neg (Nat.not_le.2 hop)]
      exact State.xTokened_full htok hfull
  · rw [exec_xRequestTimeout, State.xTimeout_none h]
  · rw [exec_xRequestTimeout, State.xTimeout_lost h]
  · rw [exec_tokenExpire, State.tokenExpire_none h]
  · rw [exec_tokenExpire, State.tokenExpire_some h]
    rfl
  · rw [exec_mergeWindowExpire, State.mergeExpire_none h]
  · rw [exec_mergeWindowExpire, State.mergeExpire_some h]
    exact congrArg _ (if_pos hextra)
  · rw [exec_mergeWindowExpire, State.mergeExpire_some h]
    exact congrArg _ (if_neg hextra)

end Sys2Proof.Machine
end

section
/-! SUPPORT. Training and the timers of a fabric port's link layer: what each command does in its case (O18, O19). -/

namespace Sys2Proof.Machine

theorem exec_linkAlignDone (p : Port) (s : State) : exec (.linkAlignDone p) s = .next (s.alignDone p) := rfl

theorem exec_nakRepeat (p : Port) (s : State) : exec (.nakRepeat p) s = .next (s.nakRepeat p) := rfl

theorem exec_replayTimeout (p : Port) (s : State) : exec (.replayTimeout p) s = .next (s.replayTimeout p) := rfl

theorem exec_laneLoss (p : Port) (lane : Fin 8) (s : State) :
    exec (.laneLoss p lane) s = .next (s.laneLoss p lane) := rfl

theorem exec_serLimitExceeded (p : Port) (lane : Fin 8) (n : BitVec 32) (s : State) :
    exec (.serLimitExceeded p lane n) s = .next (s.serCount p lane n.toNat) := rfl

theorem exec_graceExpire (p : Port) (s : State) : exec (.graceExpire p) s = .next (s.graceExpire p) := rfl

/-! ### Codeword lock (R231, R249)

The lock bits are those of the lanes that the port holds good once its codewords count anew. That they are the lanes it
held good before is a fact of ports in canonical form alone. -/

section
variable {s : State} {p : Nat}

/-- The port with its codewords counted anew. -/
def State.countAnew (s : State) (p : Nat) : State := s.modPort p fun q => { q with rxBits := 0, badCw := none }

/-- INIT, with the lock bits of the lanes of `good`. -/
def State.lockLanes (s : State) (p good : Nat) : State :=
  (iter (fullLanes p) (fun l t => t.setFld (LINK_LANE_lock p l) (b2n (bit good l))) s).linkEnter p 4

theorem State.alignDone_align (h : s.fld (LINK_STAT_state p) = 3) :
    s.alignDone p = (s.countAnew p).lockLanes p ((s.countAnew p).port p).goodLanes := if_pos h

/-- In a state whose ports are in canonical form they are the lanes held good before. -/
theorem State.alignDone_canonical (hports : smWf (fun _ => {}) s.ports = true)
    (h : s.fld (LINK_STAT_state p) = 3) : s.alignDone p = (s.countAnew p).lockLanes p (s.port p).goodLanes := by
  have hport : (s.countAnew p).port p = { s.port p with rxBits := 0, badCw := none } := State.port_modPort_same hports
  rw [State.alignDone_align h, hport]

end

/-- Port 0 in ALIGN, listed twice: an entry that stands as at reset, and behind it one that holds lane 0 good. -/
def portListedTwice : State :=
  { State.reset.setFld (LINK_STAT_state 0) 3 with ports := [(0, {}), (0, { goodLanes := 1 })] }

/-- Refutes O18: the statement is about every state, one with port 0 listed twice included (no run reaches one, by O2
and O4). Counting codewords anew leaves the first entry as at reset, so it is dropped, and lane 0 takes its lock bit
from the second, where the clause on ALIGN takes it from the first. `State.alignDone_canonical` is that clause for ports
in canonical form. -/
theorem not_trainingCommandsMoveThePort : ¬ Obligations.TrainingCommandsMoveThePort := by
  intro h
  have hstate : portListedTwice.fld (LINK_STAT_state 0) = 3 := by decide
  have hbefore : (portListedTwice.port 0).goodLanes = 0 := rfl
  have hafter : ((portListedTwice.countAnew 0).port 0).goodLanes = 1 := by decide
  obtain ⟨-, -, halign, -⟩ := h portListedTwice 0
  obtain ⟨hdone, -⟩ := halign hstate
  have hlanes : portListedTwice.alignDone 0
      = (portListedTwice.countAnew 0).lockLanes 0 (portListedTwice.port 0).goodLanes := Host.Outcome.next.inj hdone
  rw [State.alignDone_align hstate, hafter, hbefore] at hlanes
  have hlock : ((portListedTwice.countAnew 0).lockLanes 0 1).fld (LINK_LANE_lock 0 0)
      ≠ ((portListedTwice.countAnew 0).lockLanes 0 0).fld (LINK_LANE_lock 0 0) := by decide
  exact hlock (congrArg (State.fld · (LINK_LANE_lock 0 0)) hlanes)

/-! ### Timers and lanes (R247, R248, R252, R255) -/

section
variable {s : State} {p : Nat}

theorem State.nakRepeat_some {t : Nat} (h : (s.port p).nakAt = some t) :
    s.nakRepeat p = (s.toElapsed (t + 256)).modPort p fun q => { q with nakDue := true, nakAt := none } := by
  rw [State.nakRepeat, h]

theorem State.graceExpire_some {t : Nat} (h : (s.port p).graceAt = some t) :
    s.graceExpire p = (s.toElapsed t).linkDown p := by rw [State.graceExpire, h]

section
variable {lane n : Nat} (h : lane < fullLanes p)
include h

theorem State.laneLoss_of_lt : s.laneLoss p lane = (s.setFld (LINK_LANE_lock p lane) 0).linkRetrain p := if_pos h

/-- Corrected symbols that do not exceed the limit are kept alone. -/
theorem State.serCount_within {u : State} (hu : s.setFld (LINK_LANE_ce_ms p lane) (min n 0xFFFF) = u)
    (hn : n ≤ u.fld (LINK_CFG_ser_limit p) * 1024) : s.serCount p lane n = u := by
  subst hu
  exact (if_pos h).trans (if_neg (Nat.not_lt.2 hn))

theorem State.serCount_exceeds {u : State} (hu : s.setFld (LINK_LANE_ce_ms p lane) (min n 0xFFFF) = u)
    (hn : u.fld (LINK_CFG_ser_limit p) * 1024 < n) : s.serCount p lane n = u.linkRetrain p := by
  subst hu
  exact (if_pos h).trans (if_pos hn)

end

/-! ### Replays (R247, R248) -/

/-- The oldest held flit is the next to be sent again, and the replay is counted. -/
def State.replayOldest (s : State) (p : Nat) : State :=
  (s.modPort p fun q => { q with replayAt := some 0, replayFrom := (s.fld (LINK_SEQ_acked p) + 1) % 4096
                                 stalls := (s.port p).stalls + 1 }).count (LINK_REPLAY_replays p) 1

section
variable (hheld : (s.port p).replay ≠ [])
include hheld

theorem State.startReplay_held : s.startReplay p =
    if 8 ≤ (s.port p).stalls + 1 then
      ((s.replayOldest p).modPort p fun q => { q with stalls := 0 }).linkError p (LINK_PROTO_replay_limit p) 0x5011
    else s.replayOldest p := if_neg (by simpa using hheld)

/-- A timeout on an ACTIVE port is timed anew and starts a replay; the port's own update keeps what is held and what
is counted. -/
theorem State.replayTimeout_active (hports : smWf (fun _ => {}) s.ports = true)
    (hactive : s.fld (LINK_STAT_state p) = 5) :
    let u := s.toElapsed ((s.port p).ackAt + 4096)
    let v := u.modPort p fun q => { q with ackAt := u.time.elapsed }
    (v.port p).stalls = (s.port p).stalls ∧ s.replayTimeout p =
      if 8 ≤ (s.port p).stalls + 1 then
        ((v.replayOldest p).modPort p fun q => { q with stalls := 0 }).linkError p (LINK_PROTO_replay_limit p) 0x5011
      else v.replayOldest p := by
  intro u v
  have hv : v.port p = { s.port p with ackAt := u.time.elapsed } := State.port_modPort_same hports
  have hstalls : (v.port p).stalls = (s.port p).stalls := by rw [hv]
  have hreplay : (v.port p).replay ≠ [] := by rwa [hv]
  refine ⟨hstalls, (if_pos ⟨hactive, hheld⟩).trans ?_⟩
  rw [← hstalls]
  exact State.startReplay_held hreplay

end
end

/-- Settles O19: each timer in the case its clause names; of a replay, that the port keeps its count of stalls. -/
theorem linkTimersAndLaneTriggers : Obligations.LinkTimersAndLaneTriggers := by
  intro s p hs
  have hports := (Good.of_sound hs).ports
  refine ⟨fun t h => ?_, fun hactive hheld => ?_, fun lane hlane => ⟨?_, ?_⟩, fun t h => ?_⟩
  · rw [exec_nakRepeat, State.nakRepeat_some h]
  · intro u r
    obtain ⟨hstalls, htimeout⟩ := State.replayTimeout_active hheld hports hactive
    have hr : (u.modPort p fun q => { q with ackAt := u.time.elapsed }).replayOldest p = r := by
      rw [State.replayOldest, hstalls]
      rfl
    rw [exec_replayTimeout, htimeout, hr]
    exact ⟨fun hfew => by rw [if_neg (Nat.not_le.2 hfew)], fun hmany => by rw [if_pos hmany]; rfl⟩
  · rw [exec_laneLoss, State.laneLoss_of_lt hlane]
  · intro n u
    exact ⟨fun hn => by rw [exec_serLimitExceeded, State.serCount_within hlane rfl hn],
      fun hn => by rw [exec_serLimitExceeded, State.serCount_exceeds hlane rfl hn]⟩
  · rw [exec_graceExpire, State.graceExpire_some h]

end Sys2Proof.Machine
end

section
/-! SUPPORT. What an ACTIVE fabric port does with a flit: its codewords, its header, its sequence number (O20). -/

namespace Sys2Proof.Machine

theorem exec_linkFlitReceive (p : Port) (f : RawFlit) (fec : Fec) (s : State) :
    exec (.linkFlitReceive p f fec) s = .next (s.linkReceive p f fec) := rfl

section
variable {s : State} {p : Nat} {f : RawFlit}

/-! ### NAKs (R247) -/

theorem State.oweNak_none (h : (s.port p).nakAt = none) :
    s.oweNak p = s.modPort p fun q => { q with nakDue := true } := by rw [State.oweNak, h]

section
variable {t : Nat} (h : (s.port p).nakAt = some t)
include h

/-- While one is out it is owed again once 256 ticks have passed. -/
theorem State.oweNak_due (ht : t + 256 ≤ s.time.elapsed) :
    s.oweNak p = s.modPort p fun q => { q with nakDue := true } := by
  rw [State.oweNak, h]
  exact if_pos ht

theorem State.oweNak_early (ht : s.time.elapsed < t + 256) : s.oweNak p = s := by
  rw [State.oweNak, h]
  exact if_neg (Nat.not_le.2 ht)

end

/-! ### Codewords (R231) -/

/-- The port with the bits of one more flit received. -/
def State.flitBits (s : State) (p : Nat) : State :=
  s.modPort p fun q => { q with rxBits := (s.port p).rxBits + 2304 }

/-- A codeword that cannot be corrected is counted where it is not counted yet, and fails the flit it ends in. -/
theorem State.takeBits_uncorrectable : s.takeBits p .uncorrectable =
    (if (s.port p).badCw = some (((s.port p).rxBits + 2303) / 5140) then s.flitBits p
     else ((s.flitBits p).modPort p fun q =>
       { q with badCw := some (((s.port p).rxBits + 2303) / 5140) }).count (LINK_FEC_UE_count p) 1, true) := rfl

/-- Of a clean one the codeword that holds the flit's first bit decides. -/
theorem State.takeBits_clean :
    s.takeBits p .clean = (s.flitBits p, (s.port p).badCw == some ((s.port p).rxBits / 5140)) := rfl

section
variable {fec : Fec} {t : State} {bad : Bool} (hactive : s.fld (LINK_STAT_state p) = 5)
  (ht : s.takeBits p fec = (t, bad))
include hactive ht

/-- A flit that fails by a codeword or its CRC is counted, and a NAK is owed (R233, R247). -/
theorem State.linkReceive_fails (h : bad = true ∨ f.crcOk = false) :
    s.linkReceive p f fec = (t.count (LINK_CRC_ERR_count p) 1).oweNak p := by
  have hbad : (bad || !f.crcOk) = true := by rcases h with h | h <;> simp [h]
  simp only [State.linkReceive, hactive, ne_eq, not_true_eq_false, if_false, ht, hbad, if_true]

theorem State.linkReceive_good (hbad : bad = false) (hcrc : f.crcOk = true) :
    s.linkReceive p f fec = t.goodFlit p f := by
  simp only [State.linkReceive, hactive, ne_eq, not_true_eq_false, if_false, ht, hbad, hcrc, Bool.not_true,
    Bool.or_self, Bool.false_eq_true]

end

/-! ### Acknowledgements (R245, R246) -/

/-- An ack changes of a port what it holds to replay, and nothing that a flit is taken by. -/
theorem State.port_takeAck (hports : smWf (fun _ => {}) s.ports = true) (a : Nat) :
    ((s.takeAck p a).port p).expect = (s.port p).expect ∧ ((s.takeAck p a).port p).pool = (s.port p).pool := by
  rw [State.takeAck]
  split
  · exact ⟨rfl, rfl⟩
  · rw [State.port_setFld, State.port_modPort_same hports]
    exact ⟨rfl, rfl⟩

@[simp] theorem State.time_takeAck (a : Nat) : (s.takeAck p a).time = s.time := by
  rw [State.takeAck]
  split
  · rfl
  · rw [State.setFld_time, State.modPort_time]

/-- An ack is no matter of the time reference. -/
theorem State.shortStamp_takeAck (a : Nat) : (s.takeAck p a).shortStamp = s.shortStamp := by
  have hfrac : (s.takeAck p a).fld TIME_FRAC_frac = s.fld TIME_FRAC_frac := by
    rw [State.takeAck]
    split
    · rfl
    · have hseq : (LINK_SEQ_acked p).addr = 0x400000 + 0x10000 * p + 0x20 := rfl
      have hfrac : TIME_FRAC_frac.addr = 0x300008 := rfl
      rw [State.fld_setFld_other (by decide) (by omega) (by omega), State.fld_modPort]
  rw [State.shortStamp, State.shortStamp, hfrac, State.time_takeAck]

/-! ### Headers and sequence numbers (R242 to R246) -/

theorem State.goodFlit_overfreed (h : (s.port p).creditError f.freed = true) :
    s.goodFlit p f = s.linkError p (LINK_PROTO_credit p) 0x5012 := if_pos h

section
variable (hfreed : (s.port p).creditError f.freed = false)
include hfreed

/-- The port has seen the freed counts of the header. -/
theorem State.goodFlit_badAck
    (h : ackInWindow f.ack (s.fld (LINK_SEQ_acked p)) (s.fld (LINK_SEQ_next p)) = false) :
    s.goodFlit p f =
      (s.modPort p fun q => { q with seen := f.freed }).linkError p (LINK_PROTO_ack_window p) 0x5010 := by
  simp only [State.goodFlit, hfreed, h, Bool.not_false, Bool.false_eq_true, if_false, if_true]

section
variable (hack : ackInWindow f.ack (s.fld (LINK_SEQ_acked p)) (s.fld (LINK_SEQ_next p)) = true) (hop : f.op = 0)
  {u : State} (hu : (s.modPort p fun q => { q with seen := f.freed }).takeAck p f.ack = u)
include hack hop hu

/-- Of a flit without an op whose header is in order the freed counts and the ack are taken; then its class and its
number decide. -/
theorem State.goodFlit_taken : s.goodFlit p f =
    if f.cls = 3 then u
    else if f.seq ≠ (u.port p).expect then u.oweNak p
    else if !(u.port p).poolRoom f.cls f.shared then u.linkError p (LINK_PROTO_overrun p) 0x5013
    else u.intoPool p f := by
  have hnak : (0 : Nat) ≠ 1 := by decide
  have hpause : (0 : Nat) ≠ 2 := by decide
  simp only [State.goodFlit, hfreed, hack, hop, hnak, hpause, false_and, Bool.not_true, Bool.false_eq_true, if_false,
    hu]

end
end

/-! ### The receive pool (R241, R243) -/

/-- A flit enters the pool as its last entry, the expected number advances, and no NAK is owed any more. -/
def State.poolFlit (s : State) (p : Nat) (f : RawFlit) : State :=
  s.modPort p fun q =>
    { q with pool := q.pool ++ [{ id := q.nextId, flit := f, shared := f.shared, at0 := s.time.tick
                                  stamp := s.shortStamp }]
             nextId := q.nextId + 1, expect := (q.expect + 1) % 4096, nakDue := false, nakAt := none }

/-- An S or X flit that the permit table admits stays there. -/
theorem State.intoPool_admitted (hcls : f.cls < 2) (hadmit : s.admitsIn p f.cls f.slice = true) :
    s.intoPool p f = s.poolFlit p f := by
  have hC : f.cls ≠ 2 := by omega
  have hdenied : (!(s.poolFlit p f).admitsIn p f.cls f.slice) = false := by rw [Bool.not_eq_false']; exact hadmit
  exact (if_neg hC).trans (if_neg (Bool.eq_false_iff.1 hdenied))

/-- The room for a flit depends on the pool alone. -/
theorem PortSt.poolRoom_congr {q r : PortSt} (h : q.pool = r.pool) (cls : Nat) (sh : Bool) :
    q.poolRoom cls sh = r.poolRoom cls sh := by
  have hcount (c : Nat) (b : Bool) : q.poolCount c b = r.poolCount c b := by rw [PortSt.poolCount, h, PortSt.poolCount]
  simp only [PortSt.poolRoom, hcount]

end

/-- Settles O20: the flit's codewords, its CRC, its header and its number are looked at in that order; the updates of
the port before each keep what it looks at. -/
theorem activePortReceivesFlits : Obligations.ActivePortReceivesFlits := by
  intro s p f hs hactive n b fails
  have hports := (Good.of_sound hs).ports
  refine ⟨fun v => ⟨State.oweNak_none, fun t ht => ⟨State.oweNak_due ht, State.oweNak_early ht⟩⟩, fun h => ?_,
    fun h => ?_, fun h => ?_, fun hcw hcrc => ?_⟩
  · rw [exec_linkFlitReceive, State.linkReceive_fails hactive State.takeBits_uncorrectable (.inl rfl), if_neg h]
    rfl
  · rw [exec_linkFlitReceive, State.linkReceive_fails hactive State.takeBits_uncorrectable (.inl rfl), if_pos h]
    rfl
  · rw [exec_linkFlitReceive, State.linkReceive_fails hactive State.takeBits_clean (h.imp_left beq_iff_eq.2)]
    rfl
  · have hgood : s.linkReceive p f .clean = b.goodFlit p f :=
      State.linkReceive_good hactive State.takeBits_clean (beq_eq_false_iff_ne.2 hcw) hcrc
    have hb : b.port p = { s.port p with rxBits := n + 2304 } := State.port_modPort_same hports
    have hbports : smWf (fun _ => {}) b.ports = true := smWf_smSet hports
    have hcredit : (b.port p).creditError f.freed = (s.port p).creditError f.freed := by rw [hb]; rfl
    rw [exec_linkFlitReceive, hgood]
    refine ⟨fun h => ?_, fun hfreed => ?_⟩
    · rw [State.goodFlit_overfreed (hcredit.trans h)]
      rfl
    intro t
    refine ⟨fun hack => ?_, fun hack hop => ?_⟩
    · rw [State.goodFlit_badAck (hcredit.trans hfreed) hack]
      rfl
    intro u
    have ht : t.port p = { b.port p with seen := f.freed } := State.port_modPort_same hbports
    obtain ⟨hexpect, hpool⟩ := State.port_takeAck (s := t) (smWf_smSet hbports) (p := p) f.ack
    have hseq : (u.port p).expect = (s.port p).expect := by rw [hexpect, ht, hb]
    have hroom : (u.port p).poolRoom f.cls f.shared = (s.port p).poolRoom f.cls f.shared :=
      PortSt.poolRoom_congr (by rw [hpool, ht, hb]) _ _
    have htime : u.time = s.time := State.time_takeAck _
    have hstamp : u.shortStamp = s.shortStamp := State.shortStamp_takeAck _
    have hnotIdle (hcls : f.cls < 2) : f.cls ≠ 3 := by omega
    rw [State.goodFlit_taken (hcredit.trans hfreed) hack hop rfl, hseq, hroom]
    refine ⟨fun hidle => ?_, fun hcls hnext => ?_, fun hcls hnext hfull => ?_, fun hcls hnext hfree hadmit => ?_⟩
    · rw [if_pos hidle]
    · rw [if_neg (hnotIdle hcls), if_pos hnext]
    · rw [if_neg (hnotIdle hcls), if_neg (Decidable.not_not.2 hnext), hfull]
      rfl
    · rw [if_neg (hnotIdle hcls), if_neg (Decidable.not_not.2 hnext), hfree, State.intoPool_admitted hcls hadmit,
        State.poolFlit, htime, hstamp]
      rfl

end Sys2Proof.Machine
end

section
/-! SUPPORT. Writes of a fabric port's control, configuration and timestamp registers (O22). -/

namespace Sys2Proof.Machine

theorem exec_linkEnable (ag : Agent) (p : Port) (on : Bool) (s : State) : exec (.linkEnable ag p on) s =
    .next (s.access ag (LINK_CTL p) 4 (s.withBits (LINK_CTL p) 0 1 (b2n on))) := rfl

theorem exec_linkRetrainCmd (ag : Agent) (p : Port) (s : State) : exec (.linkRetrainCmd ag p) s =
    .next (s.access ag (LINK_CTL p) 4 (s.withBits (LINK_CTL p) 1 1 1)) := rfl

theorem exec_linkWidthMax (ag : Agent) (p : Port) (on : Bool) (s : State) : exec (.linkWidthMax ag p on) s =
    .next (s.access ag (LINK_CTL p) 4 (s.withBits (LINK_CTL p) 2 1 (b2n on))) := rfl

theorem exec_linkCfgWrite (ag : Agent) (p : Port) (v : Word) (s : State) :
    exec (.linkCfgWrite ag p v) s = .next (s.access ag (LINK_CFG p) 4 v.toNat) := rfl

theorem exec_tsClear (ag : Agent) (p : Port) (s : State) : exec (.tsClear ag p) s =
    .next (s.access ag (LINK_TS_CTL p) 4 (s.withBits (LINK_TS_CTL p) 1 1 1)) := rfl

/-! ### The operation of a write -/

section
variable {s : State} {ag : Agent} {p v : Nat} (hp : p < 31)
include hp

/-- A register of a fabric port below its permit table is written by the port's rules. -/
theorem State.write32_link {o g : Nat} (ho : o < 0x5100) :
    s.write32 g (0x400000 + o + p * 0x10000) v = s.linkWrite p (0x400000 + o + p * 0x10000) v := by
  have hport : (0x400000 + o + p * 0x10000 - 0x400000) / 0x10000 = p := by omega
  rw [State.write32]
  iterate 3 rw [if_neg (by omega)]
  rw [if_pos (by omega), hport]

/-- A 32-bit write that the module takes of a port's register of one word. -/
theorem State.access_link {a o : Nat} {d : WordDesc} (ha : a = 0x400000 + o + p * 0x10000) (ho : o < 0x5100)
    (hloc : rowsLINK.findSome? (rowWord · o) = some ⟨d, 0, 1⟩) (hw : Writable s ag a 4) :
    s.access ag a 4 v = (s.linkWrite p a v).answer 0 [] := by
  have hown : a ≠ GEN_OWN_CMD := by rw [GEN_OWN_CMD]; omega
  subst ha
  rw [State.access_reg hown ((regLoc_link hp ho).trans hloc) hw, State.write32_link hp ho]

theorem State.access_linkCtl (hw : Writable s ag (LINK_CTL p) 4) :
    s.access ag (LINK_CTL p) 4 v = (s.linkCtl p (s.reg (LINK_CTL p)).toNat v).answer 0 [] := by
  rw [State.access_link (o := 0) hp (by rw [LINK_CTL]; omega) (by decide) rfl hw, State.linkWrite, if_pos rfl]

theorem State.access_linkCfg (hw : Writable s ag (LINK_CFG p) 4) :
    s.access ag (LINK_CFG p) 4 v = (s.linkCfg p v).answer 0 [] := by
  have hctl : LINK_CFG p ≠ LINK_CTL p := by rw [LINK_CFG, LINK_CTL]; omega
  rw [State.access_link (o := 4) hp (by rw [LINK_CFG]; omega) (by decide) rfl hw, State.linkWrite, if_neg hctl,
    if_pos rfl]

/-- The clear bit of LINK_TS_CTL empties what is measured (R303). -/
theorem State.access_tsCtl_clear (hw : Writable s ag (LINK_TS_CTL p) 4) (hclear : bit v 1 = true) :
    s.access ag (LINK_TS_CTL p) 4 v = ((s.plainWrite (LINK_TS_CTL p) v).tsClear p).answer 0 [] := by
  have hctl : LINK_TS_CTL p ≠ LINK_CTL p := by rw [LINK_TS_CTL, LINK_CTL]; omega
  have hcfg : LINK_TS_CTL p ≠ LINK_CFG p := by rw [LINK_TS_CTL, LINK_CFG]; omega
  rw [State.access_link (o := 0x100) hp (by rw [LINK_TS_CTL]; omega) (by decide) rfl hw, State.linkWrite,
    if_neg hctl, if_neg hcfg, if_pos rfl, hclear]
  rfl

end

/-! ### LINK_CTL (R249, R252 to R254) -/

/-- What LINK_CTL keeps of a value: bits 0, 2 and 3. -/
def ctlWord (v : Nat) : Word := BitVec.ofNat 32 (v % 16 - v / 2 % 2 * 2)

/-- A field of one word keeps its value when another register is written. -/
theorem State.fld_setReg_other {s : State} {a : Nat} {w : Word} {g : Fld} (hg : g.lo + g.width ≤ 32)
    (ha : g.addr ≠ a) : (s.setReg a w).fld g = s.fld g := by
  rw [State.fld_word hg, State.fld_word hg, State.reg_setReg_other ha]

/-- A value written for one bit's field has that bit, and the register's own bits elsewhere. -/
theorem State.bit_withBits_same (s : State) (a lo v : Nat) : bit (s.withBits a lo 1 v) lo = bit v 0 := by
  rw [bit, State.withBits, testBit_putBits, if_neg (Nat.lt_irrefl lo), if_pos (Nat.lt_succ_self lo), Nat.sub_self, bit]

theorem State.bit_withBits_b2n (s : State) (a lo : Nat) (b : Bool) : bit (s.withBits a lo 1 (b2n b)) lo = b := by
  rw [State.bit_withBits_same]
  cases b <;> rfl

theorem State.bit_withBits_other {s : State} {a lo v i : Nat} (h : i ≠ lo) :
    bit (s.withBits a lo 1 v) i = bit (s.reg a).toNat i := by
  rw [bit, State.withBits, testBit_putBits, bit]
  split
  · rfl
  · rw [if_neg (by omega)]

section
variable {s u : State} {p v : Nat}

section
variable {lo : Nat}

theorem State.bit_withCtl_enable (h : 0 ≠ lo) :
    bit (s.withBits (LINK_CTL p) lo 1 v) 0 = s.flag (LINK_CTL_enable p) :=
  (State.bit_withBits_other h).trans (State.flag_eq_bit (f := LINK_CTL_enable p) rfl (show 0 < 32 by decide)).symm

theorem State.bit_withCtl_retrain (h : 1 ≠ lo) :
    bit (s.withBits (LINK_CTL p) lo 1 v) 1 = s.flag (LINK_CTL_retrain p) :=
  (State.bit_withBits_other h).trans (State.flag_eq_bit (f := LINK_CTL_retrain p) rfl (show 1 < 32 by decide)).symm

theorem State.bit_withCtl_widthMax (h : 2 ≠ lo) :
    bit (s.withBits (LINK_CTL p) lo 1 v) 2 = s.flag (LINK_CTL_width_max p) :=
  (State.bit_withBits_other h).trans (State.flag_eq_bit (f := LINK_CTL_width_max p) rfl (show 2 < 32 by decide)).symm

theorem State.bit_withCtl_halfRate (h : 3 ≠ lo) :
    bit (s.withBits (LINK_CTL p) lo 1 v) 3 = s.flag (LINK_CTL_half_rate p) :=
  (State.bit_withBits_other h).trans (State.flag_eq_bit (f := LINK_CTL_half_rate p) rfl (show 3 < 32 by decide)).symm

end

section
variable (hu : s.setReg (LINK_CTL p) (ctlWord v) = u)
include hu

/-- The write's rules in their order, with the port's state, its leave to train and its flags as they stood before. -/
theorem State.linkCtl_eq : s.linkCtl p (s.reg (LINK_CTL p)).toNat v =
    if bit v 0 = false then
      (((if s.fld (LINK_STAT_state p) = 5 then u.leaveActive p else u).linkEnter p 0).setFld
        (LINK_STAT_retraining p) 0).setFld (LINK_STAT_lanes p) 0
    else if s.fld (LINK_STAT_state p) = 0 then (if s.portMay p = true then u.linkEnter p 1 else u)
    else if bit v 1 = true ∨ s.flag (LINK_CTL_width_max p) ≠ bit v 2 then
      (u.modPort p fun q => { q with widen := true }).linkRetrain p
    else if s.flag (LINK_CTL_half_rate p) ≠ bit v 3 then u.linkRetrain p
    else u := by
  subst hu
  have hctl : LINK_CTL p = 0x400000 + 0x10000 * p := rfl
  have hstat : (LINK_STAT_state p).addr = 0x400000 + 0x10000 * p + 8 := rfl
  have hdom : PWR_DOM_STAT_on.addr = 0x200010 := rfl
  have hboot : BOOT_STAT_step.addr = 0x100004 := rfl
  have hstate : (s.setReg (LINK_CTL p) (ctlWord v)).fld (LINK_STAT_state p) = s.fld (LINK_STAT_state p) :=
    State.fld_setReg_other (show 3 ≤ 32 by decide) (by omega)
  have hmay : (s.setReg (LINK_CTL p) (ctlWord v)).portMay p = s.portMay p := by
    rw [State.portMay, State.portMay, State.fld_setReg_other (by decide) (by omega),
      State.fld_setReg_other (by decide) (by omega)]
  have hwidth : bit (s.reg (LINK_CTL p)).toNat 2 = s.flag (LINK_CTL_width_max p) :=
    (State.flag_eq_bit (f := LINK_CTL_width_max p) rfl (show 2 < 32 by decide)).symm
  have hrate : bit (s.reg (LINK_CTL p)).toNat 3 = s.flag (LINK_CTL_half_rate p) :=
    (State.flag_eq_bit (f := LINK_CTL_half_rate p) rfl (show 3 < 32 by decide)).symm
  have hword : BitVec.ofNat 32 (v % 16 - v / 2 % 2 * 2) = ctlWord v := rfl
  simp only [State.linkCtl, hword, hstate, hmay, hwidth, hrate, Bool.not_eq_true', Bool.or_eq_true, bne_iff_ne]

/-- Clearing enable takes the port to OFF, from ACTIVE once its grace timer runs. -/
theorem State.linkCtl_off (h : bit v 0 = false) : s.linkCtl p (s.reg (LINK_CTL p)).toNat v =
    (((if s.fld (LINK_STAT_state p) = 5 then u.leaveActive p else u).linkEnter p 0).setFld
      (LINK_STAT_retraining p) 0).setFld (LINK_STAT_lanes p) 0 := (State.linkCtl_eq hu).trans (if_pos h)

section
variable (hon : bit v 0 = true)
include hon

theorem State.linkCtl_start (hoff : s.fld (LINK_STAT_state p) = 0) (hmay : s.portMay p = true) :
    s.linkCtl p (s.reg (LINK_CTL p)).toNat v = u.linkEnter p 1 := by
  rw [State.linkCtl_eq hu, if_neg (ne_false_of_eq_true hon), if_pos hoff, if_pos hmay]

section
variable (hst : s.fld (LINK_STAT_state p) ≠ 0)
include hst

/-- The retrain bit and a change of width_max retrain the port, which may return to full width. -/
theorem State.linkCtl_widen (h : bit v 1 = true ∨ s.flag (LINK_CTL_width_max p) ≠ bit v 2) :
    s.linkCtl p (s.reg (LINK_CTL p)).toNat v = (u.modPort p fun q => { q with widen := true }).linkRetrain p := by
  rw [State.linkCtl_eq hu, if_neg (ne_false_of_eq_true hon), if_neg hst, if_pos h]

section
variable (hretrain : bit v 1 = false) (hwidth : bit v 2 = s.flag (LINK_CTL_width_max p))
include hretrain hwidth

/-- A change of half_rate alone retrains it as it is. -/
theorem State.linkCtl_rate (h : s.flag (LINK_CTL_half_rate p) ≠ bit v 3) :
    s.linkCtl p (s.reg (LINK_CTL p)).toNat v = u.linkRetrain p := by
  rw [State.linkCtl_eq hu, if_neg (ne_false_of_eq_true hon), if_neg hst, if_neg (by simp [hretrain, hwidth]), if_pos h]

/-- With nothing changed that retrains a port the register alone is written. -/
theorem State.linkCtl_kept (h : bit v 3 = s.flag (LINK_CTL_half_rate p)) :
    s.linkCtl p (s.reg (LINK_CTL p)).toNat v = u := by
  rw [State.linkCtl_eq hu, if_neg (ne_false_of_eq_true hon), if_neg hst, if_neg (by simp [hretrain, hwidth]),
    if_neg (not_not_intro h.symm)]

end
end
end
end

/-! ### half_rate (R252, R254) -/

variable {ag : Agent}

theorem State.takesWrite_of_writable {a : Nat} (h : Writable s ag a 4) : s.takesWrite ag a = true := by
  obtain ⟨hreach, howner, -, hmapped, -⟩ := h
  rw [State.takesWrite, hreach, howner, hmapped]
  rfl

section
variable {port : Port} {on : Bool}

/-- Written with the value it holds it retrains the port once the access is answered. -/
theorem exec_linkHalfRate_same (hw : Writable s ag (LINK_CTL port) 4) (h : s.flag (LINK_CTL_half_rate port) = on) :
    exec (.linkHalfRate ag port on) s =
      .next ((s.access ag (LINK_CTL port) 4 (s.withBits (LINK_CTL port) 3 1 (b2n on))).linkRetrain port) := by
  have hcond : (s.takesWrite ag (LINK_CTL port) && s.flag (LINK_CTL_half_rate port) == on) = true := by
    rw [State.takesWrite_of_writable hw, h, beq_self_eq_true, Bool.and_self]
  exact congrArg _ (if_pos hcond)

theorem exec_linkHalfRate_other (h : s.flag (LINK_CTL_half_rate port) ≠ on) : exec (.linkHalfRate ag port on) s =
    .next (s.access ag (LINK_CTL port) 4 (s.withBits (LINK_CTL port) 3 1 (b2n on))) := by
  have hcond : (s.takesWrite ag (LINK_CTL port) && s.flag (LINK_CTL_half_rate port) == on) = false := by
    rw [beq_eq_false_iff_ne.2 h, Bool.and_false]
  exact congrArg _ (if_neg (Bool.eq_false_iff.1 hcond))

end

/-! ### LINK_CFG (R255, R262) -/

theorem State.linkCfg_taken {w : Word} (h : 1 ≤ w.toNat % 2 ^ 14 ∧ w.toNat % 2 ^ 14 ≤ 16000) :
    s.linkCfg p w.toNat = s.setReg (LINK_CFG p) (w &&& 0x00FF7FFF) := by
  have hlt : w.toNat &&& 0x00FF7FFF < 2 ^ 32 := Nat.and_lt_two_pow _ (by decide)
  have hmask : BitVec.ofNat 32 (w.toNat &&& 0x00FF7FFF) = w &&& 0x00FF7FFF :=
    BitVec.eq_of_toNat_eq (by rw [BitVec.toNat_ofNat, Nat.mod_eq_of_lt hlt, BitVec.toNat_and]; rfl)
  rw [State.linkCfg, if_pos h, hmask]

theorem State.linkCfg_refused (h : v % 2 ^ 14 = 0 ∨ 16000 < v % 2 ^ 14) :
    s.linkCfg p v = s.raiseLink 0x5040 p 0 := if_neg (by omega)

end

/-- Settles O22: a write that the module takes reaches the operation of its register; the bits written and those the
register holds decide its case. -/
theorem linkRegisterWrites : Obligations.LinkRegisterWrites := by
  intro s ag p w
  refine ⟨fun hw => ?_, fun hw v => ⟨fun h => ?_, fun h => ?_⟩, fun hw => ?_⟩
  · have ha (v : Nat) := State.access_linkCtl (v := v) p.isLt hw
    refine ⟨?_, fun hoff hmay => ?_, fun hst hretrain => ?_, fun hst hon => ⟨?_, fun hretrain on => ?_⟩⟩
    · exact next_answer (ha _) (State.linkCtl_off rfl (State.bit_withBits_same ..))
    · exact next_answer (ha _) (State.linkCtl_start rfl (State.bit_withBits_same ..) hoff hmay)
    · rw [exec_linkEnable, ha, State.linkCtl_kept rfl (State.bit_withBits_same ..) hst
        ((State.bit_withCtl_retrain (by decide)).trans hretrain) (State.bit_withCtl_widthMax (by decide))
        (State.bit_withCtl_halfRate (by decide))]
      rfl
    · rw [exec_linkRetrainCmd, ha, State.linkCtl_widen rfl ((State.bit_withCtl_enable (by decide)).trans hon) hst
        (.inl (State.bit_withBits_same ..))]
      rfl
    · intro a b
      have hwidth : bit (s.withBits (LINK_CTL p) 2 1 (b2n on)) 2 = on := State.bit_withBits_b2n ..
      have hrate : bit (s.withBits (LINK_CTL p) 3 1 (b2n on)) 3 = on := State.bit_withBits_b2n ..
      have henable {lo : Nat} (h : 0 ≠ lo) : bit (s.withBits (LINK_CTL p) lo 1 (b2n on)) 0 = true :=
        (State.bit_withCtl_enable h).trans hon
      have hno {lo : Nat} (h : 1 ≠ lo) : bit (s.withBits (LINK_CTL p) lo 1 (b2n on)) 1 = false :=
        (State.bit_withCtl_retrain h).trans hretrain
      refine ⟨fun h => ?_, fun h => ?_, fun h => ?_, fun h => ?_⟩
      · rw [exec_linkWidthMax, ha, State.linkCtl_kept rfl (henable (by decide)) hst (hno (by decide))
          (hwidth.trans h.symm) (State.bit_withCtl_halfRate (by decide))]
        rfl
      · rw [exec_linkWidthMax, ha, State.linkCtl_widen rfl (henable (by decide)) hst (.inr (hwidth.symm ▸ h))]
        rfl
      · rw [exec_linkHalfRate_same hw h, ha, State.linkCtl_kept rfl (henable (by decide)) hst (hno (by decide))
          (State.bit_withCtl_widthMax (by decide)) (hrate.trans h.symm)]
        rfl
      · rw [exec_linkHalfRate_other h, ha, State.linkCtl_rate rfl (henable (by decide)) hst (hno (by decide))
          (State.bit_withCtl_widthMax (by decide)) (hrate.symm ▸ h)]
        rfl
  · exact next_answer (State.access_linkCfg p.isLt hw) (State.linkCfg_taken h)
  · exact next_answer (State.access_linkCfg p.isLt hw) (State.linkCfg_refused h)
  · exact next_answer (State.access_tsCtl_clear p.isLt hw (State.bit_withBits_same ..)) rfl

end Sys2Proof.Machine
end

section
/-! SUPPORT. Writes of the permit tables and of the topology registers (O44). -/

namespace Sys2Proof.Machine

theorem exec_permitCommit (ag : Agent) (p : Port) (k : Fin 1024) (v : Word) (s : State) :
    exec (.permitCommit ag p k v) s = .next (s.access ag (LINK_PERMIT p k + 12) 4 v.toNat) := rfl

theorem exec_surveyStart (ag : Agent) (s : State) :
    exec (.surveyStart ag) s = .next (s.access ag TOPO_CTL 4 1) := rfl

theorem exec_circuitMeasure (ag : Agent) (s : State) :
    exec (.circuitMeasure ag) s = .next (s.access ag TOPO_CTL 4 2) := rfl

theorem exec_sliceRegWrite_slice (ag : Agent) (v : Word) (s : State) :
    exec (.sliceRegWrite ag .slice v) s = .next (s.access ag TOPO_SLICE 4 v.toNat) := rfl

theorem exec_fenceRequest (ag : Agent) (on : Bool) (s : State) :
    exec (.fenceRequest ag on) s = .next (s.access ag TOPO_FENCE 4 (b2n on)) := rfl

theorem exec_lcoordWrite (ag : Agent) (v : Word) (s : State) :
    exec (.lcoordWrite ag v) s = .next (s.access ag TOPO_LCOORD 4 v.toNat) := rfl

/-! ### Permit entries in the register map (R457) -/

/-- The first offset behind the registers of a row. -/
def RegRow.stop (r : RegRow) : Nat := r.off + if r.stride = 0 then 4 * r.words.length else r.count * r.stride

/-- Behind its registers a row has none. -/
theorem rowWord_past {r : RegRow} {o : Nat} (h : r.stop ≤ o) : rowWord r o = none := by
  unfold RegRow.stop at h
  unfold rowWord
  split at h
  case isTrue hone =>
    have hword : r.words.length ≤ (o - r.off) / 4 := by omega
    simp only [if_pos hone, List.getElem?_eq_none hword, ite_self]
  case isFalse hmany =>
    have hindex : ¬ (o - r.off) / r.stride < r.count :=
      Nat.not_lt.2 ((Nat.le_div_iff_mul_le (Nat.pos_of_ne_zero hmany)).2 (by omega))
    simp only [if_neg hmany, if_neg hindex, ite_self]

/-- The entries of a permit table: 1,024 registers of four words each (R277). -/
def permitRow : RegRow :=
  let w : WordDesc := ⟨0xffffffff, 0, 0, 0, 0⟩
  ⟨0x1100, 1024, 16, [w, w, w, w]⟩

theorem rowWord_permitRow {k : Nat} (hk : k < 1024) :
    rowWord permitRow (0x1100 + 16 * k + 12) = some ⟨⟨0xffffffff, 0, 0, 0, 0⟩, 3, 4⟩ := by
  have hoff : 0x1100 + 16 * k + 12 - 0x1100 = 16 * k + 12 := by omega
  have hindex : (16 * k + 12) / 16 = k := by omega
  have hword : (16 * k + 12) % 16 = 12 := by omega
  simp only [rowWord, permitRow, if_neg (show ¬ 0x1100 + 16 * k + 12 < 0x1100 by omega), hoff,
    if_neg (show ¬ 16 = 0 by decide), hindex, hword, if_pos hk]
  rfl

/-- The rows of block LINK before the permit table end below it, so that its row is the first that has the word. -/
theorem rowsLINK_permit {k : Nat} (hk : k < 1024) :
    rowsLINK.findSome? (rowWord · (0x1100 + 16 * k + 12)) = some ⟨⟨0xffffffff, 0, 0, 0, 0⟩, 3, 4⟩ := by
  have hrows : rowsLINK = rowsLINK.take 21 ++ permitRow :: rowsLINK.drop 22 := rfl
  have hstop : ∀ r ∈ rowsLINK.take 21, r.stop ≤ 0x1100 := by decide
  have hbefore : (rowsLINK.take 21).findSome? (rowWord · (0x1100 + 16 * k + 12)) = none :=
    List.findSome?_eq_none_iff.2 fun r hr => rowWord_past (Nat.le_trans (hstop r hr) (by omega))
  rw [hrows, List.findSome?_append, hbefore, Option.none_or, List.findSome?_cons, rowWord_permitRow hk]

theorem regLoc_permit {p k : Nat} (hp : p < 31) (hk : k < 1024) :
    regLoc (LINK_PERMIT p k + 12) = some ⟨⟨0xffffffff, 0, 0, 0, 0⟩, 3, 4⟩ := by
  have ha : LINK_PERMIT p k + 12 = 0x400000 + (0x1100 + 16 * k + 12) + p * 0x10000 := by rw [LINK_PERMIT]; omega
  rw [ha, regLoc_link hp (by omega), rowsLINK_permit hk]

/-! ### The operation of a write -/

/-- Word 3 of a register of four words completes its write (R277, R355). -/
theorem State.writeWord_last {s : State} {g a v : Nat} {d : WordDesc} (h : regLoc a = some ⟨d, 3, 4⟩) :
    s.writeWord g a v = s.write128 g (a - 12) v := by
  simp [State.writeWord, h]

/-- The entry that a write of word 3 completes: the words kept for the agent below it. -/
def State.permitNew (s : State) (g p k v : Nat) : Nat :=
  s.lowFor g (LINK_PERMIT p k) + s.lowFor g (LINK_PERMIT p k + 4) * 2 ^ 32
    + s.lowFor g (LINK_PERMIT p k + 8) * 2 ^ 64 + v * 2 ^ 96

theorem State.permitCommit_bad {s : State} {p k e : Nat} (h : s.permitBad p k e = true) :
    s.permitCommit p k e = (s.setFld (LINK_PERMIT_CTL_refused p) 1).raise 0x4112 (unitPort p) 0 0 := if_pos h

theorem State.permitCommit_good {s : State} {p k e : Nat} (h : s.permitBad p k e = false) :
    s.permitCommit p k e =
      (s.setReg64 (LINK_PERMIT p k) (if bit e 31 then e else 0)).setReg64 (LINK_PERMIT p k + 8)
        ((if bit e 31 then e else 0) >>> 64) := if_neg (Bool.eq_false_iff.1 h)

section
variable {s : State} {ag : Agent} {v : Nat}

section
variable {p k : Nat} (hp : p < 31) (hk : k < 1024)
include hp hk

/-- The four words are committed, and those kept for the agents go once they are taken. -/
theorem State.write128_permit {g e : Nat} (he : s.permitNew g p k v = e) :
    s.write128 g (LINK_PERMIT p k) v =
      if s.permitBad p k e then s.permitCommit p k e
      else (s.permitCommit p k e).dropLow [LINK_PERMIT p k, LINK_PERMIT p k + 4, LINK_PERMIT p k + 8] := by
  have hlink : LINK_PERMIT p k < 0x600000 := by rw [LINK_PERMIT]; omega
  have hport : (LINK_PERMIT p k - 0x400000) / 0x10000 = p := by rw [LINK_PERMIT]; omega
  have hindex : (LINK_PERMIT p k - LINK_PERMIT p 0) / 16 = k := by
    have hrow : LINK_PERMIT p k = LINK_PERMIT p 0 + 16 * k := rfl
    omega
  rw [State.permitNew] at he
  simp only [State.write128, if_pos hlink, hport, hindex, he]

variable (hw : Writable s ag (LINK_PERMIT p k + 12) 4)
include hw

theorem State.access_permit : s.access ag (LINK_PERMIT p k + 12) 4 v =
    (s.write128 (agentNo ag) (LINK_PERMIT p k) v).answer 0 [] := by
  have hown : LINK_PERMIT p k + 12 ≠ GEN_OWN_CMD := by rw [LINK_PERMIT, GEN_OWN_CMD]; omega
  rw [State.access_word hw hown, State.writeWord_last (regLoc_permit hp hk), Nat.add_sub_cancel]

variable {e : Nat} (he : s.permitNew (agentNo ag) p k v = e)
include he

theorem State.access_permit_bad (h : s.permitBad p k e = true) : s.access ag (LINK_PERMIT p k + 12) 4 v =
    ((s.setFld (LINK_PERMIT_CTL_refused p) 1).raise 0x4112 (unitPort p) 0 0).answer 0 [] := by
  rw [State.access_permit hp hk hw, State.write128_permit hp hk he, if_pos h, State.permitCommit_bad h]

theorem State.access_permit_good (h : s.permitBad p k e = false) : s.access ag (LINK_PERMIT p k + 12) 4 v =
    (((s.setReg64 (LINK_PERMIT p k) (if bit e 31 then e else 0)).setReg64 (LINK_PERMIT p k + 8)
      ((if bit e 31 then e else 0) >>> 64)).dropLow
        [LINK_PERMIT p k, LINK_PERMIT p k + 4, LINK_PERMIT p k + 8]).answer 0 [] := by
  rw [State.access_permit hp hk hw, State.write128_permit hp hk he, if_neg (Bool.eq_false_iff.1 h),
    State.permitCommit_good h]

end

theorem State.access_topoCtl_survey (hw : Writable s ag TOPO_CTL 4) :
    s.access ag TOPO_CTL 4 1 = s.surveyStart.answer 0 [] := State.access_reg (by decide) rfl hw

theorem State.access_topoCtl_measure (hw : Writable s ag TOPO_CTL 4) :
    s.access ag TOPO_CTL 4 2 = s.measureStart.answer 0 [] := State.access_reg (by decide) rfl hw

theorem State.access_slice (hw : Writable s ag TOPO_SLICE 4) :
    s.access ag TOPO_SLICE 4 v = (s.sliceWrite v).answer 0 [] := State.access_reg (by decide) rfl hw

theorem State.access_lcoord (hw : Writable s ag TOPO_LCOORD 4) :
    s.access ag TOPO_LCOORD 4 v = (s.lcoordWrite v).answer 0 [] := State.access_reg (by decide) rfl hw

/-- Written with its request alone, the register leaves the refusal of a fence as it stands. -/
theorem State.access_fence {on : Bool} (hw : Writable s ag TOPO_FENCE 4) :
    s.access ag TOPO_FENCE 4 (b2n on) = (s.fenceWrite on).answer 0 [] := by
  have hwrite : s.write32 (agentNo ag) TOPO_FENCE (b2n on) =
      (s.setIf (bit (b2n on) 2) TOPO_FENCE_refused 0).fenceWrite (bit (b2n on) 0) := rfl
  have hrefused : bit (b2n on) 2 = false := by cases on <;> rfl
  have hreq : bit (b2n on) 0 = on := by cases on <;> rfl
  rw [State.access_reg (by decide) rfl hw, hwrite, hrefused, hreq]
  rfl

/-- The register of a command on the tree registers, and its fields (R274). -/
def treeReg : SliceReg → Nat × Nat
  | .origin => (TOPO_ORIGIN, 0x8001FFFF)
  | .tree => (TOPO_TREE, 0x1F)
  | _ => (TOPO_TREE_CHILD, 0x7FFFFFFF)

theorem exec_sliceRegWrite_tree {r : SliceReg} (hr : r ≠ .slice) (w : Word) (hw : Writable s ag (treeReg r).1 4) :
    exec (.sliceRegWrite ag r w) s =
      .next ((s.treeWrite (treeReg r).1 (treeReg r).2 w.toNat).answer 0 []) := by
  cases r with
  | slice => exact absurd rfl hr
  | origin => exact congrArg _ (State.access_reg (by decide) rfl hw)
  | tree => exact congrArg _ (State.access_reg (by decide) rfl hw)
  | child => exact congrArg _ (State.access_reg (by decide) rfl hw)

end

/-! ### What the operations do -/

/-- What every application of a function keeps, any number of them keeps. -/
theorem iter_keeps {σ τ : Type} (g : σ → τ) {n : Nat} {f : Nat → σ → σ} {s : σ} (h : ∀ i t, g (f i t) = g t) :
    g (iter n f s) = g s :=
  List.foldlRecOn (motive := fun t => g t = g s) _ _ rfl fun t ht i _ => (h i t).trans ht

section
variable {s : State} {v : Nat}

/-- Port `p` as not heard in the survey that starts (R266). -/
def State.unhear (s : State) (p : Nat) : State :=
  ((s.setFld (TOPO_PORT_heard p) 0).setFld (TOPO_PORT_ok p) 0).modPort p fun q => { q with told4101 := false }

/-- A survey starts at the time of its command: no port's part of it takes any. -/
theorem State.surveyStart_eq : s.surveyStart =
    (((iter 31 (fun p t => t.unhear p) s).setFld TOPO_STAT_survey 1).setFld TOPO_STAT_cvalid 0).modTopo fun t =>
      { t with surveyAt := s.time.elapsed, sentAt := none } := by
  have htime : (iter 31 (fun p t => t.unhear p) s).time = s.time :=
    iter_keeps State.time fun p t => by simp only [State.unhear, State.modPort_time, State.setFld_time]
  rw [← htime]
  rfl

/-- A value of TOPO_SLICE that is refused: another id while the slice is not idle, or one of the reserved ids made
active (R274). -/
def State.SliceBad (s : State) (v : Nat) : Prop :=
  (s.fld TOPO_SLICE_state ≠ 0 ∧ v % 65536 ≠ s.fld TOPO_SLICE_id)
    ∨ (bits v 16 2 = 1 ∧ (v % 65536 = 0 ∨ v % 65536 = 0xFFFF))

/-- The fields of TOPO_SLICE as a value gives them. -/
def State.sliceFields (s : State) (v : Nat) : State :=
  ((s.setFld TOPO_SLICE_id (v % 65536)).setFld TOPO_SLICE_state (bits v 16 2)).setFld TOPO_SLICE_branch (bits v 18 1)

theorem State.sliceWrite_bad (h : s.SliceBad v) : s.sliceWrite v = s.raise 0x4121 0 0 0 := if_pos h

theorem State.sliceWrite_good (h : ¬ s.SliceBad v) : s.sliceWrite v =
    if s.fld TOPO_SLICE_state ≠ 1 ∧ bits v 16 2 = 1 then (s.sliceFields v).jobStart else s.sliceFields v := if_neg h

theorem State.sliceWrite_kept (h : ¬ s.SliceBad v) (hkept : s.fld TOPO_SLICE_state = 1 ∨ bits v 16 2 ≠ 1) :
    s.sliceWrite v = s.sliceFields v := by
  rw [State.sliceWrite_good h, if_neg (fun ⟨hold, hnew⟩ => hkept.elim hold (· hnew))]

/-- An inactive slice that becomes active starts a job. -/
theorem State.sliceWrite_started (h : ¬ s.SliceBad v) (hold : s.fld TOPO_SLICE_state ≠ 1) (hnew : bits v 16 2 = 1) :
    s.sliceWrite v = (s.sliceFields v).jobStart := by rw [State.sliceWrite_good h, if_pos ⟨hold, hnew⟩]

/-- The fence asked for waits for the next boundary. -/
def State.fenceAsked (s : State) (on : Bool) : State :=
  (s.setFld TOPO_FENCE_req (b2n on)).modTopo fun t => { t with fence := some on }

section
variable {on : Bool} {u : State} (hu : s.fenceAsked on = u)
include hu

theorem State.fenceWrite_elsewhere (h : u.flag TOPO_ORIGIN_self = false) : s.fenceWrite on = u := by
  subst hu
  exact if_neg (Bool.eq_false_iff.1 h)

theorem State.fenceWrite_origin (h : u.flag TOPO_ORIGIN_self = true) : s.fenceWrite on =
    u.fenceDown (fenceSymbol on (u.fld TOPO_SLICE_id) (u.fld TOPO_COORD_coord)) := by
  subst hu
  exact if_pos h

end

end

/-- Settles O44: a write that the module takes reaches the operation of its register, whose case decides. -/
theorem topologyRegisterWrites : Obligations.TopologyRegisterWrites := by
  intro s ag
  refine ⟨fun p k v hw => ?_, fun hw => ⟨?_, ?_⟩, fun v => ?_, fun on hw => ?_, fun v hw => ?_⟩
  · intro b e x
    rw [exec_permitCommit]
    exact ⟨fun hbad => congrArg _ (State.access_permit_bad p.isLt k.isLt hw rfl hbad),
      fun hgood => congrArg _ (State.access_permit_good p.isLt k.isLt hw rfl hgood)⟩
  · rw [exec_surveyStart]
    exact next_answer (State.access_topoCtl_survey hw) State.surveyStart_eq
  · rw [exec_circuitMeasure]
    exact next_answer (State.access_topoCtl_measure hw) rfl
  · intro id st no
    refine ⟨fun hw => ?_, ?_⟩
    · intro bad u
      rw [exec_sliceRegWrite_slice]
      have ha := State.access_slice (v := v.toNat) hw
      exact ⟨fun hbad => next_answer ha (State.sliceWrite_bad hbad),
        fun hgood hkept => next_answer ha (State.sliceWrite_kept hgood hkept),
        fun hgood hold hnew => next_answer ha (State.sliceWrite_started hgood hold hnew)⟩
    · intro r hr am hw
      rw [exec_sliceRegWrite_tree hr v hw]
      exact ⟨fun hrun => next_answer rfl (if_pos hrun), fun hidle => next_answer rfl (if_neg (not_not_intro hidle))⟩
  · intro u
    rw [exec_fenceRequest]
    have ha := State.access_fence (on := on) hw
    exact ⟨fun h => next_answer ha (State.fenceWrite_elsewhere rfl h),
      fun h => next_answer ha (State.fenceWrite_origin rfl h)⟩
  · rw [exec_lcoordWrite]
    have ha := State.access_lcoord (v := v.toNat) hw
    exact ⟨fun hrun => next_answer ha (if_pos hrun), fun hidle => next_answer ha (if_neg hidle)⟩

end Sys2Proof.Machine
end

section
/-! SUPPORT. Surveys, circuit measurement and FENCE symbols (O45). -/

namespace Sys2Proof.Machine

theorem exec_surveySend (s : State) : exec .surveySend s = .next s.surveySend := rfl

theorem exec_surveyTimeout (s : State) : exec .surveyTimeout s = .next s.surveyTimeout := rfl

theorem exec_surveySymbol (p : Port) (s : State) : exec (.surveySymbol p) s = .next (s.surveyHear p) := rfl

theorem exec_measureTimeout (p : Port) (s : State) : exec (.measureTimeout p) s = .next (s.measureTimeout p) := rfl

theorem exec_fenceSymbol (p : Port) (s : State) : exec (.fenceSymbol p) s = .next (s.fenceHear p) := rfl

section
variable {s : State} {p : Nat}

/-! ### SURVEY symbols out (R266) -/

theorem State.surveys_iff {i : Nat} : s.surveys i = true ↔ s.fld (LINK_STAT_state i) = 5 ∧
    (s.fld TOPO_STAT_survey = 1 ∨ (s.port i).survey = true
      ∨ (s.port i).measuring = true ∧ (s.port i).measWait = false) := by
  simp only [State.surveys, Bool.and_eq_true, Bool.or_eq_true, decide_eq_true_eq, beq_iff_eq, Bool.not_eq_true',
    or_assoc]

theorem State.surveySend_none (h : ∀ i < 31, s.surveys i = false) : s.surveySend = s := by
  have hnone : ¬ (List.range 31).any s.surveys = true := by simpa using h
  exact if_neg hnone

/-- The symbols that go out now, on every port that is surveyed. -/
def State.surveyNow (s : State) : State :=
  (iter 31 (fun i t => if t.surveys i then t.sendSymbol i (t.surveySymbol i) else t) s).modTopo
    fun t => { t with sentAt := some s.time.elapsed }

section
variable {i : Nat} (hi : i < 31) (h : s.surveys i = true)
include hi h

theorem State.any_surveys : (List.range 31).any s.surveys = true :=
  List.any_eq_true.2 ⟨i, List.mem_range.2 hi, h⟩

/-- The first symbols go out at once. -/
theorem State.surveySend_first (hsent : s.topo.sentAt = none) : s.surveySend = s.surveyNow := by
  rw [State.surveySend, if_pos (State.any_surveys hi h), hsent]
  rfl

/-- The next ones go out 12,800 ticks after the last. -/
theorem State.surveySend_next {t : Nat} (hsent : s.topo.sentAt = some t) :
    s.surveySend = (s.toElapsed (t + 12800)).surveyNow := by
  rw [State.surveySend, if_pos (State.any_surveys hi h), hsent]
  rfl

end

/-! ### SURVEY symbols in (R267 to R271) -/

/-- What a SURVEY symbol says of the port's peer is recorded (R267). -/
def State.hearPeer (s : State) (p : Nat) (y : List Byte) : State :=
  let w := leField y 12 4
  (((s.modPort p fun q =>
      { q with peerCv := bit (leField y 1 1) 0, survey := q.survey && !bit (leField y 1 1) 1 }).setFld
    (TOPO_PORT_heard p) 1).setFld (TOPO_PORT_peer_port p) (bits w 0 5)).setFld
    (TOPO_PORT_peer p) (mkCoord (bits w 5 10) (bits w 15 4) (bits w 19 3))

/-- Once the coordinate is known every heard port is checked, and the survey completes where it can (R269, R270). -/
def State.checkHeard (s : State) : State :=
  (if s.flag TOPO_STAT_cvalid then iter 31 (fun i t => t.checkPort i) s else s).surveyDone

theorem State.surveyHear_of_pop {y : List Byte} {u : State} (h : s.popSymbol p 6 = some (y, u)) :
    s.surveyHear p = ((u.hearPeer p y).deriveCoord.checkHeard).measureSurvey p := by
  simp only [State.surveyHear, h]
  rfl

/-- A port that is not under measurement, or whose retrain is not over, begins no probes. -/
theorem State.measureSurvey_idle (h : (s.port p).measuring = false ∨ (s.port p).measWait = true) :
    s.measureSurvey p = s := if_pos (by rcases h with h | h <;> simp [h])

/-- A measured port begins its probes, with a fault where its peer is not the recorded one (R271). -/
theorem State.measureSurvey_probes (hmeas : (s.port p).measuring = true) (hwait : (s.port p).measWait = false)
    (hprobing : s.flag (LINK_TS_STAT_probing p) = false) (hskip : (s.port p).measSkip = 0) :
    s.measureSurvey p =
      ((if s.peerDiffers p (s.fld (TOPO_GPEER_coord (p - 15))) (s.fld (TOPO_GPEER_port (p - 15))) then
        s.raisePeer 0x4105 p p else s).setFld (LINK_TS_STAT_probing p) 1).sendProbe p := by
  simp only [State.measureSurvey, hmeas, hwait, hprobing, hskip, Bool.not_true, Bool.or_self, Bool.false_eq_true,
    Nat.lt_irrefl, if_false]

/-! ### A measured port's timeout (R271, R300) -/

/-- The sample under way has failed at the end of its beacon-free slots. -/
def State.probeFailed (s : State) (p : Nat) : State :=
  ((s.toTick ((s.port p).probeFrom + (64 + (s.port p).probeBusy) * slotTicks p)).count
    (LINK_TS_STAT_probe_fail p) 1).modPort p fun q => { q with probeMiss := q.probeMiss + 1 }

section
variable (hmeas : (s.port p).measuring = true)
include hmeas

theorem State.measureTimeout_training (h : s.fld (LINK_STAT_state p) ≠ 5) : s.measureTimeout p =
    ((s.toElapsed ((s.port p).measAt + 640000000)).raise 0x4106 (unitPort p) 0 p).measureEnd p false := by
  rw [State.measureTimeout, hmeas]
  exact if_pos h

theorem State.measureTimeout_active (h : s.fld (LINK_STAT_state p) = 5) : s.measureTimeout p =
    if 8 ≤ ((s.probeFailed p).port p).probeMiss then
      (((s.probeFailed p).raise 0x3068 (unitPort p) 0 p).raise 0x4106 (unitPort p) 0 p).measureEnd p false
    else (s.probeFailed p).sendProbe p := by
  rw [State.measureTimeout, hmeas]
  exact if_neg (not_not_intro h)

end

/-! ### FENCE symbols (R279) -/

theorem State.fenceHear_of_pop {y : List Byte} {u : State} (h : s.popSymbol p 4 = some (y, u)) : s.fenceHear p =
    if leField y 4 4 % 2 ^ 17 = (u.fenceDown y).fld TOPO_COORD_coord then
      (u.fenceDown y).modTopo fun t => { t with fence := some (bit (leField y 1 1) 0) }
    else u.fenceDown y := by
  simp only [State.fenceHear, h]

end

/-- Settles O45: each command in the case its clause names; a symbol acts on the state without it. -/
theorem surveyMeasurementAndFenceCommands : Obligations.SurveyMeasurementAndFenceCommands := by
  intro s p
  refine ⟨fun i => State.surveys_iff, fun h => ?_, fun i hi h z hfirst hnext => ?_, ?_, fun h => ?_, ?_,
    fun hmeas => ⟨fun h => ?_, ?_⟩, ?_⟩
  · rw [exec_surveySend, State.surveySend_none h]
  · rw [exec_surveySend]
    cases hsent : s.topo.sentAt with
    | none =>
      rw [State.surveySend_first hi h hsent, hfirst hsent]
      rfl
    | some t =>
      rw [State.surveySend_next hi h hsent, hnext t hsent]
      rfl
  · intro h u
    rw [exec_surveyTimeout]
    exact congrArg _ (if_pos h)
  · rw [exec_surveyTimeout]
    exact congrArg _ (if_neg h)
  · intro y u hpop w h t
    rw [exec_surveySymbol, State.surveyHear_of_pop hpop]
    exact ⟨fun hidle => congrArg _ (State.measureSurvey_idle hidle),
      fun hmeas hwait hprobing hskip => congrArg _ (State.measureSurvey_probes hmeas hwait hprobing hskip)⟩
  · rw [exec_measureTimeout, State.measureTimeout_training hmeas h]
  · intro h u
    rw [exec_measureTimeout, State.measureTimeout_active hmeas h]
    exact ⟨fun hfew => congrArg _ (if_neg (Nat.not_le.2 hfew)), fun hmany => congrArg _ (if_pos hmany)⟩
  · intro y u hpop t
    rw [exec_fenceSymbol, State.fenceHear_of_pop hpop]
    exact ⟨fun hmine => congrArg _ (if_pos hmine), fun hother => congrArg _ (if_neg hother)⟩

end Sys2Proof.Machine
end

section
/-! SUPPORT. The loss of a reference domain's reference (O46). -/

namespace Sys2Proof.Machine

theorem exec_refclkLoss (dm : Dom) (s : State) : exec (.refclkLoss dm) s = .next (s.refLoss (domNo dm)) := rfl

section
variable {s : State} {d : Nat}

/-- A domain is DOWN and its messages are forgotten (R290). -/
def State.domDown (s : State) (d : Nat) : State := (s.domEnter d 0).modDom d fun x => { x with heard := false }

/-- A domain goes DOWN: where it was the selected one its slew ends and 0x3060 is recorded (R290, R291, R292). -/
def State.domLost (s : State) (d : Nat) : State :=
  if s.net.chosen = true ∧ s.fld TIME_DOM_STAT_sel = d then
    ((s.domDown d).setFld TIME_DOM_STAT_slewing 0).raise 0x3060 0 0 d
  else s.domDown d

theorem State.chosen_modDom (f : DomSt → DomSt) : (s.modDom d f).net.chosen = s.net.chosen := by
  unfold State.modDom State.modNet
  split <;> rfl

theorem State.chosen_domDown : (s.domDown d).net.chosen = s.net.chosen := by
  rw [State.domDown, State.chosen_modDom, State.domEnter, State.chosen_modDom]
  split <;> rw [State.setFld_net]

theorem State.fld_modDom (f : DomSt → DomSt) (g : Fld) : (s.modDom d f).fld g = s.fld g := State.fld_modNet ..

/-- In a state whose registers are in canonical form the choice stands beside the state of the domains. -/
theorem State.sel_domDown (hregs : smWf regReset s.csr = true) :
    (s.domDown d).fld TIME_DOM_STAT_sel = s.fld TIME_DOM_STAT_sel := by
  rw [State.domDown, State.fld_modDom, State.domEnter, State.fld_modDom]
  split
  · exact State.fld_setFld_disjoint hregs (by decide) (by decide) (by decide)
  · exact State.fld_setFld_disjoint hregs (by decide) (by decide) (by decide)

/-- In such a state the loss ends the slew of the selected domain and of no other, before another is selected. -/
theorem State.refLoss_canonical (hregs : smWf regReset s.csr = true) (hup : s.domState d ≠ 0) : s.refLoss d =
    if 2 ≤ s.domState d then (s.domLost d).reselect.checkHoldover else (s.domLost d).reselect := by
  have hphase : (s.domDown d).lostPhase d =
      if s.net.chosen && s.fld TIME_DOM_STAT_sel == d then (s.domDown d).stopSlew else s.domDown d := by
    rw [State.lostPhase, State.chosen_domDown, State.sel_domDown hregs]
  have hlost : (if s.net.chosen && s.fld TIME_DOM_STAT_sel == d then ((s.domDown d).lostPhase d).raise 0x3060 0 0 d
      else (s.domDown d).lostPhase d) = s.domLost d := by
    rw [hphase, State.domLost]
    by_cases hsel : s.net.chosen = true ∧ s.fld TIME_DOM_STAT_sel = d
    · simp only [hsel, and_self, beq_self_eq_true, Bool.and_self, if_true, State.stopSlew]
    · simp only [Bool.and_eq_true, beq_iff_eq, if_neg hsel]
  rw [State.refLoss, if_neg hup, ← hlost]
  simp only [decide_eq_true_eq]
  rfl

end

/-- Both domains' status listed twice: domain A in ACQ and selected, and behind it an entry that selects domain B and
slews. -/
def domStatListedTwice : State :=
  { State.reset with
    csr := [(TIME_DOM_STAT, 2), (TIME_DOM_STAT, 65)], net := { State.reset.net with chosen := true } }

/-- Refutes O46: the statement is about every state, one with a register listed twice included (no run reaches one, by
O2 and O4). Domain A going DOWN leaves the first entry as at reset, so it is dropped, and the second selects domain B:
the slew goes on, where the clause on the loss of a reference, which looks at the selection before, ends it.
`State.refLoss_canonical` is that clause for registers in canonical form. -/
theorem not_referenceDomainCommands : ¬ Obligations.ReferenceDomainCommands := by
  intro h
  obtain ⟨-, hloss, -⟩ := h domStatListedTwice .a
  obtain ⟨-, -, hacq⟩ := hloss (by decide)
  have hdown : domStatListedTwice.refLoss 0 = (domStatListedTwice.domLost 0).reselect :=
    Host.Outcome.next.inj (hacq (by decide))
  have hslews : (domStatListedTwice.refLoss 0).flag TIME_DOM_STAT_slewing = true := by decide
  have hended : (domStatListedTwice.domLost 0).reselect.flag TIME_DOM_STAT_slewing = false := by decide
  rw [hdown, hended] at hslews
  exact Bool.false_ne_true hslews

end Sys2Proof.Machine
end

section
/-! SUPPORT. Regular beacons sent, and BEACON symbols heard (O47). -/

namespace Sys2Proof.Machine

theorem exec_beaconSend (p : Port) (s : State) : exec (.beaconSend p) s = .next (s.beaconSend p) := rfl

theorem exec_beaconSymbol (p : Port) (s : State) : exec (.beaconSymbol p) s = .next (s.beaconHear p) := rfl

/-! ### Parts set to a value that an unlisted one does not have -/

/-- A listed value reads as written whatever the form of the map: the default alone can uncover an older entry. -/
theorem smGet_smSet_listed {β : Type} [DecidableEq β] {d : Nat → β} {m : SMap β} {k : Nat} {v : β} (hv : v ≠ d k) :
    smGet d (smSet d m k v) k = v := by
  induction m with
  | nil => simp only [smSet, if_neg hv, smGet, if_true]
  | cons e m ih =>
    obtain ⟨k', v'⟩ := e
    simp only [smSet, if_neg hv]
    split
    · exact if_pos rfl
    · split
      · exact if_pos rfl
      · next hk => exact (if_neg hk).trans ih

section
variable {s : State} {p : Nat}

/-- A port under measurement is not as at reset, so it reads as set. -/
theorem State.port_modPort_measuring {f : PortSt → PortSt} (h : (f (s.port p)).measuring = true) :
    (s.modPort p f).port p = f (s.port p) :=
  smGet_smSet_listed fun hreset => Bool.false_ne_true ((congrArg PortSt.measuring hreset).symm.trans h)

/-! ### Beacons out (R298, R299) -/

/-- A regular beacon goes out now. -/
def State.beaconNow (s : State) (p : Nat) : State :=
  (s.sendBeacon p false).modPort p fun q => { q with bcnAt := some s.time.elapsed }

/-- A beacon on a port of the fabric joins the symbols that wait there and takes the next number. -/
theorem State.sendBeacon_port {probe : Bool} (hp : p < 31) : s.sendBeacon p probe =
    (s.modPort p fun q => { q with txC := q.txC ++ [padTo 16 (s.beaconOf p probe)] }).modPort p
      fun q => { q with bcnNo := (q.bcnNo + 1) % 16 } := by
  rw [State.sendBeacon, State.sendSymbol, if_pos hp]

section
variable (hon : s.flag (LINK_TS_CTL_bcn_en p) = true) (hactive : s.fld (LINK_STAT_state p) = 5)
include hon hactive

/-- The first beacon goes out at once. -/
theorem State.beaconSend_first (h : (s.port p).bcnAt = none) : s.beaconSend p = s.beaconNow p := by
  rw [State.beaconSend, hon, hactive, h]
  rfl

/-- The next ones go out one interval after the last. -/
theorem State.beaconSend_next {t : Nat} (h : (s.port p).bcnAt = some t) :
    s.beaconSend p = (s.toElapsed (t + ringSize (s.fld TIME_BCN_CFG_interval) 65536)).beaconNow p := by
  rw [State.beaconSend, hon, hactive, h]
  rfl

end

theorem State.beaconSend_none (h : s.flag (LINK_TS_CTL_bcn_en p) = false ∨ s.fld (LINK_STAT_state p) ≠ 5) :
    s.beaconSend p = s :=
  if_neg (by rcases h with h | h <;> simp [h])

/-! ### Beacons in (R296, R299, R300) -/

/-- A beacon's timestamps are heard at the stamp its flit captured (R296). -/
def State.hearBeacon (s : State) (p : Nat) (y : List Byte) (e : PoolFlit) : State :=
  s.hearStamp p (leField y 1 1 % 16) (leField y 1 1 / 16) (leField y 4 4) (leField y 8 4) e.stamp

/-- Whether that completes a sample: the port's count of samples changes. -/
def State.completes (s : State) (p : Nat) (y : List Byte) (e : PoolFlit) : Bool :=
  decide ((s.hearBeacon p y e).fld (LINK_TS_STAT_samples p) ≠ s.fld (LINK_TS_STAT_samples p))

/-- The beacon heard, and the recorded latency checked where a sample is complete (R299). -/
def State.sampleBeacon (s : State) (p : Nat) (y : List Byte) (e : PoolFlit) : State :=
  if s.completes p y e then (s.hearBeacon p y e).lateLink p else s.hearBeacon p y e

/-- Whether a regular beacon took the unit that a probe in flit `e` needs: one came in the same flit or in the same slot
(R300). -/
def State.voidsProbe (s : State) (p : Nat) (e : PoolFlit) : Bool :=
  (chunks 16 16 (padTo 256 e.flit.payload)).any isBeacon
    || (s.port p).bcnSlot == some (e.at0 - e.at0 % slotTicks p)

theorem State.voidsProbe_iff {e : PoolFlit} : s.voidsProbe p e = true ↔
    (chunks 16 16 (padTo 256 e.flit.payload)).any isBeacon = true
      ∨ (s.port p).bcnSlot = some (e.at0 - e.at0 % slotTicks p) := by
  rw [State.voidsProbe, Bool.or_eq_true, beq_iff_eq]

theorem isProbe_of_kind {y : List Byte} (hk : leField y 0 1 = 5) : isProbe y = bit (leField y 12 1) 0 := by
  rw [isProbe, hk, beq_self_eq_true, Bool.true_and]

section
variable {id : Nat} {y : List Byte} {rest : List (Nat × List Byte)} {e : PoolFlit} {v : State}
  (hsym : (s.port p).symIn = (id, y) :: rest) (hk : leField y 0 1 = 5)
  (hfind : (s.port p).pool.find? (fun e => e.id == id) = some e) (hpop : s.popSymbol p 5 = some (y, v))
include hsym hk hfind hpop

/-- The first symbol that waits, taken as a BEACON: void, or heard and answered where it is a probe. -/
theorem State.beaconHear_of_pop : s.beaconHear p =
    if bit (leField y 12 1) 0 && v.voidsProbe p e then v
    else if bit (leField y 12 1) 0 then (v.sampleBeacon p y e).probeHear p (v.completes p y e)
    else v.sampleBeacon p y e := by
  rw [State.beaconHear, hpop, hsym]
  simp only [List.head?_cons, Option.bind_some, hfind, isProbe_of_kind hk]
  rfl

theorem State.beaconHear_regular (hreg : bit (leField y 12 1) 0 = false) :
    s.beaconHear p = v.sampleBeacon p y e := by
  rw [State.beaconHear_of_pop hsym hk hfind hpop, hreg]
  rfl

section
variable (hprobe : bit (leField y 12 1) 0 = true)
include hprobe

theorem State.beaconHear_void (hvoid : v.voidsProbe p e = true) : s.beaconHear p = v := by
  rw [State.beaconHear_of_pop hsym hk hfind hpop, hprobe, hvoid]
  rfl

theorem State.beaconHear_probe (hvoid : v.voidsProbe p e = false) :
    s.beaconHear p = (v.sampleBeacon p y e).probeHear p (v.completes p y e) := by
  rw [State.beaconHear_of_pop hsym hk hfind hpop, hprobe, hvoid]
  rfl

end

end

/-! ### Probes answered (R300) -/

/-- One more sample of the port's measurement is taken. -/
def State.countProbe (s : State) (p : Nat) : State := s.modPort p fun q => { q with probes := q.probes + 1 }

/-- On a port that is not measured a probe is answered alone. -/
theorem State.probeHear_unmeasured {got : Bool} (h : (s.port p).measuring = false) :
    s.probeHear p got = s.sendProbe p := by
  simp only [State.probeHear, h, Bool.and_false, Bool.false_and, Bool.false_eq_true, if_false]

/-- On a measured port a sample counts, and the sixteenth ends the measurement once it is answered. -/
theorem State.probeHear_measured (h : (s.port p).measuring = true) : s.probeHear p true =
    if 16 ≤ ((s.countProbe p).port p).probes then ((s.countProbe p).sendProbe p).measureEnd p true
    else (s.countProbe p).sendProbe p := by
  have hmeas : ((s.countProbe p).port p).measuring = true := by
    rw [State.countProbe, State.port_modPort_measuring h]
    exact h
  have hdone : s.probeHear p true =
      if ((s.countProbe p).port p).measuring && decide (16 ≤ ((s.countProbe p).port p).probes) then
        ((s.countProbe p).sendProbe p).measureEnd p true
      else (s.countProbe p).sendProbe p := by
    rw [State.probeHear, h]
    rfl
  simp only [hdone, hmeas, Bool.true_and, decide_eq_true_eq]

end

/-- Settles O47: a beacon sent or heard in each case; a heard one acts on the state without its symbol. -/
theorem beaconsCarryTimestamps : Obligations.BeaconsCarryTimestamps := by
  intro s p
  refine ⟨fun hon hactive z hfirst hnext => ?_, fun h => ?_, fun id y rest e hsym hk hfind => ?_⟩
  · have hnow : s.beaconSend p = z.beaconNow p := by
      cases hlast : (s.port p).bcnAt with
      | none => rw [State.beaconSend_first hon hactive hlast, hfirst hlast]
      | some t => rw [State.beaconSend_next hon hactive hlast, hnext t hlast]
    rw [exec_beaconSend, hnow, State.beaconNow, State.sendBeacon_port p.isLt]
  · rw [exec_beaconSend, State.beaconSend_none h]
  · intro n v u got w void
    rw [exec_beaconSymbol]
    have hpop : s.popSymbol p 5 = some (y, v) := State.popSymbol_kind hsym hk
    refine ⟨fun hreg => congrArg _ (State.beaconHear_regular hsym hk hfind hpop hreg),
      fun hprobe hvoid => congrArg _ (State.beaconHear_void hsym hk hfind hpop hprobe (State.voidsProbe_iff.2 hvoid)),
      fun hprobe hvoid => ?_⟩
    have hheard : s.beaconHear p = w.probeHear p got :=
      State.beaconHear_probe hsym hk hfind hpop hprobe (Bool.eq_false_iff.2 (mt State.voidsProbe_iff.1 hvoid))
    refine ⟨fun hidle => congrArg _ (hheard.trans (State.probeHear_unmeasured hidle)), fun hmeas hgot => ?_⟩
    rw [hheard, hgot, State.probeHear_measured hmeas]
    exact ⟨fun hfew => congrArg _ (if_neg (Nat.not_le.2 hfew)), fun hlast => congrArg _ (if_pos hlast)⟩

end Sys2Proof.Machine
end

section
/-! SUPPORT. Bytes stored in device memory: what each address reads afterwards (O33). -/

namespace Sys2Proof.Machine

section
variable {β : Type} {d : Nat → β} {m : SMap β} {k n : Nat}

theorem length_smRead : (smRead d m k n).length = n := by
  induction n generalizing k with
  | zero => rfl
  | succ n ih => exact congrArg (· + 1) ih

theorem getElem_smRead {i : Nat} (hi : i < (smRead d m k n).length) : (smRead d m k n)[i] = smGet d m (k + i) := by
  induction n generalizing k i with
  | zero => exact absurd hi (Nat.not_lt_zero i)
  | succ n ih =>
    cases i with
    | zero => rfl
    | succ i =>
      calc (smRead d m (k + 1) n)[i]'(Nat.lt_of_succ_lt_succ hi) = smGet d m (k + 1 + i) := ih _
        _ = smGet d m (k + (i + 1)) := by rw [Nat.add_assoc, Nat.add_comm 1 i]

variable [DecidableEq β] {vs : List β}

/-- Each of the keys written reads as the value written there. -/
theorem smGet_smWrite_same {i : Nat} (hwf : smWf d m = true) (hi : i < vs.length) :
    smGet d (smWrite d m k vs) (k + i) = vs[i] := by
  induction vs generalizing m k i with
  | nil => exact absurd hi (Nat.not_lt_zero i)
  | cons v vs ih =>
    cases i with
    | zero => exact (smGet_smWrite_other (.inl (Nat.lt_succ_self k))).trans (smGet_smSet_same hwf)
    | succ i =>
      calc smGet d (smWrite d (smSet d m k v) (k + 1) vs) (k + (i + 1))
        _ = smGet d (smWrite d (smSet d m k v) (k + 1) vs) (k + 1 + i) := by rw [Nat.add_assoc, Nat.add_comm 1 i]
        _ = vs[i]'(Nat.lt_of_succ_lt_succ hi) := ih (smWf_smSet hwf) _

/-- What is read back is what was written. -/
theorem smRead_smWrite_same (hwf : smWf d m = true) : smRead d (smWrite d m k vs) k vs.length = vs :=
  List.ext_getElem length_smRead fun _ h hi => (getElem_smRead h).trans (smGet_smWrite_same hwf hi)

end

theorem State.byte_memWrite {s : State} {a x : Nat} {bs : List Byte} (hwf : smWf zeroByte s.mem = true) :
    smGet zeroByte (s.memWrite a bs).mem x
      = if a ≤ x ∧ x < a + bs.length then bs.getD (x - a) 0 else smGet zeroByte s.mem x := by
  split
  case isTrue hin =>
    obtain ⟨i, rfl⟩ := Nat.exists_eq_add_of_le hin.1
    have hi : i < bs.length := Nat.lt_of_add_lt_add_left hin.2
    rw [Nat.add_sub_cancel_left, List.getD_eq_getElem bs 0 hi]
    exact smGet_smWrite_same hwf hi
  case isFalse hout => exact smGet_smWrite_other (by omega)

theorem State.memWrite_sound {s : State} {a : Nat} {bs : List Byte} (h : Sound s) : Sound (s.memWrite a bs) :=
  (Good.of_sound h).memWrite.sound h.queue

/-- Settles O33: the bytes go to successive keys of a map in canonical form, by induction on the bytes. -/
theorem memoryBytesAreWhatWasStored : Obligations.MemoryBytesAreWhatWasStored := by
  intro s a bs h
  have hwf : smWf zeroByte s.mem = true := (Good.of_sound h).mem
  exact ⟨fun x => State.byte_memWrite hwf, smRead_smWrite_same hwf, State.memWrite_sound h, rfl⟩

end Sys2Proof.Machine
end

section
/-! SUPPORT. Refresh windows, the memory scrub and the stager (O34). -/

namespace Sys2Proof.Machine

theorem exec_refreshWindow (d : Fin 16) (s : State) : exec (.refreshWindow d) s = .next (s.refreshBegin d) := rfl

theorem exec_memoryScrubRead (d : Fin 17) (ecc : Ecc) (s : State) :
    exec (.memoryScrubRead d ecc) s = .next (s.memScrub d ecc) := rfl

theorem exec_stageCopyStart (ecc : Ecc) (s : State) : exec (.stageCopyStart ecc) s = .next (s.stageStart ecc) := rfl

theorem exec_stageCopyDone (ecc : Ecc) (s : State) : exec (.stageCopyDone ecc) s = .next (s.stageDone ecc) := rfl

section
variable {s : State} {ecc : Ecc}

/-! ### The scrub (R315) -/

section
variable {d : Nat}

theorem State.memScrub_disabled (h : s.flag MEM_SCRUB_enable = false) : s.memScrub d ecc = s := by
  rw [State.memScrub, h]
  rfl

/-- A device that is not installed has no units. -/
theorem State.memScrub_absent (h : s.scrubUnit d (smGet (fun _ => 0) s.load.scrub d) = none) :
    s.memScrub d ecc = s := by
  simp only [State.memScrub, h, ite_self]

/-- The state at the tick at which device `d` reads its next unit, with the slot taken. -/
def State.scrubSlot (s : State) (d : Nat) : State :=
  let m := ringSize (s.fld MEM_SCRUB_interval) 65536
  let z := s.toTick (if smGet (fun _ => none) s.load.scrubAt d = some s.time.elapsed then s.nextAfter 0 m
    else s.nextAt 0 m)
  z.modLoad fun l => { l with scrubAt := smSet (fun _ => none) l.scrubAt d (some z.time.elapsed) }

theorem State.memScrub_unit {u a n k : Nat} (hen : s.flag MEM_SCRUB_enable = true)
    (hu : smGet (fun _ => 0) s.load.scrub d = u) (h : s.scrubUnit d u = some (a, n, k)) :
    s.memScrub d ecc = ((s.scrubSlot d).memGet a k 0 ecc).1.modLoad fun l =>
      { l with scrub := smSet (fun _ => 0) l.scrub d (if u + 1 < n then u + 1 else 0) } := by
  simp only [State.memScrub, hen, hu, h]
  rfl

end

/-! ### The stager's head descriptor (R320, R322) -/

theorem State.stageStart_idle
    (h : s.load.stage.isSome = true ∨ s.fld MEM_STAGE_TAIL_tail = s.fld MEM_STAGE_HEAD_head) :
    s.stageStart ecc = s :=
  if_pos (by simpa only [Bool.or_eq_true, beq_iff_eq] using h)

/-- The state at the tick at which descriptor `d` is due, its tag shown. -/
def State.stageDueAt (s : State) (d : List Byte) : State :=
  (s.toTick (s.stageDue d)).setFld MEM_STAGE_STAT_tag (leField d 22 3)

/-- What the stager makes of the head descriptor's read: it refuses the descriptor, or begins the copy. -/
def State.stageTake (s : State) : Got → State
  | .data d =>
    if (s.stageDueAt d).stageBad d then (s.stageDueAt d).stageRefuse 0x6032 (leField d 22 3) 0
    else ((s.stageDueAt d).modLoad fun l => { l with stage := some d }).setFld MEM_STAGE_STAT_busy 1
  | .poison dev => s.stageRefuse 0x6021 0 dev
  | .down => s.stageRefuse 0x6021 0 0

/-- With the stager free and its tail ahead of its head the descriptor is read, and what the read gives decides. -/
theorem State.stageStart_of_fetch {t : State} {g : Got} (hfree : s.load.stage = none)
    (hwork : s.fld MEM_STAGE_TAIL_tail ≠ s.fld MEM_STAGE_HEAD_head)
    (h : s.fetch .stageRing (s.stageAddr (s.fld MEM_STAGE_HEAD_head)) 32 0 ecc = (t, .got g)) :
    s.stageStart ecc = t.stageTake g := by
  have hgo : ¬ (s.load.stage.isSome || s.fld MEM_STAGE_TAIL_tail == s.fld MEM_STAGE_HEAD_head) = true := by
    simp [hfree, hwork]
  rw [State.stageStart, if_neg hgo, h]
  cases g <;> rfl

theorem State.stageTake_refused {d : List Byte} (h : (s.stageDueAt d).stageBad d = true) :
    s.stageTake (.data d) = (s.stageDueAt d).stageRefuse 0x6032 (leField d 22 3) 0 := if_pos h

theorem State.stageTake_begins {d : List Byte} (h : (s.stageDueAt d).stageBad d = false) : s.stageTake (.data d) =
    ((s.stageDueAt d).modLoad fun l => { l with stage := some d }).setFld MEM_STAGE_STAT_busy 1 :=
  if_neg (Bool.eq_false_iff.1 h)

/-! ### The copy (R314, R322) -/

theorem State.stageDone_none (h : s.load.stage = none) : s.stageDone ecc = s := by
  rw [State.stageDone, h]

/-- The source of descriptor `d` read, once its refresh windows are over. -/
def State.stageSource (s : State) (d : List Byte) (ecc : Ecc) : State :=
  (s.waitRefresh (leField d 0 6) (stageLen d)).memEcc (leField d 0 6) (stageLen d) (leField d 22 3) ecc

/-- A source without poison is copied as it reads, and the arrival counter advances by one. -/
theorem State.stageDone_clean {d : List Byte} (h : s.load.stage = some d)
    (hclean : (unitsOf (leField d 0 6) (stageLen d)).filter (s.stageSource d ecc).isPoison = []) :
    s.stageDone ecc = (((s.stageSource d ecc).memPut (0x030000000000 + leField d 6 4 % 2 ^ 28) (leField d 22 3)
      ((s.stageSource d ecc).memRead (leField d 0 6) (stageLen d))).acAdd (leField d 14 2 % 4096) 1
        (leField d 22 3)).stageNext := by
  dsimp only [State.stageSource] at hclean
  simp only [State.stageDone, h, hclean, List.getLast?_nil]
  rfl

end

/-- Settles O34: each command in the case its clause names; what the stager reads of its descriptor decides. -/
theorem refreshScrubAndStager : Obligations.RefreshScrubAndStager := by
  intro s ecc
  refine ⟨fun d => ⟨rfl, exec_refreshWindow d s⟩,
    fun d => ⟨fun h => ?_, fun h => ?_, fun hen a n k h => ?_⟩, fun h => ?_,
    fun hfree hwork => ⟨fun t d h => ⟨fun hbad => ?_, fun hgood => ?_⟩, fun t dev h => ?_⟩, fun h => ?_,
    fun d h hclean => ?_⟩
  · rw [exec_memoryScrubRead, State.memScrub_disabled h]
  · rw [exec_memoryScrubRead, State.memScrub_absent h]
  · rw [exec_memoryScrubRead, State.memScrub_unit hen rfl h]
    rfl
  · rw [exec_stageCopyStart, State.stageStart_idle h]
  · rw [exec_stageCopyStart, State.stageStart_of_fetch hfree hwork h, State.stageTake_refused hbad]
    rfl
  · rw [exec_stageCopyStart, State.stageStart_of_fetch hfree hwork h, State.stageTake_begins hgood]
    rfl
  · rw [exec_stageCopyStart, State.stageStart_of_fetch hfree hwork h]
    rfl
  · rw [exec_stageCopyDone, State.stageDone_none h]
  · rw [exec_stageCopyDone, State.stageDone_clean h hclean]
    rfl

end Sys2Proof.Machine
end

section
/-! SUPPORT. Messages of the companions, the opening of a batch and the interrupt that fell due (O59). -/

namespace Sys2Proof.Machine

theorem exec_rdncReceive (p : WPort) (ecc : Ecc) (s : State) :
    exec (.rdncReceive p ecc) s = .next (s.onMsg p 1 [3] fun t m => t.wRead p m ecc) := rfl

theorem exec_rdpReceive (p : WPort) (ecc : Ecc) (s : State) :
    exec (.rdpReceive p ecc) s = .next (s.onMsg p 1 [4] fun t m => t.wRead p m ecc) := rfl

theorem exec_wrncReceive (p : WPort) (s : State) :
    exec (.wrncReceive p) s = .next (s.onMsg p 1 [5] fun t m => t.wWrite p m) := rfl

theorem exec_wrpReceive (p : WPort) (s : State) :
    exec (.wrpReceive p) s = .next (s.onMsg p 1 [6] fun t m => t.wWrite p m) := rfl

theorem exec_rdsRdeFromCompanion (p : WPort) (s : State) :
    exec (.rdsRdeFromCompanion p) s = .next (s.onMsg p 1 [1, 2, 7, 8, 9] fun t m => t.wForeign p m) := rfl

theorem exec_snpinvReceive (p : WPort) (s : State) :
    exec (.snpinvReceive p) s = .next (s.onMsg p 2 [1] fun t m => t.snoop p m) := rfl

theorem exec_snpdataReceive (p : WPort) (s : State) :
    exec (.snpdataReceive p) s = .next (s.onMsg p 2 [2] fun t m => t.snoop p m) := rfl

theorem exec_rddataReceive (p : WPort) (s : State) :
    exec (.rddataReceive p) s = .next (s.onMsg p 4 [1, 2] fun t m => t.wRdData p m) := rfl

theorem exec_cmpReceive (p : WPort) (s : State) :
    exec (.cmpReceive p) s = .next (s.onMsg p 3 [1, 2] fun t m => t.wCmp p m) := rfl

theorem exec_batchOpen (ecc : Ecc) (s : State) : exec (.batchOpen ecc) s = .next (s.batchOpen ecc) := rfl

theorem exec_intGapExpire (p : WPort) (s : State) : exec (.intGapExpire p) s = .next (s.intGap p) := rfl

section
variable {s : State} {p : Nat} {m : WMsg}

/-! ### The message at the head of a class (R348, R350) -/

section
variable {cls : Nat} {ops : List Nat}

/-- Message `m` is the oldest of its class `cls` on the port, whole, and has one of the ops. -/
def WPortSt.Heads (q : WPortSt) (cls : Nat) (ops : List Nat) (m : WMsg) : Prop :=
  ∃ l r, q.rx = l ++ (0, m) :: r ∧ (∀ e ∈ l, e.2.cls ≠ cls) ∧ m.cls = cls ∧ m.op ∈ ops

theorem WPortSt.Heads.mono {q : WPortSt} {more : List Nat} (h : q.Heads cls ops m) (hsub : ops ⊆ more) :
    q.Heads cls more m := by
  obtain ⟨l, r, hrx, hbefore, hcls, hop⟩ := h
  exact ⟨l, r, hrx, hbefore, hcls, hsub hop⟩

theorem WPortSt.Heads.op_mem {q : WPortSt} (h : q.Heads cls ops m) : m.op ∈ ops := by
  obtain ⟨-, -, -, -, -, hop⟩ := h
  exact hop

theorem WPortSt.heads_iff {q : WPortSt} : q.Heads cls ops m ↔
    q.rx.find? (fun e => e.2.cls == cls) = some (0, m) ∧ m.op ∈ ops := by
  simp only [WPortSt.Heads, List.find?_eq_some_iff_append, beq_iff_eq, Bool.not_eq_true', beq_eq_false_iff_ne]
  constructor
  · rintro ⟨l, r, hrx, hbefore, hcls, hop⟩
    exact ⟨⟨hcls, l, r, hrx, hbefore⟩, hop⟩
  · rintro ⟨⟨hcls, l, r, hrx, hbefore⟩, hop⟩
    exact ⟨l, r, hrx, hbefore, hcls, hop⟩

/-- The state with message `m` of class `cls` taken, and its credits freed where it came over the present link. -/
def State.took (s : State) (p cls : Nat) (m : WMsg) : State := s.modWport p fun q => { q with
  rx := q.rx.eraseP fun e => e.2.cls == cls
  freed := if m.old then q.freed else
    { h := q.freed.h.set (cls - 1) ((q.freed.h.getD (cls - 1) 0 + 1) % 4096), d := (q.freed.d + m.slots) % 4096 }
  owe := if m.old then q.owe else 4 }

theorem State.popMsg_of_heads (h : (s.wport p).Heads cls ops m) : s.popMsg p cls ops = some (m, s.took p cls m) := by
  obtain ⟨hfind, hop⟩ := WPortSt.heads_iff.1 h
  rw [State.popMsg, hfind]
  exact if_pos (List.contains_iff_mem.2 hop)

theorem State.popMsg_none (h : ∀ m, ¬ (s.wport p).Heads cls ops m) : s.popMsg p cls ops = none := by
  unfold State.popMsg
  split
  next m hfind => exact if_neg fun hop => h m (WPortSt.heads_iff.2 ⟨hfind, List.contains_iff_mem.1 hop⟩)
  next => rfl

variable {f : State → WMsg → State}

theorem State.onMsg_of_heads (h : (s.wport p).Heads cls ops m) :
    s.onMsg p cls ops f = (f (s.took p cls m) m).wPump p := by
  rw [State.onMsg, State.popMsg_of_heads h]

theorem State.onMsg_none (h : ∀ m, ¬ (s.wport p).Heads cls ops m) : s.onMsg p cls ops f = s := by
  rw [State.onMsg, State.popMsg_none h]

end

/-! ### Ops that only the module sends (R348, R355) -/

theorem State.wForeign_read (h : m.op ∈ [1, 2]) : s.wForeign p m =
    (s.raise 0x7022 (unitWiora p) 0 p).wReplyData p m 2 (List.replicate (64 * m.lines) 0xFF) :=
  if_pos (by simpa using h)

theorem State.wForeign_other (h : m.op ∈ [7, 8, 9]) :
    s.wForeign p m = (s.raise 0x7022 (unitWiora p) 0 p).wReplyCmp p m 2 :=
  if_neg (by simp only [List.mem_cons, List.not_mem_nil, or_false] at h; omega)

/-! ### Requests (R305, R355 to R357) -/

section
variable {ecc : Ecc} {a n : Nat} {t : State} {bs : List Byte}

theorem State.wRead_refused (h : s.reqTo p m = .refused) :
    s.wRead p m ecc = (s.raise 0x7020 (unitWiora p) 0 p).wRefuse p m := by
  rw [State.wRead, h]

theorem State.wWrite_refused (h : s.reqTo p m = .refused) :
    s.wWrite p m = (s.raise 0x7020 (unitWiora p) 0 p).wReply p m 2 [] := by
  rw [State.wWrite, h]

theorem State.wRead_unmapped (h : s.reqTo p m = .unmapped) :
    s.wRead p m ecc = (s.raise 0x6010 0 0 0).wRefuse p m := by
  rw [State.wRead, h]

theorem State.wWrite_unmapped (h : s.reqTo p m = .unmapped) :
    s.wWrite p m = (s.raise 0x6010 0 0 0).wReply p m 2 [] := by
  rw [State.wWrite, h]

theorem State.wRead_control (h : s.reqTo p m = .control a n) : s.wRead p m ecc =
    (s.ctrlRead (p + 1) a n).1.wReply p m (s.ctrlRead (p + 1) a n).2.1 (s.ctrlRead (p + 1) a n).2.2 := by
  rw [State.wRead, h]

theorem State.wWrite_control (h : s.reqTo p m = .control a n) : s.wWrite p m =
    (s.ctrlWrite (p + 1) a n (leNat m.payload)).1.wReply p m (s.ctrlWrite (p + 1) a n (leNat m.payload)).2 [] := by
  rw [State.wWrite, h]

section
variable (h : s.reqTo p m = .device a n)
include h

theorem State.wRead_device_done (hread : s.agentRead (p + 1) a n ecc (.wiora p m) = (t, .done bs)) :
    s.wRead p m ecc = t.wReply p m 0 bs := by
  simp only [State.wRead, h, hread]

theorem State.wRead_device_refused (hread : s.agentRead (p + 1) a n ecc (.wiora p m) = (t, .refused)) :
    s.wRead p m ecc = t.wRefuse p m := by
  simp only [State.wRead, h, hread]

theorem State.wWrite_device_done (hwrite : s.agentWrite (p + 1) a m.payload (.wiora p m) = (t, .done bs)) :
    s.wWrite p m = t.wReply p m 0 [] := by
  simp only [State.wWrite, h, hwrite, AccRes.status]

end

end

/-! ### Snoops (R358, R359) -/

/-- A read of line `b` that is sent and not answered is marked: the line is not kept when its answer comes. -/
def WReq.markSnooped (b : Nat) (r : WReq) : WReq :=
  if r.addr = b ∧ (r.op = 1 ∨ r.op = 2) ∧ r.answer = none ∧ r.held = none then { r with snooped := true } else r

theorem WReq.markSnooped_eq {b : Nat} {r : WReq} :
    (if r.addr == b && (r.op == 1 || r.op == 2) && r.answer.isNone && r.held.isNone then { r with snooped := true }
      else r) = r.markSnooped b := by
  simp [WReq.markSnooped, and_assoc]

/-- Line `b`, which is not the pace line, becomes I on port `p`. -/
def State.giveUp (s : State) (p b : Nat) : State :=
  iter 2 (fun k t => t.modWport k fun q => { q with evE := q.evE.filter (· != (p, b)) })
    (s.modWport p fun q => { q with reqs := q.reqs.map (WReq.markSnooped b) })

/-- Giving up another line than the pace line leaves the pace line held. -/
theorem State.modWport_keepsPace {b : Nat} {f : WReq → WReq} (hkeep : ((s.wport p).paceS == some b) = false) :
    (s.modWport p fun q =>
      { q with reqs := q.reqs.map f, paceS := if q.paceS == some b then none else q.paceS })
      = s.modWport p fun q => { q with reqs := q.reqs.map f } := by
  simp only [State.modWport, hkeep, Bool.false_eq_true, if_false]

section
variable (hnew : m.old = false) (hpace : (s.wport p).paceS ≠ some m.addr)
include hnew hpace

/-- A snoop of a clean line is acknowledged. -/
theorem State.snoop_clean (h : s.dirtyLine p m.addr = none) : s.snoop p m = (s.giveUp p m.addr).wSend p
    { cls := 3, op := 2, txid := m.txid, len := m.len, line := m.line, lineHi := m.lineHi } := by
  have hkeep : ((s.wport p).paceS == some m.addr) = false := beq_eq_false_iff_ne.2 hpace
  simp only [State.snoop, hkeep, WReq.markSnooped_eq, State.modWport_keepsPace hkeep, hnew, h]
  rfl

/-- A snoop of a dirty line is answered with its data, and its write back is given up. -/
theorem State.snoop_dirty {d : WMsg} (h : s.dirtyLine p m.addr = some d) :
    s.snoop p m = ((s.giveUp p m.addr).undirty p m.addr).wSend p
      { cls := 4, op := 2, txid := m.txid, len := 1, line := m.line, lineHi := m.lineHi, data := d.data } := by
  have hkeep : ((s.wport p).paceS == some m.addr) = false := beq_eq_false_iff_ne.2 hpace
  simp only [State.snoop, hkeep, WReq.markSnooped_eq, State.modWport_keepsPace hkeep, hnew, h]
  rfl

end

/-! ### The interrupt that fell due (R367) -/

theorem State.intGap_none (h : (s.wport p).intDue = false ∨ (s.wport p).intAt = none) : s.intGap p = s := by
  unfold State.intGap
  split
  next t hdue hat => simp [hdue, hat] at h
  next => rfl

/-- The state at the end of the gap after an interrupt that went out at `t`. -/
def State.gapEnd (s : State) (p t : Nat) : State := s.toElapsed (t + s.fld (WLINK_INT_CFG_gap p))

theorem State.intGap_due {t : Nat} (hdue : (s.wport p).intDue = true) (hat : (s.wport p).intAt = some t) :
    s.intGap p = if (s.gapEnd p t).flag (WLINK_INT_CFG_enable p) then (s.gapEnd p t).intSend p
      else (s.gapEnd p t).modWport p fun q => { q with intDue := false } := by
  rw [State.intGap, hdue, hat]
  rfl

/-! ### The batch that opens (R361, R362) -/

section
variable {ecc : Ecc}

/-- Where the header of the next batch stands. -/
def State.batchAt (s : State) : Nat :=
  s.fld WLINK_BQ_HDR_base * 128 + 128 * (s.wiora.next % ringSize (s.fld WLINK_BQ_HDR_size) 65536)

/-- No batch can be opened: the queue is not in use, one is open, it has stopped, or none is published. -/
def State.BatchIdle (s : State) : Prop :=
  s.flag WLINK_BQ_CFG_enable = false ∨ s.flag WLINK_BQ_STAT_open = true ∨ s.flag WLINK_BQ_STAT_stopped = true
    ∨ s.ac (s.fld WLINK_BQ_CFG_pub_ac) = 0

theorem State.batchIdle_iff : s.BatchIdle ↔
    (!s.flag WLINK_BQ_CFG_enable || s.flag WLINK_BQ_STAT_open || s.flag WLINK_BQ_STAT_stopped
      || s.ac (s.fld WLINK_BQ_CFG_pub_ac) == 0) = true := by
  simp only [State.BatchIdle, Bool.or_eq_true, Bool.not_eq_true', beq_iff_eq, or_assoc]

/-- A published batch is taken off its counter, and its header is being read. -/
def State.batchAsk (s : State) : State :=
  (s.setFld (FAB_AC_count (s.fld WLINK_BQ_CFG_pub_ac)) (s.ac (s.fld WLINK_BQ_CFG_pub_ac) - 1)).modWiora fun w =>
    { w with reading := true }

/-- The header is read, and what the read gives decides. -/
def State.batchRead (s : State) (ecc : Ecc) : State :=
  if (s.within s.batchAt 128).isNone then s.batchStop
  else match s.fetch .batch s.batchAt 128 0 ecc with
    | (t, .got (.data d)) => t.batchTake d
    | (t, .got _) => t.batchStop
    | (t, .wait) => t

theorem State.batchOpen_reading (h : s.wiora.reading = true) : s.batchOpen ecc = s.batchRead ecc := by
  rw [State.batchOpen, h]
  rfl

section
variable (h : s.wiora.reading = false)
include h

theorem State.batchOpen_notReading : s.batchOpen ecc =
    if !s.flag WLINK_BQ_CFG_enable || s.flag WLINK_BQ_STAT_open || s.flag WLINK_BQ_STAT_stopped
      || s.ac (s.fld WLINK_BQ_CFG_pub_ac) == 0 then s
    else s.batchAsk.batchRead ecc := by
  rw [State.batchOpen, h]
  rfl

theorem State.batchOpen_idle (hidle : s.BatchIdle) : s.batchOpen ecc = s :=
  (State.batchOpen_notReading h).trans (if_pos (State.batchIdle_iff.1 hidle))

theorem State.batchOpen_asks (hbusy : ¬ s.BatchIdle) : s.batchOpen ecc = s.batchAsk.batchOpen ecc :=
  calc s.batchOpen ecc = s.batchAsk.batchRead ecc :=
        (State.batchOpen_notReading h).trans (if_neg (mt State.batchIdle_iff.2 hbusy))
    _ = s.batchAsk.batchOpen ecc := (State.batchOpen_reading rfl).symm

end

section
variable (h : s.wiora.reading = true)
include h

theorem State.batchOpen_unmapped (hout : s.within s.batchAt 128 = none) : s.batchOpen ecc = s.batchStop := by
  rw [State.batchOpen_reading h]
  exact if_pos (Option.isNone_iff_eq_none.2 hout)

theorem State.batchOpen_data {t : State} {d : List Byte} (hin : s.within s.batchAt 128 ≠ none)
    (hread : s.fetch .batch s.batchAt 128 0 ecc = (t, .got (.data d))) : s.batchOpen ecc = t.batchTake d := by
  rw [State.batchOpen_reading h, State.batchRead, if_neg (mt Option.isNone_iff_eq_none.1 hin), hread]

end

/-- The batch opens with the slot map and the cookie of header `d`. -/
def State.batchOpens (s : State) (d : List Byte) : State :=
  ((s.modWiora fun w =>
    { w with reading := false, slots := slotMap d, cookie := leField d 24 8, resolve := [] }).setFld
      WLINK_BQ_STAT_open 1).acAdd (s.fld WLINK_BQ_CFG_open_ac) 1 0

theorem State.batchTake_right {d : List Byte} (h : headerOk d s.wiora.next = true) :
    s.batchTake d = s.batchOpens d := if_pos h

theorem State.batchTake_wrong {d : List Byte} (h : headerOk d s.wiora.next = false) :
    s.batchTake d = s.batchStop := if_neg (Bool.eq_false_iff.1 h)

/-- A fetch without errors from a memory device, of units that hold no poison (R311, R314). -/
theorem State.fetch_clean {who : WWho} {a n tag : Nat} (hcomp : inCompanion a = false) (hwin : inWindows a = false)
    (hclean : ∀ b ∈ unitsOf a n, (s.waitRefresh a n).isPoison b = false) :
    s.fetch who a n tag .clean = (s.waitRefresh a n, .got (.data ((s.waitRefresh a n).memRead a n))) := by
  have hall : (unitsOf a n).all (fun u => !(s.waitRefresh a n).isPoison u) = true := by simpa using hclean
  simp only [State.fetch, hcomp, State.devGet, hwin, State.memGet_clean hall, Bool.false_eq_true, if_false]

end

end

/-- Settles O59: the head of the class decides whether a message is taken, where a request goes decides its answer, and
the batch queue and the interrupt are read off their state. -/
theorem companionMessagesAreAnswered : Obligations.CompanionMessagesAreAnswered := by
  intro s p ecc q head took none_
  have hnone {cls : Nat} {ops : List Nat} {c : Instr} {f : State → WMsg → State}
      (hc : exec c s = .next (s.onMsg p cls ops f)) : none_ cls ops c :=
    fun h => hc.trans (congrArg _ (State.onMsg_none h))
  have htook {cls : Nat} {ops : List Nat} {c : Instr} {f : State → WMsg → State} {m : WMsg}
      (hc : exec c s = .next (s.onMsg p cls ops f)) (h : head cls ops m) :
      exec c s = .next ((f (took cls m) m).wPump p) :=
    hc.trans (congrArg _ (State.onMsg_of_heads h))
  refine ⟨hnone (exec_rdncReceive p ecc s), hnone (exec_rdpReceive p ecc s), hnone (exec_wrncReceive p s),
    hnone (exec_wrpReceive p s), hnone (exec_rdsRdeFromCompanion p s), hnone (exec_snpinvReceive p s),
    hnone (exec_snpdataReceive p s), hnone (exec_rddataReceive p s), hnone (exec_cmpReceive p s),
    fun m h => (htook (exec_rdncReceive p ecc s) h :), fun m h => (htook (exec_rdpReceive p ecc s) h :),
    fun m h => (htook (exec_wrncReceive p s) h :), fun m h => (htook (exec_wrpReceive p s) h :),
    fun m h => ?_, fun m h => ?_,
    fun m h => (htook (exec_snpinvReceive p s) h :), fun m h => (htook (exec_snpdataReceive p s) h :),
    fun m h => (htook (exec_rddataReceive p s) h :), fun m h => (htook (exec_cmpReceive p s) h :),
    fun m => ?_, ?_, fun h => ?_, fun t hdue hat => ?_⟩
  · rw [htook (exec_rdsRdeFromCompanion p s) (WPortSt.Heads.mono h (by simp)),
      State.wForeign_read (WPortSt.Heads.op_mem h)]
  · rw [htook (exec_rdsRdeFromCompanion p s) (WPortSt.Heads.mono h (by simp)),
      State.wForeign_other (WPortSt.Heads.op_mem h)]
  · exact ⟨fun h => ⟨State.wRead_refused h, State.wWrite_refused h⟩,
      fun h => ⟨State.wRead_unmapped h, State.wWrite_unmapped h⟩,
      fun a n h => ⟨State.wRead_control h, State.wWrite_control h⟩,
      fun a n h => ⟨fun t bs => State.wRead_device_done h, fun t => State.wRead_device_refused h,
        fun t bs => State.wWrite_device_done h⟩,
      fun hnew hpace => ⟨State.snoop_clean hnew hpace, fun d => State.snoop_dirty hnew hpace⟩⟩
  · refine ⟨fun h hidle => ?_, fun h hbusy => ?_, fun h => ⟨fun hout => ?_,
      fun hin t d hread => ⟨fun hwrong => ?_, fun hright => ?_⟩, fun hcomp hwin hin hclean hright => ?_⟩⟩
    · rw [exec_batchOpen, State.batchOpen_idle h hidle]
    · rw [exec_batchOpen, State.batchOpen_asks h hbusy]
      rfl
    · rw [exec_batchOpen, State.batchOpen_unmapped h hout]
    · rw [exec_batchOpen, State.batchOpen_data h hin hread, State.batchTake_wrong hwrong]
    · rw [exec_batchOpen, State.batchOpen_data h hin hread]
      exact congrArg _ (State.batchTake_right hright)
    · rw [exec_batchOpen, State.batchOpen_data h hin (State.fetch_clean hcomp hwin hclean)]
      exact congrArg _ (State.batchTake_right hright)
  · rw [exec_intGapExpire, State.intGap_none h]
  · rw [exec_intGapExpire, State.intGap_due hdue hat]
    exact ⟨fun hon => congrArg _ (if_pos hon), fun hoff => congrArg _ (if_neg (Bool.eq_false_iff.1 hoff))⟩

end Sys2Proof.Machine
end

section
/-! SUPPORT. Every command completes (O3). -/

namespace Sys2Proof.Machine

/-- Settles O3: every row of the dispatch ends in a next state, the one its meaning computes. -/
theorem noCommandStopsTheBlock : Obligations.NoCommandStopsTheBlock := by
  intro c s
  cases c <;> exact ⟨_, rfl⟩

end Sys2Proof.Machine
end

section
/-! SUPPORT. The instructions of the test access port (O17). -/

namespace Sys2Proof.Machine

theorem exec_idcode (s : State) :
    exec .idcode s = .next (if s.alive then (s.tap 0x02 0).answer 0 (leBytes 4 0x10B5094B) else s) := rfl

theorem exec_samplePreload (s : State) : exec .samplePreload s = .next s.samplePins := rfl

theorem exec_bypass (s : State) : exec .bypass s = .next (s.tap 0xFF 0) := rfl

theorem exec_testLogicReset (s : State) : exec .testLogicReset s = .next (s.tap 0x02 0) := rfl

theorem exec_ijtag (s : State) : exec .ijtag s = .next (if s.boot.dbgLock then s.tap 0xFF 0 else s.tap 0x20 0) := rfl

theorem exec_extest (s : State) : exec .extest s = .next (s.tapDrive 0x00 1) := rfl

theorem exec_clamp (s : State) : exec .clamp s = .next (s.tapDrive 0x03 2) := rfl

theorem exec_highz (s : State) : exec .highz s = .next (s.tapDrive 0x04 3) := rfl

section
variable {s : State} {ir drive : Nat}

theorem State.tap_alive (h : s.alive = true) : s.tap ir drive =
    s.modBoot fun b => { b with jtag := { b.jtag with ir := ir, drive := drive } } := if_pos h

theorem State.tap_dead (h : s.alive = false) : s.tap ir drive = s := if_neg (Bool.eq_false_iff.1 h)

/-- Up to WAIT the instruction drives the pins (R395). -/
theorem State.tapDrive_early (h : s.fld BOOT_STAT_step ≤ 2) : s.tapDrive ir drive = s.tap ir drive := if_pos h

/-- Past WAIT it acts as BYPASS. -/
theorem State.tapDrive_late (h : 2 < s.fld BOOT_STAT_step) : s.tapDrive ir drive = s.tap 0xFF 0 :=
  if_neg (Nat.not_le.2 h)

theorem State.tapDrive_dead (h : s.alive = false) : s.tapDrive ir drive = s := by
  rw [State.tapDrive, State.tap_dead h, State.tap_dead h, ite_self]

/-- A free value lies below the power of two it is drawn for. -/
theorem State.draw_lt (s : State) (w : Nat) : (s.draw w).1 < 2 ^ w := Nat.mod_lt _ (Nat.two_pow_pos w)

/-- `n` pins of the board, which the module does not know: bits of the first free value, from `o` on. -/
def State.boardPins (s : State) (o n : Nat) : List Bool := (List.range n).map fun k => bit (s.draw 13).1 (o + k)

/-- The pins ADDR0 to ADDR2: the straps. -/
def strapPins : List Bool := (List.range 3).map fun k => bit Config.straps.toNat k

/-- The pins that follow THERM_N in the boundary register. -/
def State.pinsBehind (s : State) : List Bool := s.boardPins 6 2 ++ strapPins ++ s.boardPins 8 5

/-- SAMPLE/PRELOAD of a live module: two draws stand for the board's pins and for what is shifted in (R395). -/
theorem State.samplePins_alive (h : s.alive = true) : s.samplePins =
    { (s.modBoot fun b => { b with jtag := { b.jtag with
        ir := 0x01, drive := 0, latch := ((s.draw 13).2.draw 20).1
        pins := s.boardPins 0 6 ++ [s.syncHigh, !s.pwr.resetLow, s.pwrOk, !s.thermLow] ++ s.pinsBehind } }) with
      free := s.free + 2 } := by
  have htap : ((s.draw 13).2.draw 20).2.tap 0x01 0 = _ := State.tap_alive h
  rw [State.pinsBehind, ← List.append_assoc, ← List.append_assoc]
  exact (if_pos h).trans (congrArg (State.modBoot · _) htap)

theorem State.samplePins_dead (h : s.alive = false) : s.samplePins = s := if_neg (Bool.eq_false_iff.1 h)

end

/-- Settles O17: each instruction is a `tap` of a live module, and a dead one keeps its state. -/
theorem testPortInstructions : Obligations.TestPortInstructions := by
  intro s tap
  refine ⟨fun h => ?_, fun h => ?_⟩
  · have htap {ir drive : Nat} : s.tap ir drive = tap ir drive := State.tap_alive h
    refine ⟨?_, ?_, congrArg _ htap, congrArg _ htap, fun hopen => ?_, fun hlock => ?_, fun hearly => ?_, fun hlate => ?_⟩
    · rw [exec_idcode, if_pos h, htap]
    · rw [exec_samplePreload]
      exact ⟨_, s.boardPins 0 6, s.pinsBehind, _, congrArg _ (State.samplePins_alive h), rfl, by simp [State.boardPins],
        by simp [State.pinsBehind, State.boardPins, strapPins], State.draw_lt _ 20⟩
    · rw [exec_ijtag, if_neg (Bool.eq_false_iff.1 hopen), htap]
    · rw [exec_ijtag, if_pos hlock, htap]
    · rw [exec_extest, exec_clamp, exec_highz]
      simp only [State.tapDrive_early hearly, htap, and_self]
    · rw [exec_extest, exec_clamp, exec_highz]
      simp only [State.tapDrive_late hlate, htap, and_self]
  · rw [exec_idcode, exec_samplePreload, exec_bypass, exec_testLogicReset, exec_ijtag, exec_extest, exec_clamp, exec_highz,
      State.samplePins_dead h, if_neg (Bool.eq_false_iff.1 h)]
    simp only [State.tap_dead h, State.tapDrive_dead h, ite_self, and_self]

end Sys2Proof.Machine
end

section
/-! SUPPORT. The I3C commands of the management bus (O15). -/

namespace Sys2Proof.Machine

section
variable {s : State}

/-- A command of the management bus has its effect while the port is served (R381). -/
theorem State.mgmt_served (hup : s.mgmtUp = true) (f : State → State) : s.mgmt f = f s := if_pos hup

/-- IBIs that come to be enabled are raised while the log holds unread records (R403). -/
theorem State.ibiPending_eq (s : State) : s.ibiPending =
    if s.fld FAULT_LOG_PROD_prod ≠ s.fld FAULT_LOG_CONS_cons then s.raiseIbi 1 else s := by
  simp only [State.ibiPending, bne_iff_ne]

theorem State.i3cAssign_free {a : Nat} (h : s.flag WLINK_MGMT_i3c = false) : s.i3cAssign a =
    ((s.setFld WLINK_MGMT_dynamic a).setFld WLINK_MGMT_i3c 1).ibiPending := if_neg (Bool.eq_false_iff.1 h)

theorem State.i3cAssign_assigned {a : Nat} (h : s.flag WLINK_MGMT_i3c = true) : s.i3cAssign a = s := if_pos h

theorem State.i3cGet_assigned {bs : List Byte} (h : s.flag WLINK_MGMT_i3c = true) : s.i3cGet bs = s.answer 0 bs :=
  if_pos h

theorem State.i3cGet_free {bs : List Byte} (h : s.flag WLINK_MGMT_i3c = false) : s.i3cGet bs = s :=
  if_neg (Bool.eq_false_iff.1 h)

/-- GETSTATUS answers with a free value (R368). -/
theorem State.i3cStatus_assigned (h : s.flag WLINK_MGMT_i3c = true) : s.i3cStatus =
    ({ s with free := s.free + 1 } : State).answer 0 (leBytes 2 (s.draw 16).1) := if_pos h

theorem State.i3cStatus_free (h : s.flag WLINK_MGMT_i3c = false) : s.i3cStatus = s := if_neg (Bool.eq_false_iff.1 h)

section
variable (hup : s.mgmtUp = true)
include hup

theorem exec_entdaa_served (a : BitVec 7) : exec (.entdaa a) s = .next (s.i3cAssign a.toNat) :=
  congrArg _ (State.mgmt_served hup _)

theorem exec_setdasa_served (a : BitVec 7) : exec (.setdasa a) s = .next (s.i3cAssign a.toNat) :=
  congrArg _ (State.mgmt_served hup _)

theorem exec_rstdaa_served : exec .rstdaa s = .next ((s.setFld WLINK_MGMT_dynamic 0).setFld WLINK_MGMT_i3c 0) :=
  congrArg _ (State.mgmt_served hup _)

theorem exec_enec_served : exec .enec s = .next (s.setFld WLINK_MGMT_ibi 1).ibiPending :=
  congrArg _ (State.mgmt_served hup _)

theorem exec_disec_served : exec .disec s = .next (s.setFld WLINK_MGMT_ibi 0) := congrArg _ (State.mgmt_served hup _)

theorem exec_getbcr_served : exec .getbcr s = .next (s.i3cGet [0x06]) := congrArg _ (State.mgmt_served hup _)

theorem exec_getdcr_served : exec .getdcr s = .next (s.i3cGet [0x00]) := congrArg _ (State.mgmt_served hup _)

theorem exec_getpid_served : exec .getpid s = .next (s.i3cGet (leBytes 6 Config.pid.toNat).reverse) :=
  congrArg _ (State.mgmt_served hup _)

theorem exec_getstatus_served : exec .getstatus s = .next s.i3cStatus := congrArg _ (State.mgmt_served hup _)

theorem exec_rstact_served (b : BitVec 8) :
    exec (.rstact b) s = .next (if b = 1 ∨ b = 2 then s.mgmtWrite BOOT_RESET 4 4 else s) :=
  congrArg _ (State.mgmt_served hup _)

end
end

/-- Settles O15: while the port is served each command is its own effect, and the bit of an assigned address decides
which. -/
theorem managementBusAddressesAndFixedAnswers : Obligations.ManagementBusAddressesAndFixedAnswers := by
  intro s hup told
  have htold (u : State) : u.ibiPending = told u := State.ibiPending_eq u
  refine ⟨fun a => ⟨fun hfree => ?_, fun has => ?_⟩, exec_rstdaa_served hup, ?_, exec_disec_served hup, fun has => ?_,
    fun hfree => ?_, fun b => ⟨fun hb => ?_, fun h1 h2 => ?_⟩⟩
  · rw [exec_entdaa_served hup, exec_setdasa_served hup, State.i3cAssign_free hfree, htold]
    exact ⟨rfl, rfl⟩
  · rw [exec_entdaa_served hup, exec_setdasa_served hup, State.i3cAssign_assigned has]
    exact ⟨rfl, rfl⟩
  · rw [exec_enec_served hup, htold]
  · rw [exec_getbcr_served hup, exec_getdcr_served hup, exec_getpid_served hup, exec_getstatus_served hup,
      State.i3cStatus_assigned has]
    exact ⟨congrArg _ (State.i3cGet_assigned has), congrArg _ (State.i3cGet_assigned has),
      congrArg _ (State.i3cGet_assigned has), _, rfl⟩
  · rw [exec_getbcr_served hup, exec_getdcr_served hup, exec_getpid_served hup, exec_getstatus_served hup,
      State.i3cStatus_free hfree]
    simp only [State.i3cGet_free hfree, and_self]
  · rw [exec_rstact_served hup, if_pos hb]
    rfl
  · rw [exec_rstact_served hup, if_neg (not_or.2 ⟨h1, h2⟩)]

end Sys2Proof.Machine
end

section
/-! SUPPORT. Writes of a register that the checks refuse: a non-owner's, one to a sheet whose bank is down, and one of an
agent that cannot reach the module (O8). -/

namespace Sys2Proof.Machine

section
variable {s : State} {ag : Agent} {a n v g : Nat}

/-- A list of an agent and a frame more than one holds the agent's record of this frame (R373, R460). -/
def State.toldNow (s : State) (l : List (Nat × Nat)) (g : Nat) : Bool := l.any fun e => e.1 == g && e.2 == s.frame + 1

/-- The count of an agent's refused writes (R373). -/
def refusedFld (g : Nat) : Fld := ⟨GEN_OWN_REFUSED, 8 * ((g - 1) % 4), 8⟩

theorem State.frame_count (f : Fld) (k : Nat) : (s.count f k).frame = s.frame := by
  rw [State.frame, State.frame, State.count_time]

theorem State.toldNow_count (f : Fld) (k : Nat) :
    (s.count f k).toldNow (s.count f k).latch.own7001 g = s.toldNow s.latch.own7001 g := by
  rw [State.toldNow, State.toldNow, State.count_latch, State.frame_count]

theorem State.ownRefuse_again (h : s.toldNow s.latch.own7001 g = true) :
    s.ownRefuse g = s.count (refusedFld g) 1 := if_pos ((State.toldNow_count _ _).trans h)

theorem State.ownRefuse_first (h : s.toldNow s.latch.own7001 g = false) : s.ownRefuse g =
    ((s.count (refusedFld g) 1).modLatch fun l =>
      { l with own7001 := alSet l.own7001 g ((s.count (refusedFld g) 1).frame + 1) }).raise 0x7001 0 0 0 :=
  if_neg (Bool.eq_false_iff.1 ((State.toldNow_count _ _).trans h))

theorem State.bankDown_again {i tag : Nat} (h : s.toldNow s.latch.bank7002 g = true) : s.bankDown g i tag = s :=
  if_pos h

theorem State.bankDown_first {i tag : Nat} (h : s.toldNow s.latch.bank7002 g = false) : s.bankDown g i tag =
    (s.modLatch fun l => { l with bank7002 := alSet l.bank7002 g (s.frame + 1) }).raise 0x7002 (unitSheet i) tag 0 :=
  if_neg (Bool.eq_false_iff.1 h)

/-- A refused write shows where it is to neither BOOT_CTL nor CART_CMD nowhere else (R386, R424). -/
theorem State.refusedSeen_other (hboot : a ≠ BOOT_CTL) (hcart : a ≠ CART_CMD) (hcart4 : a + 4 ≠ CART_CMD) :
    s.refusedSeen g a n v = s := by
  rw [State.refusedSeen, if_neg (fun h => hboot h.1), if_neg (fun h => hcart h.1), if_neg (fun h => hcart4 h.1)]

theorem State.access_unreached (h : s.reaches (agentNo ag) = false) : s.access ag a n v = s :=
  if_neg (Bool.eq_false_iff.1 h)

section
variable (hr : s.reaches (agentNo ag) = true) (hz : sizeOk a n = true) (hm : s.allMapped a n = true)
  (ho : a ≠ GEN_OWN_CMD)
include hr hz hm ho

/-- Past the map's checks a non-owner's write is refused (R373). -/
theorem State.access_nonOwner (hn : s.nonOwner (agentNo ag) = true) :
    s.access ag a n v = ((s.ownRefuse (agentNo ag)).refusedSeen (agentNo ag) a n v).answer 1 [] := by
  simp [State.access, State.ctrlWrite, hr, hz, hm, ho, hn]

/-- The owner's write finds a bank down (R460). -/
theorem State.access_bankDown (hn : s.nonOwner (agentNo ag) = false) (hb : inSheetBlock a = true)
    (hu : s.sheetUp (sheetOf a) = false) :
    s.access ag a n v = (s.bankDown (agentNo ag) (sheetOf a) 0).answer 0 [] := by
  simp [State.access, State.ctrlWrite, hr, hz, hm, ho, hn, hb, hu]

end
end

/-- Settles O8: the checks stand in one order, and the first that fails decides what the write still does. -/
theorem refusedRegisterWrites : Obligations.RefusedRegisterWrites := by
  intro s ag a n v
  rw [exec_registerWrite]
  refine ⟨fun hr => congrArg _ (State.access_unreached hr), fun hr hz hm ho => ?_⟩
  intro told
  refine ⟨fun howner hboot hcart hcart4 => ?_, fun howner hb hu => ?_, fun howner hb hu htwin hcd1 => ?_⟩
  · intro u
    rw [State.access_nonOwner hr hz hm ho (State.nonOwner_agent_eq_true_iff.2 howner),
      State.refusedSeen_other hboot hcart hcart4]
    have hans {t : State} (h : s.ownRefuse (agentNo ag) = t) :
        (Host.Outcome.next ((s.ownRefuse (agentNo ag)).answer 1 []) : Out) = .next (t.answer 1 []) := by rw [h]
    exact ⟨fun h => hans (State.ownRefuse_again h), fun h => hans (State.ownRefuse_first h)⟩
  · rw [State.access_bankDown hr hz hm ho (State.nonOwner_agent_eq_false_iff.2 howner) hb hu]
    exact ⟨fun h => next_answer rfl (State.bankDown_again h), fun h => next_answer rfl (State.bankDown_first h)⟩
  · rw [State.access_twin hr (State.nonOwner_agent_eq_false_iff.2 howner) hz hm ho hb hu htwin hcd1]

end Sys2Proof.Machine
end

section
/-! SUPPORT. Ownership: the commands, the change of owner and the lease (O13, O14). -/

namespace Sys2Proof.Machine

theorem exec_ownClaim (ag : Agent) (s : State) : exec (.ownClaim ag) s = .next (s.ownCmd (agentNo ag) 1 0) := rfl

theorem exec_ownRenew (ag : Agent) (s : State) : exec (.ownRenew ag) s = .next (s.ownCmd (agentNo ag) 2 0) := rfl

theorem exec_ownRelease (ag : Agent) (s : State) : exec (.ownRelease ag) s = .next (s.ownCmd (agentNo ag) 3 0) := rfl

theorem exec_ownOffer (ag : Agent) (t : BitVec 3) (s : State) :
    exec (.ownOffer ag t) s = .next (s.ownCmd (agentNo ag) 4 t.toNat) := rfl

theorem exec_ownAccept (ag : Agent) (s : State) : exec (.ownAccept ag) s = .next (s.ownCmd (agentNo ag) 5 0) := rfl

theorem exec_ownWithdraw (ag : Agent) (s : State) : exec (.ownWithdraw ag) s = .next (s.ownCmd (agentNo ag) 6 0) := rfl

theorem agentNo_eq_four {ag : Agent} : agentNo ag = 4 ↔ ag = .dbg := by cases ag <;> decide

section
variable {s u : State} {g op target : Nat}

/-! ### Which commands are accepted (R370) -/

theorem State.ownOk_claim : u.ownOk g 1 target = true ↔ u.fld GEN_OWN_STAT_owner = 0 := by simp [State.ownOk]

theorem State.ownOk_renew : u.ownOk g 2 target = true ↔ u.fld GEN_OWN_STAT_owner = g := by simp [State.ownOk]

theorem State.ownOk_release : u.ownOk g 3 target = true ↔ u.fld GEN_OWN_STAT_owner = g := by simp [State.ownOk]

theorem State.ownOk_offer : u.ownOk g 4 target = true ↔
    u.fld GEN_OWN_STAT_owner = g ∧ 1 ≤ target ∧ target ≤ 4 ∧ target ≠ g := by
  simp [State.ownOk, and_assoc]

theorem State.ownOk_accept : u.ownOk g 5 target = true ↔ u.fld GEN_OWN_STAT_offer = g := by simp [State.ownOk]

theorem State.ownOk_withdraw : u.ownOk g 6 target = true ↔
    u.fld GEN_OWN_STAT_owner = g ∧ u.fld GEN_OWN_STAT_offer ≠ 0 := by
  simp [State.ownOk]

theorem State.ownOk_other (h : op = 0 ∨ op = 7) : ¬ u.ownOk g op target = true := by
  rcases h with rfl | rfl <;> simp [State.ownOk]

/-- What an accepted command does (R370). -/
def State.ownDo (u : State) (g op target : Nat) : State :=
  if op = 1 then (u.setOwner g).leaseStart
  else if op = 2 then u.leaseStart
  else if op = 3 then u.setOwner 0
  else if op = 4 then u.setFld GEN_OWN_STAT_offer target
  else if op = 5 then ((u.setFld GEN_OWN_STAT_offer 0).setOwner g).leaseStart
  else u.setFld GEN_OWN_STAT_offer 0

theorem State.ownDo_release : u.ownDo g 3 target = u.setOwner 0 := by simp [State.ownDo]

/-! ### Which commands reach the module (R371, R395) -/

/-- A command of DBG after DBG_LOCK is refused before the lease is looked at (R395). -/
theorem State.ownCmd_locked (hlock : s.boot.dbgLock = true) (halive : s.alive = true) :
    s.ownCmd 4 op target = s.raise 0x7011 0 0 (4 + 16 * op) := if_pos (by rw [hlock, halive]; rfl)

section
variable (hdbg : g = 4 → s.boot.dbgLock = false ∨ s.alive = false)
include hdbg

theorem State.ownCmd_unlocked : s.ownCmd g op target =
    if s.ownReaches g = true then
      (if s.leaseCheck.ownOk g op target = true then s.leaseCheck.ownDo g op target
      else s.leaseCheck.raise 0x7011 0 0 (g + 16 * op))
    else s := by
  have hopen : (g == 4 && s.boot.dbgLock && s.alive) = false := by
    rw [Bool.and_assoc, Bool.and_eq_false_iff, Bool.and_eq_false_iff]
    by_cases hg : g = 4
    · exact .inr (hdbg hg)
    · exact .inl (beq_eq_false_iff_ne.2 hg)
  rw [State.ownCmd, hopen, if_neg Bool.false_ne_true]
  simp only [Bool.not_eq_true', ← Bool.not_eq_true, ite_not]
  rfl

theorem State.ownCmd_unreached (h : s.ownReaches g = false) : s.ownCmd g op target = s := by
  rw [State.ownCmd_unlocked hdbg, if_neg (Bool.eq_false_iff.1 h)]

section
variable (hreach : s.ownReaches g = true) (hu : s.leaseCheck = u)
include hreach hu

theorem State.ownCmd_accepted (h : u.ownOk g op target = true) : s.ownCmd g op target = u.ownDo g op target := by
  rw [State.ownCmd_unlocked hdbg, if_pos hreach, hu, if_pos h]

theorem State.ownCmd_refused (h : ¬ u.ownOk g op target = true) :
    s.ownCmd g op target = u.raise 0x7011 0 0 (g + 16 * op) := by
  rw [State.ownCmd_unlocked hdbg, if_pos hreach, hu, if_neg h]

end
end

/-- A command written to its register needs no owner (R370). -/
theorem State.access_ownCmd {ag : Agent} {v : Nat} (hr : s.reaches (agentNo ag) = true)
    (hm : s.allMapped GEN_OWN_CMD 4 = true) :
    s.access ag GEN_OWN_CMD 4 v = (s.ownCmd (agentNo ag) (bits v 0 3) (bits v 4 3)).answer 0 [] := by
  have hz : sizeOk GEN_OWN_CMD 4 = true := by decide
  simp [State.access, State.ctrlWrite, hr, hz, hm]

theorem State.reaches_of_ownReaches (h : s.ownReaches g = true) : s.reaches g = true := (Bool.and_eq_true_iff.1 h).1

/-! ### The owner and the lease (R371, R372) -/

theorem State.setOwner_same (h : s.fld GEN_OWN_STAT_owner = g) : s.setOwner g = s := if_pos h

theorem State.setOwner_other (h : s.fld GEN_OWN_STAT_owner ≠ g) : s.setOwner g =
    ((s.setFld GEN_OWN_STAT_owner g).setFld GEN_OWN_STAT_epoch (s.fld GEN_OWN_STAT_epoch + 1)).raiseIbi 2 := if_neg h

theorem State.leaseCheck_keeps (h : s.time.elapsed ≤ s.own.leaseAt ∨ s.fld GEN_OWN_STAT_owner = 0) :
    s.leaseCheck = s := by
  refine if_neg ?_
  rw [Bool.and_eq_true, bne_iff_ne, Nat.blt_eq]
  omega

theorem State.leaseCheck_lapses (hlate : s.own.leaseAt < s.time.elapsed) (howner : s.fld GEN_OWN_STAT_owner ≠ 0) :
    s.leaseCheck = s.leaseLapse := if_pos (by simp [hlate, howner])

end

/-- Settles O13: a command that reaches the module is accepted under the condition of its op, and its effect or the record
of its refusal follows the lease's check. -/
theorem ownershipCommandsFollowTheirTable : Obligations.OwnershipCommandsFollowTheirTable := by
  intro s ag hreach hopen u g owner offer no
  have hdbg : g = 4 → s.boot.dbgLock = false ∨ s.alive = false := fun hg => .inl (hopen (agentNo_eq_four.1 hg))
  have hyes {op target : Nat} (h : u.ownOk g op target = true) : s.ownCmd g op target = u.ownDo g op target :=
    State.ownCmd_accepted hdbg hreach rfl h
  have hno {op target : Nat} (h : ¬ u.ownOk g op target = true) : s.ownCmd g op target = no op :=
    State.ownCmd_refused hdbg hreach rfl h
  rw [exec_ownClaim, exec_ownRenew, exec_ownRelease, exec_ownWithdraw, exec_ownAccept]
  simp only [exec_ownOffer]
  refine ⟨fun h => ?_, fun h => ?_, fun h => ⟨?_, ?_, fun hoff => ?_, fun hoff => ?_, fun t => ⟨fun ht => ?_, fun ht => ?_⟩⟩,
    fun h => ⟨?_, ?_, ?_, fun t => ?_⟩, fun h => ?_, fun h => ?_, fun hm v => ⟨⟨0, ?_⟩, fun hop => ?_⟩⟩
  · exact congrArg _ (hyes (State.ownOk_claim.2 h))
  · exact congrArg _ (hno (mt State.ownOk_claim.1 h))
  · exact congrArg _ (hyes (State.ownOk_renew.2 h))
  · exact congrArg _ ((hyes (State.ownOk_release.2 h)).trans State.ownDo_release)
  · exact congrArg _ (hyes (State.ownOk_withdraw.2 ⟨h, hoff⟩))
  · exact congrArg _ (hno fun hok => (State.ownOk_withdraw.1 hok).2 hoff)
  · exact congrArg _ (hyes (State.ownOk_offer.2 ⟨h, ht⟩))
  · exact congrArg _ (hno fun hok => ht (State.ownOk_offer.1 hok).2)
  · exact congrArg _ (hno (mt State.ownOk_renew.1 h))
  · exact congrArg _ (hno (mt State.ownOk_release.1 h))
  · exact congrArg _ (hno fun hok => h (State.ownOk_withdraw.1 hok).1)
  · exact congrArg _ (hno fun hok => h (State.ownOk_offer.1 hok).1)
  · exact congrArg _ (hyes (State.ownOk_accept.2 h))
  · exact congrArg _ (hno (mt State.ownOk_accept.1 h))
  · have haddr : (BitVec.ofNat 26 GEN_OWN_CMD).toNat = GEN_OWN_CMD := by decide
    rw [exec_registerWrite, haddr, State.access_ownCmd (State.reaches_of_ownReaches hreach) hm]
  · exact hno (State.ownOk_other hop)

/-- Settles O14: a change of owner, the lease's start and its end are read off their definitions, and which commands reach
the lease off `ownCmd`. -/
theorem ownerChangesAndTheLease : Obligations.OwnerChangesAndTheLease := by
  intro s
  refine ⟨fun k => ⟨State.setOwner_same, State.setOwner_other⟩, rfl, fun h => congrArg _ (if_neg h),
    fun h => congrArg _ (if_pos h), State.leaseCheck_keeps, State.leaseCheck_lapses, fun ag hreach hopen => ?_,
    fun halive hlock => ?_⟩
  · have hdbg : agentNo ag = 4 → s.boot.dbgLock = false ∨ s.alive = false := fun hg => hopen (agentNo_eq_four.1 hg)
    rw [exec_ownRenew, exec_ownClaim, State.ownCmd_unreached hdbg hreach, State.ownCmd_unreached hdbg hreach]
    exact ⟨rfl, rfl⟩
  · exact ⟨congrArg _ (State.ownCmd_locked hlock halive), congrArg _ (State.ownCmd_locked hlock halive)⟩

end Sys2Proof.Machine
end

section
/-! SUPPORT. Writes of the twin, trace and cartouche registers (O50). -/

namespace Sys2Proof.Machine

theorem exec_cartOpen (ag : Agent) (slice : BitVec 16) (s : State) :
    exec (.cartOpen ag slice) s = .next (s.access ag CART_CMD 4 (1 + slice.toNat * 2 ^ 16)) := rfl

theorem exec_cartClose (ag : Agent) (s : State) : exec (.cartClose ag) s = .next (s.access ag CART_CMD 4 2) := rfl

theorem exec_cartCollect (ag : Agent) (n : BitVec 8) (s : State) :
    exec (.cartCollect ag n) s = .next (s.access ag CART_CMD 4 (3 + n.toNat * 2 ^ 4)) := rfl

section
variable {s : State} {ag : Agent} {v : Nat}

/-! ### The twin mode (R414) -/

theorem bit_b2n (on : Bool) : bit (b2n on) 0 = on := by cases on <;> rfl

theorem State.access_twinCtl {on : Bool} (hw : Writable s ag FAULT_TWIN_CTL 4) :
    s.access ag FAULT_TWIN_CTL 4 (b2n on) = (s.twinWrite on).answer 0 [] := by
  have hwrite : s.write32 (agentNo ag) FAULT_TWIN_CTL (b2n on) = s.twinWrite (bit (b2n on) 0) := rfl
  rw [State.access_reg (by decide) rfl hw, hwrite, bit_b2n]

/-- The slice and every sheet are idle. -/
def State.AllIdle (s : State) : Prop := s.fld TOPO_SLICE_state = 0 ∧ ∀ i < 320, s.sheetIdle i = true

theorem State.allIdle_iff : s.AllIdle ↔
    s.fld TOPO_SLICE_state = 0 ∧ (List.range 320).all s.sheetIdle = true := by
  rw [State.AllIdle, List.all_eq_true]
  simp only [List.mem_range]

theorem State.twinWrite_idle {on : Bool} (h : s.AllIdle) : s.twinWrite on =
    (s.setFld FAULT_TWIN_CTL_enable (b2n on)).setFld FAULT_TWIN_STAT_active (b2n on) := if_pos (State.allIdle_iff.1 h)

theorem State.twinWrite_busy {on : Bool} (h : ¬ s.AllIdle) : s.twinWrite on = s.raise 0x1051 0 0 0 :=
  if_neg (mt State.allIdle_iff.2 h)

/-! ### The trace ring (R417) -/

/-- The ring of a value lies wholly in HBM4 data or in the mapped DDR5 tier. -/
def State.TraceIn (s : State) (v : Nat) : Prop :=
  s.within (bits v 4 44 * 16) (ringSize (bits v 48 16) 65536 * 65536) = some .hbm
    ∨ s.within (bits v 4 44 * 16) (ringSize (bits v 48 16) 65536 * 65536) = some .ddr

theorem State.traceOk_iff : s.traceOk v = true ↔ s.TraceIn v := by
  simp only [State.traceOk, State.TraceIn, Bool.or_eq_true, beq_iff_eq]

/-- The trace ring's check refuses a value alone. -/
theorem State.access_traceRing (hw : Writable s ag FAULT_TRACE_RING 8) : s.access ag FAULT_TRACE_RING 8 v =
    (if s.traceOk v = true then (s.setReg64 FAULT_TRACE_RING (v % 2 ^ 64 / 16 * 16)).dropLow [FAULT_TRACE_RING]
      else s.raise 0x2040 0 0 0).answer 0 [] := by
  have hrefuses : s.refuses64 FAULT_TRACE_RING v = !s.traceOk v := rfl
  have hwrite : s.write64 (agentNo ag) FAULT_TRACE_RING v =
      if s.traceOk v = true then s.setReg64 FAULT_TRACE_RING (v % 2 ^ 64 / 16 * 16) else s.raise 0x2040 0 0 0 := rfl
  rw [State.access_double hw (by decide), State.writeDouble_two rfl, hrefuses, hwrite]
  cases s.traceOk v <;> rfl

theorem State.access_traceRing_taken {w : DWord} (hw : Writable s ag FAULT_TRACE_RING 8) (h : s.TraceIn w.toNat) :
    s.access ag FAULT_TRACE_RING 8 w.toNat =
      ((s.setReg64 FAULT_TRACE_RING (w.toNat / 16 * 16)).dropLow [FAULT_TRACE_RING]).answer 0 [] := by
  rw [State.access_traceRing hw, if_pos (State.traceOk_iff.2 h), Nat.mod_eq_of_lt w.isLt]

theorem State.access_traceRing_refused (hw : Writable s ag FAULT_TRACE_RING 8) (h : ¬ s.TraceIn v) :
    s.access ag FAULT_TRACE_RING 8 v = (s.raise 0x2040 0 0 0).answer 0 [] := by
  rw [State.access_traceRing hw, if_neg (mt State.traceOk_iff.1 h)]

/-! ### The cartouche's commands (R423) -/

/-- A value whose op is a command waits for the next sample boundary, behind those that wait already. -/
theorem State.access_cartCmd (hw : Writable s ag CART_CMD 4) (hop : bits v 0 2 ≠ 0) : s.access ag CART_CMD 4 v =
    (s.modCart fun c => { c with pend := c.pend ++ [(agentNo ag, v, false)] }).answer 0 [] := by
  have hwrite : s.write32 (agentNo ag) CART_CMD v = s.cartWrite (agentNo ag) v false := rfl
  rw [State.access_reg (by decide) rfl hw, hwrite, State.cartWrite, if_neg hop]

/-- What stands in bits 4 and up leaves the op. -/
theorem bits_add_mul {op n k : Nat} (hop : op < 4) (hk : 2 ≤ k) : bits (op + n * 2 ^ k) 0 2 = op := by
  have hpow : 2 ^ k = 4 * 2 ^ (k - 2) := by rw [show 4 = 2 ^ 2 from rfl, ← Nat.pow_add]; congr 1; omega
  rw [bits, Nat.shiftRight_zero, hpow, Nat.mul_left_comm]
  omega

end

/-- Settles O50: a write that the module takes reaches the operation of its register, whose case decides. -/
theorem twinTraceAndCartoucheWrites : Obligations.TwinTraceAndCartoucheWrites := by
  intro s ag
  refine ⟨fun on hw => ?_, fun v hw => ?_, fun hw => ?_⟩
  · have ha := State.access_twinCtl (on := on) hw
    exact ⟨fun h => next_answer ha (State.twinWrite_idle h), fun h => next_answer ha (State.twinWrite_busy h)⟩
  · exact ⟨fun h => congrArg _ (State.access_traceRing_taken hw h),
      fun h => congrArg _ (State.access_traceRing_refused hw h)⟩
  · intro wait
    have hcmd {op n k : Nat} (hop : op < 4) (hne : op ≠ 0) (hk : 2 ≤ k) :
        s.access ag CART_CMD 4 (op + n * 2 ^ k) = wait (op + n * 2 ^ k) :=
      State.access_cartCmd hw ((bits_add_mul hop hk).trans_ne hne)
    rw [exec_cartClose]
    simp only [exec_cartOpen, exec_cartCollect]
    exact ⟨fun slice => congrArg _ (hcmd (by decide) (by decide) (by decide)), congrArg _ (State.access_cartCmd hw (by decide)),
      fun n => congrArg _ (hcmd (by decide) (by decide) (by decide))⟩

end Sys2Proof.Machine
end

section
/-! SUPPORT. Writes of the ownership, boot, reset, rollback, debug-lock and attestation registers (O49). -/

namespace Sys2Proof.Machine

/-! ### The commands -/

theorem exec_moduleReset (ag : Agent) (s : State) :
    exec (.moduleReset ag) s = .next (s.access ag BOOT_RESET 4 4) := rfl

theorem exec_warmReset (ag : Agent) (s : State) : exec (.warmReset ag) s = .next (s.access ag BOOT_RESET 4 2) := rfl

theorem exec_computeReset (ag : Agent) (s : State) :
    exec (.computeReset ag) s = .next (s.access ag BOOT_RESET 4 1) := rfl

theorem exec_bootGo (ag : Agent) (src : BitVec 2) (s : State) : exec (.bootGo ag src) s =
    .next (s.access ag BOOT_CTL 4 (putBits (s.withBits BOOT_CTL 0 1 1) 1 2 src.toNat)) := rfl

theorem exec_bootResume (ag : Agent) (s : State) :
    exec (.bootResume ag) s = .next (s.access ag BOOT_CTL 4 (s.withBits BOOT_CTL 3 1 1)) := rfl

theorem exec_rollbackCommit (ag : Agent) (v : BitVec 7) (s : State) :
    exec (.rollbackCommit ag v) s = .next (s.access ag BOOT_ROLL 4 (v.toNat * 2 ^ 8 + 2 ^ 15)) := rfl

theorem exec_dbgLockBlow (ag : Agent) (c : BitVec 8) (s : State) :
    exec (.dbgLockBlow ag c) s = .next (s.access ag BOOT_FUSE 4 (c.toNat * 2 ^ 8 + 2 ^ 16)) := rfl

section
variable {s : State} {ag : Agent} {v k : Nat}

/-! ### The lease's configuration (R371, R376) -/

theorem State.access_ownCfg (hw : Writable s ag GEN_OWN_CFG 4) :
    s.access ag GEN_OWN_CFG 4 v = (s.ownCfg v).answer 0 [] := State.access_reg (by decide) rfl hw

theorem State.ownCfg_taken (h : 1 ≤ v % 64 ∧ v % 64 ≤ 60) : s.ownCfg v = s.setFld GEN_OWN_CFG_lease (v % 64) := if_pos h

theorem State.ownCfg_refused (h : v % 64 = 0 ∨ 60 < v % 64) : s.ownCfg v = s.raise 0x7012 0 0 0 := if_neg (by omega)

/-! ### Resets (R379, R380) -/

theorem State.access_reset (hw : Writable s ag BOOT_RESET 4) :
    s.access ag BOOT_RESET 4 v = (s.resetWrite v).answer 0 [] := State.access_reg (by decide) rfl hw

theorem State.resetWrite_module : s.resetWrite 4 = s.resetReq 2 := if_pos (by decide)

theorem State.resetWrite_warm : s.resetWrite 2 = s.resetReq 1 := (if_neg (by decide)).trans (if_pos (by decide))

theorem State.resetWrite_compute : s.resetWrite 1 = s.resetReq 0 :=
  (if_neg (by decide)).trans ((if_neg (by decide)).trans (if_pos (by decide)))

/-- No reset has acted in this tick yet. -/
def State.FirstReset (s : State) : Prop := ∀ t k, s.boot.lastReset = some (t, k) → t ≠ s.time.elapsed

/-- The first reset of a tick is held against no wider one. -/
theorem State.resetReq_first (hfirst : s.FirstReset) : s.resetReq k =
    if k = 0 ∧ s.fld BOOT_STAT_step ≠ 10 then s.raiseBoot 0x8011 0
    else if s.boot.commit.isSome = true then
      s.modBoot fun b => { b with waitReset := some (max k (b.waitReset.getD 0)) }
    else (s.toElapsed s.boot.dbgUntil).resetNow k := by
  unfold State.resetReq
  cases hlast : s.boot.lastReset with
  | none => rfl
  | some r =>
    have hnot : ¬ (r.1 = s.time.elapsed ∧ k < r.2) := fun h => hfirst r.1 r.2 hlast h.1
    exact if_neg (fun h => hnot (of_decide_eq_true h))

theorem State.resetReq_early (hfirst : s.FirstReset) (hstep : s.fld BOOT_STAT_step ≠ 10) :
    s.resetReq 0 = s.raiseBoot 0x8011 0 := by rw [State.resetReq_first hfirst, if_pos ⟨rfl, hstep⟩]

section
variable (hfirst : s.FirstReset) (hready : k ≠ 0 ∨ s.fld BOOT_STAT_step = 10)
include hfirst hready

/-- While a fuse is being programmed a reset waits. -/
theorem State.resetReq_waits (hcommit : s.boot.commit.isSome = true) : s.resetReq k =
    s.modBoot fun b => { b with waitReset := some (max k (b.waitReset.getD 0)) } := by
  rw [State.resetReq_first hfirst, if_neg (fun h => hready.elim (· h.1) h.2), if_pos hcommit]

theorem State.resetReq_acts (hcommit : s.boot.commit = none) :
    s.resetReq k = (s.toElapsed s.boot.dbgUntil).resetNow k := by
  rw [State.resetReq_first hfirst, if_neg (fun h => hready.elim (· h.1) h.2), hcommit]
  rfl

end

/-- No commit and no waiting reset are left when a reset acts. -/
def State.endCommit (s : State) : State :=
  (s.modBoot fun b => { b with commit := none, waitReset := none }).setFld BOOT_ROLL_busy 0

theorem State.resetNow_module : s.resetNow 2 = s.endCommit.moduleReset := by simp [State.resetNow, State.endCommit]

theorem State.resetNow_warm : s.resetNow 1 = s.endCommit.warmReset := by simp [State.resetNow, State.endCommit]

theorem State.resetNow_compute : s.resetNow 0 = s.endCommit.computeReset := by simp [State.resetNow, State.endCommit]

/-! ### Go and resume (R383, R386) -/

theorem State.access_bootCtl (hw : Writable s ag BOOT_CTL 4) :
    s.access ag BOOT_CTL 4 v = (s.bootCtl v).answer 0 [] := State.access_reg (by decide) rfl hw

/-- Bits put into a number leave each bit outside them. -/
theorem bit_putBits_other {n lo w i : Nat} (h : i < lo ∨ lo + w ≤ i) : bit (putBits n lo w v) i = bit n i := by
  rw [bit, testBit_putBits, bit]
  split
  · rfl
  · rw [if_neg (by omega)]

theorem State.bit_goValue (src : Nat) : bit (putBits (s.withBits BOOT_CTL 0 1 1) 1 2 src) 0 = true :=
  (bit_putBits_other (.inl (by decide))).trans (State.bit_withBits_same ..)

theorem State.bit_goValue_resume (h : s.flag BOOT_CTL_resume = false) (src : Nat) :
    bit (putBits (s.withBits BOOT_CTL 0 1 1) 1 2 src) 3 = false := by
  rw [bit_putBits_other (.inr (by decide)), State.bit_withBits_other (by decide)]
  exact (State.flag_eq_bit (f := BOOT_CTL_resume) rfl (by decide)).symm.trans h

theorem State.bit_resumeValue_go (h : s.flag BOOT_CTL_go = false) : bit (s.withBits BOOT_CTL 3 1 1) 0 = false := by
  rw [State.bit_withBits_other (by decide)]
  exact (State.flag_eq_bit (f := BOOT_CTL_go) rfl (by decide)).symm.trans h

theorem State.bootCtl_go (hgo : bit v 0 = true) (hresume : bit v 3 = false) :
    s.bootCtl v = (s.plainWrite BOOT_CTL v).go := by rw [State.bootCtl, hgo, hresume]; rfl

theorem State.bootCtl_resume (hgo : bit v 0 = false) (hresume : bit v 3 = true) :
    s.bootCtl v = (s.plainWrite BOOT_CTL v).resume := by rw [State.bootCtl, hgo, hresume]; rfl

theorem State.pwr_plainWrite (a : Nat) : (s.plainWrite a v).pwr = s.pwr := by
  unfold State.plainWrite
  split <;> rfl

/-- Go and resume find the step and RESET_N as they stood before the write. -/
theorem State.step_plainBootCtl : (s.plainWrite BOOT_CTL v).fld BOOT_STAT_step = s.fld BOOT_STAT_step :=
  State.fld_plainWrite_other (by decide) (by decide)

theorem State.held_plainBootCtl : (s.plainWrite BOOT_CTL v).flag BOOT_STAT_held = s.flag BOOT_STAT_held := by
  rw [State.flag, State.flag, State.fld_plainWrite_other (by decide) (by decide)]

theorem State.go_elsewhere (h : s.fld BOOT_STAT_step ≠ 2) : s.go = s.raiseBoot 0x8010 0 := if_pos h

section
variable (hstep : s.fld BOOT_STAT_step = 2)
include hstep

theorem State.go_waits (hlow : s.pwr.resetLow = true) : s.go = s.modBoot fun b => { b with goWait := true } :=
  (if_neg (not_not_intro hstep)).trans (if_pos hlow)

theorem State.go_verifies (hhigh : s.pwr.resetLow = false) : s.go = s.startVerify :=
  (if_neg (not_not_intro hstep)).trans (if_neg (Bool.eq_false_iff.1 hhigh))

end

theorem State.resume_held (h : s.flag BOOT_STAT_held = true) :
    s.resume = (s.setFld BOOT_STAT_held 0).beginStep (s.fld BOOT_STAT_step) := if_pos h

theorem State.resume_unheld (h : s.flag BOOT_STAT_held = false) : s.resume = s := if_neg (Bool.eq_false_iff.1 h)

/-! ### Rollback and DBG_LOCK (R389, R391) -/

theorem State.access_roll (hw : Writable s ag BOOT_ROLL 4) :
    s.access ag BOOT_ROLL 4 v = (s.rollWrite v).answer 0 [] := State.access_reg (by decide) rfl hw

/-- The value with commit has the commit bit, and the value in its field. -/
theorem State.rollWrite_commit (w : BitVec 7) : s.rollWrite (w.toNat * 2 ^ 8 + 2 ^ 15) = s.rollCommit w.toNat := by
  have hlt := w.isLt
  have hbit : bit (w.toNat * 2 ^ 8 + 2 ^ 15) 15 = true := by
    rw [bit, Nat.testBit_eq_decide_div_mod_eq, decide_eq_true_eq]; omega
  have hvalue : bits (w.toNat * 2 ^ 8 + 2 ^ 15) 8 7 = w.toNat := by rw [bits, Nat.shiftRight_eq_div_pow]; omega
  rw [State.rollWrite, if_pos hbit, hvalue]

theorem State.rollCommit_done (h : v ≤ s.fuseCount) : s.rollCommit v = s := if_pos h

section
variable (habove : s.fuseCount < v)
include habove

theorem State.rollCommit_refused
    (h : s.fld BOOT_IMG_INFO_sv < v ∨ s.boot.commit.isSome = true ∨ s.fld BOOT_STAT_step < 4) :
    s.rollCommit v = s.raiseBoot 0x8020 0 := (if_neg (Nat.not_le.2 habove)).trans (if_pos h)

theorem State.rollCommit_starts
    (h : ¬ (s.fld BOOT_IMG_INFO_sv < v ∨ s.boot.commit.isSome = true ∨ s.fld BOOT_STAT_step < 4)) :
    s.rollCommit v = ((s.setFld BOOT_ROLL_value v).setFld BOOT_ROLL_busy 1).modBoot fun b =>
      { b with commit := some v, pulses := 0, fuseAt := s.time.elapsed } :=
  (if_neg (Nat.not_le.2 habove)).trans (if_neg h)

end

/-- What a write of BOOT_FUSE does. -/
def State.fuseWrite (s : State) (v : Nat) : State := if bit v 16 then s.dbgBlow (bits v 8 8) else s

theorem State.access_fuse (hw : Writable s ag BOOT_FUSE 4) :
    s.access ag BOOT_FUSE 4 v = (s.fuseWrite v).answer 0 [] := State.access_reg (by decide) rfl hw

/-- The value with blow_dbg has that bit, and the confirmation byte in its field. -/
theorem State.fuseWrite_blow (c : BitVec 8) : s.fuseWrite (c.toNat * 2 ^ 8 + 2 ^ 16) = s.dbgBlow c.toNat := by
  have hlt := c.isLt
  have hbit : bit (c.toNat * 2 ^ 8 + 2 ^ 16) 16 = true := by
    rw [bit, Nat.testBit_eq_decide_div_mod_eq, decide_eq_true_eq]; omega
  have hvalue : bits (c.toNat * 2 ^ 8 + 2 ^ 16) 8 8 = c.toNat := by rw [bits, Nat.shiftRight_eq_div_pow]; omega
  rw [State.fuseWrite, if_pos hbit, hvalue]

/-- The debug lock may not be blown: a wrong confirmation, the debug port as owner, or no verified image (R391). -/
def State.BlowBad (s : State) (c : BitVec 8) : Prop :=
  c ≠ 0xD5 ∨ s.fld GEN_OWN_STAT_owner = 4 ∨ s.fld BOOT_STAT_step < 4

theorem State.blowBad_iff {c : BitVec 8} : s.BlowBad c ↔
    c.toNat ≠ 0xD5 ∨ s.fld GEN_OWN_STAT_owner = 4 ∨ s.fld BOOT_STAT_step < 4 := by
  rw [State.BlowBad, ne_eq, ← BitVec.toNat_inj]
  rfl

theorem State.dbgBlow_refused {c : BitVec 8} (h : s.BlowBad c) : s.dbgBlow c.toNat = s.raiseBoot 0x8022 0 :=
  if_pos (State.blowBad_iff.1 h)

theorem State.dbgBlow_blown {c : BitVec 8} (h : ¬ s.BlowBad c) : s.dbgBlow c.toNat =
    s.modBoot fun b => { b with dbgLock := true, dbgUntil := s.time.elapsed + 128000 } :=
  if_neg (mt State.blowBad_iff.2 h)

/-! ### Attestation (R392, R393) -/

theorem State.access_attest (hw : Writable s ag BOOT_ATT_CTL 4) :
    s.access ag BOOT_ATT_CTL 4 1 = s.attest.answer 0 [] := State.access_reg (by decide) rfl hw

/-- The copies of the index as the store is read, each come to fail its CRC or not. -/
def State.readCopies (s : State) (badA badB : Bool) : State :=
  s.modBoot fun b =>
    { b with copyA := if badA then b.copyA.spoil else b.copyA, copyB := if badB then b.copyB.spoil else b.copyB }

/-- An attestation is refused without a look at the store. -/
def State.AttestShut (s : State) : Prop :=
  s.boot.signing.isSome = true ∨ s.fld BOOT_STAT_step ≤ 3 ∨ s.flag BOOT_ATT_STAT_store_bad = true

theorem State.attestShut_iff : s.AttestShut ↔ (s.boot.signing.isSome || decide (s.fld BOOT_STAT_step ≤ 3)
    || s.flag BOOT_ATT_STAT_store_bad) = true := by
  simp only [State.AttestShut, Bool.or_eq_true, decide_eq_true_eq, or_assoc]

/-- A start that reaches its register reads the store unless it is refused before. -/
theorem State.attReads_iff (hw : Writable s ag BOOT_ATT_CTL 4) : s.attReads (agentNo ag) = true ↔ ¬ s.AttestShut := by
  obtain ⟨hreach, howner, -, -, -⟩ := hw
  simp [State.attReads, State.AttestShut, hreach, howner, and_assoc]

theorem exec_attestStart_shut {badA badB : Bool} (hw : Writable s ag BOOT_ATT_CTL 4) (h : s.AttestShut) :
    exec (.attestStart ag badA badB) s = .next (s.attest.answer 0 []) := by
  have hread : ¬ s.attReads (agentNo ag) = true := fun hr => (State.attReads_iff hw).1 hr h
  exact congrArg _ ((congrArg (State.access · ag BOOT_ATT_CTL 4 1) (if_neg hread)).trans (State.access_attest hw))

theorem exec_attestStart_open {badA badB : Bool} (hw : Writable s ag BOOT_ATT_CTL 4) (h : ¬ s.AttestShut) :
    exec (.attestStart ag badA badB) s = .next ((s.readCopies badA badB).attest.answer 0 []) := by
  have hu : Writable (s.readCopies badA badB) ag BOOT_ATT_CTL 4 := hw
  exact congrArg _ ((congrArg (State.access · ag BOOT_ATT_CTL 4 1) (if_pos ((State.attReads_iff hw).2 h))).trans
    (State.access_attest hu))

theorem State.attest_shut (h : s.AttestShut) : s.attest = s.attRefuse := if_pos (State.attestShut_iff.1 h)

section
variable (hopen : ¬ s.AttestShut)
include hopen

/-- With no readable copy the store is bad from now on. -/
theorem State.attest_unreadable (h : s.boot.copy = none) :
    s.attest = (s.attRefuse.setFld BOOT_ATT_STAT_store_bad 1).raiseBoot 0x8032 0 := by
  rw [State.attest, if_neg (mt State.attestShut_iff.2 hopen), h]

theorem State.attest_usedUp {c : AttCopy} (h : s.boot.copy = some c) (hlimit : 2 ^ 20 ≤ c.next) :
    s.attest = s.attRefuse.raiseBoot 0x8031 0 := by
  rw [State.attest, if_neg (mt State.attestShut_iff.2 hopen), h]
  exact if_pos hlimit

theorem State.attest_signs {c : AttCopy} (h : s.boot.copy = some c) (hfree : c.next < 2 ^ 20) : s.attest =
    (s.modBoot fun b => { b with
      copyA := mkCopy (c.next + 1) ((c.writes + 1) % 2 ^ 32), copyB := mkCopy (c.next + 1) ((c.writes + 1) % 2 ^ 32)
      signing := some (s.report c.next, c.next), signAt := s.time.elapsed }).setFld BOOT_ATT_STAT_state 1 := by
  rw [State.attest, if_neg (mt State.attestShut_iff.2 hopen), h]
  exact if_neg (Nat.not_le.2 hfree)

end

theorem AttCopy.bad_iff {c : AttCopy} : c.bad = true ↔ c.crc ≠ attCrc c.next c.writes := by
  rw [AttCopy.bad, bne_iff_ne]

theorem BootSt.copy_none {b : BootSt} (hA : b.copyA.bad = true) (hB : b.copyB.bad = true) : b.copy = none :=
  (if_pos hA).trans (if_pos hB)

/-- The copy that is read passes its CRC. -/
theorem BootSt.copy_passes {b : BootSt} {c : AttCopy} (h : b.copy = some c) : c.crc = attCrc c.next c.writes := by
  have hgood : c.bad = false := by
    unfold BootSt.copy at h
    split at h
    case isTrue =>
      split at h
      case isTrue => exact nomatch h
      case isFalse hB => exact Option.some.inj h ▸ Bool.eq_false_iff.2 hB
    case isFalse hA =>
      split at h
      case isTrue => exact Option.some.inj h ▸ Bool.eq_false_iff.2 hA
      case isFalse hB =>
        split at h
        · exact Option.some.inj h ▸ Bool.eq_false_iff.2 hB
        · exact Option.some.inj h ▸ Bool.eq_false_iff.2 hA
  exact Decidable.not_not.1 (mt AttCopy.bad_iff.2 (ne_true_of_eq_false hgood))

end

/-- Settles O49: a write that the module takes reaches the operation of its register, whose case decides. -/
theorem bootAndOwnerRegisterWrites : Obligations.BootAndOwnerRegisterWrites := by
  intro s ag
  refine ⟨fun v hw => ?_, fun hw hfirst => ?_, fun hw hresume hgo => ⟨fun src => ?_, ?_⟩, fun v hw => ?_,
    fun c hw => ?_, fun hw badA badB => ?_⟩
  · have ha := State.access_ownCfg (v := v.toNat) hw
    exact ⟨fun h => next_answer ha (State.ownCfg_taken h), fun h => next_answer ha (State.ownCfg_refused h)⟩
  · intro u
    rw [exec_moduleReset, exec_warmReset, exec_computeReset]
    have ha (v : Nat) := State.access_reset (v := v) hw
    refine ⟨fun hno => ⟨?_, ?_, fun hready => ?_⟩, fun hearly => ?_, fun hcommit => ?_⟩
    · exact next_answer (ha 4) (State.resetWrite_module.trans
        ((State.resetReq_acts hfirst (.inl (by decide)) hno).trans State.resetNow_module))
    · exact next_answer (ha 2) (State.resetWrite_warm.trans
        ((State.resetReq_acts hfirst (.inl (by decide)) hno).trans State.resetNow_warm))
    · exact next_answer (ha 1) (State.resetWrite_compute.trans
        ((State.resetReq_acts hfirst (.inr hready) hno).trans State.resetNow_compute))
    · exact next_answer (ha 1) (State.resetWrite_compute.trans (State.resetReq_early hfirst hearly))
    · exact next_answer (ha 4) (State.resetWrite_module.trans (State.resetReq_waits hfirst (.inl (by decide)) hcommit))
  · intro u
    rw [exec_bootGo]
    have ha : s.access ag BOOT_CTL 4 _ = u.go.answer 0 [] := (State.access_bootCtl hw).trans (congrArg (State.answer · 0 [])
      (State.bootCtl_go (State.bit_goValue _) (State.bit_goValue_resume hresume _)))
    have hstep : u.fld BOOT_STAT_step = s.fld BOOT_STAT_step := State.step_plainBootCtl
    have hpin : u.pwr.resetLow = s.pwr.resetLow := congrArg PwrSt.resetLow (State.pwr_plainWrite _)
    exact ⟨fun h => next_answer ha (State.go_elsewhere (hstep.trans_ne h)),
      fun h hlow => next_answer ha (State.go_waits (hstep.trans h) (hpin.trans hlow)),
      fun h hhigh => next_answer ha (State.go_verifies (hstep.trans h) (hpin.trans hhigh))⟩
  · intro u
    rw [exec_bootResume]
    have ha : s.access ag BOOT_CTL 4 _ = u.resume.answer 0 [] := (State.access_bootCtl hw).trans
      (congrArg (State.answer · 0 []) (State.bootCtl_resume (State.bit_resumeValue_go hgo) (State.bit_withBits_same ..)))
    have hheld : u.flag BOOT_STAT_held = s.flag BOOT_STAT_held := State.held_plainBootCtl
    exact ⟨fun h => next_answer ha (State.resume_held (hheld.trans h)),
      fun h => next_answer ha (State.resume_unheld (hheld.trans h))⟩
  · intro no
    rw [exec_rollbackCommit]
    have ha : s.access ag BOOT_ROLL 4 _ = (s.rollCommit v.toNat).answer 0 [] :=
      (State.access_roll hw).trans (congrArg (State.answer · 0 []) (State.rollWrite_commit v))
    exact ⟨fun h => next_answer ha (State.rollCommit_done h), fun h hno => next_answer ha (State.rollCommit_refused h hno),
      fun h hyes => next_answer ha (State.rollCommit_starts h hyes)⟩
  · intro no
    rw [exec_dbgLockBlow]
    have ha : s.access ag BOOT_FUSE 4 _ = (s.dbgBlow c.toNat).answer 0 [] :=
      (State.access_fuse hw).trans (congrArg (State.answer · 0 []) (State.fuseWrite_blow c))
    exact ⟨fun h => next_answer ha (State.dbgBlow_refused h), fun h => next_answer ha (State.dbgBlow_blown h)⟩
  · intro no crc spoilt u
    refine ⟨fun hshut => ?_, fun hsign hstep hstore => ?_⟩
    · rw [exec_attestStart_shut hw hshut, State.attest_shut hshut]
      rfl
    · have hopen : ¬ s.AttestShut := by
        rintro (h | h | h)
        · simp [hsign] at h
        · omega
        · exact Bool.false_ne_true (hstore.symm.trans h)
      have hu : ¬ u.AttestShut := hopen
      have hexec : exec (.attestStart ag badA badB) s = .next (u.attest.answer 0 []) := exec_attestStart_open hw hopen
      rw [hexec]
      exact ⟨fun hA hB => next_answer rfl (State.attest_unreadable hu
          (BootSt.copy_none (AttCopy.bad_iff.2 hA) (AttCopy.bad_iff.2 hB))),
        fun k hk => ⟨BootSt.copy_passes hk, fun hlimit => next_answer rfl (State.attest_usedUp hu hk hlimit),
          fun hfree => next_answer rfl (State.attest_signs hu hk hfree)⟩⟩

end Sys2Proof.Machine
end

section
/-! SUPPORT. The lengths of hashes and signatures (FIPS 202, NIST SP 800-208). -/

namespace Sys2Proof.Machine

/-! ### SHAKE256 -/

theorem length_mkLanes (f : Nat → Nat → Nat) : (mkLanes f).length = 25 := by simp [mkLanes]

/-- A round gives 25 lanes, whatever it is given. -/
theorem length_keccakRound (a : Lanes) (rc : Nat) : (keccakRound a rc).length = 25 := by
  unfold keccakRound
  dsimp only
  split
  next l ls h => exact (congrArg List.length h).symm.trans (length_mkLanes _)
  next h => exact absurd ((congrArg List.length h).symm.trans (length_mkLanes _)) (by decide)

theorem length_keccakF {a : Lanes} (h : a.length = 25) : (keccakF a).length = 25 :=
  List.foldlRecOn (motive := fun b : Lanes => b.length = 25) _ _ h fun b _ rc _ => length_keccakRound b rc

theorem length_absorbBlock {a : Lanes} (h : a.length = 25) (block : List Byte) : (absorbBlock a block).length = 25 :=
  length_keccakF (by rw [List.length_map, List.length_zipIdx, h])

/-- Pieces of one length, put together. -/
theorem length_flatMap_const {α β : Type} {f : α → List β} {n : Nat} {l : List α} (h : ∀ a ∈ l, (f a).length = n) :
    (l.flatMap f).length = l.length * n := by
  rw [List.length_flatMap, List.map_congr_left h, List.map_const', List.sum_replicate, smul_eq_mul]

theorem length_shake256 {n : Nat} (hn : n ≤ 200) (m : List Byte) : (shake256 n m).length = n := by
  have hlanes : ((chunks shakeRate ((shakePad m).length / shakeRate) (shakePad m)).foldl absorbBlock
      (List.replicate 25 0)).length = 25 :=
    List.foldlRecOn (motive := fun b : Lanes => b.length = 25) _ _ List.length_replicate fun b hb block _ =>
      length_absorbBlock hb block
  rw [shake256, List.length_take, length_flatMap_const (fun n _ => length_leBytes 8 n), hlanes]
  omega

/-! ### XMSS -/

theorem length_xmssHash (k : Nat) (key m : List Byte) : (xmssHash k key m).length = 32 :=
  length_shake256 (by decide) _

theorem length_beBytes (n v : Nat) : (beBytes n v).length = n := by rw [beBytes, List.length_reverse, length_leBytes]

/-- Any number of steps of a chain leave a string of 32 bytes. -/
theorem length_wotsChain {seed v : List Byte} (h : v.length = 32) (x : XAddr) (i n : Nat) :
    (wotsChain seed x i n v).length = 32 :=
  List.foldlRecOn (motive := fun u : List Byte => u.length = 32) _ _ h fun _ _ _ _ => length_xmssHash ..

theorem length_wotsDigits {m : List Byte} (h : m.length = 32) : (wotsDigits m).length = 67 := by
  have hdigits : ((m.take 32).flatMap fun b => [b.toNat / 16, b.toNat % 16]).length = 64 := by
    rw [length_flatMap_const (n := 2) (fun _ _ => rfl), List.length_take, h]
    rfl
  rw [wotsDigits, List.length_append, hdigits]
  rfl

/-- The nodes of a level: at least one, of 32 bytes each. -/
def IsLevel (ns : List (List Byte)) : Prop := ns ≠ [] ∧ ∀ v ∈ ns, v.length = 32

theorem length_of_mem_lTreeLevel {seed : List Byte} {x : XAddr} {i : Nat} {ns : List (List Byte)}
    (h : ∀ v ∈ ns, v.length = 32) : ∀ v ∈ lTreeLevel seed x i ns, v.length = 32 := by
  induction i, ns using lTreeLevel.induct with
  | case1 i l r ns ih =>
    rw [lTreeLevel]
    intro v hv
    rcases List.mem_cons.1 hv with rfl | hv
    · exact length_xmssHash ..
    · exact ih (fun u hu => h u (List.mem_cons_of_mem _ (List.mem_cons_of_mem _ hu))) v hv
  | case2 i ns hns =>
    rw [lTreeLevel.eq_2 _ _ _ _ hns]
    exact h

/-- A level gives the next one. -/
theorem IsLevel.lTreeLevel {seed : List Byte} {x : XAddr} {i : Nat} {ns : List (List Byte)} (h : IsLevel ns) :
    IsLevel (lTreeLevel seed x i ns) := by
  obtain ⟨hne, hlen⟩ := h
  refine ⟨?_, length_of_mem_lTreeLevel hlen⟩
  match ns, hne with
  | [_], _ => exact List.cons_ne_nil _ _
  | _ :: _ :: _, _ => exact List.cons_ne_nil _ _

theorem length_lTree {seed : List Byte} {x : XAddr} {ns : List (List Byte)} (h : IsLevel ns) :
    (lTree seed x ns).length = 32 := by
  have htop : IsLevel ((List.range 7).foldl
      (fun (u : List (List Byte)) k => Machine.lTreeLevel seed { x with b := k } 0 u) ns) :=
    List.foldlRecOn (motive := IsLevel) _ _ h fun _ hu _ _ => hu.lTreeLevel
  obtain ⟨hne, hlen⟩ := htop
  rw [lTree]
  match hl : (List.range 7).foldl
      (fun (u : List (List Byte)) k => Machine.lTreeLevel seed { x with b := k } 0 u) ns with
  | [] => exact absurd hl hne
  | v :: _ => exact hlen v (hl ▸ List.mem_cons_self)

theorem XKey.length_start (k : XKey) (i j : Nat) : (k.start i j).length = 32 := length_xmssHash ..

theorem XKey.length_leaf (k : XKey) (i : Nat) : (k.leaf i).length = 32 := by
  refine length_lTree ⟨by simp, fun v hv => ?_⟩
  obtain ⟨j, -, rfl⟩ := List.mem_map.1 hv
  exact length_wotsChain (k.length_start i j) ..

theorem XKey.length_node (k : XKey) (h i : Nat) : (k.node h i).length = 32 := by
  cases h with
  | zero => exact k.length_leaf i
  | succ h => exact length_xmssHash ..

/-- A signature: its index, the randomizer, 67 chains and 20 nodes. -/
theorem XKey.length_sign (k : XKey) (i : Nat) (m : List Byte) : (k.sign i m).length = 2820 := by
  rw [XKey.sign]
  simp only [List.length_append, length_beBytes, length_xmssHash, length_flatMap_const (fun h _ => k.length_node h _),
    length_flatMap_const (fun (e : Nat × Nat) _ => length_wotsChain (k.length_start i e.2) ..), List.length_zipIdx,
    length_wotsDigits (length_xmssHash ..), List.length_range]

end Sys2Proof.Machine
end

section
/-! SUPPORT. The end of a programming pulse and of a signature (O56). -/

namespace Sys2Proof.Machine

theorem exec_fuseBlowDone (b : Bool) (s : State) : exec (.fuseBlowDone b) s = .next (s.fuseDone b) := rfl

section
variable {s t u : State} {v : Nat}

/-! ### A pulse (R389) -/

theorem State.fuseDone_none (h : s.boot.commit = none) (b : Bool) : s.fuseDone b = s := by rw [State.fuseDone, h]

/-- The time at which the pulse ends. -/
def State.pulseEnd (s : State) : State := s.toElapsed (s.boot.fuseAt + 128000)

/-- The fuse at the count senses blown: its bit is set. -/
def State.fuseBlown (t : State) : State :=
  t.modBoot fun b => { b with rb := b.rb ||| 2 ^ t.fuseCount, pulses := 0, fuseAt := t.time.elapsed }

/-- It does not: one pulse more was tried. -/
def State.fuseTried (t : State) : State :=
  t.modBoot fun b => { b with pulses := t.boot.pulses + 1, fuseAt := t.time.elapsed }

/-- The commit ends where the count has reached the value, or a reset waits. -/
def State.commitOver (u : State) (v : Nat) : Prop := u.boot.waitReset.isSome = true ∨ v ≤ u.fuseCount

theorem State.commitOver_iff : u.commitOver v ↔ (u.boot.waitReset.isSome || decide (v ≤ u.fuseCount)) = true := by
  rw [State.commitOver, Bool.or_eq_true, decide_eq_true_eq]

theorem State.not_commitOver (hwait : u.boot.waitReset = none) (h : u.fuseCount < v) : ¬ u.commitOver v := by
  rintro (hw | hv)
  · rw [hwait] at hw
    exact Bool.false_ne_true hw
  · omega

section
variable (hcommit : s.boot.commit = some v) (ht : s.pulseEnd = t)
include hcommit ht

theorem State.fuseDone_blown : s.fuseDone true =
    if (t.fuseBlown.boot.waitReset.isSome || decide (v ≤ t.fuseBlown.fuseCount)) = true then t.fuseBlown.commitEnd
    else t.fuseBlown := by
  subst ht
  rw [State.fuseDone, hcommit]
  rfl

/-- A third pulse in vain is recorded and ends the commit (R389). -/
theorem State.fuseDone_tried : s.fuseDone false =
    if 3 ≤ t.boot.pulses + 1 then (t.fuseTried.raiseBoot 0x8021 (t.fuseCount % 64)).commitEnd
    else if (t.fuseTried.boot.waitReset.isSome || decide (v ≤ t.fuseTried.fuseCount)) = true then t.fuseTried.commitEnd
    else t.fuseTried := by
  subst ht
  have hthird : (!false && decide (3 ≤ s.pulseEnd.boot.pulses + 1)) = true ↔ 3 ≤ s.pulseEnd.boot.pulses + 1 := by simp
  rw [State.fuseDone, hcommit]
  exact if_congr hthird rfl rfl

theorem State.fuseDone_blown_over (h : t.fuseBlown.commitOver v) : s.fuseDone true = t.fuseBlown.commitEnd := by
  rw [State.fuseDone_blown hcommit ht, if_pos (State.commitOver_iff.1 h)]

theorem State.fuseDone_blown_next (h : ¬ t.fuseBlown.commitOver v) : s.fuseDone true = t.fuseBlown := by
  rw [State.fuseDone_blown hcommit ht, if_neg (mt State.commitOver_iff.2 h)]

theorem State.fuseDone_third (h : 2 ≤ t.boot.pulses) :
    s.fuseDone false = (t.fuseTried.raiseBoot 0x8021 (t.fuseCount % 64)).commitEnd := by
  rw [State.fuseDone_tried hcommit ht, if_pos (by omega)]

theorem State.fuseDone_again (h : t.boot.pulses < 2) (hover : ¬ t.fuseTried.commitOver v) :
    s.fuseDone false = t.fuseTried := by
  rw [State.fuseDone_tried hcommit ht, if_neg (by omega), if_neg (mt State.commitOver_iff.2 hover)]

end

/-- What the end of a commit leaves, before a reset that waited. -/
def State.commitCleared (s : State) : State :=
  (s.setFld BOOT_ROLL_busy 0).modBoot fun b => { b with commit := none, waitReset := none }

theorem State.commitEnd_free (h : s.boot.waitReset = none) : s.commitEnd = s.commitCleared := by
  rw [State.commitEnd, h]
  rfl

theorem State.commitEnd_reset {w : Nat} (h : s.boot.waitReset = some w) : s.commitEnd = s.commitCleared.resetNow w := by
  rw [State.commitEnd, h]
  rfl

/-! ### A signature (R392) -/

theorem State.attestDone_none (h : s.boot.signing = none) : s.attestDone = s := by rw [State.attestDone, h]

theorem State.attestDone_some {r : List Byte} {n : Nat} (h : s.boot.signing = some (r, n)) : s.attestDone =
    (s.modBoot fun b => { b with signing := none, out := r ++ attKey.sign n r }).setFld BOOT_ATT_STAT_state 2 := by
  rw [State.attestDone, h]

end

/-- Settles O56: the fuse senses blown or not at the end of the pulse, and whether the commit is over decides what
follows; a signature is released whole. -/
theorem fusesAndAttestationComplete : Obligations.FusesAndAttestationComplete := by
  intro s
  refine ⟨fun hno b => congrArg _ (State.fuseDone_none hno b), fun v hcommit => ?_,
    fun w => ⟨State.commitEnd_free, State.commitEnd_reset⟩, fun h => congrArg _ (State.attestDone_none h),
    fun r n h => congrArg _ (State.attestDone_some h), fun n m => XKey.length_sign attKey n m⟩
  intro t i
  rw [exec_fuseBlowDone, exec_fuseBlowDone]
  exact ⟨⟨fun h => congrArg _ (State.fuseDone_blown_over hcommit rfl h),
      fun hwait h => congrArg _ (State.fuseDone_blown_next hcommit rfl (State.not_commitOver hwait h))⟩,
    fun h => congrArg _ (State.fuseDone_third hcommit rfl h),
    fun hp hwait h => congrArg _ (State.fuseDone_again hcommit rfl hp (State.not_commitOver hwait h))⟩

end Sys2Proof.Machine
end

section
/-! SUPPORT. The boot sequence goes on: which step follows, VERIFY's checks and the hold of a step (O53). -/

namespace Sys2Proof.Machine

section
variable {s : State}

/-! ### The step in progress completes (R381) -/

theorem State.bootAdvance_of_not_booting (h : s.booting = false) (r : BootResult) : s.bootAdvance r = s :=
  if_pos (by simp [h])

section
variable (hb : s.booting = true)
include hb

theorem State.bootAdvance_standby (h : s.fld BOOT_STAT_step = 1) : s.bootAdvance .done = s.enterStep 2 := by
  simp [State.bootAdvance, hb, h]

theorem State.bootAdvance_verify (h : s.fld BOOT_STAT_step = 3) : s.bootAdvance .done = s.verifyStep := by
  simp [State.bootAdvance, hb, h]

theorem State.bootAdvance_power (h : s.fld BOOT_STAT_step = 4) :
    s.bootAdvance .done = if s.pwrOk = true then s.enterStep 5 else s := by simp [State.bootAdvance, hb, h]

theorem State.bootAdvance_time (h : s.fld BOOT_STAT_step = 6) :
    s.bootAdvance .done = if s.flag TIME_DOM_STAT_set = true then s.enterStep 7 else s := by
  simp [State.bootAdvance, hb, h]

theorem State.bootAdvance_links (h : s.fld BOOT_STAT_step = 8) :
    s.bootAdvance .done = if s.linksUp = true then s.enterStep 9 else s := by simp [State.bootAdvance, hb, h]

theorem State.bootAdvance_survey (h : s.fld BOOT_STAT_step = 9) :
    s.bootAdvance .done = if 2 ≤ s.fld TOPO_STAT_survey then s.enterStep 10 else s := by
  simp [State.bootAdvance, hb, h]

theorem State.bootAdvance_ready (h : s.fld BOOT_STAT_step = 10) : s.bootAdvance .done = s := by
  simp [State.bootAdvance, hb, h]

end

/-! ### VERIFY (R386) -/

theorem State.verifyStep_noTransfer (h : s.boot.xfer = none) : s.verifyStep = s.verify := by rw [State.verifyStep, h]

/-- The form of the image is looked at first. -/
theorem State.verify_badForm (h : imageOk (s.imgRead 0 64) = false) : s.verify = s.verifyFail 0x8001 1 :=
  if_pos (by rw [h]; rfl)

section
variable (hform : imageOk (s.imgRead 0 64) = true)
include hform

/-- Then its security version. -/
theorem State.verify_oldVersion (h : leField (s.imgRead 0 64) 9 1 < s.fuseCount) :
    s.verify = s.verifyFail 0x8003 2 := (if_neg (by rw [hform]; decide)).trans (if_pos h)

/-- Its signature is the last. -/
theorem State.verify_signature (h : s.fuseCount ≤ leField (s.imgRead 0 64) 9 1) : s.verify =
    if imageSigned (s.imgRead 0 (64 + bodyLen (s.imgRead 0 64))) (s.imgRead (64 + bodyLen (s.imgRead 0 64)) 5605) = true
    then s.verifyPass (s.imgRead 0 64) (s.imgRead 0 (64 + bodyLen (s.imgRead 0 64)))
    else s.verifyFail 0x8002 3 := (if_neg (by rw [hform]; decide)).trans (if_neg (Nat.not_lt.2 h))

end

/-! ### The module comes to a step (R383, R395) -/

/-- From VERIFY on the test port's drive ends. -/
def State.leaveTap (s : State) (j : Nat) : State :=
  if 3 ≤ j then s.modBoot fun b => { b with jtag := b.jtag.leave } else s

/-- The module stands at a step from now on. -/
def State.stepAt (s : State) (j : Nat) : State :=
  ((s.leaveTap j).setFld BOOT_STAT_step j).modBoot fun b => { b with since := s.time.elapsed }

/-- The step's hold bit is set. -/
def State.HoldsAt (u : State) (j : Nat) : Prop := 4 ≤ j ∧ j ≤ 9 ∧ (u.fld BOOT_CTL_hold).testBit (j - 4) = true

theorem State.holdsAt_iff {u : State} {j : Nat} :
    u.HoldsAt j ↔ (decide (4 ≤ j ∧ j ≤ 9) && bit (u.fld BOOT_CTL_hold) (j - 4)) = true := by
  rw [State.HoldsAt, Bool.and_eq_true, decide_eq_true_eq, bit, and_assoc]

theorem State.time_leaveTap (j : Nat) : (s.leaveTap j).time = s.time := by
  unfold State.leaveTap
  split <;> rfl

theorem State.enterStep_eq (j : Nat) : s.enterStep j =
    if (decide (4 ≤ j ∧ j ≤ 9) && bit ((s.stepAt j).fld BOOT_CTL_hold) (j - 4)) = true then
      (s.stepAt j).setFld BOOT_STAT_held 1
    else (s.stepAt j).beginStep j := by
  rw [State.stepAt, ← State.time_leaveTap (s := s) j]
  rfl

theorem State.enterStep_held {j : Nat} (h : (s.stepAt j).HoldsAt j) :
    s.enterStep j = (s.stepAt j).setFld BOOT_STAT_held 1 := by
  rw [State.enterStep_eq, if_pos (State.holdsAt_iff.1 h)]

theorem State.enterStep_begins {j : Nat} (h : ¬ (s.stepAt j).HoldsAt j) :
    s.enterStep j = (s.stepAt j).beginStep j := by
  rw [State.enterStep_eq, if_neg (mt State.holdsAt_iff.2 h)]

end

/-- Settles O53: the step in progress selects what completes it, the image's checks come in their order, and a step's hold
bit is looked at as the module comes to it. -/
theorem bootStepsGoOn : Obligations.BootStepsGoOn := by
  intro s
  refine ⟨fun h r => congrArg _ (State.bootAdvance_of_not_booting h r), fun hb => ?_,
    fun j => ⟨State.enterStep_held, State.enterStep_begins⟩⟩
  intro go
  have hgo {t : State} (h : s.bootAdvance .done = t) : go = .next t := congrArg _ h
  refine ⟨fun h => hgo (State.bootAdvance_standby hb h), fun h => hgo (State.bootAdvance_power hb h),
    fun h => hgo (State.bootAdvance_time hb h), fun h => hgo (State.bootAdvance_links hb h),
    fun h => hgo (State.bootAdvance_survey hb h), fun h => hgo (State.bootAdvance_ready hb h), fun h hxfer => ?_⟩
  intro hdr n fail
  have hverify : s.bootAdvance .done = s.verify :=
    (State.bootAdvance_verify hb h).trans (State.verifyStep_noTransfer hxfer)
  exact ⟨fun hform => hgo (hverify.trans (State.verify_badForm hform)),
    fun hform hold => hgo (hverify.trans (State.verify_oldVersion hform hold)),
    fun hform hnew => hgo (hverify.trans (State.verify_signature hform hnew))⟩

end Sys2Proof.Machine
end

section
/-! SUPPORT. Registers that the main switch's opening leaves alone, and the power domains it takes down (R439, R441). -/

namespace Sys2Proof.Machine

variable {s : State} {q : List Instr}

/-! ### Domains going down -/

/-- What every application of a function keeps, a fold over any list keeps. -/
theorem foldl_keeps {σ τ α : Type} (g : σ → τ) {f : σ → α → σ} {l : List α} {s : σ} (h : ∀ t a, g (f t a) = g t) :
    g (l.foldl f s) = g s :=
  List.foldlRecOn (motive := fun t => g t = g s) _ _ rfl fun t ht a _ => (h t a).trans ht

theorem State.domUp_eq_testBit (j : Nat) : s.domUp j = (s.fld PWR_DOM_STAT_on).testBit j := rfl

/-- The sensors of a domain that goes down are no part of the domains' register. -/
theorem State.fld_setDom_down (j : Nat) : (s.setDom j false).fld PWR_DOM_STAT_on =
    (s.setFld PWR_DOM_STAT_on (putBits (s.fld PWR_DOM_STAT_on) j 1 0)).fld PWR_DOM_STAT_on := by
  refine foldl_keeps (fun t : State => t.fld PWR_DOM_STAT_on) fun t k => State.fld_setFld_other (by decide) ?_ ?_
  · show 0x200100 + 4 * k ≠ 0x200010
    omega
  · show 0x200100 + 4 * k + 4 ≠ 0x200010
    omega

theorem State.domUp_setDom_down {i j : Nat} (h : Good q s) (hi : i < 26) :
    (s.setDom j false).domUp i = (decide (i ≠ j) && s.domUp i) := by
  rw [State.domUp_eq_testBit, State.fld_setDom_down, State.fld_setFld_same h.regs (by decide), Nat.testBit_mod_two_pow,
    testBit_putBits, State.domUp_eq_testBit, decide_eq_true (show i < PWR_DOM_STAT_on.width from hi), Bool.true_and]
  by_cases hij : i = j
  · rw [if_neg (by omega), if_pos (by omega), Nat.zero_testBit, decide_eq_false (not_not_intro hij), Bool.false_and]
  · rw [decide_eq_true hij, Bool.true_and]
    split
    · rfl
    · rw [if_neg (by omega)]

theorem State.domUp_domsDown {i : Nat} {l : List Nat} (h : Good q s) (hi : i < 26) :
    (s.domsDown l).domUp i = (decide (i ∉ l) && s.domUp i) := by
  induction l generalizing s with
  | nil => simp [State.domsDown]
  | cons j l ih =>
    have hrest : (s.domsDown (j :: l)).domUp i = ((s.setDom j false).domsDown l).domUp i := rfl
    rw [hrest, ih h.setDom, State.domUp_setDom_down h hi, ← Bool.and_assoc, ← Bool.decide_and]
    exact congrArg (· && _) (decide_eq_decide.2 (by rw [List.mem_cons]; tauto))

/-! ### Fabric ports going to OFF -/

section
variable {a p : Nat} (ha : a < 0x400000)
include ha

/-- A field in the blocks from LINK on leaves the registers before them. -/
theorem State.reg_setFld_link {f : Fld} {v : Nat} (hf : 0x400000 ≤ f.addr) : (s.setFld f v).reg a = s.reg a :=
  State.reg_setFld_other (by omega) (by omega)

theorem State.reg_linkEnter_low (st : Nat) : (s.linkEnter p st).reg a = s.reg a := by
  rw [State.linkEnter, State.reg_setFld_link ha (show 0x400000 ≤ 0x400000 + 0x10000 * p + 8 by omega)]
  split
  · refine (iter_keeps (fun t : State => t.reg a) fun l t => ?_).trans (State.reg_modPort ..)
    exact State.reg_setFld_link ha (show 0x400000 ≤ 0x400000 + 0x10000 * p + 0x80 + 4 * l by omega)
  · exact State.reg_modPort ..

theorem State.reg_leaveActive_low : (s.leaveActive p).reg a = s.reg a := by
  rw [State.leaveActive, State.reg_modPort]
  split
  · rfl
  · rw [State.reg_setFld_link ha (show 0x400000 ≤ 0x400000 + 0x10000 * p + 8 by omega), State.reg_modPort]

/-- A fabric port goes to OFF where it is not (R439). -/
def State.portOff (s : State) (p : Nat) : State :=
  if s.fld (LINK_STAT_state p) = 0 then s
  else
    (((if s.fld (LINK_STAT_state p) = 5 then s.leaveActive p else s).linkEnter p 0).setFld
      (LINK_STAT_retraining p) 0).setFld (LINK_STAT_lanes p) 0

theorem State.reg_portOff_low : (s.portOff p).reg a = s.reg a := by
  have hstat : 0x400000 ≤ 0x400000 + 0x10000 * p + 8 := by omega
  unfold State.portOff
  split
  · rfl
  · rw [State.reg_setFld_link ha hstat, State.reg_setFld_link ha hstat, State.reg_linkEnter_low ha]
    split
    · exact State.reg_leaveActive_low ha
    · rfl

theorem State.reg_portsOff_low (n : Nat) : (iter n (fun p t => t.portOff p) s).reg a = s.reg a :=
  iter_keeps (fun t : State => t.reg a) fun _ _ => State.reg_portOff_low ha

end

/-! ### The main switch opens (R439) -/

/-- The domains and the switch, before the fabric ports follow. -/
def State.switchOpen (s : State) : State := (s.domsDown (List.range 22)).setFld PWR_STAT_main 0

theorem State.mainOpen_eq : s.mainOpen =
    (iter 31 (fun p t => t.portOff p) s.switchOpen).modPwr fun p => { p with tripped := true, bring := [] } := rfl

theorem State.fld_mainOpen_low {g : Fld} (hg : g.lo + g.width ≤ 32) (ha : g.addr < 0x400000) :
    s.mainOpen.fld g = s.switchOpen.fld g := by
  rw [State.mainOpen_eq, State.fld_modPwr, State.fld_word hg, State.fld_word hg, State.reg_portsOff_low ha]

/-- With the main switch open domains 0 to 21 are down (R441). -/
theorem State.domUp_mainOpen (h : Good q s) {j : Nat} (hj : j < 22) : s.mainOpen.domUp j = false := by
  have hopen : s.mainOpen.domUp j = (s.domsDown (List.range 22)).domUp j := by
    rw [State.domUp_eq_testBit, State.fld_mainOpen_low (by decide) (by decide), State.switchOpen,
      State.fld_setFld_other (by decide) (by decide) (by decide), State.domUp_eq_testBit]
  rw [hopen, State.domUp_domsDown h (by omega), decide_eq_false (not_not_intro (List.mem_range.2 hj)), Bool.false_and]

theorem State.main_mainOpen (h : Good q s) : s.mainOpen.flag PWR_STAT_main = false := by
  rw [State.flag, State.fld_mainOpen_low (by decide) (by decide), State.switchOpen,
    State.fld_setFld_same h.domsDown.regs (by decide)]
  rfl

end Sys2Proof.Machine
end

section
/-! SUPPORT. Power-up, the input, the mating contact, the reset pin and the domains coming up (O52). -/

namespace Sys2Proof.Machine

theorem exec_powerUp (s : State) : exec .powerUp s = .next (if s.pwr.mate then s.powerUp 1 else s) := rfl

theorem exec_inputUndervoltage (s : State) :
    exec .inputUndervoltage s = .next (s.inputFail PWR_STAT_undervolt 0x9001) := rfl

theorem exec_inputOvervoltage (s : State) :
    exec .inputOvervoltage s = .next (s.inputFail PWR_STAT_overvolt 0x9002) := rfl

theorem exec_inputRecover (s : State) :
    exec .inputRecover s = .next (s.modPwr fun p => { p with inputBad := false }).supplyBack := rfl

theorem exec_mateOpen (s : State) : exec .mateOpen s =
    .next ((if s.pwr.opened then s else s.bothOpen).modPwr fun p => { p with mate := false }) := rfl

theorem exec_mateClose (s : State) :
    exec .mateClose s = .next (s.modPwr fun p => { p with mate := true }).supplyBack := rfl

theorem exec_overcurrentTrip (s : State) : exec .overcurrentTrip s = .next s.overcurrent := rfl

theorem exec_resetPin (s : State) : exec .resetPin s = .next s.resetPin := rfl

theorem exec_resetNRelease (s : State) : exec .resetNRelease s = .next s.resetRelease := rfl

theorem exec_domainPowerGood (s : State) : exec .domainPowerGood s = .next s.domainGood := rfl

theorem exec_domainPgTimeout (s : State) : exec .domainPgTimeout s = .next s.domainBad := rfl

section
variable {s u : State}

/-- The next state of a command, under another name. -/
theorem next_of_eq {i : Instr} {t : State} (hexec : exec i s = .next t) (h : t = u) : exec i s = .next u :=
  hexec.trans (congrArg _ h)

/-! ### The input and the switches (R438 to R440) -/

/-- Of the registers a power-up keeps the cause alone: the step is the one of reset. -/
theorem State.step_powerUp (cause : Nat) : (s.powerUp cause).fld BOOT_STAT_step = 1 := by
  have hreset : regReset BOOT_STAT = 1 := by decide
  have hreg : (s.powerUp cause).reg BOOT_STAT = regReset BOOT_STAT :=
    State.reg_setReg_other (show BOOT_STAT ≠ PWR_STAT by decide)
  rw [State.fld_word (by decide), show BOOT_STAT_step.addr = BOOT_STAT from rfl, hreg, hreset]
  rfl

theorem State.inputFail_closed {f : Fld} {code : Nat} (h : s.pwr.opened = false) : s.inputFail f code =
    (((s.setFld f 1).raise code 0 0 0).bothOpen).modPwr fun p => { p with inputBad := true } :=
  if_neg (Bool.eq_false_iff.1 h)

theorem State.inputFail_opened {f : Fld} {code : Nat} (h : s.pwr.opened = true) : s.inputFail f code =
    s.modPwr fun p => { p with inputBad := true } := if_pos h

/-- With the switches closed there is nothing to close. -/
theorem State.supplyBack_closed (h : u.pwr.opened = false) : u.supplyBack = u := if_neg (by simp [h])

/-- Both switches close again where the contact is closed and the input within its limits. -/
theorem State.supplyBack_opened (h : u.pwr.opened = true) : u.supplyBack =
    if u.pwr.mate = true ∧ u.pwr.inputBad = false then u.powerUp ((u.reg PWR_STAT).toNat % 32) else u := by
  rw [State.supplyBack, h]
  exact if_congr (by cases u.pwr.mate <;> cases u.pwr.inputBad <;> decide) rfl rfl

theorem State.supplyBack_good (h : u.pwr.opened = true) (hgood : u.pwr.inputBad = false) : u.supplyBack =
    if u.pwr.mate = true then u.powerUp ((u.reg PWR_STAT).toNat % 32) else u := by
  rw [State.supplyBack_opened h]
  exact if_congr (and_iff_left hgood) rfl rfl

theorem State.supplyBack_mated (h : u.pwr.opened = true) (hmate : u.pwr.mate = true) : u.supplyBack =
    if u.pwr.inputBad = true then u else u.powerUp ((u.reg PWR_STAT).toNat % 32) := by
  rw [State.supplyBack_opened h, hmate]
  cases u.pwr.inputBad <;> rfl

theorem State.mateOpen_closed (h : s.pwr.opened = false) : exec .mateOpen s =
    .next (s.bothOpen.modPwr fun p => { p with mate := false }) := by
  rw [exec_mateOpen, if_neg (Bool.eq_false_iff.1 h)]

theorem State.mateOpen_opened (h : s.pwr.opened = true) : exec .mateOpen s =
    .next (s.modPwr fun p => { p with mate := false }) := by rw [exec_mateOpen, if_pos h]

theorem State.overcurrent_closed (h : s.flag PWR_STAT_main = true) : s.overcurrent =
    ((s.setFld PWR_STAT_overcurrent 1).raise 0x9003 0 0 0).mainOpen := if_pos h

theorem State.overcurrent_opened (h : s.flag PWR_STAT_main = false) : s.overcurrent = s :=
  if_neg (Bool.eq_false_iff.1 h)

/-- After a trip the POWER step closes no switch (R439). -/
theorem State.beginStep_power_tripped (h : s.pwr.tripped = true) :
    s.beginStep 4 = s.modBoot fun b => { b with since := s.time.elapsed } := by
  simp [State.beginStep, h]

/-! ### The reset pin (R452) -/

theorem State.resetPin_ignored (h : s.alive = false ∨ s.fld BOOT_STAT_step = 1) : s.resetPin = s :=
  if_pos (by rcases h with h | h <;> simp [h])

theorem State.resetPin_resets (halive : s.alive = true) (hstep : s.fld BOOT_STAT_step ≠ 1) :
    s.resetPin = (s.modPwr fun p => { p with resetLow := true }).resetReq 2 := if_neg (by simp [halive, hstep])

theorem State.resetRelease_go (hwait : s.boot.goWait = true) (hstep : s.fld BOOT_STAT_step = 2) :
    s.resetRelease = (s.modPwr fun p => { p with resetLow := false }).startVerify := if_pos (by simp [hwait, hstep])

theorem State.resetRelease_free (h : s.boot.goWait = false ∨ s.fld BOOT_STAT_step ≠ 2) :
    s.resetRelease = s.modPwr fun p => { p with resetLow := false } :=
  if_neg (by rcases h with h | h <;> simp [h])

/-! ### The domains come up in their order (R441, R442, R444) -/

theorem State.mem_powerOrder (j : Nat) : j ∈ s.powerOrder ↔ j < 22 ∧ ¬ (j = 18 ∧ s.flag PWR_DOM_OFF_global = true)
    ∧ ¬ (j = 21 ∧ s.flag PWR_DOM_OFF_ddr = true) := by
  have hall : j ∈ [16, 19, 20, 21, 17, 18] ++ List.range 16 ↔ j < 22 := by
    simp only [List.mem_append, List.mem_cons, List.not_mem_nil, or_false, List.mem_range]
    omega
  rw [State.powerOrder, List.mem_filter, hall]
  simp [imp_iff_not_or]

theorem State.nodup_powerOrder : s.powerOrder.Nodup := List.Nodup.filter _ (by decide)

theorem State.domainGood_idle (h : s.pwr.bring = []) : s.domainGood = s := by
  simp [State.domainGood, State.powerGood, h]

theorem State.domainBad_idle (h : s.pwr.bring = []) : s.domainBad = s := by
  simp [State.domainBad, State.pgTimeout, h]

section
variable {j : Nat} {l : List Nat} (hbring : s.pwr.bring = j :: l)
include hbring

/-- A domain reports power good: a bank's governor starts, and the next domain is enabled. -/
theorem State.powerGood_head : s.powerGood =
    (if j < 16 then (s.setDom j true).startBank j else s.setDom j true).bringUp l := by
  rw [State.powerGood, hbring]

theorem State.domainGood_other (hj : j ≠ 16) : s.domainGood =
    (if j < 16 then (s.setDom j true).startBank j else s.setDom j true).bringUp l := by
  rw [State.domainGood, State.powerGood_head hbring, hbring]
  exact if_neg (by simpa using hj)

/-- With the fabric die what the cartouche owes is recorded (R429). -/
theorem State.domainGood_fabric (hj : j = 16) : s.domainGood =
    ((s.cart.owed.foldl (fun t e => t.raise e.1 unitCart 0 e.2) ((s.setDom 16 true).bringUp l)).modCart fun c =>
      { c with owed := [] }) := by
  subst hj
  have hcart : ((s.setDom 16 true).bringUp l).cart = s.cart := by
    simp [State.bringUp, State.setDom]
  rw [State.domainGood, State.powerGood_head hbring, hbring]
  refine (if_pos (beq_self_eq_true (some 16))).trans ?_
  rw [if_neg (by decide), hcart]

/-- The domain enabled has not reported within its 3 ms. -/
def State.pgLate (s : State) (j : Nat) : State :=
  let t := s.toElapsed (s.pwr.bringAt + 3840000)
  ((t.setFld PWR_DOM_FAIL_fail (t.fld PWR_DOM_FAIL_fail ||| 2 ^ j)).raise 0x9010 0 0 j).modPwr fun p =>
    { p with bring := [] }

theorem State.domainBad_head : s.domainBad =
    if (s.pgLate j).fld BOOT_STAT_step = 4 then ((s.pgLate j).raiseBoot 0x8040 4).stepFail else s.pgLate j := by
  have hlate : s.pgTimeout = s.pgLate j := by
    rw [State.pgTimeout, hbring]
    rfl
  rw [State.domainBad, hlate, hbring]
  generalize s.pgLate j = t
  simp

end
end

/-- Settles O52: the switches and the reset pin are read off their conditions, the opening of the main switch off what it
leaves of the domains' register, and the domains off the list of those to be enabled. -/
theorem supplyResetPinAndPowerDomains : Obligations.SupplyResetPinAndPowerDomains := by
  intro s
  refine ⟨exec_powerUp s, fun cause => ⟨State.step_powerUp cause, rfl, rfl, rfl⟩, fun h => ?_, fun h => ?_,
    fun h => next_of_eq (exec_overcurrentTrip s) (State.overcurrent_closed h),
    fun h => next_of_eq (exec_overcurrentTrip s) (State.overcurrent_opened h),
    fun hs => ⟨fun j hj => State.domUp_mainOpen (Good.of_sound hs) hj, State.main_mainOpen (Good.of_sound hs)⟩, rfl,
    State.beginStep_power_tripped, fun h => next_of_eq (exec_resetPin s) (State.resetPin_ignored h),
    fun halive hstep => next_of_eq (exec_resetPin s) (State.resetPin_resets halive hstep),
    ⟨fun hwait hstep => next_of_eq (exec_resetNRelease s) (State.resetRelease_go hwait hstep),
      fun h => next_of_eq (exec_resetNRelease s) (State.resetRelease_free h)⟩,
    State.mem_powerOrder, State.nodup_powerOrder,
    fun h => ⟨next_of_eq (exec_domainPowerGood s) (State.domainGood_idle h),
      next_of_eq (exec_domainPgTimeout s) (State.domainBad_idle h)⟩, fun j l hbring => ?_⟩
  · exact ⟨next_of_eq (exec_inputUndervoltage s) (State.inputFail_closed h),
      next_of_eq (exec_inputOvervoltage s) (State.inputFail_closed h), State.mateOpen_closed h,
      next_of_eq (exec_inputRecover s) (State.supplyBack_closed h),
      next_of_eq (exec_mateClose s) (State.supplyBack_closed h)⟩
  · exact ⟨next_of_eq (exec_inputUndervoltage s) (State.inputFail_opened h),
      next_of_eq (exec_inputOvervoltage s) (State.inputFail_opened h), State.mateOpen_opened h,
      next_of_eq (exec_inputRecover s) (State.supplyBack_good h rfl),
      next_of_eq (exec_mateClose s) (State.supplyBack_mated h rfl)⟩
  · intro on up
    refine ⟨fun hj => next_of_eq (exec_domainPowerGood s) (State.domainGood_other hbring hj), fun hj => ?_, ?_⟩
    · have hup : up = (s.setDom 16 true).bringUp l := by
        subst hj
        exact congrArg (fun t : State => t.bringUp l) (if_neg (by decide))
      rw [exec_domainPowerGood, State.domainGood_fabric hbring hj, hup]
    · intro t f
      rw [exec_domainPgTimeout, State.domainBad_head hbring]
      exact ⟨fun h => congrArg _ (if_neg h), fun h => congrArg _ (if_pos h)⟩

end Sys2Proof.Machine
end

section
/-! SUPPORT. The loader's descriptors, responses and attempts (O35). -/

namespace Sys2Proof.Machine

theorem exec_loadDescriptorBegin (ecc : Ecc) (s : State) :
    exec (.loadDescriptorBegin ecc) s = .next (s.loadBegin ecc) := rfl

theorem exec_loadResponse (k : Fin 64) (o : BitVec 32) (ecc : Ecc) (s : State) :
    exec (.loadResponse k o ecc) s = .next (s.loadResponse k o.toNat ecc) := rfl

theorem exec_loadAttemptTimeout (k : Fin 64) (s : State) :
    exec (.loadAttemptTimeout k) s = .next (s.loadTimeout k) := rfl

section
variable {s t : State} {k : Nat} {ecc : Ecc}

/-! ### The lane a descriptor takes (R327, R328) -/

/-- The first free lane. -/
def State.laneFree (s : State) : Option Nat := (List.range 64).find? fun k => (s.lane k).isNone

theorem State.laneFree_none (h : ∀ k < 64, s.lane k ≠ none) : s.laneFree = none :=
  List.find?_eq_none.2 fun k hk hfree => h k (List.mem_range.1 hk) (Option.isNone_iff_eq_none.1 hfree)

theorem State.laneFree_some (hk : k < 64) (hfree : s.lane k = none) (hbusy : ∀ j < k, s.lane j ≠ none) :
    s.laneFree = some k :=
  List.find?_range_eq_some.2 ⟨Option.isNone_iff_eq_none.2 hfree, List.mem_range.2 hk, fun j hj => by
    simpa using Option.isSome_iff_ne_none.2 (hbusy j hj)⟩

theorem State.loadBegin_full (h : s.laneFree = none) : s.loadBegin ecc = s := by
  rw [State.laneFree] at h
  rw [State.loadBegin, h]

/-- With the tail at the head no descriptor waits. -/
theorem State.loadBegin_empty (h : s.fld MEM_LOAD_TAIL_tail = s.fld MEM_LOAD_HEAD_head) : s.loadBegin ecc = s := by
  rw [State.loadBegin]
  split
  · rfl
  · exact if_pos h

/-- A descriptor fetched is refused, or takes the lane. -/
def State.loadTake (u : State) (k head : Nat) (d : List Byte) : State :=
  if u.loadBad d then (u.raise 0x6052 unitLoader (ldTag d) 0).shardFault (ldTag d) 1 0 0
  else (u.setLane k (some { num := head, desc := d, since := u.time.elapsed })).loadSend k

theorem State.loadBegin_fetched {d : List Byte} (hlane : s.laneFree = some k)
    (htail : s.fld MEM_LOAD_TAIL_tail ≠ s.fld MEM_LOAD_HEAD_head)
    (hfetch : s.fetch .loadRing (s.fld MEM_LOAD_RING_base * 64
      + 64 * (s.fld MEM_LOAD_HEAD_head % ringSize (s.fld MEM_LOAD_RING_size) 65536)) 64 0 ecc = (t, .got (.data d))) :
    s.loadBegin ecc =
      (t.setFld MEM_LOAD_HEAD_head (s.fld MEM_LOAD_HEAD_head + 1)).loadTake k (s.fld MEM_LOAD_HEAD_head) d := by
  rw [State.laneFree] at hlane
  simp only [State.loadBegin, hlane, if_neg htail, hfetch]
  rfl

/-! ### Responses (R331, R332) -/

section
variable {x : LoadSlot} {off : Nat}

theorem State.loadResponse_idle (h : s.lane k = none) : s.loadResponse k off ecc = s := by
  rw [State.loadResponse, h]

theorem State.loadTimeout_idle (h : s.lane k = none) : s.loadTimeout k = s := by rw [State.loadTimeout, h]

theorem State.loadTimeout_busy (h : s.lane k = some x) : s.loadTimeout k =
    (s.toElapsed (x.since + ringSize (s.fld MEM_LOAD_CFG_timeout) 65536 * 1280000)).loadFail k 1 := by
  rw [State.loadTimeout, h]

section
variable (hlane : s.lane k = some x)
include hlane

theorem State.loadResponse_ignored
    (h : x.flight.contains off = false ∨ s.loadAnswer k x.num off x.attempt = none) : s.loadResponse k off ecc = s := by
  rw [State.loadResponse, hlane]
  rcases h with h | h
  · simp only [h]
    rfl
  · simp only [h, ite_self]

variable (hflight : x.flight.contains off = true)
include hflight

theorem State.loadResponse_noData (h : s.loadAnswer k x.num off x.attempt = some (none, t)) :
    s.loadResponse k off ecc = t.loadFail k 2 := by
  simp only [State.loadResponse, hlane, hflight, h]
  rfl

variable {bs : List Byte} (h : s.loadAnswer k x.num off x.attempt = some (some bs, t))
include h

theorem State.loadResponse_length (hlen : bs.length ≠ 4096) : s.loadResponse k off ecc =
    (t.raise 0x6053 unitLoader (ldTag x.desc) (loadAux x.attempt 3)).loadFail k 3 := by
  simp only [State.loadResponse, hlane, hflight, h, if_pos hlen]
  rfl

/-- The unit is stored and absorbed, further reads are sent, and the last one is followed by the digest's check. -/
theorem State.loadResponse_stored {y : LoadSlot} (hlen : bs.length = 4096)
    (hy : { x with flight := x.flight.filter (· != off), got := smSet (fun _ => []) x.got off bs } = y) :
    s.loadResponse k off ecc =
      ((((t.memEcc (ldDst x.desc + off) 4096 (ldTag x.desc) ecc).memPut (ldDst x.desc + off) (ldTag x.desc) bs).setLane k
        (some y)).loadSend k).loadCheck k y := by
  subst hy
  simp only [State.loadResponse, hlane, hflight, h, if_neg (not_not_intro hlen)]
  rfl

end

/-! ### Attempts (R333, R341, R342) -/

/-- What a failed attempt leaves: its record, and nothing outstanding. -/
def State.loadEnded (s : State) (k reason : Nat) (x : LoadSlot) : State :=
  (s.raise 0x6050 unitLoader (ldTag x.desc) (loadAux x.attempt reason)).loadAbandon k

theorem State.loadFail_busy {reason : Nat} {u : State} (hlane : s.lane k = some x)
    (hu : s.loadEnded k reason x = u) : s.loadFail k reason =
      if x.attempt < 3 then
        ((u.setLane k (some { num := x.num, desc := x.desc, attempt := x.attempt + 1, since := u.time.elapsed })).count
          MEM_LOAD_STAT_retries 1).loadSend k
      else (u.setLane k none).shardFault (ldTag x.desc) 2 3 reason := by
  subst hu
  rw [State.loadFail, hlane]
  rfl

end
end

/-- Settles O35: the lane is the first free one, a response's branch follows its answer, and a failure's the attempts
made. -/
theorem loaderDescriptorsAndAttempts : Obligations.LoaderDescriptorsAndAttempts := by
  intro s ecc
  refine ⟨fun h => ?_, fun k hk hfree hbusy htail => ?_, fun k o => ⟨fun h => ?_, fun x hx => ⟨fun h => ?_,
    fun hflight => ⟨fun t h => ?_, fun t bs h => ⟨fun hlen => ?_, fun hlen => ?_⟩⟩, ?_⟩⟩, fun k reason x hx => ?_⟩
  · exact next_of_eq (exec_loadDescriptorBegin ecc s)
      (h.elim (fun hbusy => State.loadBegin_full (State.laneFree_none hbusy)) State.loadBegin_empty)
  · intro head a t d hfetch u
    have htake : s.loadBegin ecc = u.loadTake k head d :=
      State.loadBegin_fetched (State.laneFree_some hk hfree hbusy) htail hfetch
    exact ⟨fun hbad => next_of_eq (exec_loadDescriptorBegin ecc s) (htake.trans (if_pos hbad)),
      fun hgood => next_of_eq (exec_loadDescriptorBegin ecc s) (htake.trans (if_neg (Bool.eq_false_iff.1 hgood)))⟩
  · exact ⟨next_of_eq (exec_loadResponse k o ecc s) (State.loadResponse_idle h),
      next_of_eq (exec_loadAttemptTimeout k s) (State.loadTimeout_idle h)⟩
  · exact next_of_eq (exec_loadResponse k o ecc s) (State.loadResponse_ignored hx h)
  · exact next_of_eq (exec_loadResponse k o ecc s) (State.loadResponse_noData hx hflight h)
  · exact next_of_eq (exec_loadResponse k o ecc s) (State.loadResponse_length hx hflight h hlen)
  · exact next_of_eq (exec_loadResponse k o ecc s) (State.loadResponse_stored hx hflight h hlen rfl)
  · exact next_of_eq (exec_loadAttemptTimeout k s) (State.loadTimeout_busy hx)
  · have hfail := State.loadFail_busy (reason := reason) hx rfl
    exact ⟨fun h => hfail.trans (if_pos h), fun h => hfail.trans (if_neg (Nat.not_lt.2 h))⟩

end Sys2Proof.Machine
end

section
/-! SUPPORT. Writes of the Wiora Link's registers (O23). -/

namespace Sys2Proof.Machine

/-- A field of WLINK_CTL is written; with the value it holds it retrains the port once the access is answered. -/
def State.wCtlFld (s : State) (ag : Agent) (p : Nat) (f : Fld) (on : Bool) : State :=
  let t := s.accessFld ag f (b2n on)
  if s.takesWrite ag f.addr && s.flag f == on then t.wRetrain p true else t

theorem exec_wioraWidthMax (ag : Agent) (p : WPort) (on : Bool) (s : State) :
    exec (.wioraWidthMax ag p on) s = .next (s.wCtlFld ag p (WLINK_CTL_width_max p) on) := rfl

theorem exec_wioraHalfRate (ag : Agent) (p : WPort) (on : Bool) (s : State) :
    exec (.wioraHalfRate ag p on) s = .next (s.wCtlFld ag p (WLINK_CTL_half_rate p) on) := rfl

theorem exec_dwinWrite (ag : Agent) (p : WPort) (k : Fin 8) (v : Word) (s : State) :
    exec (.dwinWrite ag p k v) s = .next (s.access ag (WLINK_DWIN p k + 12) 4 v.toNat) := rfl

theorem exec_evrWrite (ag : Agent) (p : WPort) (v : DWord) (s : State) :
    exec (.evrWrite ag p v) s = .next (s.access ag (WLINK_EVR p) 8 v.toNat) := rfl

theorem exec_bqCfgWrite (ag : Agent) (v : Word) (s : State) :
    exec (.bqCfgWrite ag v) s = .next (s.access ag WLINK_BQ_CFG 4 v.toNat) := rfl

/-! ### The Wiora ports in the register map (R456) -/

theorem regLoc_wlinkCtl : ∀ p : WPort, regLoc (WLINK_CTL p) = some ⟨⟨0xd, 0, 2, 0, 1⟩, 0, 1⟩ := by decide

theorem regLoc_wlinkCfg : ∀ p : WPort, regLoc (WLINK_CFG p) = some ⟨⟨0x3fff, 0, 0, 0, 0x64⟩, 0, 1⟩ := by decide

theorem regLoc_dwin : ∀ (p : WPort) (k : Fin 8), regLoc (WLINK_DWIN p k + 12) = some ⟨⟨0xffff, 0, 0, 0, 0⟩, 3, 4⟩ := by
  decide

theorem regLoc_evr : ∀ p : WPort, regLoc (WLINK_EVR p) = some ⟨⟨0xffffffc1, 0, 0, 0, 0⟩, 0, 2⟩ := by decide

/-! ### The operation of a write -/

section
variable {s u : State} {ag : Agent} {g v : Nat}

/-- A register of the Wiora Link is written by its rules. -/
theorem State.write32_wlink {a : Nat} (hlo : 0x3400000 ≤ a) (hhi : a < 0x3600000) :
    s.write32 g a v = s.wlinkWrite a v := by
  have hsheet : ¬ inSheetBlock a = true := by
    simp only [inSheetBlock, Bool.or_eq_true, Bool.and_eq_true, decide_eq_true_eq]
    omega
  rw [State.write32]
  iterate 6 rw [if_neg (by omega)]
  rw [if_neg hsheet, if_neg (by omega), if_neg (by omega), if_pos hhi]

section
variable {p : WPort}

theorem State.access_wlinkCtl (hw : Writable s ag (WLINK_CTL p) 4) :
    s.access ag (WLINK_CTL p) 4 v = (s.wCtl p (s.reg (WLINK_CTL p)).toNat v).answer 0 [] := by
  have hport : (WLINK_CTL p - 0x3400000) / 0x10000 = p := by rw [WLINK_CTL]; omega
  have hbelow : ¬ WLINK_BQ_CFG ≤ WLINK_CTL p := by rw [WLINK_BQ_CFG, WLINK_CTL]; omega
  have hown : WLINK_CTL p ≠ GEN_OWN_CMD := by rw [WLINK_CTL, GEN_OWN_CMD]; omega
  rw [State.access_reg hown (regLoc_wlinkCtl p) hw,
    State.write32_wlink (by rw [WLINK_CTL]; omega) (by rw [WLINK_CTL]; omega), State.wlinkWrite, if_neg hbelow, hport,
    if_pos rfl]

theorem State.access_wlinkCfg (hw : Writable s ag (WLINK_CFG p) 4) :
    s.access ag (WLINK_CFG p) 4 v = (s.wCfg p v).answer 0 [] := by
  have hport : (WLINK_CFG p - 0x3400000) / 0x10000 = p := by rw [WLINK_CFG]; omega
  have hbelow : ¬ WLINK_BQ_CFG ≤ WLINK_CFG p := by rw [WLINK_BQ_CFG, WLINK_CFG]; omega
  have hctl : WLINK_CFG p ≠ WLINK_CTL p := by rw [WLINK_CFG, WLINK_CTL]; omega
  have hown : WLINK_CFG p ≠ GEN_OWN_CMD := by rw [WLINK_CFG, GEN_OWN_CMD]; omega
  rw [State.access_reg hown (regLoc_wlinkCfg p) hw,
    State.write32_wlink (by rw [WLINK_CFG]; omega) (by rw [WLINK_CFG]; omega), State.wlinkWrite, if_neg hbelow, hport,
    if_neg hctl, if_pos rfl]

/-- The window that a write of word 3 completes: the words kept for the agent below it. -/
def State.dwinNew (s : State) (g p k v : Nat) : Nat :=
  s.lowFor g (WLINK_DWIN p k) + s.lowFor g (WLINK_DWIN p k + 4) * 2 ^ 32
    + s.lowFor g (WLINK_DWIN p k + 8) * 2 ^ 64 + v * 2 ^ 96

section
variable {k : Fin 8} {e : Nat}

/-- The four words of a window are committed, and those kept for the agents go once they are taken. -/
theorem State.write128_dwin (he : s.dwinNew g p k v = e) : s.write128 g (WLINK_DWIN p k) v =
    if s.dwinBad p k e then s.dwinCommit p k e
    else (s.dwinCommit p k e).dropLow [WLINK_DWIN p k, WLINK_DWIN p k + 4, WLINK_DWIN p k + 8] := by
  have hwindow : ¬ WLINK_DWIN p k < 0x600000 := by rw [WLINK_DWIN]; omega
  have hport : (WLINK_DWIN p k - 0x3400000) / 0x10000 = p := by rw [WLINK_DWIN]; omega
  have hindex : (WLINK_DWIN p k - WLINK_DWIN p 0) / 16 = k := by
    have hrow : WLINK_DWIN p k = WLINK_DWIN p 0 + 16 * k := rfl
    omega
  rw [State.dwinNew] at he
  simp only [State.write128, if_neg hwindow, hport, hindex, he]

variable (hw : Writable s ag (WLINK_DWIN p k + 12) 4) (he : s.dwinNew (agentNo ag) p k v = e)
include hw he

theorem State.access_dwin : s.access ag (WLINK_DWIN p k + 12) 4 v =
    (if s.dwinBad p k e then s.dwinCommit p k e
      else (s.dwinCommit p k e).dropLow [WLINK_DWIN p k, WLINK_DWIN p k + 4, WLINK_DWIN p k + 8]).answer 0 [] := by
  have hown : WLINK_DWIN p k + 12 ≠ GEN_OWN_CMD := by rw [WLINK_DWIN, GEN_OWN_CMD]; omega
  rw [State.access_word hw hown, State.writeWord_last (regLoc_dwin p k), Nat.add_sub_cancel, State.write128_dwin he]

theorem State.access_dwin_bad (h : s.dwinBad p k e = true) :
    s.access ag (WLINK_DWIN p k + 12) 4 v = (s.raise 0x7023 (unitWiora p) 0 p).answer 0 [] := by
  rw [State.access_dwin hw he, if_pos h, State.dwinCommit, if_pos h]

theorem State.access_dwin_good (h : s.dwinBad p k e = false) : s.access ag (WLINK_DWIN p k + 12) 4 v =
    (((s.setReg64 (WLINK_DWIN p k) (e &&& 0x0000FFFFFFFF0001)).setReg64 (WLINK_DWIN p k + 8) (bits e 64 48)).dropLow
      [WLINK_DWIN p k, WLINK_DWIN p k + 4, WLINK_DWIN p k + 8]).answer 0 [] := by
  have hgood : ¬ s.dwinBad p k e = true := Bool.eq_false_iff.1 h
  rw [State.access_dwin hw he, if_neg hgood, State.dwinCommit, if_neg hgood]

end

theorem State.write64_evr : s.write64 g (WLINK_EVR p) v = s.evrWrite p v := by
  have hevr : WLINK_EVR p = WLINK_EVR 0 ∨ WLINK_EVR p = WLINK_EVR 1 := by simp only [WLINK_EVR]; omega
  have hport : (WLINK_EVR p - WLINK_EVR 0) / 0x10000 = p := by simp only [WLINK_EVR]; omega
  have hpace : ¬ (WLINK_EVR p = WLINK_PACE 0 ∨ WLINK_EVR p = WLINK_PACE 1) := by
    simp only [WLINK_EVR, WLINK_PACE]
    omega
  have hjob : WLINK_EVR p ≠ TIME_JOB_START := by rw [WLINK_EVR, TIME_JOB_START]; omega
  have hstage : WLINK_EVR p ≠ MEM_STAGE_RING := by rw [WLINK_EVR, MEM_STAGE_RING]; omega
  have hload : WLINK_EVR p ≠ MEM_LOAD_RING := by rw [WLINK_EVR, MEM_LOAD_RING]; omega
  rw [State.write64, if_neg hjob, if_neg hstage, if_neg hload, if_neg hpace, if_pos hevr, hport]

theorem State.refuses64_evr : s.refuses64 (WLINK_EVR p) v = false := by
  have htrace : WLINK_EVR p ≠ FAULT_TRACE_RING := by rw [WLINK_EVR, FAULT_TRACE_RING]; omega
  have hstage : WLINK_EVR p ≠ MEM_STAGE_RING := by rw [WLINK_EVR, MEM_STAGE_RING]; omega
  have hload : WLINK_EVR p ≠ MEM_LOAD_RING := by rw [WLINK_EVR, MEM_LOAD_RING]; omega
  rw [State.refuses64, if_neg htrace, if_neg hstage, if_neg hload]

theorem State.access_evr (hw : Writable s ag (WLINK_EVR p) 8) :
    s.access ag (WLINK_EVR p) 8 v = ((s.evrWrite p v).dropLow [WLINK_EVR p]).answer 0 [] := by
  have hown : WLINK_EVR p ≠ GEN_OWN_CMD := by rw [WLINK_EVR, GEN_OWN_CMD]; omega
  rw [State.access_double hw hown, State.writeDouble_two (regLoc_evr p), State.refuses64_evr,
    if_neg Bool.false_ne_true, State.write64_evr]

end

theorem State.access_bqCfg (hw : Writable s ag WLINK_BQ_CFG 4) : s.access ag WLINK_BQ_CFG 4 v =
    ((s.plainWrite WLINK_BQ_CFG v).setFld WLINK_BQ_STAT_stopped 0).answer 0 [] := by
  rw [State.access_reg (by decide) rfl hw, State.write32_wlink (by decide) (by decide), State.wlinkWrite,
    if_pos (Nat.le_refl _), if_pos rfl]

/-! ### WLINK_CTL (R345, R352, R377) -/

/-- What WLINK_CTL keeps of a value: bits 0, 2 and 3. -/
def wCtlWord (v : Nat) : Word := BitVec.ofNat 32 (v &&& 0xD)

/-- A value written for one bit's field leaves the register's other fields of one bit. -/
theorem State.bit_withBits_flag {f : Fld} {lo : Nat} (hw : f.width = 1) (hlo : f.lo < 32) (h : f.lo ≠ lo) :
    bit (s.withBits f.addr lo 1 v) f.lo = s.flag f :=
  (State.bit_withBits_other h).trans (State.flag_eq_bit hw hlo).symm

section
variable {p : Nat}

section
variable (hu : s.setReg (WLINK_CTL p) (wCtlWord v) = u)
include hu

/-- The write's rules in their order, with the port's state and its flags as they stood before. -/
theorem State.wCtl_eq : s.wCtl p (s.reg (WLINK_CTL p)).toNat v =
    if bit v 0 = false then ((if s.wactive p then u.wLeave p else u).setFld (WLINK_STAT_width p) 0).wEnter p 0 false
    else if s.flag (WLINK_CTL_enable p) = false then u.wEnter p 0 false
    else if bit v 1 = true ∨ s.flag (WLINK_CTL_width_max p) ≠ bit v 2 ∨ s.flag (WLINK_CTL_half_rate p) ≠ bit v 3 then
      u.wRetrain p true
    else u := by
  subst hu
  have hctl : WLINK_CTL p = 0x3400000 + 0x10000 * p := rfl
  have hstat : (WLINK_STAT_state p).addr = 0x3400000 + 0x10000 * p + 8 := rfl
  have hactive : (s.setReg (WLINK_CTL p) (wCtlWord v)).wactive p = s.wactive p := by
    rw [State.wactive, State.wactive, State.fld_setReg_other (g := WLINK_STAT_state p) (show 3 ≤ 32 by decide) (by omega)]
  have henable : bit (s.reg (WLINK_CTL p)).toNat 0 = s.flag (WLINK_CTL_enable p) :=
    (State.flag_eq_bit (f := WLINK_CTL_enable p) rfl (show 0 < 32 by decide)).symm
  have hwidth : bit (s.reg (WLINK_CTL p)).toNat 2 = s.flag (WLINK_CTL_width_max p) :=
    (State.flag_eq_bit (f := WLINK_CTL_width_max p) rfl (show 2 < 32 by decide)).symm
  have hrate : bit (s.reg (WLINK_CTL p)).toNat 3 = s.flag (WLINK_CTL_half_rate p) :=
    (State.flag_eq_bit (f := WLINK_CTL_half_rate p) rfl (show 3 < 32 by decide)).symm
  have hword : BitVec.ofNat 32 (v &&& 0xD) = wCtlWord v := rfl
  simp only [State.wCtl, hword, hactive, henable, hwidth, hrate, Bool.not_eq_true', Bool.or_eq_true, bne_iff_ne,
    or_assoc]

theorem State.wCtl_off (h : bit v 0 = false) : s.wCtl p (s.reg (WLINK_CTL p)).toNat v =
    ((if s.wactive p then u.wLeave p else u).setFld (WLINK_STAT_width p) 0).wEnter p 0 false :=
  (State.wCtl_eq hu).trans (if_pos h)

section
variable (hon : bit v 0 = true)
include hon

theorem State.wCtl_start (hoff : s.flag (WLINK_CTL_enable p) = false) :
    s.wCtl p (s.reg (WLINK_CTL p)).toNat v = u.wEnter p 0 false := by
  rw [State.wCtl_eq hu, if_neg (ne_false_of_eq_true hon), if_pos hoff]

variable (henable : s.flag (WLINK_CTL_enable p) = true)
include henable

theorem State.wCtl_retrain (h : bit v 1 = true) :
    s.wCtl p (s.reg (WLINK_CTL p)).toNat v = u.wRetrain p true := by
  rw [State.wCtl_eq hu, if_neg (ne_false_of_eq_true hon), if_neg (ne_false_of_eq_true henable), if_pos (.inl h)]

/-- Without the retrain bit a change of width_max or half_rate retrains. -/
theorem State.wCtl_change (hretrain : bit v 1 = false) : s.wCtl p (s.reg (WLINK_CTL p)).toNat v =
    if s.flag (WLINK_CTL_width_max p) = bit v 2 ∧ s.flag (WLINK_CTL_half_rate p) = bit v 3 then u
    else u.wRetrain p true := by
  rw [State.wCtl_eq hu, if_neg (ne_false_of_eq_true hon), if_neg (ne_false_of_eq_true henable), hretrain,
    ← ite_not]
  exact if_congr (by simp) rfl rfl

end
end

/-- With the port enabled and its retrain bit clear, width_max and half_rate retrain it where they change. -/
theorem State.wCtl_field {f : Fld} {on : Bool} (hf : f = WLINK_CTL_width_max p ∨ f = WLINK_CTL_half_rate p)
    (henable : s.flag (WLINK_CTL_enable p) = true) (hretrain : s.flag (WLINK_CTL_retrain p) = false)
    (hu : s.setReg (WLINK_CTL p) (wCtlWord (s.withBits (WLINK_CTL p) f.lo 1 (b2n on))) = u) :
    s.wCtl p (s.reg (WLINK_CTL p)).toNat (s.withBits (WLINK_CTL p) f.lo 1 (b2n on)) =
      if s.flag f = on then u else u.wRetrain p true := by
  have hlo : f.lo = 2 ∨ f.lo = 3 := hf.imp (congrArg Fld.lo) (congrArg Fld.lo)
  have hon : bit (s.withBits (WLINK_CTL p) f.lo 1 (b2n on)) 0 = true :=
    (State.bit_withBits_flag (f := WLINK_CTL_enable p) rfl (show 0 < 32 by decide) (show 0 ≠ f.lo by omega)).trans henable
  have hbit : bit (s.withBits (WLINK_CTL p) f.lo 1 (b2n on)) 1 = false :=
    (State.bit_withBits_flag (f := WLINK_CTL_retrain p) rfl (show 1 < 32 by decide) (show 1 ≠ f.lo by omega)).trans
      hretrain
  have hsame : bit (s.withBits (WLINK_CTL p) f.lo 1 (b2n on)) f.lo = on := State.bit_withBits_b2n ..
  rw [State.wCtl_change hu hon henable hbit]
  refine if_congr ?_ rfl rfl
  rcases hf with rfl | rfl
  · have hrate := State.bit_withBits_flag (s := s) (v := b2n on) (f := WLINK_CTL_half_rate p) rfl
      (show 3 < 32 by decide) (show 3 ≠ 2 by decide)
    exact ⟨fun h => h.1.trans hsame, fun h => ⟨h.trans hsame.symm, hrate.symm⟩⟩
  · have hwidth := State.bit_withBits_flag (s := s) (v := b2n on) (f := WLINK_CTL_width_max p) rfl
      (show 2 < 32 by decide) (show 2 ≠ 3 by decide)
    exact ⟨fun h => h.2.trans hsame, fun h => ⟨hwidth.symm, h.trans hsame.symm⟩⟩

end

/-- Width_max and half_rate retrain an enabled port whenever they are written. -/
theorem State.wCtlFld_enabled {p : WPort} {f : Fld} {on : Bool} (hw : Writable s ag (WLINK_CTL p) 4)
    (hf : f = WLINK_CTL_width_max p ∨ f = WLINK_CTL_half_rate p) (henable : s.flag (WLINK_CTL_enable p) = true)
    (hretrain : s.flag (WLINK_CTL_retrain p) = false)
    (hu : s.setReg (WLINK_CTL p) (wCtlWord (s.withBits (WLINK_CTL p) f.lo 1 (b2n on))) = u) :
    s.wCtlFld ag p f on =
      if s.flag f = on then (u.answer 0 []).wRetrain p true else (u.wRetrain p true).answer 0 [] := by
  have haddr : f.addr = WLINK_CTL p := hf.elim (congrArg Fld.addr) (congrArg Fld.addr)
  have hwidth : f.width = 1 := hf.elim (congrArg Fld.width) (congrArg Fld.width)
  have haccess : s.accessFld ag f (b2n on) = (if s.flag f = on then u else u.wRetrain p true).answer 0 [] := by
    rw [State.accessFld, haddr, hwidth, State.access_wlinkCtl hw, State.wCtl_field hf henable hretrain hu]
  simp only [State.wCtlFld, haccess, haddr, State.takesWrite_of_writable hw, Bool.true_and, beq_iff_eq]
  split <;> rfl

end

/-- Settles O23: a write that the module takes reaches the operation of its register; the bits written and those
WLINK_CTL holds decide its case. -/
theorem wioraRegisterWrites : Obligations.WioraRegisterWrites := by
  intro s ag p w
  refine ⟨fun hw => ?_, fun hw v => ⟨fun h => ?_, fun h => ?_⟩, fun k v hw => ?_, fun v hw => ?_, fun v hw => ?_⟩
  · have ha (v : Nat) := State.access_wlinkCtl (v := v) hw
    refine ⟨?_, fun hoff => ?_, fun hon => ⟨?_, fun hretrain on => ?_⟩⟩
    · exact next_answer (ha _) (State.wCtl_off rfl (State.bit_withBits_same ..))
    · exact next_answer (ha _) (State.wCtl_start rfl (State.bit_withBits_same ..) hoff)
    · have henable := State.bit_withBits_flag (s := s) (v := 1) (f := WLINK_CTL_enable p) rfl (show 0 < 32 by decide)
        (show 0 ≠ 1 by decide)
      exact next_answer (ha _) (State.wCtl_retrain rfl (henable.trans hon) hon (State.bit_withBits_same ..))
    · exact ⟨next_of_eq (exec_wioraWidthMax ag p on s) (State.wCtlFld_enabled hw (.inl rfl) hon hretrain rfl),
        next_of_eq (exec_wioraHalfRate ag p on s) (State.wCtlFld_enabled hw (.inr rfl) hon hretrain rfl)⟩
  · exact next_answer (State.access_wlinkCfg hw) (if_pos h)
  · exact next_answer (State.access_wlinkCfg hw) (if_neg (by omega))
  · exact ⟨fun h => next_of_eq (exec_dwinWrite ag p k v s) (State.access_dwin_bad hw rfl h),
      fun h => next_of_eq (exec_dwinWrite ag p k v s) (State.access_dwin_good hw rfl h)⟩
  · exact next_of_eq (exec_evrWrite ag p v s) (State.access_evr hw)
  · exact next_of_eq (exec_bqCfgWrite ag v s) (State.access_bqCfg hw)

end Sys2Proof.Machine
end

section
/-! SUPPORT. The training of the Wiora ports: what completes and expires, retrains and the flush (O57). -/

namespace Sys2Proof.Machine

theorem exec_wioraTrainDone (p : WPort) (r : WTrain) (s : State) :
    exec (.wioraTrainDone p r) s = .next (s.wTrained p r) := rfl

theorem exec_wioraStateTimeout (p : WPort) (s : State) :
    exec (.wioraStateTimeout p) s = .next (s.wStateTimeout p) := rfl

theorem exec_wioraLaneLoss (p : WPort) (lane : Fin 16) (s : State) :
    exec (.wioraLaneLoss p lane) s = .next (s.wRetrain p true) := rfl

theorem exec_wioraGraceExpire (p : WPort) (s : State) : exec (.wioraGraceExpire p) s = .next (s.wGrace p) := rfl

section
variable {s : State} {p : Nat}

/-! ### A port that may not train (R352, R441) -/

theorem State.wTrained_barred {r : WTrain} (h : s.wMay p = false) : s.wTrained p r = s := if_pos (by simp [h])

theorem State.wStateTimeout_barred (h : s.wMay p = false) : s.wStateTimeout p = s := if_pos (by simp [h])

/-! ### Completion (R345, R352) -/

section
variable {r : WTrain} (hmay : s.wMay p = true)
include hmay

/-- A port that may train looks at the result. -/
theorem State.not_barred : ¬ (!s.wMay p) = true := by simp [hmay]

theorem State.wTrained_detected (hst : s.fld (WLINK_STAT_state p) = 0) :
    s.wTrained p .detected = s.wEnter p 1 false := (if_neg (State.not_barred hmay)).trans (if_pos hst)

theorem State.wTrained_locked (hst : s.fld (WLINK_STAT_state p) = 2) :
    s.wTrained p .locked = s.wEnter p 3 (s.wport p).retrain := (if_neg (State.not_barred hmay)).trans (if_pos hst)

theorem State.wTrained_equalized {low high : Bool} {w : Nat} (hst : s.fld (WLINK_STAT_state p) = 1)
    (hw : wWidth (s.flag (WLINK_CTL_width_max p)) low high = w) : s.wTrained p (.equalized low high) =
      if w ≠ 0 then (s.setFld (WLINK_STAT_width p) w).wEnter p 2 (s.wport p).retrain else s := by
  subst hw
  exact (if_neg (State.not_barred hmay)).trans (if_congr (and_iff_right hst) rfl rfl)

theorem State.wTrained_initialised {identity : Word} {width : BitVec 2} {half fresh : Bool}
    {freed : Vector (BitVec 12) 4} {slots : BitVec 12} {expect : BitVec 10} (hst : s.fld (WLINK_STAT_state p) = 3) :
    s.wTrained p (.initialised identity width half fresh freed slots expect) =
      s.wInit p width.toNat half fresh identity.toNat (freed.toList.map (·.toNat)) slots.toNat expect.toNat :=
  (if_neg (State.not_barred hmay)).trans (if_pos hst)

end

/-! ### INIT (R251, R350 to R353) -/

section
variable {width identity frd expect w a : Nat} {half fresh slow : Bool} {fr : List Nat}
variable (hw : wCommon (s.fld (WLINK_STAT_width p)) width = w) (hslow : (half || s.flag (WLINK_CTL_half_rate p)) = slow)

include hw in
theorem State.wInit_apart (h : w = 0) : s.wInit p width half fresh identity fr frd expect = s := by
  subst hw
  exact if_pos h

/-- What a port whose peer's counts are in order does with the peer's expected number. -/
def State.wResume (s : State) (p w a identity frd : Nat) (slow : Bool) (fr : List Nat) : State :=
  let q := s.wport p
  let n := subMod 10 a q.acked
  if n ≤ subMod 10 (subMod 10 q.next 1) q.acked then
    (s.modWport p fun q => { q.takeInit identity fr frd with replay := q.replay.drop n, acked := a }).wActivate p w slow
  else (s.raise 0x7050 (unitWiora p) 0 p).wFlush p

include hw hslow

/-- With a lane in common a fresh port is ACTIVE, a fresh peer flushes the other, and else the counts are checked. -/
theorem State.wInit_eq (hlane : w ≠ 0) : s.wInit p width half fresh identity fr frd expect =
    if (s.wport p).fresh then (s.modWport p fun q => { q with peerId := identity }).wActivate p w slow
    else if fresh then ((s.wFlush p).modWport p fun q => { q with peerId := identity }).wActivate p w slow
    else if (List.range 4).any fun c => (s.wport p).countError c (fr.getD c 0) frd then s.wProto p
    else s.wResume p w (subMod 10 expect 1) identity frd slow fr := by
  subst hw hslow
  exact if_neg hlane

theorem State.wInit_fresh (hlane : w ≠ 0) (hfresh : (s.wport p).fresh = true) :
    s.wInit p width half fresh identity fr frd expect =
      (s.modWport p fun q => { q with peerId := identity }).wActivate p w slow :=
  (State.wInit_eq hw hslow hlane).trans (if_pos hfresh)

section
variable (hlane : w ≠ 0) (hold : (s.wport p).fresh = false)
include hlane hold

theorem State.wInit_peerFresh : s.wInit p width half true identity fr frd expect =
    ((s.wFlush p).modWport p fun q => { q with peerId := identity }).wActivate p w slow :=
  (State.wInit_eq hw hslow hlane).trans ((if_neg (Bool.eq_false_iff.1 hold)).trans (if_pos rfl))

theorem State.wInit_checked : s.wInit p width half false identity fr frd expect =
    if (List.range 4).any fun c => (s.wport p).countError c (fr.getD c 0) frd then s.wProto p
    else s.wResume p w (subMod 10 expect 1) identity frd slow fr :=
  (State.wInit_eq hw hslow hlane).trans ((if_neg (Bool.eq_false_iff.1 hold)).trans (if_neg Bool.false_ne_true))

end
end

/-- A class among the four is one below 4. -/
theorem any_range_four_iff {f : Nat → Bool} : (List.range 4).any f = true ↔ ∃ c : Fin 4, f c = true := by
  rw [List.any_eq_true]
  constructor
  · rintro ⟨c, hc, hf⟩
    exact ⟨⟨c, List.mem_range.1 hc⟩, hf⟩
  · rintro ⟨c, hf⟩
    exact ⟨c, List.mem_range.2 c.isLt, hf⟩

/-! ### The timers (R352) -/

section
variable (hmay : s.wMay p = true)
include hmay

/-- A training runs out: it is recorded where it was no retrain. -/
def WPortSt.runOut (q : WPortSt) (p : Nat) (t : State) : State :=
  if q.retrain then t.wEnter p 0 false else (t.raise 0x7051 (unitWiora p) 0 p).wEnter p 0 false

/-- The timer of a training state by the state. -/
theorem State.wStateTimeout_eq {st : Nat} {q : WPortSt} (hst : s.fld (WLINK_STAT_state p) = st) (hq : s.wport p = q) :
    s.wStateTimeout p =
      if st = 0 then (s.toElapsed (q.since + 1280000)).wEnter p 0 false
      else if st = 1 then q.runOut p (s.toElapsed (q.since + (if q.retrain then 30720 else 128000000)))
      else if st = 2 then q.runOut p (s.toElapsed (q.since + 12800))
      else if st = 3 then
        if q.tries < 3 then
          (((s.toElapsed (q.since + 2560)).modWport p fun q => { q with tries := q.tries + 1 }).count
            (WLINK_ERR_retrains p) 1).wEnter p 1 true
        else ((s.toElapsed (q.since + 2560)).modWport p fun q => { q with tries := 0 }).wEnter p 0 false
      else s := by
  subst hst hq
  exact if_neg (State.not_barred hmay)

end

/-! ### Retrains, the grace and the flush (R353) -/

theorem State.wRetrain_detect {own : Bool} (h : s.fld (WLINK_STAT_state p) = 0) : s.wRetrain p own = s := if_pos h

theorem State.wRetrain_training {own : Bool} (h0 : s.fld (WLINK_STAT_state p) ≠ 0)
    (h4 : s.fld (WLINK_STAT_state p) ≠ 4) :
    s.wRetrain p own = (s.count (WLINK_ERR_retrains p) 1).wEnter p 1 (s.wport p).retrain :=
  (if_neg h0).trans (if_neg (by simpa [State.wactive] using h4))

theorem State.wRetrain_active (h : s.fld (WLINK_STAT_state p) = 4) : s.wRetrain p true =
    (((s.modWport p fun q => q.putOp 2).count (WLINK_ERR_retrains p) 1).wLeave p).wEnter p 1 true :=
  (if_neg (by omega)).trans (if_pos (decide_eq_true h))

theorem State.wGrace_none (h : (s.wport p).graceAt = none) : s.wGrace p = s := by rw [State.wGrace, h]

theorem State.wGrace_ends {t : Nat} (h : (s.wport p).graceAt = some t) :
    s.wGrace p = (s.toElapsed t).wFlush p := by rw [State.wGrace, h]

end

/-- Settles O57: the completion and the timer of each training state, and the retrain by what the port is in. -/
theorem wioraPortsTrain : Obligations.WioraPortsTrain := by
  intro s p st q
  refine ⟨fun h => ⟨fun r => next_of_eq (exec_wioraTrainDone p r s) (State.wTrained_barred h),
      next_of_eq (exec_wioraStateTimeout p s) (State.wStateTimeout_barred h)⟩, fun hmay => ⟨fun hst =>
      next_of_eq (exec_wioraTrainDone p _ s) (State.wTrained_detected hmay hst), fun low high hst => ?_, fun hst =>
      next_of_eq (exec_wioraTrainDone p _ s) (State.wTrained_locked hmay hst), ?_⟩, fun hmay => ?_, fun lane => ?_,
    fun h => next_of_eq (exec_wioraGraceExpire p s) (State.wGrace_none h),
    fun t h => next_of_eq (exec_wioraGraceExpire p s) (State.wGrace_ends h)⟩
  · intro w
    have heq := State.wTrained_equalized (low := low) (high := high) (w := w) hmay hst rfl
    exact ⟨fun hw => next_of_eq (exec_wioraTrainDone p _ s) (heq.trans (if_neg (not_not_intro hw))),
      fun hw => next_of_eq (exec_wioraTrainDone p _ s) (heq.trans (if_pos hw))⟩
  · intro identity width half fresh freed slots expect hst w slow go known frh more a n
    have hinit : ∀ {t : State}, s.wInit p width.toNat half fresh identity.toNat frh slots.toNat expect.toNat = t →
        go = .next t := fun ht =>
      next_of_eq (exec_wioraTrainDone p _ s) ((State.wTrained_initialised hmay hst).trans ht)
    refine ⟨fun hw => hinit (State.wInit_apart rfl hw), fun hw hfresh => hinit (State.wInit_fresh rfl rfl hw hfresh),
      fun hw hold hpeer => hinit ?_, fun hw hold hpeer hmore => hinit ?_, fun hw hold hpeer hmore => ?_⟩
    · rw [hpeer]
      exact State.wInit_peerFresh rfl rfl hw hold
    · rw [hpeer]
      exact (State.wInit_checked rfl rfl hw hold).trans (if_pos (any_range_four_iff.2 hmore))
    · have hcheck : s.wInit p width.toNat half fresh identity.toNat frh slots.toNat expect.toNat =
          s.wResume p w a identity.toNat slots.toNat slow frh := by
        rw [hpeer]
        exact (State.wInit_checked rfl rfl hw hold).trans (if_neg fun h => hmore (any_range_four_iff.1 h))
      exact ⟨fun hn => hinit (hcheck.trans (if_pos hn)), fun hn => hinit (hcheck.trans (if_neg (Nat.not_le.2 hn)))⟩
  · intro at_ full
    refine ⟨fun hst => ?_, fun hst => ?_, fun hst => ?_, fun hst htries => ?_, fun hst htries => ?_⟩
    all_goals refine next_of_eq (exec_wioraStateTimeout p s) ((State.wStateTimeout_eq hmay hst rfl).trans ?_)
    · exact if_pos rfl
    · exact (if_neg (by decide)).trans (if_pos rfl)
    · exact (if_neg (by decide)).trans ((if_neg (by decide)).trans (if_pos rfl))
    · exact (if_neg (by decide)).trans ((if_neg (by decide)).trans ((if_neg (by decide)).trans
        ((if_pos rfl).trans (if_pos htries))))
    · exact (if_neg (by decide)).trans ((if_neg (by decide)).trans ((if_neg (by decide)).trans
        ((if_pos rfl).trans (if_neg (Nat.not_lt.2 htries)))))
  · exact ⟨fun h => next_of_eq (exec_wioraLaneLoss p lane s) (State.wRetrain_detect h),
      fun h0 h4 => next_of_eq (exec_wioraLaneLoss p lane s) (State.wRetrain_training h0 h4),
      fun h4 => next_of_eq (exec_wioraLaneLoss p lane s) (State.wRetrain_active h4)⟩

end Sys2Proof.Machine
end

section
/-! SUPPORT. Reception on a Wiora port: what is refused, and what a flit in order does (O58). -/

namespace Sys2Proof.Machine

theorem exec_wioraFlitReceive (p : WPort) (f : WFlit) (fec : WFec) (s : State) :
    exec (.wioraFlitReceive p f fec) s = .next (s.wReceive p f fec) := rfl

theorem exec_wioraReplayTimeout (p : WPort) (s : State) :
    exec (.wioraReplayTimeout p) s = .next (s.wReplayTimeout p) := rfl

section
variable {s : State} {p : Nat} {f : WFlit}

theorem State.wReceive_inactive {fec : WFec} (h : s.wactive p = false) : s.wReceive p f fec = s :=
  if_pos (by simp [h])

theorem State.wReceive_bad (h : s.wactive p = true) :
    s.wReceive p f .bad = (s.count (WLINK_ERR_crc p) 1).wNak p := if_neg (by simp [h])

theorem State.wReceive_ok (h : s.wactive p = true) : s.wReceive p f .ok = s.wGood p f := if_neg (by simp [h])

/-! ### A flit whose FEC and CRC pass (R346 to R351) -/

/-- How far a flit's ack moves the window. -/
def WPortSt.ackBack (q : WPortSt) (f : WFlit) : Nat := subMod 10 (bits f.hdr.toNat 10 10) q.acked

/-- What in a flit is a protocol error. -/
def WPortSt.Faulty (q : WPortSt) (f : WFlit) : Prop :=
  let h := f.hdr.toNat
  bits h 20 2 = 3 ∨ (∃ m ∈ wHeaders f, m.reserved = true)
    ∨ q.countError (bits h 22 2) (bits h 24 12) (bits h 36 12) = true
    ∨ subMod 10 (subMod 10 q.next 1) q.acked < q.ackBack f
    ∨ (bits h 0 10 = q.expect ∧ q.roomError (wHeaders f) = true)

/-- The flit's credits and its ack are taken, and a NAK op replays. -/
def State.wCredited (s : State) (p : Nat) (f : WFlit) : State :=
  let h := f.hdr.toNat
  let back := (s.wport p).ackBack f
  let a := s.modWport p fun q =>
    { q with seen := { h := q.seen.h.set (bits h 22 2) (bits h 24 12), d := bits h 36 12 } }
  let b := if back = 0 then a else a.modWport p fun q =>
    { q with replay := q.replay.drop back, acked := bits h 10 10, ackAt := s.time.elapsed, stalls := 0 }
  if bits h 20 2 = 1 then b.wReplay p else b

theorem WPortSt.faulty_iff {q : WPortSt} :
    (decide (bits f.hdr.toNat 20 2 = 3) || (wHeaders f).any WMsg.reserved
      || q.countError (bits f.hdr.toNat 22 2) (bits f.hdr.toNat 24 12) (bits f.hdr.toNat 36 12)
      || decide (subMod 10 (subMod 10 q.next 1) q.acked < q.ackBack f)
      || (bits f.hdr.toNat 0 10 == q.expect && q.roomError (wHeaders f))) = true ↔ q.Faulty f := by
  simp only [Bool.or_eq_true, Bool.and_eq_true, decide_eq_true_iff, beq_iff_eq, List.any_eq_true, or_assoc]
  rfl

theorem WPortSt.isEmpty_iff {q : WPortSt} : q.isEmpty f = true ↔
    (∀ x ∈ f.payload, x = 0) ∧ (bits f.hdr.toNat 20 2 ≠ 0 ∨ ∀ e ∈ q.rx, e.1 = 0) := by
  simp [WPortSt.isEmpty]

theorem State.wGood_faulty (h : (s.wport p).Faulty f) : s.wGood p f = s.wProto p :=
  if_pos (WPortSt.faulty_iff.2 h)

section
variable (h : ¬ (s.wport p).Faulty f)
include h

/-- A flit in order: after its credits and its ack an op PAUSE retrains, and else it is taken by its number. -/
theorem State.wGood_sound : s.wGood p f =
    if bits f.hdr.toNat 20 2 = 2 then (s.wCredited p f).wRetrain p false
    else (if (s.wport p).isEmpty f then s.wCredited p f
      else if bits f.hdr.toNat 0 10 == (s.wport p).expect then (s.wCredited p f).wTake p f
      else if (s.wport p).nakDue then s.wCredited p f else (s.wCredited p f).wNak p).wPump p :=
  if_neg fun hbad => h (WPortSt.faulty_iff.1 hbad)

theorem State.wGood_pause (hop : bits f.hdr.toNat 20 2 = 2) :
    s.wGood p f = (s.wCredited p f).wRetrain p false := (State.wGood_sound h).trans (if_pos hop)

section
variable (hop : bits f.hdr.toNat 20 2 ≠ 2)
include hop

theorem State.wGood_empty (hempty : (s.wport p).isEmpty f = true) : s.wGood p f = (s.wCredited p f).wPump p := by
  rw [State.wGood_sound h, if_neg hop, if_pos hempty]

section
variable (hfull : ¬ (s.wport p).isEmpty f = true)
include hfull

theorem State.wGood_inTurn (hseq : bits f.hdr.toNat 0 10 = (s.wport p).expect) :
    s.wGood p f = ((s.wCredited p f).wTake p f).wPump p := by
  rw [State.wGood_sound h, if_neg hop, if_neg hfull, if_pos (beq_iff_eq.2 hseq)]

theorem State.wGood_outOfTurn (hseq : bits f.hdr.toNat 0 10 ≠ (s.wport p).expect) : s.wGood p f =
    (if (s.wport p).nakDue then s.wCredited p f else (s.wCredited p f).wNak p).wPump p := by
  rw [State.wGood_sound h, if_neg hop, if_neg hfull, if_neg (mt beq_iff_eq.1 hseq)]

end
end
end

/-! ### The ack has not advanced (R351) -/

theorem State.wReplayTimeout_idle (h : s.wactive p = false ∨ (s.wport p).replay = []) : s.wReplayTimeout p = s :=
  if_neg fun hgo => by rcases h with h | h <;> simp [h] at hgo

/-- The replay 2,560 ticks after the ack last advanced; `n` replays without an ack are counted. -/
def State.wStalled (s : State) (p n : Nat) : State :=
  let t := s.toElapsed ((s.wport p).ackAt + 2560)
  (t.modWport p fun q => { q with ackAt := t.time.elapsed, stalls := n }).wReplay p

theorem State.wReplayTimeout_busy (hactive : s.wactive p = true) (hheld : (s.wport p).replay ≠ []) :
    s.wReplayTimeout p =
      if (s.wport p).stalls + 1 < 8 then
        s.wStalled p (if (s.wport p).stalls + 1 < 8 then (s.wport p).stalls + 1 else 0)
      else (s.wStalled p (if (s.wport p).stalls + 1 < 8 then (s.wport p).stalls + 1 else 0)).wProto p :=
  if_pos ⟨hactive, hheld⟩

end

/-- Settles O58: a flit is refused by one of five faults, and else its branch follows its op and its number. -/
theorem wioraFlitsAreCheckedInOrder : Obligations.WioraFlitsAreCheckedInOrder := by
  intro s p f q h ms back proto
  refine ⟨fun hidle fec => next_of_eq (exec_wioraFlitReceive p f fec s) (State.wReceive_inactive hidle),
    fun hactive => next_of_eq (exec_wioraFlitReceive p f .bad s) (State.wReceive_bad hactive), fun hactive => ?_,
    fun hidle => next_of_eq (exec_wioraReplayTimeout p s) (State.wReplayTimeout_idle hidle),
    fun hactive hheld => ?_⟩
  · intro bad
    have hgood : ∀ {t : State}, s.wGood p f = t → exec (.wioraFlitReceive p f .ok) s = .next t := fun ht =>
      next_of_eq (exec_wioraFlitReceive p f .ok s) ((State.wReceive_ok hactive).trans ht)
    refine ⟨fun hbad => hgood (State.wGood_faulty hbad), fun hbad => ?_⟩
    intro a b c empty
    refine ⟨fun hop => hgood (State.wGood_pause hbad hop), fun hop hempty =>
      hgood (State.wGood_empty hbad hop (WPortSt.isEmpty_iff.2 hempty)), fun hop hfull => ?_⟩
    have hfull' : ¬ (s.wport p).isEmpty f = true := fun he => hfull (WPortSt.isEmpty_iff.1 he)
    exact ⟨fun hseq => hgood (State.wGood_inTurn hbad hop hfull' hseq),
      fun hseq => hgood (State.wGood_outOfTurn hbad hop hfull' hseq)⟩
  · intro t u
    have hbusy := State.wReplayTimeout_busy hactive hheld
    constructor
    · intro hfew
      have hlt : (s.wport p).stalls + 1 < 8 := Nat.succ_lt_succ hfew
      rw [if_pos hlt, if_pos hlt] at hbusy
      exact next_of_eq (exec_wioraReplayTimeout p s) hbusy
    · intro hmany
      have hlt : ¬ (s.wport p).stalls + 1 < 8 := Nat.not_lt.2 (Nat.succ_le_succ hmany)
      rw [if_neg hlt, if_neg hlt] at hbusy
      exact next_of_eq (exec_wioraReplayTimeout p s) hbusy

end Sys2Proof.Machine
end

section
/-! SUPPORT. The cartouche's samples, commands, records and seal (O60). -/

namespace Sys2Proof.Machine

theorem exec_cartSample (x : CartSample) (s : State) : exec (.cartSample x) s = .next (s.cartSample x) := rfl

theorem exec_cartSignDone (s : State) : exec .cartSignDone s = .next (if s.cart.on then s.cartComplete else s) := rfl

theorem exec_cartSupplyLoss (s : State) : exec .cartSupplyLoss s = .next s.cartLoss := rfl

theorem exec_cartSupplyReturn (bad : Bool) (s : State) :
    exec (.cartSupplyReturn bad) s = .next (s.cartReturn bad) := rfl

theorem exec_tamperSwitch (s : State) : exec .tamperSwitch s = .next s.cartTamper := rfl

theorem exec_cartReverify (s : State) : exec .cartReverify s = .next s.cartReverify := rfl

theorem exec_cartReadTimeout (ag : Agent) (wide : Bool) (s : State) :
    exec (.cartReadTimeout ag wide) s = .next (s.cartSilent (agentNo ag) (if wide then 8 else 4)) := rfl

section
variable {s : State}

/-! ### Samples (R421, R429) -/

/-- The rounding of a mean draws a free value at most. -/
theorem State.cart_meanOf (sum n : Nat) : (s.meanOf sum n).2.cart = s.cart := by
  unfold State.meanOf
  split <;> rfl

/-- The means leave the total and the count of samples. -/
theorem State.meters_cartMeans :
    s.cartMeans.cart.acc = s.cart.acc ∧ s.cartMeans.cart.samples = s.cart.samples := by
  simp [State.cartMeans, State.modCart, State.cart_meanOf]

theorem State.cartSample_none {x : CartSample} (h : s.cart.on = false ∨ x.mv.toNat < 40000) : s.cartSample x = s :=
  if_pos (by rcases h with h | h <;> simp [h])

/-- What a sample adds to the meters, before the means are formed. -/
def State.metered (s : State) (x : CartSample) : State :=
  s.modCart fun c => { c with
    acc := c.acc + x.mv.toNat * x.ma.toNat, samples := c.samples + 1
    last := ((x.mv.toNat, x.ma.toNat) :: c.last).take 4096, temp := x.temp.toNat
    outNow := cartOut x.mv.toNat x.ma.toNat x.temp.toInt
    outSamples := c.outSamples + b2n (cartOut x.mv.toNat x.ma.toNat x.temp.toInt), pend := [] }

theorem State.cartSample_taken {x : CartSample} (hon : s.cart.on = true) (hmv : 40000 ≤ x.mv.toNat) :
    s.cartSample x = s.cart.pend.foldl (fun t e => t.cartCmd e.1 e.2.1 e.2.2) (s.metered x).cartMeans :=
  if_neg (by simp [hon, hmv])

/-! ### Commands (R424) -/

section
variable {agent v op n slice : Nat} {out : Bool}

theorem State.cartResult_out : s.cartResult op n slice true = 5 := rfl

theorem State.cartResult_open_eq_zero_iff : s.cartResult 1 n slice false = 0 ↔
    s.cart.slice = 0 ∧ slice ≠ 0 ∧ slice ≠ 0xFFFF ∧ s.fld BOOT_STAT_step = 10 := by
  have hopen : s.cartResult 1 n slice false = if s.cart.slice ≠ 0 then 1 else if slice = 0 ∨ slice = 0xFFFF then 2
      else if s.fld BOOT_STAT_step ≠ 10 then 4 else 0 := if_congr decide_eq_true_iff rfl rfl
  rw [hopen]
  split
  case isTrue h => exact iff_of_false (by decide) fun hzero => h hzero.1
  case isFalse h =>
    split
    case isTrue hs => exact iff_of_false (by decide) (by tauto)
    case isFalse hs =>
      split
      case isTrue hstep => exact iff_of_false (by decide) (by tauto)
      case isFalse hstep => exact iff_of_true rfl (by tauto)

theorem State.cartResult_close_eq_zero_iff : s.cartResult 2 n slice false = 0 ↔ s.cart.slice ≠ 0 := by
  have hclose : s.cartResult 2 n slice false = if s.cart.slice ≠ 0 then 0 else 1 :=
    if_congr decide_eq_true_iff rfl rfl
  rw [hclose]
  split <;> simp_all

theorem State.cartResult_collect_eq_zero_iff :
    s.cartResult 3 n slice false = 0 ↔ 1 ≤ n ∧ n ≤ s.cart.ready.length := by
  have hcollect : s.cartResult 3 n slice false = if 1 ≤ n ∧ n ≤ s.cart.ready.length then 0 else 3 := rfl
  rw [hcollect]
  split <;> simp_all

/-- The interval's end at a command: the module's tick and what is metered and logged so far. -/
def State.cartMark (s : State) : CartMark :=
  { tick := s.time.tick, total := s.cart.total, samples := s.cart.samples, cmd := s.cart.logged, flits := s.fab.others }

/-- The command is logged with its result. -/
def State.cartLogged (s : State) (agent op n slice r : Nat) : State :=
  s.modCart fun c => { c with
    log := (c.log ++ [c.logEntry agent op n slice r s.time.tick]).drop (c.log.length + 1 - 256)
    logged := c.logged + 1, result := r }

/-- A command is logged, and then refused or done by its op. -/
theorem State.cartCmd_eq {r : Nat} {u : State} (hr : s.cartResult (bits v 0 2) (bits v 4 8) (bits v 16 16) out = r)
    (hu : s.cartLogged agent (bits v 0 2) (bits v 4 8) (bits v 16 16) r = u) : s.cartCmd agent v out =
      if r ≠ 0 then u.raiseCart 0xA001 (bits v 0 2 + 16 * r)
      else if bits v 0 2 = 1 then u.cartRecord 2 s.cartMark (bits v 16 16)
      else if bits v 0 2 = 2 then u.cartRecord 1 s.cartMark 0
      else u.modCart fun c => { c with
        recs := markRecs (fun r => r.st == 2 && !r.collected) (bits v 4 8) c.recs
        collected := c.collected + bits v 4 8 } := by
  subst hu hr
  rfl

end

/-! ### Signatures and the supply (R428, R429) -/

/-- The oldest record that awaits its signature is signed with the next index. -/
theorem State.cartComplete_signs {r : CartRec} (hfind : s.cart.recs.find? (fun r => r.st == 1) = some r)
    (hsign : s.cart.unsigned = false) :
    let body := r.body.take 88 ++ [r.body.getD 88 0 ||| 0] ++ (r.body.drop 89).take 23 ++ s.cart.chain r.num
    let r' := { r with body := body, sig := cartKey.sign s.cart.sigNext body, st := 2 }
    s.cartComplete = s.modCart fun c => { c with
      recs := c.recs.map fun e => if e.num = r.num then r' else e, sigNext := c.sigNext + 1 } := by
  have hleft : ¬ 1048576 ≤ s.cart.sigNext := of_decide_eq_false (Bool.or_eq_false_iff.1 hsign).1
  simp [State.cartComplete, hfind, hsign, hleft]

theorem State.cartReturn_on {bad : Bool} (h : s.cart.on = true) : s.cartReturn bad = s := if_pos h

/-- The supply is back and the loss counted. -/
def State.cartBack (s : State) : State :=
  s.modCart fun c => { c with on := true, losses := c.losses + 1, storeBad := c.storeBad || false }

theorem State.cartReturn_off (h : s.cart.on = false) : s.cartReturn false =
    ((if s.cart.slice = 0 then s.cartBack.modCart fun c => { c with lossIn := true }
      else s.cartBack.cartRecord 3 { total := s.cart.total, samples := s.cart.samples, flits := s.fab.others } 0).oweCart
        0xA002 0).cartPair := by
  have hon : ¬ s.cart.on = true := Bool.eq_false_iff.1 h
  exact if_neg hon

theorem State.cartSilent_unreached {a n : Nat} (h : s.reaches a = false) : s.cartSilent a n = s :=
  if_neg (Bool.eq_false_iff.1 h)

theorem State.cartSilent_reached {a n : Nat} (h : s.reaches a = true) : s.cartSilent a n =
    ((s.pass 1280000).raise 0xA030 unitCart 0 0).answer 0 (List.replicate n 0xFF) := if_pos h

end

/-- Settles O60: a sample meters before its commands run, a command's branch follows its result and op, and the rest is
each event's own effect. -/
theorem cartoucheMetersAndRecords : Obligations.CartoucheMetersAndRecords := by
  intro s
  refine ⟨fun x => ⟨fun h => next_of_eq (exec_cartSample x s) (State.cartSample_none h), fun hon hmv => ?_⟩,
    fun agent v out => ?_, exec_cartSignDone s, fun r => State.cartComplete_signs, exec_cartSupplyLoss s,
    fun bad hon => next_of_eq (exec_cartSupplyReturn bad s) (State.cartReturn_on hon), fun hoff => ?_,
    exec_tamperSwitch s, exec_cartReverify s, fun ag wide => ?_⟩
  · obtain ⟨hacc, hsamples⟩ := State.meters_cartMeans (s := s.metered x)
    exact ⟨hacc, hsamples, next_of_eq (exec_cartSample x s) (State.cartSample_taken hon hmv)⟩
  · intro op n slice r c fin u
    have hcmd := State.cartCmd_eq (s := s) (agent := agent) (v := v) (out := out) (r := r) (u := u) rfl rfl
    refine ⟨fun hout => ?_, fun hout hop => ?_, fun hout hop => ?_, fun hout hop => ?_, fun hr => ?_, fun hr hop => ?_,
      fun hr hop => ?_, fun hr hop => ?_⟩
    · show s.cartResult op n slice out = 5
      rw [hout, State.cartResult_out]
    · show s.cartResult op n slice out = 0 ↔ _
      rw [hout, hop, State.cartResult_open_eq_zero_iff]
    · show s.cartResult op n slice out = 0 ↔ _
      rw [hout, hop, State.cartResult_close_eq_zero_iff]
    · show s.cartResult op n slice out = 0 ↔ _
      rw [hout, hop, State.cartResult_collect_eq_zero_iff]
    · exact hcmd.trans (if_pos hr)
    · exact hcmd.trans ((if_neg (not_not_intro hr)).trans (if_pos hop))
    · have hopen : bits v 0 2 ≠ 1 := fun h => absurd (hop.symm.trans h) (by decide)
      exact hcmd.trans ((if_neg (not_not_intro hr)).trans ((if_neg hopen).trans (if_pos hop)))
    · have hopen : bits v 0 2 ≠ 1 := fun h => absurd (hop.symm.trans h) (by decide)
      have hclose : bits v 0 2 ≠ 2 := fun h => absurd (hop.symm.trans h) (by decide)
      exact hcmd.trans ((if_neg (not_not_intro hr)).trans ((if_neg hopen).trans (if_neg hclose)))
  · have hret := State.cartReturn_off hoff
    exact ⟨fun h => next_of_eq (exec_cartSupplyReturn false s)
        (hret.trans (congrArg (fun t : State => (t.oweCart 0xA002 0).cartPair) (if_pos h))),
      fun h => next_of_eq (exec_cartSupplyReturn false s)
        (hret.trans (congrArg (fun t : State => (t.oweCart 0xA002 0).cartPair) (if_neg h)))⟩
  · exact ⟨fun h => next_of_eq (exec_cartReadTimeout ag wide s) (State.cartSilent_unreached h),
      fun h => next_of_eq (exec_cartReadTimeout ag wide s) (State.cartSilent_reached h)⟩

end Sys2Proof.Machine
end
